-- ==== Sys2Proof/Word.lean ====
section
/-! DEFINITION. The word types of the RSK1640 and the index types its parts are named by (R6, R14, R35, R40). -/

namespace Sys2Proof

/-- A byte on the wire, in mailbox memory or in a payload. -/
abbrev Byte := BitVec 8
/-- The native word of the device: every window register, calibration register and sheet number (R9, R310). -/
abbrev R40 := BitVec 40
/-- A stamp: 80 bits of spine time, seconds in [79:40], fraction in [39:0] (R9). -/
abbrev Stamp := BitVec 80
/-- An EUI-48 address. -/
abbrev Mac := BitVec 48
/-- Path 0 to 3 (R14). -/
abbrev PathId := Fin 4
/-- Lane number 4p + l (R14). -/
abbrev LaneId := Fin 16
/-- Lane side, 2 × lane + side, even near and odd far (R340). -/
abbrev SideId := Fin 32
/-- One of the four Dovetail sessions (R210). -/
abbrev SessionId := Fin 4
/-- Island number of R35. -/
abbrev IslandId := Fin 64

end Sys2Proof
end

