-- ==== Sys2Proof/Syntax.lean ====
section
/-! DEFINITION. The commands and events of the RSK1640: one constructor of `Instr` for each row of the opcode table.
The table gives its rows no operands; the operands here are what the chapter of each row makes the step depend on:
payloads, frames and register values from outside, levels seen on wires, and measured analogue quantities. -/

namespace Sys2Proof

/-- Who issued a Gulcy command: the two-wire side through the ring, or a session through a CTL record (R325). -/
inductive Issuer where
  | twoWire
  | session (s : SessionId)
  deriving DecidableEq, Repr

/-- A command as Gulcy takes it: its issuer and the TAG, LEN and PAYLOAD of its entry (R317, Table 13.5). -/
structure Req where
  issuer  : Issuer
  tag     : BitVec 16
  len     : Byte
  payload : List Byte
  deriving DecidableEq, Repr

/-- The three rings whose tails the host writes (R316). -/
inductive RingSel where
  | reply | event | trace
  deriving DecidableEq, Repr

/-- The near or the far end of a lane, and the two directions of its data (R14, R86). -/
inductive Dir where
  | down | up
  deriving DecidableEq, Repr

/-- What the PTP clock reads from one IEEE 1588 message that reached the port (R164). -/
inductive PtpKind where
  | announce | syncOneStep | syncTwoStep | followUp | delayResp | other
  deriving DecidableEq, Repr

/-- One IEEE 1588 message: its transport, its header fields, its timestamps, and for an Announce the data set that
the best master clock algorithm compares (R164, Table 7.3). -/
structure PtpMsg where
  udp         : Bool
  tagged      : Bool
  kind        : PtpKind
  domain      : Byte
  clock       : BitVec 64
  seqId       : BitVec 16
  logInterval : Int
  rxStamp     : Stamp
  origin      : Stamp
  prio1       : Byte
  clockClass  : Byte
  accuracy    : Byte
  variance    : BitVec 16
  prio2       : Byte
  grandmaster : BitVec 64
  steps       : BitVec 16
  ptpScale    : Bool
  utcOffset   : BitVec 16
  utcValid    : Bool
  leap61      : Bool
  leap59      : Bool
  deriving DecidableEq, Repr

/-- Counts a CAL or SWEEP line collected on one side: UI compared, and the disagreements of the first and of the second
deckle sampler (R82, R186). -/
structure SideCount where
  side     : SideId
  compared : Nat
  errors   : Nat
  errors1  : Nat
  deriving DecidableEq, Repr

/-- Replica readings of one side's receiver at the start of a TRIM line: targets for CTLE pole, termination and bias (R190). -/
structure Replica where
  side : SideId
  pole : Int
  term : Int
  bias : Int
  deriving DecidableEq, Repr

/-- The impedance replica of one side's transmitter at the start of a TRIM line: its target (R190). -/
structure TxReplica where
  side : SideId
  txz  : Int
  deriving DecidableEq, Repr

/-- A correction's code wanted by a measurement: the ID of Table 8.1, the tap or sampler within it, the code. -/
structure Target where
  corr : Nat
  sub  : Nat
  code : Int
  deriving DecidableEq, Repr

/-- What one closed measurement of a side showed: the sum of its squared errors in mV², transitions per 1000 UI, and the targets its
LMS gradient, amplitude and sampler decisions give (R188, R190). -/
structure Measured where
  sumSq       : Nat
  transitions : Nat
  targets     : List Target
  deriving DecidableEq, Repr

/-- Latency of one direction as its phase detectors measured it in a PIN_MEAS line, in 0.25 ps units, with the number
of interpolator steps the rest of the line allowed and the size of one step in 1/1024 of a 0.25 ps unit (R177). -/
structure PinMeasure where
  side     : SideId
  lat      : BitVec 22
  steps    : Nat
  stepSize : Nat
  deriving DecidableEq, Repr

/-- A character in UART-style framing as the receiver samples it (R266): its data bits, least significant first on the line, the bit where
parity stands, and its stop bits, mark true. -/
structure ScanChar where
  data   : BitVec 9
  parity : Bool
  stop1  : Bool
  stop2  : Bool
  deriving DecidableEq, Repr

/-- What a scan line has received up to the end of a frame (R266 to R271, R286): the characters in UART-style framing, or in HDLC-style
framing the bits after the opening flag up to the closing one or the abort; the half characters of idle before it, and the level over
that gap where V_IDLE is measured; whether it is what came first after a POLL's request; whether the end of the line's activity cut it;
the means of V_MARK and V_SPACE in mV. -/
structure ScanFrame where
  chars  : List ScanChar
  bits   : List Bool
  idle   : Nat
  vIdle  : Option Int
  first  : Bool
  cut    : Bool
  vMark  : Int
  vSpace : Int
  deriving DecidableEq, Repr

/-- The transmitter fields of a training set in Recovery.Equalization (R106, R112): a request for a preset or for coefficients, or a
response with FS, LF, the coefficients in use and the reject indication. -/
inductive EqFields where
  | preset (k : Byte)
  | coefficients (cm1 c0 cp1 : Byte)
  | response (fs lf cm1 c0 cp1 : Byte) (reject : Bool)
  deriving DecidableEq, Repr

/-- An address byte on the two-wire bus, and the bytes that the read segment it ends had delivered (R291, R293). -/
structure Addressing where
  addr  : Byte
  nread : Nat
  deriving DecidableEq, Repr

/-- The end of a bus grant: the VBREQ_N lines seen low then, and whether VALE is seen high, the master in a cycle it still finishes
(R257). -/
structure GrantOver where
  requests : BitVec 4
  vale     : Bool
  deriving DecidableEq, Repr

/-- A POLL or SEND line by its place in table 6, and the level of the last gap in it that no frame of it follows, where there is one
(R286). -/
structure ScanOpening where
  idx   : Nat
  vIdle : Option Int
  deriving DecidableEq, Repr

/-- A scan line whose POLL got no answer, and the level of the gap since the request, where it is one (R274, R286). -/
structure NoAnswer where
  line  : Fin 4
  vIdle : Option Int
  deriving DecidableEq, Repr

/-- A PCI Express training set as decoded on a side (R106, R116). -/
structure TrainingSet where
  isTs2      : Bool
  state      : Fin 13
  rates      : BitVec 5
  present1   : Bool
  present2   : Bool
  inverted   : Bool
  laneNumber : Byte
  width      : Fin 6
  rate25     : Bool
  deemph6    : Bool
  eq         : Option EqFields
  deriving DecidableEq, Repr

/-- Kinds of margin command that reach the device (R118), and the reports of Table 5.6 by row (R117). -/
inductive MarginCmd where
  | timing (steps : Int)
  | voltage (steps : Int)
  | goNormal
  | clearErrors
  | report (item : Fin 9)
  deriving DecidableEq, Repr

/-- A Clause 72 coefficient update request (Table 6.2). -/
inductive KrRequest where
  | preDec | preInc | postDec | postInc | mainDec | mainInc | preset | init
  deriving DecidableEq, Repr

/-- What a partner's status report says: receiver ready, and its transmitter's setting (R141, R142). -/
structure KrStatus where
  partnerRdy : Bool
  pre        : Byte
  main       : Byte
  post       : Byte
  deriving DecidableEq, Repr

/-- Level of a tri-level strap (R470). -/
inductive TriLevel where
  | low | float | high
  deriving DecidableEq, Repr

/-- The straps as the board presents them at sampling (R425). -/
structure Straps where
  maddr1   : TriLevel
  maddr0   : TriLevel
  pathBoot : BitVec 4
  svcMode  : BitVec 2
  deriving DecidableEq, Repr

/-- What the service port's bring-up reports (R204, R205): no link; Clause 73 resolved with a partner, to a technology coded as AN_TECH and with
FEC insisted on or not; or an SGMII PHY's control word with its speed, 0 for 10, 1 for 100, 2 for 1000 Mb/s. -/
inductive PortLink where
  | down
  | resolved (tech : Fin 7) (fec : Bool)
  | phy (speed : Fin 3)
  deriving DecidableEq, Repr

/-- What initial calibration settled on for a side: trims and sampler offsets, and the time taken in µs (R198). -/
structure InitialCal where
  pole   : BitVec 5
  term   : BitVec 5
  bias   : BitVec 4
  txz    : BitVec 5
  soff   : R40
  micros : BitVec 16
  deriving DecidableEq, Repr

/-- The commands and events, in the order of the opcode table. -/
inductive Instr where
  -- Gulcy commands
  | claim (r : Req)
  | cancel (r : Req)
  | identGet (r : Req)
  | evtMaskSet (r : Req)
  | corePllSelect (r : Req) (locks : Bool)
  | pathSet (r : Req)
  | pathGet (r : Req)
  | pinSet (r : Req)
  | protoSet (r : Req)
  | laneGet (r : Req)
  | txeqSet (r : Req)
  | polaritySet (r : Req)
  | countersGet (r : Req)
  | calGet (r : Req)
  | calSeed (r : Req)
  | calSet (r : Req)
  | calCfgSet (r : Req)
  | auxCalGet (r : Req)
  | auxCalSet (r : Req)
  | sweepPlan (r : Req)
  | sweepPoints (r : Req)
  | sweepArm (r : Req)
  | sweepAbort (r : Req)
  | sweepResult (r : Req)
  | timeGet (r : Req)
  | timeCfgSet (r : Req)
  | timeSet (r : Req)
  | delaySet (r : Req)
  | ptpIpSet (r : Req)
  | pullSet (r : Req)
  | mouldLoad (r : Req)
  | mouldStore (r : Req)
  | mouldActivate (r : Req)
  | mouldStatus (r : Req)
  | sessionBind (r : Req)
  | sessionUnbind (r : Req)
  | sessionCredits (r : Req)
  | sessionPolicy (r : Req)
  | sessionGet (r : Req)
  | svcSet (r : Req)
  | bridgeCountersGet (r : Req)
  | venSet (r : Req)
  | vwinSet (r : Req)
  | vmstSet (r : Req)
  | virqSet (r : Req)
  | vupSet (r : Req)
  | venGet (r : Req)
  | shadowWrite (r : Req)
  | scanSet (r : Req)
  | templateSet (r : Req)
  | signalSet (r : Req)
  | bundleSet (r : Req)
  | bundleMembers (r : Req)
  | signalWrite (r : Req)
  | signalRead (r : Req)
  | scanGet (r : Req)
  | timersSet (r : Req)
  | pathWake (r : Req)
  | powerGet (r : Req)
  | chargerSet (r : Req)
  | configSave (r : Req)
  | storeGet (r : Req)
  | fwBegin (r : Req)
  | fwData (r : Req)
  | fwCommit (r : Req)
  | logRead (r : Req)
  | deviceReset (r : Req)
  | testEnable (r : Req)
  | loopSet (r : Req)
  | patternUser (r : Req)
  | checkerGet (r : Req)
  | telemGet (r : Req)
  -- writes through the window and the two-wire target
  | windowRegisterWrite (k : Fin 32) (bytes : List Byte)
  | cmdHeadDoorbell (v : R40)
  | ringTailWrite (ring : RingSel) (v : R40)
  | attnCauseClear (v : R40)
  | ownYieldWrite (v : R40)
  | wdogWrite (v : R40)
  | emergLockBreak (v : R40)
  | emergReleaseIo (v : R40)
  | emergReclaim (v : R40)
  | emergCpuReset (v : R40)
  | windowPointerSet (b : Byte)
  | mailboxPointerSet (bytes : List Byte)
  | mailboxByteWrite (b : Byte)
  | quickCommand (a : Addressing)
  | twoWireStart (a : Addressing) (mid : Bool)
  | twoWireStop (nread : Nat)
  | addressMatchWake (a : Addressing)
  | sclReleaseAfterWake
  | sclStuck
  | sdaStuck
  | attentionPulse
  | attentionPulseRepeat
  | attentionPulseAbort
  -- the service port and time
  | frameReceived (fcsGood : Bool) (bytes : List Byte)
  | ptpMessageReceived (m : PtpMsg)
  | delayReqDue
  | sourceLost (announce : Bool)
  | ppsInEdge (stamp : Stamp)
  | chainMarkReceived (stamp : Stamp) (code : BitVec 80)
  | chainLost
  | sheetBoundary
  | patienceExpired
  -- lines
  | lineEnd (table : Fin 9) (idx : Nat) (unfinished : Bool)
  | workLine (idx : Nat) (pllLocks : Bool)
  | trimLine (idx : Nat) (replicas : List Replica) (txReplicas : List TxReplica)
  | telemLine (idx : Nat) (samples : List (BitVec 16))
  | storeLine (idx : Nat)
  | restLine (idx : Nat) (holdoverCount : BitVec 64)
  | restCommit (saveMicros : BitVec 16)
  | servoLine (idx : Nat)
  | ppsLine (idx : Nat)
  | chainLine (idx : Nat) (reflection : Option (BitVec 22))
  | txLine (idx : Nat)
  | cycleLine (idx : Nat)
  | targetAnswer (rdy flt : Bool) (addressPhase : Bool) (data : BitVec 32) (earlyDiff lateDiff : BitVec 4)
  | targetRelease (sinceStart : Nat)
  | releaseTimeout
  | readyWhileIdle (rdy flt : Bool)
  | leaseExpired
  | grantLine (idx : Nat) (requests : BitVec 4)
  | grantEnd (g : GrantOver)
  | oldMasterCycle (write : Bool) (addr : BitVec 32) (strobes : BitVec 4) (data : BitVec 32)
  | activityWithoutGrant (signals : BitVec 13)
  | virqChange (line : Fin 8) (asserted : Bool) (stamp : Stamp)
  | vcalLine (idx : Nat)
  | vrstLine (idx : Nat)
  | pollLine (o : ScanOpening)
  | pollLineBusy (o : ScanOpening)
  | pollUnanswered (n : NoAnswer)
  | listenLine (idx : Nat) (vIdle : Option Int)
  | sendLine (o : ScanOpening)
  | scanCollision (line : Fin 4)
  | scanFrameEnd (line : Fin 4) (f : ScanFrame)
  | scalLine (idx : Nat) (vIdle : Option Int) (lineIdle : Bool)
  | scanCfgApply (line : Fin 4)
  | calLine (p : PathId) (idx : Nat) (counts : List SideCount)
  | kerfLine (p : PathId) (idx : Nat)
  | sweepLine (p : PathId) (idx : Nat) (counts : List SideCount)
  | pinMeasLine (p : PathId) (idx : Nat) (meas : List PinMeasure)
  | patternLine (p : PathId) (idx : Nat)
  | loopLine (p : PathId) (idx : Nat)
  | dormantEnterLine (p : PathId) (idx : Nat)
  | dormantExitLine (p : PathId) (idx : Nat)
  -- the Calender
  | measurementClose (side : SideId) (m : Measured)
  | kerfCommit (side : SideId)
  | noKerfTimeout (side : SideId)
  | initialCalibrationDone (side : SideId) (c : InitialCal)
  -- lanes and islands
  | receiverEiExit (side : SideId)
  | receiverEiEntry (side : SideId)
  | laneLockLost (side : SideId)
  | bufferSlip (lane : LaneId) (dir : Dir)
  | skpAdjustment (side : SideId) (ui : Int) (skewOver : Bool)
  | islandClockAbsent (i : IslandId)
  | islandClockReturned (i : IslandId)
  | corePllLoss
  -- PCI Express
  | receiverDetect (p : PathId) (found : BitVec 4)
  | trainingSetReceived (side : SideId) (ts : TrainingSet)
  | rateChange (p : PathId) (rate : Fin 5) (presets : List (SideId × Byte))
  | eqPhaseEntry (p : PathId) (phase : Bool) (presets : List Byte)
  | eqPartnerEcho (side : SideId) (echo : EqFields)
  | eqEchoTimeout (side : SideId)
  | eqPhaseComplete (p : PathId)
  | coefficientRequest (side : SideId) (cm1 c0 cp1 : Byte)
  | perstAsserted (p : PathId)
  | perstNegated (p : PathId)
  | l1SubstateEntry (p : PathId)
  | l1SubstateExit (p : PathId)
  | refclkLost (p : PathId)
  | marginCommand (p : PathId) (lane : Fin 4) (receiver : Fin 8) (cmd : MarginCmd)
  | l0sEntry (p : PathId) (dir : Dir)
  | complianceEntry (p : PathId) (rate : Fin 5) (preset : Byte)
  -- backplane, transparent, checkers, port, sweep
  | anComplete (lane : LaneId) (tech : Fin 7) (fec : Fin 3)
  | krCoeffUpdate (side : SideId) (req : KrRequest) (inverted : Bool)
  | krStatusUpdate (side : SideId) (st : KrStatus)
  | krUpdateTimeout (side : SideId)
  | krRequestsFinished (side : SideId)
  | krReceiverReady (lane : LaneId)
  | krRestart (side : SideId) (dme : Bool)
  | transparentAcquire (side : SideId)
  | checkerLock (side : SideId)
  | checkerLockLost (side : SideId)
  | svcLinkChange (link : PortLink)
  | sweepPointStart
  -- power, supply, start
  | restPendSet
  | wakeSourceDetected (sources : BitVec 8)
  | spineTimeReload (counter : BitVec 64)
  | brownout (minMv : BitVec 16) (micros : BitVec 16)
  | undervoltageLockout (vinMv : BitVec 16) (saveDone : Bool) (counter : BitVec 64)
  | aoSwitchover (toVbak : Bool)
  | resetNAsserted (saveDone : Bool) (counter : BitVec 64)
  | thermalShutdown (halfDegrees : Int) (counter : BitVec 64)
  | thermalWarning (halfDegrees : Int) (sensor : Fin 5)
  | thermalWarningCleared (halfDegrees : Int)
  | resetRelease (straps : Straps)
  | bankStarted
  | bankStartFailed (reason : Byte)
  | watchdogExpired
  | gulcyRestarted
  | deviceResetEffect (counter : BitVec 64)
  | cellCheck (vbakMv : BitVec 16)
  -- boundary scan
  | tapBypass
  | tapIdcode
  | tapSamplePreload
  | tapExtest
  | tapClamp
  | tapHighz
  | tapExtestPulse
  | tapExtestTrain
  -- rows the table adds at its end
  | dormantSquelchActivity (p : PathId)
  | oldMasterStrobeRelease
  | veneerBusIdle
  | vbakFloatCrossing (vbakMv : BitVec 16)
  | vaoLost
  | anPagesReceived (side : SideId)
  deriving DecidableEq, Repr

end Sys2Proof
end

