-- ==== Sys2Proof/Config.lean ====
section
/-! DEFINITION. The values the manual leaves open. Nothing in Lean can evaluate them or prove a value of them. -/

namespace Sys2Proof.Config

/-- A natural-number value the manual leaves open, read at the n-th use of the free-value counter `State.free`. -/
opaque freeNat : Nat → Nat
/-- A signed value the manual leaves open, read in the same way. -/
opaque freeInt : Nat → Int

end Sys2Proof.Config
end

