-- ==== Sys2Proof/Machine/State.lean ====
section
/-! DEFINITION. The state of the RSK1640 as plain data, field by field with the rule that names it and its reset value,
and the machine right after reset. A field's default is its reset value: `State.reset` is the structure of defaults. -/

namespace Sys2Proof.Machine

/-- A memory: address and byte, addresses strictly rising, no byte 0 listed (what an unlisted address reads as). -/
abbrev Mem := List Host.Cell

/-! ### Window, rings, events -/

/-- One event entry, Table 13.7; COUNT is what the entry stands for (R321, R441). -/
structure EventEntry where
  code  : BitVec 16
  seq   : BitVec 16
  count : BitVec 16
  data  : List Byte
  stamp : Stamp
  deriving DecidableEq, Repr

/-- A coalesced event not yet written: code, subject, first occurrence's data and stamp, count so far (R441). -/
structure Coalesced where
  code  : BitVec 16
  key   : List Byte
  data  : List Byte
  stamp : Stamp
  count : BitVec 16
  deriving DecidableEq, Repr

/-- A command that has arrived and is not taken. `body` is none for a ring entry, which is read from mailbox memory
when it is taken (R318, R327). -/
structure Arrival where
  issuer   : Issuer
  body     : Option (BitVec 16 × Req)
  /-- TAG of the CTL record that carried it, echoed in the reply record (R219) -/
  rtag     : BitVec 16
  lat      : Byte
  /-- a CANCEL has been applied to it, or it is a CANCEL applied ahead of its turn: its reply is written (R327, R328) -/
  answered : Bool
  disowned : Bool
  deriving DecidableEq, Repr

/-- A command taken and unreplied, which hardware remembers across a service-processor reset (R331). -/
structure Taken where
  opcode : BitVec 16
  req    : Req
  rtag   : BitVec 16
  lat    : Byte
  deriving DecidableEq, Repr

/-- A reply decided and not yet written for want of a slot or a CPL entry: of a CANCEL or of its target (R319, R328). -/
structure Owed where
  issuer  : Issuer
  opcode  : BitVec 16
  tag     : BitVec 16
  rtag    : BitVec 16
  lat     : Byte
  status  : Nat
  payload : List Byte
  deriving DecidableEq, Repr

/-- The registers of the window that hold state of their own, Tables 13.2 and 13.3. -/
structure Window where
  /-- ID (R311 Table 13.2), 40 bits; reset 0x16_4030_0000; Rest kept -/
  id        : R40 := 0x1640300000
  /-- STATUS.DEV_STATE (R311, R312, R403), 2 bits; reset 1; Rest set 3 -/
  devState  : BitVec 2 := 1
  /-- STATUS.GULCY_UP (R311, R312), 1 bit; reset 0; Rest set 0 -/
  gulcyUp   : Bool := false
  /-- STATUS.CORE_CLK, 1 CORE PLL (R311, R48), 1 bit; reset 0; Rest set 0 -/
  coreClk   : Bool := false
  /-- STATUS.SHEETS (R311), 1 bit; reset 0; Rest set 0 -/
  sheets    : Bool := false
  /-- STATUS.REST_PEND (R311, R407), 1 bit; reset 0; Rest reset -/
  restPend  : Bool := false
  /-- ATTN_CAUSE.WDOG (R311, R329), latched, 1 bit; reset 0; Rest kept -/
  cWdog     : Bool := false
  /-- ATTN_CAUSE.LOST (R311, R321), latched, 1 bit; reset 0; Rest kept -/
  cLost     : Bool := false
  /-- ATTN_CAUSE.OWN (R311, R326), latched, 1 bit; reset 0; Rest kept -/
  cOwn      : Bool := false
  /-- ATTN_CAUSE.GULCY (R311, R331), latched, 1 bit; reset 0; Rest kept -/
  cGulcy    : Bool := false
  /-- ATTN_CAUSE.BADIDX (R311, R316), latched, 1 bit; reset 0; Rest kept -/
  cBadidx   : Bool := false
  /-- ATTN_MASK (R311), 40 bits, enables in [39:30]; reset 0xDF_8000_0000; Rest kept -/
  attnMask  : R40 := 0xDF80000000
  /-- CMD_IDX.CMD_HEAD (R311, R315), 16 bits; reset 0; Rest kept -/
  cmdHead   : BitVec 16 := 0
  /-- CMD_IDX.CMD_TAIL (R311, R319), 16 bits; reset 0; Rest kept -/
  cmdTail   : BitVec 16 := 0
  /-- RPL_IDX.RPL_HEAD (R311, R320), 16 bits; reset 0; Rest kept -/
  rplHead   : BitVec 16 := 0
  /-- RPL_IDX.RPL_TAIL (R311, R316), 16 bits; reset 0; Rest kept -/
  rplTail   : BitVec 16 := 0
  /-- EVT_IDX.EVT_HEAD (R311, R321), 16 bits; reset 0; Rest kept -/
  evtHead   : BitVec 16 := 0
  /-- EVT_IDX.EVT_TAIL (R311, R316), 16 bits; reset 0; Rest kept -/
  evtTail   : BitVec 16 := 0
  /-- TRC_IDX.TRC_HEAD (R311, R322), 16 bits; reset 0; Rest kept -/
  trcHead   : BitVec 16 := 0
  /-- TRC_IDX.TRC_TAIL (R311, R316), 16 bits; reset 0; Rest kept -/
  trcTail   : BitVec 16 := 0
  /-- RING_CNT.EVT_LOST, saturating (R311, R321), 16 bits; reset 0; Rest kept -/
  evtLost   : BitVec 16 := 0
  /-- RING_CNT.TRC_LOST, saturating (R311, R322), 16 bits; reset 0; Rest kept -/
  trcLost   : BitVec 16 := 0
  /-- RING_CNT.NOT_OWN, saturating (R311, R324), 8 bits; reset 0; Rest kept -/
  notOwn    : Byte := 0
  /-- OWN.OWNER (R311, R325), 3 bits; reset 0; Rest kept -/
  owner     : BitVec 3 := 0
  /-- OWN.YIELD (R311, R324), 1 bit; reset 1; Rest kept -/
  yielding  : Bool := true
  /-- OWN.EPOCH (R311), 6 bits; reset 0; Rest kept -/
  ownEpoch  : BitVec 6 := 0
  /-- WDOG.TIMEOUT in ms (R311, R329), 16 bits; reset 500; Rest kept -/
  wdTimeout : BitVec 16 := 500
  /-- WDOG.ARM_RESET (R311, R329), 1 bit; reset 0; Rest kept -/
  wdArm     : Bool := false
  /-- WDOG.RESETS, saturating (R311, R331), 8 bits; reset 0; Rest kept -/
  wdResets  : Byte := 0
  /-- The watchdog's count in ns since it was last restarted (R329), a number; reset 0 -/
  wdCount   : Nat := 0
  /-- BOOT.BANK, 1 bank B (R311, R427), 1 bit; reset as booted (0 until then, DESIGN CHOICE, entry 2); Rest kept -/
  bootBank  : Bool := false
  /-- BOOT.FALLBACK (R311, R427), 1 bit; reset as booted (0 until then, DESIGN CHOICE, entry 2); Rest kept -/
  fallback  : Bool := false
  /-- BOOT.RESET_KIND (R311, R420), 3 bits; reset as booted (0, power-up); Rest kept -/
  resetKind : BitVec 3 := 0
  /-- BOOT.AO_INVALID (R311, R423), 1 bit; reset as booted (1 at a power-up start); Rest kept -/
  aoInvalid : Bool := true
  /-- BOOT.PATH_BOOT as sampled (R311, R425), 4 bits; reset as sampled (0 until then, DESIGN CHOICE, entry 2); Rest kept -/
  pathBoot  : BitVec 4 := 0
  /-- BOOT.SVC_MODE as sampled (R311, R425), 2 bits; reset as sampled (0 until then, DESIGN CHOICE, entry 2); Rest kept -/
  svcBoot   : BitVec 2 := 0
  /-- HEALTH.TJ, signed 0.5 °C (R311, R313), 10 bits; reset 0; Rest reset -/
  tj        : BitVec 10 := 0
  /-- HEALTH.VIN in mV (R311, R313), 16 bits; reset 0; Rest reset -/
  vin       : BitVec 16 := 0
  /-- TRC_CFG (R311), 40 bits; reset 0; Rest kept -/
  trcCfg    : R40 := 0
  /-- SCRATCH (R311), 40 bits; reset 0; Rest kept -/
  scratch   : R40 := 0
  /-- MGT_CFG (R308 Table 12.4), 40 bits; reset 0x20_0000_0000; Rest kept -/
  mgtCfg    : R40 := 0x2000000000
  /-- MGT_STATUS.MADDR_N (R290, R308), 4 bits; reset the strapped n (0 until straps are sampled, DESIGN CHOICE, entry 2); Rest kept -/
  maddrN    : BitVec 4 := 0
  /-- MGT_STATUS.SCL_STUCK (R308, R302), 1 bit; reset 0; Rest kept -/
  sclStuck  : Bool := false
  /-- MGT_STATUS.SDA_STUCK (R308, R302), 1 bit; reset 0; Rest kept -/
  sdaStuck  : Bool := false
  /-- MGT_STATUS.PEC_ERR (R308, R304), 1 bit; reset 0; Rest kept -/
  pecErr    : Bool := false
  /-- MGT_STATUS.PARTIAL (R308, R294), 1 bit; reset 0; Rest kept -/
  partialWr : Bool := false
  /-- MGT_STATUS.NACKED (R308, R293), 1 bit; reset 0; Rest kept -/
  nacked    : Bool := false
  /-- MGT_STATUS.WOKE (R308, R301), 1 bit; reset 0; Rest set by the cause of the exit -/
  woke      : Bool := false
  deriving DecidableEq, Repr

/-- What the target does with the next byte of the transaction in progress (R291 to R297, R304). -/
inductive TwPhase where
  | idle | winPtr | winData | mbxPtr | mbxData | reading | nacking | ignoring
  deriving DecidableEq, Repr

/-- The two-wire target between bytes. -/
structure TwoWire where
  /-- The window pointer (R291, R293), 0 to 159; reset 0; Rest kept -/
  winPtr   : Nat := 0
  /-- The mailbox pointer (R291, R296), 15 bits; reset 0; Rest kept -/
  mbxPtr   : BitVec 15 := 0
  /-- What the next byte of the transaction means (R291); reset no transaction -/
  phase    : TwPhase := .idle
  /-- The address byte of the segment in progress (R291), 8 bits; reset 0 -/
  addr     : Byte := 0
  /-- Whether the transaction carries a PEC, taken at its START (R303), 1 bit; reset 0 -/
  pec      : Bool := false
  /-- Bytes staged in a transaction with PEC, oldest first, at most 162 (R304); reset none -/
  staged   : List Byte := []
  /-- The in-band pulse is owed (R305), 1 bit; reset 0 -/
  owed     : Bool := false
  /-- A pulse is being driven (R305, R306), 1 bit; reset 0 -/
  pulsing  : Bool := false
  /-- A pulse has been sent, ATTN has stayed set since, and no transaction at the window address has completed (R305), 1 bit; reset 0 -/
  pulseSent : Bool := false
  /-- SCL is held low for a wake, the address byte matched (R301); reset none -/
  stretch  : Option Byte := none
  /-- SCL is still low beyond 25 ms (R302), 1 bit; reset 0 -/
  sclLow   : Bool := false
  /-- SDA is still low beyond 25 ms (R302), 1 bit; reset 0 -/
  sdaLow   : Bool := false
  /-- A stuck line ended a read segment whose bytes the pointer has yet to move past (R293, R302), 1 bit, the model's own (entry 147); reset 0 -/
  cutRead  : Bool := false
  deriving DecidableEq, Repr

/-- Mailbox memory, the rings' work queues and the event machinery. -/
structure Mailbox where
  /-- Mailbox memory (R314 Table 13.4), 32 768 bytes; reset undefined until written, each byte reading 0 (DESIGN CHOICE, entry 3); Rest lost -/
  mem      : Mem := []
  /-- Commands arrived and not taken, in arrival order (R318, R327); reset none -/
  arrived  : List Arrival := []
  /-- Commands taken and unreplied, in order of arrival (R319, R331); reset none -/
  taken    : List Taken := []
  /-- Replies decided and waiting for room, in order (R319, R328); reset none -/
  owed     : List Owed := []
  /-- Event sequence number of the next entry (R321), 16 bits; reset 0 (DESIGN CHOICE, entry 2); Rest kept (AO) -/
  evtSeq   : BitVec 16 := 0
  /-- Trace sequence number of the next entry (R322), 16 bits; reset 0 (DESIGN CHOICE, entry 2); Rest kept -/
  trcSeq   : BitVec 16 := 0
  /-- Events held in the AO domain, oldest first, at most 16 (R321); reset none; kept with valid AO memory (R424) -/
  hold     : List EventEntry := []
  /-- Coalesced events not yet written (R441); reset none -/
  coal     : List Coalesced := []
  deriving DecidableEq, Repr

/-! ### Lane sides, lanes and paths -/

/-- One edge tracker (R187): position, whether it still moves by 4, direction changes seen, last direction. -/
structure Tracker where
  pos     : Int
  coarse  : Bool := true
  revs    : Nat := 0
  lastOut : Option Bool := none
  deriving DecidableEq, Repr

/-- A target a correction moves toward (R190), or a ramp of a host write or a seed (R196). -/
structure CalTarget where
  corr : Nat
  sub  : Nat
  code : Int
  ramp : Bool
  deriving DecidableEq, Repr

/-- The answer to a margin command: taken, with the disagreements counted under it (R118), a step beyond the capabilities, set-up in
progress (R119), or a capability by row of Table 5.6 (R117). -/
inductive MarginAns where
  | taken (errors : Nat)
  | beyond
  | setUp
  | capability (item : Fin 9) (value : Nat)
  deriving DecidableEq, Repr

/-- One lane side: its receiver, the transmitter that drives its balls, its Calender and its counters. -/
structure Side where
  /-- CAL_RXEQ of the four rate sets (R202 Table 8.3, R80), 4 × 40 bits; reset 0x62_0000_0000; Rest kept -/
  rxeq     : Vector R40 4 := Vector.replicate 4 0x6200000000
  /-- CAL_DFE_A of the four rate sets (R202), 4 × 40 bits; reset 0; Rest kept -/
  dfeA     : Vector R40 4 := Vector.replicate 4 0
  /-- CAL_DFE_B of the four rate sets (R202), 4 × 40 bits; reset 0; Rest kept -/
  dfeB     : Vector R40 4 := Vector.replicate 4 0
  /-- CAL_TRIM with SEEDED (R202), 40 bits; reset 0x84_2200_0000; Rest kept -/
  trim     : R40 := 0x8422000000
  /-- CAL_SOFF (R202), 40 bits; reset 0; Rest kept -/
  soff     : R40 := 0
  /-- CAL_CFG (R202), 40 bits; reset 0x7F_0040_4000; Rest kept -/
  calCfg   : R40 := 0x7F00404000
  /-- TXEQ of the four rate sets, of the transmitter that drives this side's balls (R84 Table 4.2, R114), 4 × 40 bits; reset 0x01_0004_0000; Rest kept -/
  txeq     : Vector R40 4 := Vector.replicate 4 0x0100040000
  /-- The host's TXEQ value the transmitter still ramps toward (R84); reset none -/
  txRamp   : Option R40 := none
  /-- Receiver polarity applied (R80, R95), 1 bit; reset 0; Rest kept -/
  rxPol    : Bool := false
  /-- Receiver polarity the host has set (R95, R347), 1 bit; reset 0; Rest kept -/
  rxHost   : Bool := false
  /-- Transmitter polarity (R95), 1 bit; reset 0 (DESIGN CHOICE, entry 2); Rest kept -/
  txPol    : Bool := false
  /-- Near or far termination connected (R105), 1 bit; reset 0, released (R30) -/
  term     : Bool := false
  /-- The transmitter driving this side's balls is in electrical idle (R98, R30), 1 bit; reset 1 -/
  txIdle   : Bool := true
  /-- Phase offsets of the two deckle samplers (R80), signed; reset 0; Rest reset -/
  dkPhase  : Vector Int 2 := Vector.replicate 2 0
  /-- Threshold offsets of the two deckle samplers (R80), signed; reset 0; Rest reset -/
  dkThr    : Vector Int 2 := Vector.replicate 2 0
  /-- Targets and ramps of this side's corrections (R190, R196); reset none -/
  targets  : List CalTarget := []
  /-- Corrections held at an end whose 0x0302 has been raised (R195): ID, subindex and the end's code; reset none -/
  atLimit  : List (Nat × Nat × Int) := []
  /-- The stamp of each trim's last move (R192): ID, subindex, stamp; reset none -/
  trimAt   : List (Nat × Nat × Stamp) := []
  /-- FEC blocks or codewords that must still begin before the side may step again (R150, R191), 0 to 3; reset 0 -/
  fecWait  : Nat := 0
  /-- Tracker LEFT (R187); reset 0, where EYE_W reads its reset value 0 (R202); Rest reset -/
  left     : Tracker := { pos := 0 }
  /-- Tracker RIGHT (R187); reset 0 (R202); Rest reset -/
  right    : Tracker := { pos := 0 }
  /-- Tracker TOP (R187); reset 0, where EYE_H reads its reset value 0 (R202); Rest reset -/
  top      : Tracker := { pos := 0 }
  /-- Tracker BOTTOM (R187); reset 0 (R202); Rest reset -/
  bottom   : Tracker := { pos := 0 }
  /-- A measurement has closed in the training in progress, so that the trackers hold positions of it (R187), 1 bit; reset 0 -/
  adapted  : Bool := false
  /-- Which tracker each deckle sampler serves in the measurement in progress, 0 LEFT and TOP, 1 RIGHT and BOTTOM (R187), 1 bit; reset 0 (DESIGN CHOICE, entry 2) -/
  turn     : Bool := false
  /-- UI compared in the measurement in progress (R186), a number; reset 0 -/
  measUi   : Nat := 0
  /-- Disagreements of the first deckle sampler in the measurement in progress (R186), a number; reset 0 -/
  measErr  : Nat := 0
  /-- Disagreements of the second deckle sampler in the measurement in progress (R186), a number; reset 0 -/
  measErr1 : Nat := 0
  /-- CAL_QUAL_B.RESID (R188, R202), 16 bits; reset 0; Rest reset -/
  resid    : BitVec 16 := 0
  /-- CAL_QUAL_B.BASELINE (R193, R202), 16 bits; reset 0; Rest reset -/
  baseline : BitVec 16 := 0
  /-- RESID of the last ungated measurements, newest first, at most 16 (R193); reset none -/
  history  : List Nat := []
  /-- No measurement has closed since entry to L0 or data (R193), 1 bit; reset 1 -/
  fresh    : Bool := true
  /-- CAL_QUAL_A.GATED (R193), 1 bit; reset 0; Rest reset -/
  gated    : Bool := false
  /-- Consecutive measurements not high while gated (R193); reset 0 -/
  calm     : Nat := 0
  /-- Measurements closed while gated (R193); reset 0 -/
  gatedN   : Nat := 0
  /-- CAL_QUAL_A.SPARSE (R194), 1 bit; reset 0; Rest reset -/
  sparse   : Bool := false
  /-- CAL_QUAL_A.VALID (R189), 1 bit; reset 0; Rest reset -/
  calValid : Bool := false
  /-- CAL_QUAL_A.AGE (R202), 8 bits; reset 0; Rest reset -/
  calAge   : Byte := 0
  /-- PIN_REPORT.LAT (R178), 22 bits; reset 0; Rest reset -/
  pinLat   : BitVec 22 := 0
  /-- PIN_REPORT.ERR (R178), 8 bits; reset 0; Rest reset -/
  pinErr   : Byte := 0
  /-- PIN_REPORT.PINNED (R178), 1 bit; reset 0; Rest reset -/
  pinned   : Bool := false
  /-- PIN_REPORT.VALID (R178), 1 bit; reset 0; Rest reset -/
  pinValid : Bool := false
  /-- PIN_REPORT.AGE (R178), 8 bits; reset 0; Rest reset -/
  pinAge   : Byte := 0
  /-- Pin interpolator of this direction, 1024 steps per UI (R175), signed steps moved since R176 set the fill; reset 0 -/
  pinPhase : Int := 0
  /-- Slips of the direction received here (R86, R348 kind 0), 40 bits; reset 0; Rest kept -/
  slips    : R40 := 0
  /-- Long runs (R146), 40 bits; reset 0; Rest kept -/
  longRuns : R40 := 0
  /-- Glitches removed (R148), 40 bits; reset 0; Rest kept -/
  glitches : R40 := 0
  /-- Calender steps committed (R203), 40 bits; reset 0; Rest kept -/
  steps    : R40 := 0
  /-- Gate entries (R203), 40 bits; reset 0; Rest kept -/
  gates    : R40 := 0
  /-- Insertions (R179), 40 bits; reset 0; Rest kept -/
  inserts  : R40 := 0
  /-- Deletions (R179), 40 bits; reset 0; Rest kept -/
  deletes  : R40 := 0
  /-- The margin command active on this side (R118); reset none -/
  margin   : Option MarginCmd := none
  /-- A margin command waiting for the sweep to leave this side (R119); reset none -/
  deferred : Option MarginCmd := none
  /-- Disagreements counted under the margin command (R118), a number; reset 0 -/
  marginN  : Nat := 0
  /-- Coefficient requests rejected in this phase (R112), 16 bits; reset 0 (DESIGN CHOICE, entry 2) -/
  rejects  : BitVec 16 := 0
  /-- Presets still to request in this phase, ascending, the first now requested (R111); reset none -/
  presets  : List Nat := []
  /-- The coefficients now requested of a PCI Express partner (R106, R111), (c−1, c0, c+1), and the step that led to them; reset none -/
  eqAsk    : Option (Fin 4 × Byte × Byte × Byte) := none
  /-- The request now made of a KR partner (R141); reset none -/
  krAsk    : Option KrRequest := none
  /-- Steps tried and not kept since the figure last rose, by number 0 to 3 (R111, R141); reset none -/
  reqTried : List (Fin 4) := []
  /-- The setting the KR partner last reported, (PRE1, MAIN, POST1) (R141); reset none -/
  reported : Option (Byte × Byte × Byte) := none
  /-- Coefficient steps still allowed to this requester (R111, R141), a number; reset 0 -/
  reqSteps : Nat := 0
  /-- This receiver's requests are running (R111, R141), 1 bit; reset 0 -/
  reqRun   : Bool := false
  /-- Best preset and the best margin figure so far (R111, R141); reset none -/
  reqBest  : Option (Nat × Nat) := none
  /-- The best setting of the partner's transmitter so far, (PRE1, MAIN, POST1) (R141) or (c−1, c0, c+1) (R111); reset none -/
  partner  : Option (Byte × Byte × Byte) := none
  /-- What the device reports to its training partner on a KR coefficient update: 0 not updated, 1 updated, 2 minimum, 3 maximum (R140), the model's own output field (entry 9); reset 0 -/
  krReport : Fin 4 := 0
  /-- The reject indication of the last PCI Express coefficient request (R112), 1 bit, output field (entry 9); reset 0 -/
  eqReject : Bool := false
  /-- The answer to the last margin command of this side (R117 to R119), output field (entry 9); reset none -/
  marginAns : Option MarginAns := none
  /-- Coefficients of the four sets before the phase in progress, kept to discard partial results (R124); reset none -/
  eqSaved  : Option (R40 × R40 × R40 × R40) := none
  /-- The checker is locked (R457), 1 bit; reset 0; Rest cleared -/
  chkLock  : Bool := false
  /-- Bits the checker has compared (R457), 40 bits; reset 0; Rest cleared (R445) -/
  chkBits  : R40 := 0
  /-- Errors the checker has found (R457), 40 bits; reset 0; Rest cleared (R445) -/
  chkErrs  : R40 := 0
  /-- Initial calibration of this side runs (R198), 1 bit; reset 0 -/
  calDue   : Bool := false
  /-- Pattern select of the generator on this side (R454), 8 bits; reset 0, off -/
  patSel   : Byte := 0
  /-- Loop-back depth at this side set by a LOOP line (R452), 8 bits; reset 0, off -/
  loopDep  : Byte := 0
  deriving DecidableEq, Repr

/-- One lane: its status, buffers and backplane state. Index 0 of a pair is downstream or near, 1 upstream or far. -/
structure Lane where
  /-- LANE_STATUS.LOG_LANE (R97), 8 bits; reset 0xFF; Rest kept -/
  logLane : Byte := 0xFF
  /-- LANE_STATUS.LOCK_N and LOCK_F (R97), 2 × 1 bit; reset 0; Rest reset -/
  lock    : Vector Bool 2 := Vector.replicate 2 false
  /-- LANE_STATUS.EI_N and EI_F (R97), 2 × 1 bit; reset 1; Rest reset -/
  ei      : Vector Bool 2 := Vector.replicate 2 true
  /-- The lane is PARKED (R97), 1 bit; reset 0 -/
  parked  : Bool := false
  /-- The link partners gave the lane a number in the Configuration they last passed through (R97, R102), 1 bit; reset 0 -/
  joined  : Bool := false
  /-- Fill of the downstream and the upstream buffer in bits, 0 to 640 (R85, R97 FILL_DN and FILL_UP); an elastic buffer's is open within 4 to 12 words after an adjustment (R86, R100, entry 1); reset 0; Rest reset -/
  fill    : Vector Nat 2 := Vector.replicate 2 0
  /-- The PIN_LAT the lane applies, taken at its last exit from electrical idle (R88), 32 bits; reset 0 -/
  pin     : BitVec 32 := 0
  /-- BP_STATUS.SEG_N and SEG_F (R153 Table 6.6), 2 × 3 bits; reset 0; Rest reset -/
  seg     : Vector (Fin 5) 2 := Vector.replicate 2 0
  /-- BP_STATUS.RR_N and RR_F (R153), 2 × 1 bit; reset 0; Rest reset -/
  rr      : Vector Bool 2 := Vector.replicate 2 false
  /-- BP_STATUS.ALIGN_N and ALIGN_F (R153), 2 × 1 bit; reset 0; Rest reset -/
  align   : Vector Bool 2 := Vector.replicate 2 false
  /-- BP_STATUS.AN_TECH (R153), 3 bits; reset 0; Rest kept -/
  anTech  : BitVec 3 := 0
  /-- BP_STATUS.AN_FEC (R153), 2 bits; reset 0; Rest kept -/
  anFec   : BitVec 2 := 0
  /-- Requests of the near and the far receiver are finished (R142), 2 × 1 bit; reset 0 -/
  reqDone : Vector Bool 2 := Vector.replicate 2 false
  /-- The device reports receiver ready on this lane (R142), 1 bit; reset 0 -/
  rrSent  : Bool := false
  /-- BP_CFG as this lane took it at its last start (R153), 40 bits; reset 0x08_0000_0000 -/
  bpCfg   : R40 := 0x0800000000
  /-- LINE_CFG as this lane took it at its last exit from electrical idle (R153), 40 bits; reset 0 -/
  lineCfg : R40 := 0
  /-- The training set last forwarded downstream and upstream, with the fields the device changes (R106), output field (entry 9); reset none -/
  tsOut   : Vector (Option TrainingSet) 2 := Vector.replicate 2 none
  /-- Both transmitters held in electrical idle after a technology mismatch (R138), 1 bit; reset 0 -/
  mismatch : Bool := false
  deriving DecidableEq, Repr

/-- State of a path (R98): ACTIVE, IDLE or DORMANT. -/
inductive PathState where
  | active | idle | dormant
  deriving DecidableEq, Repr

/-- One path: its registers, its state and its pins. -/
structure Path where
  /-- PATH_CFG (R91 Table 4.4), 40 bits; reset 0; Rest kept -/
  cfg      : R40 := 0
  /-- PIN_LAT in 0.25 ps (R87, R344), 32 bits; reset 0 (DESIGN CHOICE, entry 2); Rest kept -/
  pinLat   : BitVec 32 := 0
  /-- PCIE_CFG (R115 Table 5.4), 40 bits; reset 0x11_3FFC_0000; Rest kept -/
  pcieCfg  : R40 := 0x113FFC0000
  /-- PCIE_CFG as taken at the last entry to Recovery.Equalization (R115), 40 bits; reset 0x11_3FFC_0000 -/
  pcieUse  : R40 := 0x113FFC0000
  /-- BP_CFG (R153 Table 6.4), 40 bits; reset 0x08_0000_0000; Rest kept -/
  bpCfg    : R40 := 0x0800000000
  /-- LINE_CFG (R153 Table 6.5), 40 bits; reset 0; Rest kept -/
  lineCfg  : R40 := 0
  /-- PCIE_STATUS.LTSSM (R107, R133), 5 bits; reset 0; Rest kept -/
  ltssm    : Fin 13 := 0
  /-- PCIE_STATUS.RATE_NOW (R133), 3 bits; reset 0; Rest kept -/
  rateNow  : Fin 6 := 0
  /-- PCIE_STATUS.POSITION (R116, R133), 2 bits; reset 0; Rest kept -/
  position : Fin 4 := 0
  /-- The position is still to be learned in the training that began in Detect (R116), 1 bit; reset 1 -/
  posDue   : Bool := true
  /-- The training sets select −6.0 dB at 5.0 GT/s (R113), 1 bit; reset 0 (DESIGN CHOICE, entry 2) -/
  deemph6  : Bool := false
  /-- PCIE_STATUS.EQ_DONE (R133), 6 bits; reset 0; Rest kept -/
  eqDone   : BitVec 6 := 0
  /-- PCIE_STATUS.EQ_PHASE, 0, 2 or 3 (R133), 2 bits; reset 0; Rest reset -/
  eqPhase  : Fin 4 := 0
  /-- PCIE_STATUS.WIDTH_NOW (R133), 3 bits; reset 0; Rest kept -/
  widthNow : Fin 6 := 0
  /-- PCIE_STATUS.CLKREQ (R133), 1 bit; reset 0; Rest reset -/
  clkreq   : Bool := false
  /-- PCIE_STATUS.PERST (R133), 1 bit; reset 0; Rest reset -/
  perst    : Bool := false
  /-- Far-side receivers found by the last detection (R105), 4 bits; reset 0 -/
  found    : BitVec 4 := 0
  /-- The path PLL runs on the internal reference in the L1 substates (R126), 1 bit; reset 0 -/
  pllInt   : Bool := false
  /-- Common mode is not driven, in the L1 substates (R126), 1 bit; reset 0 -/
  cmOff    : Bool := false
  /-- REFCLK runs within its limits (R122), 1 bit; reset 1 (DESIGN CHOICE, entry 2) -/
  refclk   : Bool := true
  /-- The state of R98; reset IDLE (LANE_STATUS.LSTATE resets to 1, R97); Rest kept -/
  st       : PathState := .idle
  /-- The bond group of BOND has formed (R93), 1 bit; reset 0 -/
  formed   : Bool := false
  /-- Squelch latch of lane 0's near side (R99, R405), 1 bit; reset 0 -/
  latch    : Bool := false
  /-- The squelch latch is armed (R405), 1 bit; reset 0 -/
  armed    : Bool := false
  /-- A host wake request stands (R383), 1 bit; reset 0 -/
  wakeReq  : Bool := false
  /-- Idle time of R404 in ns; reset 0 -/
  idleNs   : Nat := 0
  /-- PATH_T in ms (R382), 16 bits; reset 0; Rest kept -/
  pathT    : BitVec 16 := 0
  /-- Deskew errors (R94), 40 bits; reset 0; Rest kept -/
  deskew   : R40 := 0
  /-- ACTIVE and IDLE changes (R98), 40 bits; reset 0; Rest kept -/
  changes  : R40 := 0
  /-- L0s entries (R128), 40 bits; reset 0; Rest kept -/
  l0s      : R40 := 0
  /-- TEST bit (R394), 1 bit; reset 0; Rest reset -/
  test     : Bool := false
  deriving DecidableEq, Repr

/-! ### Spine time -/

/-- The TIME island. -/
structure TimeIsl where
  /-- Spine time with its 32 internal fraction bits (R9, R155), 112 bits; reset 0 -/
  spine    : BitVec 112 := 0
  /-- FREQ_ADJ in 0.001 ppb, −1 000 000 to +1 000 000 (R155, R355), 32 bits signed; reset 0 (DESIGN CHOICE, entry 2); Rest kept -/
  freqAdj  : Int := 0
  /-- TIME_CFG (R174 Table 7.7), 40 bits; reset 0x20_A640_0000; Rest kept -/
  cfg      : R40 := 0x20A6400000
  /-- TIME_STATUS.STATE (R157, R174 Table 7.8), 3 bits; reset 0 UNSET; Rest set 4 if 2, 3 or 4 -/
  st       : Fin 5 := 0
  /-- TIME_STATUS.SRC_NOW (R174), 2 bits; reset 0; Rest kept -/
  srcNow   : BitVec 2 := 0
  /-- TIME_STATUS.TSCALE (R174), 2 bits; reset 0; Rest kept -/
  tscale   : BitVec 2 := 0
  /-- TIME_STATUS.HOP (R172, R174), 4 bits; reset 0; Rest kept -/
  hop      : BitVec 4 := 0
  /-- TIME_STATUS.UTC_OFFSET (R174), 16 bits; reset 0; Rest kept -/
  utc      : BitVec 16 := 0
  /-- TIME_STATUS.UTC_VALID (R174), 1 bit; reset 0; Rest kept -/
  utcValid : Bool := false
  /-- TIME_STATUS.LEAP61 (R174), 1 bit; reset 0; Rest kept -/
  leap61   : Bool := false
  /-- TIME_STATUS.LEAP59 (R174), 1 bit; reset 0; Rest kept -/
  leap59   : Bool := false
  /-- TIME_STATUS.AO_RESTORED (R163, R174), 1 bit; reset 0; Rest set 1 -/
  restored : Bool := false
  /-- TIME_STATUS.UPSTREAM_HOLD (R173, R174), 1 bit; reset 0; Rest reset -/
  upHold   : Bool := false
  /-- TIME_QUALITY.OFFSET in ns (R174 Table 7.9), 20 bits signed; reset 0; Rest kept -/
  offset   : Int := 0
  /-- The step decided and not yet applied, in 2^-40 s (R32); reset none -/
  step     : Option Int := none
  /-- Offsets measured since the last SERVO line, in 2^-40 s, oldest first (R159); reset none -/
  meas     : List Int := []
  /-- The next measurement is the first after UNSET, FREE or a source change (R159), 1 bit; reset 1 -/
  first    : Bool := true
  /-- Consecutive SERVO lines below LOCK_THRESH (R159), a number; reset 0 -/
  lockRun  : Nat := 0
  /-- FREQ_ADJ at each SERVO line of the last 64 s of LOCKED, newest first, with the stamp (R160); reset none -/
  lockHist : List (Stamp × Int) := []
  /-- The stamp at which LOCKED was entered (R160); reset none -/
  lockedAt : Option Stamp := none
  /-- Oscillator pull code (R161, R185 ID 14), 16 bits; reset 0x8000; Rest kept -/
  pull     : BitVec 16 := 0x8000
  /-- The pull's target set by PULL_SET (R358), 16 bits; reset none -/
  pullGoal : Option (BitVec 16) := none
  /-- Nanoseconds since the last pull move (R161), a number; reset 62 500 000 (no move made) -/
  pullNs   : Nat := 62500000
  /-- Event 0x0409 has been raised for this end (R161), 1 bit; reset 0 -/
  pullLim  : Bool := false
  /-- T0, the spine time latched at REST entry or end of run (R162), 112 bits; reset 0 (DESIGN CHOICE, entry 2) -/
  t0       : BitVec 112 := 0
  /-- FREQ_ADJ latched with T0, in LOCKED the mean that HOLDOVER holds (R160, R162), signed; reset 0 (DESIGN CHOICE, entry 2) -/
  f0       : Int := 0
  /-- C0, the holdover counter latched with T0 (R162), 64 bits; reset 0 (DESIGN CHOICE, entry 2) -/
  c0       : BitVec 64 := 0
  /-- The state at REST entry or at the end of the run, which the save list keeps (R162, R409), 3 bits; reset 0 (DESIGN CHOICE, entry 2) -/
  stSaved  : Fin 5 := 0
  /-- XTAL_ADJ in 0.001 ppb (R162), signed; reset 0 (DESIGN CHOICE, entry 2); Rest kept -/
  xtalAdj  : Int := 0
  /-- The five corrections of Table 7.4 in 0.25 ns (R165, R356), signed; reset 0; Rest kept -/
  delays   : Vector Int 5 := Vector.replicate 5 0
  /-- PTP source IPv4 address (R356), 32 bits; reset 0 (DESIGN CHOICE, entry 2); Rest kept -/
  ptpIp    : BitVec 32 := 0
  /-- Selected master's data set and header, from its Announce (R164); reset none; Rest kept -/
  master   : Option PtpMsg := none
  /-- The last Sync that awaits its Follow_Up or its delay response: sequence number, arrival, origin (R164); reset none -/
  sync     : Option (BitVec 16 × Stamp × Option Stamp) := none
  /-- The Delay_Req that awaits its response: sequence number and departure (R164); reset none -/
  delayReq : Option (BitVec 16 × Stamp) := none
  /-- Sequence number of the next Delay_Req (R164), 16 bits; reset 0 (DESIGN CHOICE, entry 2) -/
  reqSeq   : BitVec 16 := 0
  /-- A Delay_Req is due at the next TX line (R236), 1 bit; reset 0 -/
  reqDue   : Bool := false
  /-- PTP messages ignored (R164), 40 bits; reset 0; Rest kept -/
  ptpIgnored : R40 := 0
  /-- PPS_IN edges rejected (R166), 40 bits; reset 0; Rest kept -/
  ppsRejected : R40 := 0
  /-- Chain codes discarded (R172), 40 bits; reset 0; Rest kept -/
  chainDiscarded : R40 := 0
  /-- Stamp of the last PPS_IN edge (R355), 80 bits; reset 0; Rest kept -/
  ppsStamp : Stamp := 0
  /-- The PPS line whose pulse PPS_OUT carries, with its rising and falling spine time (R167); reset none -/
  ppsOut   : Option (Stamp × Stamp) := none
  /-- Hop delays of the last marks sent, newest first, at most 16, 0.25 ps (R171); reset none -/
  hops     : List (BitVec 22) := []
  /-- TIME_STATUS_CHAIN.D (R174), 22 bits; reset 0; Rest reset -/
  hopD     : BitVec 22 := 0
  /-- TIME_STATUS_CHAIN.MISSED (R174), 16 bits; reset 0; Rest reset -/
  missed   : BitVec 16 := 0
  /-- TIME_STATUS_CHAIN.CHAIN_LOST (R174), 1 bit; reset 0; Rest reset -/
  lost     : Bool := false
  /-- A good mark has arrived in this sheet (R173), 1 bit; reset 0 -/
  mark     : Bool := false
  /-- E of the last good code (R184), 80 bits; reset 0 -/
  goodE    : Stamp := 0
  /-- Event 0x040A has been raised (R171), 1 bit; reset 0 -/
  noRefl   : Bool := false
  /-- The code of the last frame sent on SYNC_OUT and its departure (R168, R170); reset none -/
  chainOut : Option (BitVec 80 × Stamp) := none
  deriving DecidableEq, Repr

/-! ### The sequencer and the sweep -/

/-- One line of a Mould (R63 to R65). -/
structure Line where
  start    : Nat
  duration : Nat
  action   : Nat
  target   : Byte
  period   : Nat
  phase    : Nat
  second   : Bool
  cont     : Bool
  operand  : BitVec 32
  deriving DecidableEq, Repr

/-- A Mould as the sequencer holds it: header declarations and nine line tables (R63, R68). -/
structure Mould where
  imageId : BitVec 32
  sheetN  : Nat
  svcMode : Nat
  modes   : Vector Nat 4
  rates   : Vector Nat 4
  tables  : Vector (List Line) 9
  deriving DecidableEq, Repr

/-- An activation waiting for its sheet (R71). -/
structure PendingMould where
  mould  : Mould
  source : Byte
  sheet  : R40
  deriving DecidableEq, Repr

/-- A line whose start tick has passed and whose end token has not taken effect: table and index (R43, R53). -/
structure RunLine where
  table  : Fin 9
  idx    : Nat
  /-- the sequencer sends it tokens: not for a SCAN line that starts with ENABLE 0 (R265) -/
  tokens : Bool
  /-- its action has started: it is not missed (R75) -/
  acts   : Bool
  deriving DecidableEq, Repr

/-- The sequencer. -/
structure Seqr where
  /-- The active Mould (R68); reset none until the boot Mould is chosen (R429); Rest kept while VIN is present -/
  active   : Option Mould := none
  /-- Its source, coded as SOURCE (R361), 8 bits; reset 3 (DESIGN CHOICE, entry 2) -/
  source   : Byte := 3
  /-- The sheet at which it took effect; 0 for the image run after BOOT (R361), 40 bits; reset 0 -/
  since    : R40 := 0
  /-- The pending activation in shadow memory (R71); reset none; Rest kept -/
  shadow   : Option PendingMould := none
  /-- SHEET, the sheet in progress or the last before REST (R52, R311), 40 bits; reset 0; Rest kept -/
  sheet    : R40 := 0
  /-- Tick 0 of the sheet in progress, spine time (R50); reset 0 -/
  base     : Stamp := 0
  /-- The sheet in progress begins on a whole second (R53), 1 bit; reset 0 -/
  second   : Bool := false
  /-- The sheet cut short by a switch-off, or not yet begun, runs no lines (R503), 1 bit; reset 1 -/
  stopped  : Bool := true
  /-- The first sheet of a start or of a return from REST has still to begin (R52, R414), 1 bit; reset 1 -/
  firstDue : Bool := true
  /-- Missed-line counters of the nine tables (R75), 9 × 40 bits; reset 0; Rest kept -/
  missed   : Vector R40 9 := Vector.replicate 9 0
  /-- Overrun counters of the nine tables (R77), 9 × 40 bits; reset 0; Rest kept -/
  overruns : Vector R40 9 := Vector.replicate 9 0
  /-- Lines now running (R40, R77); reset none -/
  running  : List RunLine := []
  /-- Islands whose token word of a tick has returned absent, with that tick's stamp (R45, R59); reset none -/
  absentAt : List (Nat × Nat) := []
  deriving DecidableEq, Repr

/-- What one point of a sweep holds for one side (R182). -/
structure SweepCell where
  point    : Nat
  side     : SideId
  compared : R40
  errors   : R40
  deriving DecidableEq, Repr

/-- The sweep plan and its results (R181, R352). -/
structure Sweep where
  /-- State 0 none to 5 aborted (R352); reset 0 -/
  st      : Fin 6 := 0
  /-- Plan number (R181), 8 bits; reset 0 (DESIGN CHOICE, entry 2) -/
  plan    : Byte := 0
  /-- D, sheets per point (R181), 1 to 255; reset 0 (DESIGN CHOICE, entry 2) -/
  d       : Nat := 0
  /-- NPOINTS, 1 to 256 (R352); reset 0 (DESIGN CHOICE, entry 2) -/
  npoints : Nat := 0
  /-- S0 (R181), 80 bits; reset 0 (DESIGN CHOICE, entry 2) -/
  s0      : Stamp := 0
  /-- Lane-side masks of the four paths (R181), 4 × 8 bits; reset 0 -/
  masks   : Vector Byte 4 := Vector.replicate 4 0
  /-- Points written: index, phase, threshold (R353); reset none -/
  points  : List (Nat × Int × Int) := []
  /-- The point in progress (R181); reset none -/
  point   : Option Nat := none
  /-- Its deckle samplers have moved (R181), 1 bit; reset 0 -/
  moved   : Bool := false
  /-- Points completed (R182); reset 0 -/
  done    : Nat := 0
  /-- Counts collected (R182); reset none -/
  cells   : List SweepCell := []
  /-- Flags of a point: index, then MISSED, MISMATCH, AFTER_BREAK in bits 0, 1, 2 (R182); reset none -/
  flags   : List (Nat × BitVec 3) := []
  /-- The point in progress ends the plan with this cause (R183); reset none -/
  ending  : Option Byte := none
  deriving DecidableEq, Repr

/-! ### The bridge -/

/-- Class of a downstream record held by the bridge. -/
inductive RecClass where
  | pw | np | lk
  deriving DecidableEq, Repr

/-- An accepted PW, NP or LK record (R216, R218) and how far it has come. -/
structure Rec where
  cls      : RecClass
  session  : SessionId
  op       : Byte
  tag      : BitVec 16
  patience : Nat
  size     : Nat
  addr     : R40
  count    : Nat
  lease    : Nat
  data     : List Byte
  /-- sheet boundaries since acceptance, the WAIT of R229 until the record starts -/
  wait     : Nat
  /-- a CYCLE line reserved for its session has started since it could start (R228) -/
  overflow : Bool
  started  : Bool
  /-- the line that serves it, or served it first, is a spare line -/
  spare    : Bool
  /-- a line has chosen it and waits for an idle bus (R246, R251) -/
  chosen   : Bool
  /-- its bus cycle is in progress -/
  onBus    : Bool
  /-- it holds a credit of its class (R225); a write kept through a restart holds none (R211) -/
  credit   : Bool
  /-- bytes whose cycles have completed, and for a read their values -/
  done     : Nat
  got      : List Byte
  /-- the lock it ran under has been broken (R256) -/
  broken   : Bool
  /-- VWIN_BASE and VWIN_CFG in force when its first cycle started (R245) -/
  window   : Option (R40 × R40)
  /-- its place in the order of acceptance, which tells equal records apart (R227) -/
  num      : Nat
  /-- its session has restarted since it started: its completion is discarded (R211) -/
  stale    : Bool
  deriving DecidableEq, Repr

/-- A record built for a session: its bytes, and the credit that returns when it leaves (R225). -/
structure OutRec where
  session : SessionId
  bytes   : List Byte
  /-- 1 NP, 2 LK, 3 CTL; none where no credit waits on it -/
  credit  : Option (Fin 4)
  /-- it lies in the refusal queue (R226) -/
  refusal : Bool := false
  /-- the reply of a DEVICE_RESET (R391) -/
  reset   : Bool := false
  deriving DecidableEq, Repr

/-- A frame of the TX line in progress, the Delay_Req where it has no session: its records, and the spine time at which it has wholly
left (R205). -/
structure Leaving where
  session : Option SessionId
  out     : List OutRec
  ends    : Nat
  deriving DecidableEq, Repr

/-- One session (R210 to R212, R224). Credit classes in the order PW, NP, LK, CTL. -/
structure Session where
  /-- Bound source address (R210), 48 bits; reset unbound; Rest kept -/
  addr     : Option Mac := none
  /-- EPOCH (R211), 6 bits; reset 0 (DESIGN CHOICE, entry 2); Rest kept -/
  epoch    : BitVec 6 := 0
  /-- A frame has been accepted since binding (R211), 1 bit; reset 0; Rest kept -/
  known    : Bool := false
  /-- A frame has been accepted since binding or restart (R212), 1 bit; reset 0; Rest kept -/
  seqKnown : Bool := false
  /-- ACK_SEQ (R212), 16 bits; reset 0; Rest kept -/
  ackSeq   : BitVec 16 := 0
  /-- ACK_MAP (R212), 32 bits; reset 0; Rest kept -/
  ackMap   : BitVec 32 := 0
  /-- SEQ of the next upstream frame (R212), 16 bits; reset 0; Rest kept -/
  upSeq    : BitVec 16 := 0
  /-- NUMBER of the next UPW record (R221), 16 bits; reset 0; Rest kept -/
  upwNum   : BitVec 16 := 0
  /-- Credits configured (R224), 4 × 8 bits; reset 8, 4, 1, 2; Rest kept -/
  credits  : Vector Nat 4 := #v[8, 4, 1, 2]
  /-- Records outstanding per class (R225, R371); reset 0 -/
  used     : Vector Nat 4 := Vector.replicate 4 0
  /-- LEASE_MAX in ms (R370), 16 bits; reset 65535; Rest kept -/
  leaseMax : BitVec 16 := 65535
  /-- Event mask (R367), 16 bits; reset 0; Rest kept -/
  mask     : BitVec 16 := 0
  /-- BROKEN (R234, R235), 1 bit; reset 0; Rest kept -/
  broken   : Bool := false
  /-- Credits or ACK_SEQ have changed since the last frame sent (R236), 1 bit; reset 0 -/
  news     : Bool := false
  /-- The ten counters of Table 9.5 in its order (R214), 10 × 40 bits; reset 0; Rest kept -/
  counts   : Vector R40 10 := Vector.replicate 10 0
  deriving DecidableEq, Repr

/-- The service port and the Dovetail engine. -/
structure Bridge where
  /-- Port mode (R205), 2 bits; reset the strapped mode (0 until straps are sampled, DESIGN CHOICE, entry 2); Rest kept -/
  mode     : Fin 4 := 0
  /-- Link up (R205, R214), 1 bit; reset 0 -/
  link     : Bool := false
  /-- DOVE_ETYPE (R206), 16 bits; reset 0x88B5; Rest kept -/
  etype    : BitVec 16 := 0x88B5
  /-- The four sessions (R210) -/
  sessions : Vector Session 4 := Vector.replicate 4 {}
  /-- PW, NP and LK records accepted and unfinished, in order of acceptance (R224 to R227); reset none -/
  recs     : List Rec := []
  /-- Records accepted so far, the number of the next one: the model's own field (entry 9); reset 0 -/
  recNum   : Nat := 0
  /-- Frames of the last TX line, newest first (R205); reset none -/
  leaving  : List Leaving := []
  /-- CPL buffer, completions and CTL replies, at most 16 with those reserved, and the refusal queue of 16, oldest first (R224 to R226); reset none -/
  cpl      : List OutRec := []
  /-- UPW buffer, oldest first, at most 32 (R224); reset none -/
  upw      : List OutRec := []
  /-- SIG buffer, oldest first, at most 16 (R224); reset none -/
  sig      : List OutRec := []
  /-- EVT buffer, oldest first, at most 16 (R224); reset none -/
  evt      : List OutRec := []
  /-- Holder of the one bus lock (R231); reset none -/
  holder   : Option SessionId := none
  /-- VLCK_N waits for the end of the cycle in progress to be negated (R234), 1 bit; reset 0 -/
  unlock   : Bool := false
  /-- Lease remaining in ns (R234); reset 0 -/
  leaseNs  : Nat := 0
  /-- Session a spare line served last (R228); reset 3, so that session 0 comes first (DESIGN CHOICE, entry 2) -/
  spareLast : SessionId := 3
  /-- Session a TX line served last (R236); reset 3 (DESIGN CHOICE, entry 2) -/
  txLast   : SessionId := 3
  /-- Frames dropped at check 1: bad FCS and length (Table 9.1, Table 9.3), 40 bits; reset 0 -/
  dropMac  : R40 := 0
  /-- VLAN-tagged frames dropped (Table 9.1), 40 bits; reset 0 -/
  dropVlan : R40 := 0
  /-- MAC control frames ignored (Table 9.1), 40 bits; reset 0 -/
  macCtrl  : R40 := 0
  /-- Frames of another destination or EtherType dropped (R206), 40 bits; reset 0 -/
  dropDst  : R40 := 0
  /-- SIG occasions skipped (R237), 40 bits; reset 0 -/
  sigSkip  : R40 := 0
  /-- EVT records skipped (R237), 40 bits; reset 0 -/
  evtSkip  : R40 := 0
  /-- Records discarded at unbinding (R210), 40 bits; reset 0 -/
  discarded : R40 := 0
  /-- Frames the port has sent, newest first, destination address onward without FCS: what the wire carried, the model's own field (entry 9); reset none -/
  sent     : List (List Byte) := []
  deriving DecidableEq, Repr

/-! ### The Veneer bus -/

/-- Where the cycle in progress stands (Tables 10.2 and 10.3). -/
inductive CyclePhase where
  | strobe | release
  deriving DecidableEq, Repr

/-- The bus cycle in progress, of the record marked `onBus`. -/
structure Cycle where
  session  : SessionId
  window   : Fin 16
  write    : Bool
  addr     : BitVec 32
  strobes  : BitVec 4
  bytes    : Nat
  phase    : CyclePhase
  /-- status decided by the answer: true OK, false BUS_FAULT -/
  ok       : Bool
  /-- the lane of each of its bytes, in spine order (R242) -/
  lanes    : List Nat
  /-- bytes captured in spine order -/
  got      : List Byte
  /-- byte lanes whose EARLY, and whose LATE, shadow capture differed from the main capture (R200) -/
  diffs    : BitVec 4 × BitVec 4
  /-- the line that started it has ended (R251) -/
  lineOver : Bool
  /-- VWIN_CFG it runs under (R245) -/
  cfg      : R40
  /-- the bytes of a write, in the order of `lanes` (R243) -/
  data     : List Byte
  /-- spine time at which it started (t0, E0) and at which its answer was seen (tr, Ek) -/
  began    : Stamp
  answered : Option Stamp
  deriving DecidableEq, Repr

/-- What a VEN line waits to start when it finds the bus not idle (R246), or, `unlock`, the negation of VLCK_N that a
RELEASE leaves to its end (R233). -/
inductive VenWait where
  | cycle
  | grant (mask : BitVec 4)
  | reset
  | unlock
  deriving DecidableEq, Repr

/-- The Veneer logic. -/
structure Veneer where
  /-- VEN_CFG (R262 Table 10.4), 40 bits; reset 0x00_0A02_0A00; Rest kept -/
  cfg     : R40 := 0x000A020A00
  /-- A change of VEN_CFG that waits for the end of the VEN line in progress (R262); reset none -/
  cfgNext : Option R40 := none
  /-- VWIN_BASE of the 16 windows (R262 Table 10.5), 16 × 40 bits; reset 0; Rest kept -/
  base    : Vector R40 16 := Vector.replicate 16 0
  /-- VWIN_CFG of the 16 windows (R262 Table 10.6), 16 × 40 bits; reset 0x00_0003_4600; Rest kept -/
  win     : Vector R40 16 := Vector.replicate 16 0x0000034600
  /-- Changes of windows that wait for the end of the VEN line serving them (R245); reset none -/
  winNext : List (Fin 16 × R40 × R40) := []
  /-- VMST_CFG (R262 Table 10.7), 40 bits; reset 0; Rest kept -/
  mst     : R40 := 0
  /-- VIRQ_CFG (R262 Table 10.7), 40 bits; reset 0; Rest kept -/
  irq     : R40 := 0
  /-- VUP_CFG (R262 Table 10.8), 40 bits; reset 0; Rest kept -/
  up      : R40 := 0
  /-- VTAP of the 16 windows (R202 Table 8.4), 16 × 40 bits; reset 0x41_0410_4108; Rest kept -/
  tap     : Vector R40 16 := Vector.replicate 16 0x4104104108
  /-- Taps a host wrote while ADAPT is 0, taken by the next VCAL line (R202); reset none -/
  tapNext : List (Fin 16 × R40) := []
  /-- EARLY shadow of each window and byte lane, 4 × window + lane, in taps from the tap (R200), signed; reset 0 (DESIGN CHOICE, entry 2) -/
  early   : Vector Int 64 := Vector.replicate 64 0
  /-- LATE shadow, indexed in the same way (R200), signed; reset 0 (DESIGN CHOICE, entry 2) -/
  late    : Vector Int 64 := Vector.replicate 64 0
  /-- Reads of each window and byte lane since the last VCAL line (R200); reset 0 -/
  reads   : Vector Nat 64 := Vector.replicate 64 0
  /-- Reads of each window since entry to CYCLE service, up to 16 (R200); reset 0 -/
  qReads  : Vector Nat 16 := Vector.replicate 16 0
  /-- VQUAL.VALID of each window (R202), 1 bit; reset 0; Rest reset -/
  qValid  : Vector Bool 16 := Vector.replicate 16 false
  /-- VQUAL.AGE of each window (R202), 8 bits; reset 0; Rest reset -/
  qAge    : Vector Byte 16 := Vector.replicate 16 0
  /-- VQUAL.WIN_PS and WORST_LANE of each window (R200, R202), 14 and 2 bits; reset 0; Rest reset -/
  qWin    : Vector (BitVec 14 × BitVec 2) 16 := Vector.replicate 16 (0, 0)
  /-- The upstream shadow buffer (R214), 65 536 bytes; reset 0; Rest kept -/
  shadow  : Mem := []
  /-- The cycle in progress (R246 to R251); reset none -/
  cycle   : Option Cycle := none
  /-- What the VEN line in progress waits to start (R246); reset none -/
  waiting : Option VenWait := none
  /-- The VEN line in progress that serves a record: its index in its table, and the window, 16 for none (R245, R250); reset none -/
  serving : Option (Nat × Nat) := none
  /-- Signals other parties hold asserted on the bus, in the bit order of Table 18.2 (R241); reset none -/
  seen    : BitVec 13 := 0
  /-- The master granted and the address it last latched (R257, R258); reset none -/
  grant   : Option (Fin 4) := none
  /-- The outputs stay released after a grant until the bus is idle (R257), 1 bit; reset 0 -/
  afterGrant : Bool := false
  /-- The device answers an old master's strobe and holds VRDY_N or VFLT_N (R258), 1 bit; reset 0 -/
  holding : Bool := false
  /-- That answer is VFLT_N, not VRDY_N (R258), 1 bit; reset 0 -/
  faulting : Bool := false
  /-- Bytes the device drives on the strobed lanes of an old master's read, lowest lane first (R258), output field (entry 9); reset none -/
  driven  : List Byte := []
  /-- The write an old master's cycle ends with: its record waits for the strobes' release (R258); reset none -/
  upwDue  : Option (Fin 4 × BitVec 16 × List Byte) := none
  /-- Master granted last in any GRANT line (R257); reset 3, so that master 0 comes first (DESIGN CHOICE, entry 2) -/
  grantLast : Fin 4 := 3
  /-- VLCK_N asserted (R256), 1 bit; reset 0 -/
  vlck    : Bool := false
  /-- VRST_N asserted (R261), 1 bit; reset 0 -/
  vrst    : Bool := false
  /-- Counted level of VIRQ_N[7:0], 1 asserted (R260), 8 bits; reset 0 (DESIGN CHOICE, entry 2) -/
  irqLevel : BitVec 8 := 0
  /-- VBREQ_N[3:0] seen low, 1 asserted (R257, R407), 4 bits; reset 0 (DESIGN CHOICE, entry 2) -/
  breq    : BitVec 4 := 0
  /-- Cycles of each window (R263), 16 × 40 bits; reset 0; Rest kept -/
  cycles  : Vector R40 16 := Vector.replicate 16 0
  /-- Timeouts of each window (R251, R263), 16 × 40 bits; reset 0; Rest kept -/
  timeouts : Vector R40 16 := Vector.replicate 16 0
  /-- Target faults of each window (R252, R263), 16 × 40 bits; reset 0; Rest kept -/
  faults  : Vector R40 16 := Vector.replicate 16 0
  /-- Violations of each window (R253, R263), 16 × 40 bits; reset 0; Rest kept -/
  violations : Vector R40 16 := Vector.replicate 16 0
  /-- Writes delivered of each master (R263), 4 × 40 bits; reset 0; Rest kept -/
  delivered : Vector R40 4 := Vector.replicate 4 0
  /-- Reads served of each master (R263), 4 × 40 bits; reset 0; Rest kept -/
  served  : Vector R40 4 := Vector.replicate 4 0
  /-- Cycles refused of each master (R263), 4 × 40 bits; reset 0; Rest kept -/
  refused : Vector R40 4 := Vector.replicate 4 0
  /-- Ready or fault while idle (R254), 40 bits; reset 0; Rest kept -/
  idleRdy : R40 := 0
  /-- Bus activity without grant (R259), 40 bits; reset 0; Rest kept -/
  noGrant : R40 := 0
  /-- Changes counted on each VIRQ_N line (R260), 8 × 40 bits; reset 0 -/
  irqCount : Vector R40 8 := Vector.replicate 8 0
  deriving DecidableEq, Repr

/-! ### Scan lines, templates, signals, bundles -/

/-- A template that is not unused (R270, R272). -/
structure Template where
  id     : Nat
  bytes  : List Byte
  passed : R40
  failed : R40
  age    : BitVec 16
  deriving DecidableEq, Repr

/-- A defined signal (R277, R281). -/
structure Signal where
  id    : Nat
  bytes : List Byte
  value : BitVec 40
  flags : Byte
  age   : BitVec 16
  deriving DecidableEq, Repr

/-- A bundle that has been set (R283, R284). -/
structure Bundle where
  id      : Nat
  header  : List Byte
  members : List (BitVec 16)
  /-- sheets since the last occasion, none before the first -/
  since   : Option Nat
  /-- VALUE and FLAGS last sent, per member in order -/
  sent    : List (BitVec 40 × Byte)
  resend  : Bool
  deriving DecidableEq, Repr

/-- What a scan line's activity is doing (R273 to R276): a SEND or POLL with its template, a POLL while it awaits its reply. -/
inductive ScanMode where
  | listen (first : Option Nat) | send (template : Nat) | poll (template reply : Nat) (awaiting : Bool)
  deriving DecidableEq, Repr

/-- One scan line. -/
structure ScanLine where
  /-- SCAN_CFG (R264 Table 11.1), 40 bits; reset 0x10_0C40_2710; Rest kept -/
  cfg     : R40 := 0x100C402710
  /-- A change of SCAN_CFG waiting for its instant (R264), and whether a sheet boundary has passed; reset none -/
  cfgNext : Option (R40 × Bool) := none
  /-- SCAN_CAL (R202 Table 8.4), 40 bits; reset 0x5E_0000_0000; Rest: THRESH and ADAPT kept, the rest reset -/
  cal     : R40 := 0x5E00000000
  /-- A threshold a host wrote while ADAPT is 0, taken by the next SCAL line (R202); reset none -/
  calNext : Option R40 := none
  /-- V_IDLE and V_MID have been measured (R201), 2 × 1 bit; reset 0 -/
  haveIdle : Bool := false
  haveMid : Bool := false
  /-- The line's activity and the template being sent (R273 to R276); reset none -/
  act     : Option ScanMode := none
  /-- The activity that ended last, which judges a frame its end has cut (R269, R276); reset none -/
  ended   : Option ScanMode := none
  /-- The driver is enabled (R265), 1 bit; reset 0 -/
  driver  : Bool := false
  /-- Spine time at which the last bit of the frame being sent ends (R265, R288); reset none -/
  sendEnds : Option Nat := none
  /-- Spine time at which the driver's hold of TURN bit times ends (R265); reset 0 -/
  turnEnds : Nat := 0
  /-- Bytes of the last frame begun on the wire (R274), the model's own field (entry 9); reset none -/
  sent    : List Byte := []
  /-- Bits of that frame and of the driver's hold on the wire, first sent first, mark true (R266, R268), the model's own field (entry 9); reset none -/
  wire    : List Bool := []
  /-- Spine time of the threshold's last move by 1 LSB (R192); reset none -/
  calMoved : Option Stamp := none
  /-- The eight counters of R288 in order, 8 × 40 bits; reset 0; Rest kept -/
  counts  : Vector R40 8 := Vector.replicate 8 0
  deriving DecidableEq, Repr

/-- A definition written by command that waits for the sheet boundary (R285). -/
inductive NewDef where
  | template (id : Nat) (bytes : List Byte)
  | signal (id : Nat) (bytes : List Byte)
  | bundle (id : Nat) (header : List Byte) (members : List (BitVec 16))
  deriving DecidableEq, Repr

/-- The scan engine. -/
structure Scan where
  /-- The four scan lines (R264) -/
  lines     : Vector ScanLine 4 := Vector.replicate 4 {}
  /-- The templates of KIND 1 to 3 (R270), 128 × 64 bytes; reset all KIND 0; Rest kept -/
  templates : List Template := []
  /-- The defined signals (R277, R281), 512 × 16 bytes with VALUE, FLAGS and AGE; reset none defined; Rest kept -/
  signals   : List Signal := []
  /-- The bundles (R283), 64 × 144 bytes with their last-sent values; reset none enabled; Rest kept -/
  bundles   : List Bundle := []
  /-- Definitions waiting for the sheet boundary, oldest first (R285); reset none -/
  newDefs   : List NewDef := []
  /-- The staging area of TEMPLATE_SET PART 1: template and bytes 32 to 63 (R377); reset none -/
  staged    : Option (Nat × List Byte) := none
  /-- Members staged by BUNDLE_MEMBERS: bundle, index, signal (R378); reset none -/
  members   : List (Nat × Nat × BitVec 16) := []
  deriving DecidableEq, Repr

/-! ### The store -/

/-- The configuration that CONFIG_SAVE snapshots and a start applies (R387, R430). -/
structure StoredConfig where
  mgtCfg   : R40
  attnMask : R40
  wdog     : R40
  timeCfg  : R40
  delays   : Vector Int 5
  ptpIp    : BitVec 32
  svcMode  : Fin 4
  etype    : BitVec 16
  sessions : Vector (Option Mac × Vector Nat 4 × BitVec 16 × BitVec 16) 4
  venCfg   : R40
  base     : Vector R40 16
  win      : Vector R40 16
  mst      : R40
  irq      : R40
  up       : R40
  scanCfg  : Vector R40 4
  templates : List (Nat × List Byte)
  signals  : List (Nat × List Byte)
  bundles  : List (Nat × List Byte × List (BitVec 16))
  pathT    : Vector (BitVec 16) 4
  restT    : BitVec 24
  charger  : BitVec 4
  txeq     : Vector (Vector R40 4) 32
  pcieCfg  : Vector R40 4
  bpCfg    : Vector R40 4
  lineCfg  : Vector R40 4
  pathCfg  : Vector R40 4
  pinLat   : Vector (BitVec 32) 4
  deriving DecidableEq, Repr

/-- A firmware bank and its commit record (R433). `runs` says whether the image's CRC matches and Gulcy signals its
start; it is a fact of the flash's contents. -/
structure Bank where
  valid : Bool
  seq   : BitVec 32
  len   : Nat
  crc   : BitVec 32
  deriving DecidableEq, Repr

/-- A Mould slot: its image and whether its commit record is valid (R70, R433). -/
structure Slot where
  valid : Bool := false
  image : Mem := []
  len   : Nat := 0
  deriving DecidableEq, Repr

/-- A configuration copy: its header's validity and sequence number, and its contents (R387, R433). -/
structure Copy where
  valid : Bool := false
  seq   : BitVec 32 := 0
  data  : Option StoredConfig := none
  deriving DecidableEq, Repr

/-- The store in progress: what it writes and the steps it has made (R386 to R388). -/
inductive StoreJob where
  | mould (slot : Fin 2) (image : Mem) (len : Nat) (made : Nat)
  | config (copy : Fin 2) (data : Option StoredConfig) (made : Nat)
  | fwErase (bank : Bool) (len : Nat) (crc : BitVec 32) (made : Nat)
  | fwOpen (bank : Bool) (len : Nat) (crc : BitVec 32) (received : Nat) (programmed : Nat) (made : Nat) (sum : BitVec 32)
      (committing : Bool) (readBack : Nat) (recording : Bool)
  deriving DecidableEq, Repr

/-- One written page of the persistent log: its place among the 1024 pages, and its entries (R437). -/
structure LogPage where
  place   : Nat
  entries : List EventEntry
  deriving DecidableEq, Repr

/-- The flash and the store controller. -/
structure Store where
  /-- Banks A and B (R388, R433); reset: A valid with sequence 1, B invalid (DESIGN CHOICE, entry 4) -/
  banks   : Vector Bank 2 := #v[{ valid := true, seq := 1, len := 2097152, crc := 0 }, { valid := false, seq := 0, len := 0, crc := 0 }]
  /-- The two Mould slots (R70); reset both invalid (DESIGN CHOICE, entry 4) -/
  slots   : Vector Slot 2 := Vector.replicate 2 {}
  /-- The two configuration copies (R387); reset both invalid (DESIGN CHOICE, entry 4) -/
  copies  : Vector Copy 2 := Vector.replicate 2 {}
  /-- EUI-48 of the identity store (R206, R432), 48 bits; 02-00-00-00-00-01 (DESIGN CHOICE, entry 4) -/
  eui48   : Mac := 0x020000000001
  /-- EUI-64 (R164, R432), 64 bits; 02-00-00-FF-FE-00-00-01 (DESIGN CHOICE, entry 4) -/
  eui64   : BitVec 64 := 0x020000FFFE000001
  /-- Serial number (R365, R432), 8 bytes; eight ASCII zeros (DESIGN CHOICE, entry 4) -/
  serial  : List Byte := List.replicate 8 0x30
  /-- Production stamp (R365, R432), 80 bits; 0 (DESIGN CHOICE, entry 4) -/
  made    : Stamp := 0
  /-- Production calibration of the delay from a direction's detectors to the balls, by lane side (R175), 0.25 ps; 0 (DESIGN CHOICE, entry 4) -/
  pinCal  : Vector Int 32 := Vector.replicate 32 0
  /-- A valid copy of the identity exists (R428, R432); true (DESIGN CHOICE, entry 4) -/
  identOk : Bool := true
  /-- The RAM image (R68, R360), 163 840 bytes; reset empty, bytes reading 0 (DESIGN CHOICE, entry 3); Rest lost -/
  ram     : Mem := []
  /-- Loaded length of the RAM image (R360), 24 bits; reset 0; Rest lost -/
  ramLen  : Nat := 0
  /-- The store in progress (R386); reset none -/
  job     : Option StoreJob := none
  /-- Written pages of the persistent log, oldest first (R437, R439); reset none (DESIGN CHOICE, entry 4) -/
  log     : List LogPage := []
  /-- Place of the next page, 0 to 1023 (R438); reset 0 (DESIGN CHOICE, entry 4) -/
  logAt   : Nat := 0
  /-- PSEQ of the next page (R437), 32 bits; reset 1 (DESIGN CHOICE, entry 4) -/
  pseq    : BitVec 32 := 1
  /-- The sector after the write position has still to be erased, steps made (R438); reset none -/
  erasing : Option Nat := none
  /-- Entries staged in the AO domain, oldest first, at most 56 (R438); reset none; kept with valid AO memory -/
  staged  : List EventEntry := []
  /-- Nanoseconds the oldest staged entry has waited (R438); reset 0 -/
  stageNs : Nat := 0
  /-- Steps made of the log page being written (R438); reset none -/
  paging  : Option Nat := none
  /-- Log entries lost since 0x0B08 was last raised (R438); reset 0 -/
  logLost : Nat := 0
  deriving DecidableEq, Repr

/-! ### Power, start, thermal, charger -/

/-- Device states of Table 16.3 (R403), with the two forms of HELD told apart by `released`. -/
inductive DevState where
  | off | held | boot | run | rest
  deriving DecidableEq, Repr

/-- The end record of the AO domain (R421). -/
structure EndRecord where
  /-- 1 lockout, 2 thermal shutdown, 3 RESET_N, 4 DEVICE_RESET -/
  cause   : BitVec 3
  stamp   : Stamp
  tj      : BitVec 10
  vin     : BitVec 16
  /-- structure being stored, 0 none, as event 0x0B05 codes it -/
  storing : Byte
  sweep   : Bool
  deriving DecidableEq, Repr

/-- How far a REST entry has come (R411, R412). -/
inductive RestPhase where
  | none | saving | committed
  deriving DecidableEq, Repr

/-- The AO domain: power controller, wake logic, supply, charger, thermal monitor. -/
structure Power where
  /-- Device state (R403 Table 16.3); reset HELD before reset release (entry 5) -/
  dev       : DevState := .held
  /-- Switched domains D01 to D50, index i − 1 (R400), 50 × 1 bit; reset all off -/
  domains   : Vector Bool 50 := Vector.replicate 50 false
  /-- Clock absent under R36 of each island number of R35, 64 × 1 bit; reset 0 -/
  absent    : Vector Bool 64 := Vector.replicate 64 false
  /-- Absent-crossing counters by island number (R45), 64 × 40 bits; reset 0; Rest kept (AO) -/
  crossings : Vector R40 64 := Vector.replicate 64 0
  /-- REST_T in ms (R382), 24 bits; reset 0; Rest kept (AO) -/
  restT     : BitVec 24 := 0
  /-- Device idle time of R407 in ns; reset 0 -/
  idleNs    : Nat := 0
  /-- REST entry in progress (R411, R412); reset none -/
  rest      : RestPhase := .none
  /-- Sheet boundaries passed in REST (R414), 40 bits; reset 0 -/
  slept     : R40 := 0
  /-- Source of the last exit from REST (R381 Table 15.8), 8 bits; reset 0 -/
  wake      : Byte := 0
  /-- Event 0x0A02 is due in the first sheet (R414), 1 bit; reset 0 -/
  exitDue   : Bool := false
  /-- Last save in µs (R381), 16 bits; reset 0 (DESIGN CHOICE, entry 2) -/
  saveUs    : BitVec 16 := 0
  /-- Last restore in µs (R381), 16 bits; reset 0 (DESIGN CHOICE, entry 2) -/
  restoreUs : BitVec 16 := 0
  /-- The copy in save memory carries its completion mark (R421, R422), 1 bit; reset 0 -/
  saved     : Bool := false
  /-- VAO has been supplied since the end of the last run (R423), 1 bit; reset 0, a power-up start -/
  aoKept    : Bool := false
  /-- AO memory was valid at the start in progress (R423, R440), 1 bit; reset 0 -/
  aoValid   : Bool := false
  /-- VAO is taken from VBAK (R398), 1 bit; reset 0 -/
  onVbak    : Bool := false
  /-- End record (R421); reset none -/
  ended     : Option EndRecord := none
  /-- RESET_N asserted (R419), 1 bit; reset 0 -/
  resetN    : Bool := false
  /-- Thermal shutdown in force (R26, R419), 1 bit; reset 0 -/
  thermal   : Bool := false
  /-- VIN has not risen above the release threshold since lockout (R419), 1 bit; reset 0 -/
  lockout   : Bool := false
  /-- A DEVICE_RESET is due: true while it waits for the TX line that carries its reply, false at the next sheet boundary (R391); reset none -/
  resetDue  : Option Bool := none
  /-- Thermal warning armed (R447), 1 bit; reset 1 -/
  warnArmed : Bool := true
  /-- VBAK in mV at the last cell check (R381, R416), 16 bits; reset 0 (DESIGN CHOICE, entry 2) -/
  vbak      : BitVec 16 := 0
  /-- CHARGER_SET in force: CURRENT [3:2], FLOAT [1:0] (R384), 4 bits; reset 0b0100 -/
  charger   : BitVec 4 := 0b0100
  /-- CHARGER_SET waiting for the next cell check (R384); reset none -/
  chargeNext : Option (BitVec 4) := none
  /-- Charger state 0 off, 1 charging, 2 float, 3 absent (R415), 2 bits; reset 1 (DESIGN CHOICE, entry 2) -/
  charging  : Fin 4 := 1
  /-- In float, the charger sources CURRENT again until VBAK reaches FLOAT (R415), 1 bit; reset 0 -/
  topUp     : Bool := false
  /-- Banks that have failed in the start in progress (R427), 2 × 1 bit; reset 0 -/
  tried     : Vector Bool 2 := Vector.replicate 2 false
  /-- The device stays in BOOT for the rest of the run (R428), 1 bit; reset 0 -/
  stuck     : Bool := false
  deriving DecidableEq, Repr

/-- Gulcy, the service processor. -/
structure Gulcy where
  /-- Gulcy runs and executes WORK lines (R331, R427), 1 bit; reset 0 -/
  running : Bool := false
  /-- Commands unreplied at a service-processor reset, to be answered first (R331), 1 bit; reset 0 -/
  revive  : Bool := false
  deriving DecidableEq, Repr

/-! ### Test, telemetry, boundary scan -/

/-- Loop-backs of LOOP_SET, user patterns, telemetry and the TAP. -/
structure Test where
  /-- Depth of the service-port loop-back (R459), 0 to 2; reset 0 -/
  loopSvc  : Fin 3 := 0
  /-- Depth of the Veneer loop-back (R459), 0 to 2; reset 0 -/
  loopVen  : Fin 3 := 0
  /-- Scan echo of each line (R459), 4 × 1 bit; reset 0 -/
  echo     : Vector Bool 4 := Vector.replicate 4 false
  /-- Sync chain loop (R459), 1 bit; reset 0 -/
  loopSync : Bool := false
  /-- User patterns 0 to 3 (R458); reset one word 0xAA_AAAA_AAAA each; Rest reset -/
  patterns : Vector (List R40) 4 := Vector.replicate 4 [0xAAAAAAAAAA]
  /-- Stamp of the last TELEM line (R393), 80 bits; reset 0 -/
  telemAt  : Stamp := 0
  /-- Last sample of each channel, 0 if never sampled (R396), 16 × 16 bits; reset 0 -/
  telem    : Vector (BitVec 16) 16 := Vector.replicate 16 0
  /-- Channels sampled since reset (R393), 16 bits; reset 0 -/
  telemHas : BitVec 16 := 0
  /-- TAP instruction register (R463), 8 bits; reset IDCODE 0x01 -/
  tapIr    : Byte := 0x01
  /-- The boundary register holds the balls (R464), 1 bit; reset 0 -/
  tapBalls : Bool := false
  /-- The boundary register holds a sampled or preloaded value (R463), 1 bit; reset 0 (DESIGN CHOICE, entry 2) -/
  tapLoaded : Bool := false
  deriving DecidableEq, Repr

/-! ### The machine -/

/-- The whole state of the block and the queue of commands that wait. -/
structure State where
  /-- Window registers (R310, R311) -/
  win   : Window := {}
  /-- Two-wire target (R289 to R309) -/
  tw    : TwoWire := {}
  /-- Mailbox memory, commands in flight, event machinery (R314 to R323, R441) -/
  mbx   : Mailbox := {}
  /-- The 32 lane sides, 2 × lane + side (R340) -/
  sides : Vector Side 32 := Vector.replicate 32 {}
  /-- The 16 lanes, 4p + l (R14) -/
  lanes : Vector Lane 16 := Vector.replicate 16 {}
  /-- The four paths (R89) -/
  paths : Vector Path 4 := Vector.replicate 4 {}
  /-- TIME island (R155) -/
  time  : TimeIsl := {}
  /-- Sequencer (R40) -/
  seq   : Seqr := {}
  /-- Sweep plan and results (R181) -/
  sweep : Sweep := {}
  /-- Service port and Dovetail (R204) -/
  svc   : Bridge := {}
  /-- Veneer logic (R239) -/
  ven   : Veneer := {}
  /-- Scan engine (R264) -/
  scan  : Scan := {}
  /-- Flash, RAM image and store controller (R432) -/
  store : Store := {}
  /-- AO domain (R400) -/
  pow   : Power := {}
  /-- Service processor (R331) -/
  cpu   : Gulcy := {}
  /-- Test, telemetry, TAP (R393, R452, R463) -/
  test  : Test := {}
  /-- The model's own field: how many open values have been used, the argument of Config.freeNat and Config.freeInt (entry 1); 0 at reset (DESIGN CHOICE) -/
  free  : Nat := 0
  /-- The commands that wait, first in first out; empty at reset -/
  pending : List Instr := []
  deriving DecidableEq, Repr

/-- The device right after reset: HELD, every register at the reset value of its rule or of the log entry its field
names, memories listing nothing, no command waiting. `RESET_RELEASE` is the first thing that happens to it. -/
def State.reset : State := {}

/-- Why a step stops with a fault. No meaning of this model raises it: every command and event of the table has an
effect, or finds nothing to act on and changes nothing (log entry 6). It is safe: nothing is claimed from it. -/
inductive Fault where
  /-- kept so that the type is a closed inductive with a name; no meaning raises it (safe) -/
  | none
  deriving DecidableEq, Repr

/-- Why a step has no answer. -/
inductive Refusal where
  /-- the command named by its mnemonic has no meaning yet; raised by `exec` alone (safe) -/
  | notModelled (mnemonic : String)
  deriving DecidableEq, Repr

end Sys2Proof.Machine
end

