-- ==== Sys2Proof/Machine/Bits.lean ====
section
/-! DEFINITION. Bit fields, byte order, rounding and check codes: the helpers every meaning uses. -/

namespace Sys2Proof.Machine

/-- Bits [hi:lo] of a register, as a number. -/
def fld {w : Nat} (r : BitVec w) (hi lo : Nat) : Nat := r.toNat / 2 ^ lo % 2 ^ (hi + 1 - lo)

/-- One bit of a register. -/
def bit {w : Nat} (r : BitVec w) (i : Nat) : Bool := r.toNat / 2 ^ i % 2 == 1

/-- A two's complement field of `n` bits as a signed number. -/
def signedOf (n v : Nat) : Int := if 2 * (v % 2 ^ n) < 2 ^ n then (v % 2 ^ n : Nat) else (v % 2 ^ n : Nat) - (2 ^ n : Nat)

/-- A signed number as a field of `n` bits. -/
def fieldOf (n : Nat) (v : Int) : Nat := (v % (2 ^ n : Nat)).toNat

/-- Bits [hi:lo] of a register as a signed number. -/
def sfld {w : Nat} (r : BitVec w) (hi lo : Nat) : Int := signedOf (hi + 1 - lo) (fld r hi lo)

/-- The register with bits [hi:lo] replaced. -/
def setFld {w : Nat} (r : BitVec w) (hi lo v : Nat) : BitVec w :=
  BitVec.ofNat w (r.toNat - fld r hi lo * 2 ^ lo + v % 2 ^ (hi + 1 - lo) * 2 ^ lo)

/-- A register put together from (value, lowest bit) pairs. -/
def pack (w : Nat) (fs : List (Nat × Nat)) : BitVec w := BitVec.ofNat w (fs.foldl (fun a p => a + p.1 * 2 ^ p.2) 0)

/-- A flag as a number. -/
def b2n (b : Bool) : Nat := if b then 1 else 0

/-- One more, staying at the largest value (R445). -/
def satInc {w : Nat} (c : BitVec w) : BitVec w := if c = BitVec.allOnes w then c else c + 1

/-- `n` more, staying at the largest value (R445). -/
def satAdd {w : Nat} (c : BitVec w) (n : Nat) : BitVec w := BitVec.ofNat w (min (c.toNat + n) (2 ^ w - 1))

/-- A number as a field of `w` bits that saturates. -/
def satNat (w n : Nat) : BitVec w := BitVec.ofNat w (min n (2 ^ w - 1))

/-- A signed number held between two ends. -/
def clampI (lo hi v : Int) : Int := max lo (min hi v)

/-- Quotient rounded to the nearest, halves away from zero (R279). -/
def roundDiv (a b : Int) : Int :=
  let n := if b < 0 then -a else a
  let d := if b < 0 then -b else b
  if d = 0 then 0 else if 0 ≤ n then (2 * n + d) / (2 * d) else -((2 * -n + d) / (2 * d))

/-- `n` bytes, most significant first (R7). -/
def be : Nat → Nat → List Byte
  | 0, _ => []
  | n + 1, v => BitVec.ofNat 8 (v / 256 ^ n) :: be n v

/-- The number that bytes spell, most significant first (R7). -/
def ofBe (bs : List Byte) : Nat := bs.foldl (fun a b => a * 256 + b.toNat) 0

/-- `n` bytes from offset `o`, zero where the list ends. -/
def slice (bs : List Byte) (o n : Nat) : List Byte :=
  let t := (bs.drop o).take n
  t ++ List.replicate (n - t.length) 0

/-- The number in `n` bytes from offset `o` (R7). -/
def num (bs : List Byte) (o n : Nat) : Nat := ofBe (slice bs o n)

/-- The 40-bit register image at offset `o` (R342). -/
def img (bs : List Byte) (o : Nat) : R40 := BitVec.ofNat 40 (num bs o 5)

/-- The five bytes of a register image, [39:32] first (R7). -/
def imgBytes (r : R40) : List Byte := be 5 r.toNat

/-- The ten bytes of a stamp (R9). -/
def stampBytes (t : Stamp) : List Byte := be 10 t.toNat

/-- A signed number in `n` bytes. -/
def sbe (n : Nat) (v : Int) : List Byte := be n (fieldOf (8 * n) v)

/-- One byte. -/
def by1 (n : Nat) : Byte := BitVec.ofNat 8 n

/-- A list of bytes padded with zeros to a multiple of four (R216). -/
def pad4 (bs : List Byte) : List Byte := bs ++ List.replicate ((4 - bs.length % 4) % 4) 0

/-- One element of a register file replaced. -/
def vmod {α : Type} {n : Nat} (v : Vector α n) (i : Fin n) (f : α → α) : Vector α n := v.set i.val (f v[i]) i.isLt

/-- An element of a register file by a number, the file's first element where the number is out of range. -/
def vget {α : Type} {n : Nat} [NeZero n] (v : Vector α n) (i : Nat) : α := v[Fin.ofNat n i]

/-- One element of a register file replaced by number; nothing where the number is out of range. -/
def vmodN {α : Type} {n : Nat} (v : Vector α n) (i : Nat) (f : α → α) : Vector α n :=
  if h : i < n then v.set i (f v[i]) h else v

/-- One step of a CRC with the top bit first. -/
def crcStepL (w poly acc : Nat) : Nat := if acc / 2 ^ (w - 1) % 2 = 1 then (acc * 2 % 2 ^ w) ^^^ poly else acc * 2 % 2 ^ w

/-- One step of a reflected CRC. -/
def crcStepR (poly acc : Nat) : Nat := if acc % 2 = 1 then (acc / 2) ^^^ poly else acc / 2

/-- A function applied `n` times. -/
def times {α : Type} (f : α → α) : Nat → α → α
  | 0, a => a
  | n + 1, a => times f n (f a)

/-- The SMBus CRC-8 of R303 and R169: polynomial 0x07, initial 0, not reflected. -/
def crc8 (bs : List Byte) : Byte :=
  by1 (bs.foldl (fun a b => times (crcStepL 8 0x07) 8 (a ^^^ b.toNat)) 0)

/-- The running register of the CRC-32 of R66 after more bytes: polynomial 0x04C1_1DB7 reflected. -/
def crc32Run (acc : Nat) (bs : List Byte) : Nat :=
  bs.foldl (fun a b => times (crcStepR 0xEDB88320) 8 (a ^^^ b.toNat)) acc

/-- CRC-32 of R66 over some bytes. -/
def crc32 (bs : List Byte) : Nat := crc32Run 0xFFFFFFFF bs ^^^ 0xFFFFFFFF

/-- A reflected CRC-16 with a given polynomial and initial value. -/
def crc16R (poly init : Nat) (bs : List Byte) : Nat :=
  bs.foldl (fun a b => times (crcStepR poly) 8 (a ^^^ b.toNat)) init

/-- A CRC-16 with the top bit first. -/
def crc16L (poly init : Nat) (bs : List Byte) : Nat :=
  bs.foldl (fun a b => times (crcStepL 16 poly) 8 (a ^^^ (b.toNat * 256))) init

/-- sum8 of R270. -/
def sum8 (bs : List Byte) : Byte := bs.foldl (fun a b => a + b) 0

/-- The numbers below `n`, rising. -/
def upto (n : Nat) : List Nat := List.range n

/-- Fold a function over the four paths. -/
def forPaths (s : State) (f : State → PathId → State) : State := (List.finRange 4).foldl f s

/-- Fold a function over the 16 lanes. -/
def forLanes (s : State) (f : State → LaneId → State) : State := (List.finRange 16).foldl f s

/-- Fold a function over the 32 lane sides. -/
def forSides (s : State) (f : State → SideId → State) : State := (List.finRange 32).foldl f s

/-- Fold a function over the four sessions. -/
def forSessions (s : State) (f : State → SessionId → State) : State := (List.finRange 4).foldl f s

end Sys2Proof.Machine
end

