-- ==== Sys2Proof/Machine/Memory.lean ====
section
/-! DEFINITION. A memory as a list of (address, byte) pairs in one canonical form: addresses strictly rising, no zero byte
listed, so that equal memories are equal lists. An address that is not listed reads as 0 (log entry 3). -/

namespace Sys2Proof.Machine

/-- The byte at an address. -/
def Mem.read : Mem → Nat → Byte
  | [], _ => 0
  | (k, v) :: t, a => if k = a then v else Mem.read t a

/-- A byte written; writing 0 removes the entry. -/
def Mem.write : Mem → Nat → Byte → Mem
  | [], a, b => if b = 0 then [] else [(a, b)]
  | (k, v) :: t, a, b =>
    if a < k then (if b = 0 then (k, v) :: t else (a, b) :: (k, v) :: t)
    else if a = k then (if b = 0 then t else (a, b) :: t)
    else (k, v) :: Mem.write t a b

/-- Bytes written at rising addresses. -/
def Mem.writeAll : Mem → Nat → List Byte → Mem
  | m, _, [] => m
  | m, a, b :: t => Mem.writeAll (Mem.write m a b) (a + 1) t

/-- `n` bytes from an address. -/
def Mem.readAll (m : Mem) (a n : Nat) : List Byte := (upto n).map fun i => Mem.read m (a + i)

/-- Every entry lies at or above an address, addresses strictly rising, no zero byte. -/
def Mem.wfFrom : Nat → Mem → Bool
  | _, [] => true
  | lo, (k, v) :: t => decide (lo ≤ k) && decide (v ≠ 0) && Mem.wfFrom (k + 1) t

/-- The canonical form. -/
def Mem.wf (m : Mem) : Bool := Mem.wfFrom 0 m

end Sys2Proof.Machine
end

