-- ==== Sys2Proof/Machine/Loader.lean ====
section
/-! DEFINITION. Mould images: windows and token spacing (R40, R41, R59), parsing (R63 to R65), the loader's ordered checks
(R69, R502, R504) and the base Mould (R67). -/

namespace Sys2Proof.Machine

/-- The quotient rounded up. -/
def ceilDiv (a b : Nat) : Nat := (a + b - 1) / b

/-- Start window in ticks of a path mode at a rate in kb/s, Table 2.3; 0 for a path that is off (R41). -/
def pathWindow (mode rate : Nat) : Nat :=
  match mode with
  | 1 => 6
  | 2 => 4
  | 3 => 10
  | 4 => 5
  | 5 => ceilDiv (80800000000 + 10000 * rate) (8000 * rate)
  | 6 => 4
  | _ => 0

/-- Start window in ticks of a service-port mode, Table 2.3. -/
def svcWindow (mode : Nat) : Nat := if mode = 0 then 0 else if mode = 2 then 3 else 4

/-- Token spacing S of a path, Table 3.3 (R59). -/
def pathSpacing (mode rate : Nat) : Nat :=
  match mode with
  | 1 => 13
  | 2 => 9
  | 3 => 21
  | 4 => 11
  | 5 => ceilDiv (161600000 + 36 * rate) (8 * rate)
  | _ => 9

/-- The sixteen values of n, Table 3.1 (R49). -/
def sheetNs : List Nat := [1, 2, 4, 5, 8, 10, 16, 20, 25, 32, 40, 50, 64, 80, 100, 125]

/-- L, the nominal length of a sheet in ticks (R49). -/
def ticksOf (n : Nat) : Nat := 15625 * n

/-- The table an action stands in, Table 3.2: 0 CORE, 1 any path, 5 VEN, 6 SCAN, 7 SVC, 8 TIME; 9 for no action. -/
def actionTable (a : Nat) : Nat :=
  if 0x10 ≤ a ∧ a ≤ 0x14 then 0
  else if 0x60 ≤ a ∧ a ≤ 0x67 then 1
  else if 0x40 ≤ a ∧ a ≤ 0x43 then 5
  else if 0x50 ≤ a ∧ a ≤ 0x53 then 6
  else if a = 0x30 then 7
  else if 0x20 ≤ a ∧ a ≤ 0x22 then 8
  else 9

/-- Capacity of a table, Table 3.4 (R62). -/
def tableCap (t : Nat) : Nat :=
  match t with
  | 0 => 4096
  | 5 => 2048
  | 6 => 1024
  | 8 => 256
  | _ => 512

/-- An action carried out by the power controller in AO (R56). -/
def powerAction (a : Nat) : Bool := a == 0x14 || a == 0x66 || a == 0x67

/-- The lane a TRIM line names; 0xFF names none in particular (log entry 20). -/
def trimLane (a target : Nat) : Option Nat := if a = 0x11 ∧ target < 16 then some target else none

/-- The window a line is judged with: the largest among its destinations. A TRIM line that names a lane has that lane's path
among them (R57, R75). -/
def lineWindow (m : Mould) (t a target : Nat) : Nat :=
  if powerAction a then 35
  else match t with
    | 0 => match trimLane a target with
      | some l => max 3 (pathWindow (vget m.modes (l / 4)) (vget m.rates (l / 4)))
      | none => 3
    | 5 => 4
    | 6 => 4
    | 7 => svcWindow m.svcMode
    | 8 => 0
    | _ => pathWindow (vget m.modes (t - 1)) (vget m.rates (t - 1))

/-- Ones in a number below 2^16. -/
def ones16 (v : Nat) : Nat := ((upto 16).filter fun i => v / 2 ^ i % 2 == 1).length

/-- W of an action in ticks, Table 3.2. -/
def actionW (m : Mould) (a operand : Nat) : Nat :=
  match a with
  | 0x10 => 1250
  | 0x11 => 1250
  | 0x12 => 125 + 250 * ones16 operand
  | 0x13 => 12500
  | 0x14 => 8750
  | 0x20 => 250
  | 0x21 => 125
  | 0x22 => 1250
  | 0x30 => if m.svcMode = 2 then 155 else 1539
  | 0x40 => 250
  | 0x41 => 250
  | 0x42 => 63
  | 0x43 => 1250
  | 0x50 => 250
  | 0x51 => 250
  | 0x52 => 250
  | 0x53 => 1250
  | 0x63 => 250
  | 0x66 => 12500
  | 0x67 => 25000
  | _ => 125

/-- A select of Table 19.2, bit 7 set or clear (R455). -/
def patternOk (v : Nat) : Bool := v < 256 && (v % 128 ≤ 8 || (0x10 ≤ v % 128 && v % 128 ≤ 0x13))

/-- TARGET within what Table 3.2 gives for the action (R504). -/
def targetOk (a t : Nat) : Bool :=
  match a with
  | 0x11 => t < 16 || t == 0xFF
  | 0x30 => t < 16
  | 0x40 => t < 4 || t == 0x0F
  | 0x41 => 0 < t && t < 16
  | 0x50 => t < 4
  | 0x51 => t < 4
  | 0x52 => t < 4
  | 0x53 => t < 4
  | 0x60 => 0 < t
  | 0x61 => 0 < t
  | 0x62 => 0 < t
  | 0x63 => 0 < t
  | 0x64 => 0 < t
  | 0x65 => 0 < t
  | _ => t == 0

/-- OPERAND within what Table 3.2 gives for the action (R504, R181). -/
def operandOk (a o : Nat) : Bool :=
  match a with
  | 0x12 => 0 < o && o < 65536
  | 0x50 => o < 128
  | 0x52 => o < 128
  | 0x62 => o < 256 || o == 0xFFFF
  | 0x64 => patternOk o
  | 0x65 => o ≤ 4
  | _ => o == 0

/-- A line record as it stands in the image, with its raw FLAGS and its whole 40-bit operand. -/
structure RawLine where
  line  : Line
  flags : Nat
  oper  : Nat

/-- The 16-byte line record at an offset (R65). -/
def parseLine (bs : List Byte) : RawLine :=
  { line :=
      { start := num bs 0 3, duration := num bs 3 3, action := num bs 6 1, target := by1 (num bs 7 1)
        period := num bs 8 1, phase := num bs 9 1, second := num bs 10 1 % 2 == 1
        cont := num bs 10 1 / 2 % 2 == 1, operand := BitVec.ofNat 32 (num bs 11 5) }
    flags := num bs 10 1
    oper := num bs 11 5 }

/-- `n` line records from a byte list. -/
def parseLines : Nat → List Byte → List RawLine
  | 0, _ => []
  | n + 1, bs => parseLine bs :: parseLines n (bs.drop 16)

/-- An offence: reason, table byte, line index (R69). -/
structure Offence where
  reason : Byte
  table  : Byte
  index  : BitVec 16
  deriving DecidableEq, Repr

/-- An offence in the header. -/
def headOff (r : Nat) : Offence := ⟨by1 r, 0xFF, 0xFFFF⟩
/-- An offence of a table that lies in no single line. -/
def tabOff (r t : Nat) : Offence := ⟨by1 r, by1 t, 0xFFFF⟩
/-- An offence of a line. -/
def lineOff (r t i : Nat) : Offence := ⟨by1 r, by1 t, BitVec.ofNat 16 i⟩

/-- A PATH_DECL pair of Table 3.6 (R64). -/
def declOk (mode rate : Nat) : Bool :=
  match mode with
  | 0 => rate == 0
  | 1 => rate == 2500000
  | 2 => rate == 10312500
  | 3 => rate == 1250000
  | 4 => rate == 3125000
  | 5 => 1000000 ≤ rate && rate ≤ 32000000
  | 6 => 50000 ≤ rate && rate ≤ 1000000
  | _ => false

/-- LINE_COUNT of a table in the header. -/
def lineCount (h : List Byte) (t : Nat) : Nat := num h (56 + 2 * t) 2

/-- Lines before a table in the image. -/
def linesBefore (h : List Byte) (t : Nat) : Nat := ((upto t).map (lineCount h)).sum

/-- The reserved header bytes of Table 3.5 are zero. -/
def headerReservedOk (h : List Byte) : Bool :=
  num h 6 2 == 0 && num h 10 2 == 0 && num h 34 2 == 0 && num h 74 22 == 0

/-- Step 2 of R502: the header, given the bytes and how many are loaded. -/
def checkHeader (bs : List Byte) (loaded : Nat) : Option Offence :=
  let len := num bs 12 4
  if num bs 0 4 ≠ 0x4D4F554C then some (headOff 0x01)
  else if num bs 4 1 ≠ 3 then some (headOff 0x02)
  else if num bs 5 1 ≠ 96 ∨ num bs 16 2 = 0 ∨ headerReservedOk bs = false then some (headOff 0x01)
  else if len ≠ 100 + 16 * linesBefore bs 9 ∨ 159844 < len ∨ loaded < len then some (headOff 0x03)
  else if crc32 (bs.take (len - 4)) ≠ num bs (len - 4) 4 then some (headOff 0x04)
  else if sheetNs.contains (num bs 8 1) = false then some (headOff 0x05)
  else if 3 < num bs 9 1 then some (headOff 0x06)
  else if (upto 4).any (fun p => declOk (num bs (36 + 5 * p) 1) (num bs (37 + 5 * p) 4) == false) then some (headOff 0x06)
  else
    match (upto 9).find? (fun t =>
      tableCap t < lineCount bs t
        || (0 < lineCount bs t && (1 ≤ t && t ≤ 4) && num bs (36 + 5 * (t - 1)) 1 == 0)
        || (0 < lineCount bs t && t == 7 && num bs 9 1 == 0)) with
    | some t => some (tabOff 0x07 t)
    | none => none

/-- The raw lines of the nine tables in order. -/
def rawTables (bs : List Byte) : List (Nat × List RawLine) :=
  (upto 9).map fun t => (t, parseLines (lineCount bs t) (bs.drop (96 + 16 * linesBefore bs t)))

/-- The image as the sequencer holds it. -/
def toMould (bs : List Byte) : Mould :=
  { imageId := BitVec.ofNat 32 (num bs 20 4), sheetN := num bs 8 1, svcMode := num bs 9 1
    modes := Vector.ofFn fun p : Fin 4 => num bs (36 + 5 * p.val) 1
    rates := Vector.ofFn fun p : Fin 4 => num bs (37 + 5 * p.val) 4
    tables := Vector.ofFn fun t : Fin 9 =>
      (parseLines (lineCount bs t.val) (bs.drop (96 + 16 * linesBefore bs t.val))).map RawLine.line }

/-- Longest duration of an action in ticks, Table 3.2. -/
def longest (a l : Nat) : Nat := if a = 0x40 ∨ a = 0x41 ∨ a = 0x43 then 125000 else l

/-- Step 3 of R502 on one line: the first reason of 0x08 to 0x0D that applies. -/
def checkLine (m : Mould) (t : Nat) (prev : Option Nat) (r : RawLine) : Option Nat :=
  let l := r.line
  let a := l.action
  let len := ticksOf m.sheetN
  let w := lineWindow m t a l.target.toNat
  if actionTable a ≠ (if 1 ≤ t ∧ t ≤ 4 then 1 else t) ∨ (a = 0x61 ∧ vget m.modes (t - 1) ≠ 5) then some 0x08
  else if targetOk a l.target.toNat = false ∨ operandOk a r.oper = false ∨ 8 < l.period ∨ 2 ^ l.period ≤ l.phase
      ∨ 3 < r.flags ∨ (l.second = true ∧ (t ≠ 8 ∨ l.period ≠ 0 ∨ l.phase ≠ 0))
      ∨ (l.cont = true ∧ ¬ (0x50 ≤ a ∧ a ≤ 0x52)) then some 0x09
  else if l.duration = 0 ∨ longest a len < l.duration then some 0x0A
  else if (match prev with | some p => decide (l.start < p) | none => false) then some 0x0B
  else if len ≤ l.start ∨ len < l.start + l.duration + w + 4 then some 0x0C
  else if l.duration < w + actionW m a r.oper then some 0x0D
  else none

/-- Step 3 of R502 on one table. -/
def checkLines (m : Mould) (t : Nat) : Nat → Option Nat → List RawLine → Option Offence
  | _, _, [] => none
  | i, prev, r :: rest =>
    match checkLine m t prev r with
    | some reason => some (lineOff reason t i)
    | none => checkLines m t (i + 1) (some r.line.start) rest

/-- A line with its table and index. -/
structure Placed where
  table : Nat
  index : Nat
  line  : Line

/-- Every line of a Mould in table-number order, then index order. -/
def placedLines (m : Mould) : List Placed :=
  ((upto 9).map fun t => (vget m.tables t).zipIdx.map fun p => { table := t, index := p.2, line := p.1 : Placed }).flatten

/-- Lane sides a mask names, as island numbers (R35, R55). -/
def maskIslands (p mask : Nat) : List Nat :=
  ((upto 8).filter fun i => mask / 2 ^ i % 2 == 1).map fun i => 32 + 8 * p + i

/-- Resources a line holds, as numbers (R55, R58). Islands stand for lane sides and path TXs. -/
def resources (x : Placed) : List Nat :=
  let p := x.table - 1
  match x.line.action with
  | 0x10 => [100]
  | 0x14 => [100]
  | 0x11 => [101]
  | 0x12 => [102]
  | 0x13 => [103]
  | 0x20 => [104]
  | 0x21 => [105]
  | 0x22 => [106]
  | 0x30 => [107]
  | 0x40 => [108]
  | 0x41 => [108]
  | 0x42 => [108]
  | 0x43 => [108]
  | 0x50 => [110 + x.line.target.toNat]
  | 0x51 => [110 + x.line.target.toNat]
  | 0x52 => [110 + x.line.target.toNat]
  | 0x53 => [120 + x.line.target.toNat]
  | 0x64 => (8 + p) :: maskIslands p x.line.target.toNat
  | 0x65 => (8 + p) :: maskIslands p x.line.target.toNat
  | 0x66 => (8 + p) :: maskIslands p 255
  | 0x67 => (8 + p) :: maskIslands p 255
  | _ => maskIslands p x.line.target.toNat

/-- The lane sides of the lane a TRIM line names, as island numbers (R45, R75). -/
def trimIslands (l : Line) : List Nat :=
  match trimLane l.action l.target.toNat with
  | some n => [32 + 2 * n, 33 + 2 * n]
  | none => []

/-- Islands a line's tokens go to (R40, R56). TIME's own lines need none; a TRIM line's also go to the lane it names. -/
def destinations (x : Placed) : List Nat :=
  let p := x.table - 1
  match x.line.action with
  | 0x14 => [0, 2]
  | 0x66 => [0]
  | 0x67 => [0]
  | 0x64 => (8 + p) :: maskIslands p x.line.target.toNat
  | 0x65 => (8 + p) :: maskIslands p x.line.target.toNat
  | 0x11 => 2 :: trimIslands x.line
  | _ => match x.table with
    | 0 => [2]
    | 5 => [5]
    | 6 => [6]
    | 7 => [4]
    | 8 => []
    | _ => maskIslands p x.line.target.toNat

/-- Two lines both run in some sheet (R58). -/
def bothRun (a b : Line) : Bool := a.phase % 2 ^ (min a.period b.period) == b.phase % 2 ^ (min a.period b.period)

/-- Some sheet in which `a` runs is followed by one in which `b` runs (R59). -/
def runNext (a b : Line) : Bool := (a.phase + 1) % 2 ^ (min a.period b.period) == b.phase % 2 ^ (min a.period b.period)

/-- Do two lists share an element. -/
def meets (a b : List Nat) : Bool := a.any b.contains

/-- R58 broken between two lines. -/
def breaks58 (a b : Placed) : Bool :=
  meets (resources a) (resources b) && bothRun a.line b.line
    && decide (a.line.start < b.line.start + b.line.duration) && decide (b.line.start < a.line.start + a.line.duration)

/-- Spacing S of an island under a Mould (R59). -/
def islandSpacing (m : Mould) (i : Nat) : Nat :=
  if i = 0 then 71
  else if i = 2 then 8
  else if i = 4 then (if m.svcMode = 2 then 8 else 9)
  else if i = 5 ∨ i = 6 then 10
  else
    let p := if 32 ≤ i then (i - 32) / 8 else i - 8
    pathSpacing (vget m.modes p) (vget m.rates p)

/-- Ticks on which a line sends tokens. -/
def tokenTicks (l : Line) : List Nat := [l.start, l.start + l.duration]

/-- Two ticks of one island too near: different and less than S apart, within a sheet or over its boundary (R59). -/
def nearTicks (m : Mould) (i : Nat) (a b : Line) : Bool :=
  let s := islandSpacing m i
  let len := ticksOf m.sheetN - 3
  (bothRun a b && (tokenTicks a).any fun x => (tokenTicks b).any fun y =>
      x != y && decide (x < y + s) && decide (y < x + s))
    || (runNext a b && (tokenTicks a).any fun x => (tokenTicks b).any fun y => decide (len + y < x + s))
    || (runNext b a && (tokenTicks b).any fun x => (tokenTicks a).any fun y => decide (len + y < x + s))

/-- More than four events for one island on one tick of some sheet, counting a line and those before it (R59). -/
def crowded (x : Placed) (before : List Placed) (i : Nat) : Bool :=
  (tokenTicks x.line).any fun tick => (upto (2 ^ x.line.period)).length != 0 &&
    (upto 256).any fun r =>
      decide (r % 2 ^ x.line.period = x.line.phase) &&
      decide (4 < ((x :: before).filter fun y =>
        (destinations y).contains i && (tokenTicks y.line).contains tick && r % 2 ^ y.line.period == y.line.phase).length)

/-- R59 broken by a line, on its own or with an earlier one. -/
def breaks59 (m : Mould) (x : Placed) (before : List Placed) : Bool :=
  (destinations x).any fun i =>
    ((x :: before).any fun y => (destinations y).contains i && nearTicks m i x.line y.line) || crowded x before i

/-- R60 broken by a CONT line, whether its predecessor stands before or after it in R502's order: the line reported is the CONT
line, DESIGN CHOICE (log entry 120). -/
def breaks60 (m : Mould) (all : List Placed) (x : Placed) : Bool :=
  if x.line.cont = false then false
  else
    let same := all.filter fun y => y.table == 6 && 0x50 ≤ y.line.action && y.line.action ≤ 0x52
      && y.line.target == x.line.target
    let ends := fun (y : Placed) => y.line.start + y.line.duration
    let pick := fun (c : List Placed) => c.foldl (fun (a : Option Placed) y =>
      match a with | none => some y | some z => if ends z ≤ ends y then some y else some z) none
    match pick (same.filter fun y => decide (ends y ≤ x.line.start) && !(y.index == x.index)) with
    | some y => !(x.line.period == 0 && y.line.period == 0 && decide (x.line.start ≤ ends y + 16))
    | none =>
      match pick same with
      | some y => !(x.line.period == 0 && y.line.period == 0 && decide (x.line.start + ticksOf m.sheetN ≤ ends y + 16))
      | none => true

/-- R61 broken: some residue without a WORK line, a WORK line too short, or too little WORK. -/
def breaks61 (m : Mould) : Bool :=
  let works := (vget m.tables 0).filter fun l => l.action == 0x10
  works.any (fun l => decide (l.duration < 1250)) ||
  (upto 256).any fun r =>
    let w := works.filter fun l => r % 2 ^ l.period == l.phase
    w.isEmpty || decide ((w.map Line.duration).sum < 3125)

/-- The first line in order that breaks a rule, given what it needs of the lines before it. -/
def firstBreak (reason : Nat) (f : Placed → List Placed → Bool) : List Placed → List Placed → Option Offence
  | _, [] => none
  | before, x :: rest =>
    if f x before then some (lineOff reason x.table x.index) else firstBreak reason f (x :: before) rest

/-- The loader's checks in the order of R502, on an image of which `loaded` bytes are present. -/
def loaderCheck (bs : List Byte) (loaded : Nat) : Option Offence :=
  if loaded < 100 then some (headOff 0x03)
  else match checkHeader bs loaded with
    | some o => some o
    | none =>
      let m := toMould bs
      match (rawTables bs).findSome? (fun p => checkLines m p.1 0 none p.2) with
      | some o => some o
      | none =>
        let all := placedLines m
        match firstBreak 0x0E (fun x before => before.any (breaks58 x)) [] all with
        | some o => some o
        | none => match firstBreak 0x0F (fun x before => breaks59 m x before) [] all with
          | some o => some o
          | none => match firstBreak 0x10 (fun x _ => breaks60 m all x) [] all with
            | some o => some o
            | none => if breaks61 m then some (tabOff 0x11 0) else none

/-- A line that runs in every sheet. -/
def plainLine (start duration action : Nat) : Line :=
  { start, duration, action, target := 0, period := 0, phase := 0, second := false, cont := false, operand := 0 }

/-- The base Mould (R67). -/
def baseMould : Mould :=
  { imageId := 0, sheetN := 8, svcMode := 1
    modes := Vector.replicate 4 5
    rates := Vector.replicate 4 1000000
    tables := #v[[plainLine 12500 37500 0x10, plainLine 75000 37500 0x10], [], [], [], [], [], [],
      (upto 62).map fun i => plainLine (2000 * i) 1600 0x30, [plainLine 0 250 0x20]] }

/-- Does a line run in a sheet (R53). -/
def runsIn (l : Line) (sheet : R40) (second : Bool) : Bool :=
  if l.second then second else sheet.toNat % 2 ^ l.period == l.phase

/-- STORE lines that run in 256 consecutive sheets: K of R362 and R390. -/
def storeLines (m : Mould) : Nat :=
  (((vget m.tables 0).filter fun l => l.action == 0x13).map fun l => 256 / 2 ^ l.period).sum

/-- CYCLE lines per 256 sheets with a target (R369). -/
def cycleLines (m : Mould) (target : Nat) : Nat :=
  (((vget m.tables 5).filter fun l => l.action == 0x40 && l.target.toNat == target).map fun l => 256 / 2 ^ l.period).sum

/-- The Mould holds a line of an action. -/
def hasAction (m : Mould) (t a : Nat) : Bool := (vget m.tables t).any fun l => l.action == a

/-- Boundary `b` of a period, as spine time: the first stamp T with 8000 × T ≥ b × n × 2^40 (R50). -/
def boundaryStamp (n b : Nat) : Nat := ceilDiv (b * n * 2 ^ 40) 8000

/-- Index of the first boundary at or after a spine time in 2^-40 s. -/
def boundaryAt (n t : Nat) : Nat := if t = 0 then 0 else 8000 * (t - 1) / (n * 2 ^ 40) + 1

end Sys2Proof.Machine
end

