-- ==== Sys2Proof/Machine/Flags.lean ====
section
/-! DEFINITION. What the state's parts read as: register views, conditions and presence. Nothing here changes the state. -/

namespace Sys2Proof.Machine

/-- Spine time as a stamp (R9). -/
def State.now (s : State) : Stamp := BitVec.ofNat 80 (s.time.spine.toNat / 2 ^ 32)

/-- Domain D`d` is on (R400). -/
def domOn (s : State) (d : Nat) : Bool := (s.pow.domains.toList.drop (d - 1)).headD false

/-- PATH_CFG.MODE (R91). -/
def pcMode (c : R40) : Nat := fld c 39 37
/-- Lanes of PATH_CFG.WIDTH (R89). -/
def pcLanes (c : R40) : Nat := if fld c 36 35 = 0 then 1 else if fld c 36 35 = 1 then 2 else 4
/-- PATH_CFG.BOND (R93). -/
def pcBond (c : R40) : Nat := fld c 34 33
/-- PATH_CFG.CLKSRC. -/
def pcClk (c : R40) : Bool := bit c 32
/-- PATH_CFG.PCLK. -/
def pcPclk (c : R40) : Nat := fld c 31 30
/-- PATH_CFG.BUF, true pinned. -/
def pcPinned (c : R40) : Bool := bit c 29
/-- PATH_CFG.FEC. -/
def pcFec (c : R40) : Bool := bit c 28
/-- PATH_CFG.SUB. -/
def pcSub (c : R40) : Nat := fld c 27 25
/-- PATH_CFG.RATE in kb/s. -/
def pcRate (c : R40) : Nat := fld c 24 0

/-- Lane of a side. -/
def laneOf (i : SideId) : LaneId := ⟨i.val / 2, by omega⟩
/-- Path of a lane. -/
def pathOfLane (l : LaneId) : PathId := ⟨l.val / 4, by omega⟩
/-- Path of a side. -/
def pathOf (i : SideId) : PathId := ⟨i.val / 8, by omega⟩
/-- Index of a side in a lane's pair: 0 near, 1 far. -/
def endOf (i : SideId) : Fin 2 := ⟨i.val % 2, by omega⟩
/-- The side of a lane: 0 near, 1 far (R340). -/
def sideOf (l : LaneId) (e : Fin 2) : SideId := ⟨2 * l.val + e.val, by omega⟩
/-- The other side of the lane, whose transmitter carries what this side receives (R96). -/
def opposite (i : SideId) : SideId := sideOf (laneOf i) (if i.val % 2 = 0 then 1 else 0)
/-- A lane of a path. -/
def laneIn (p : PathId) (l : Fin 4) : LaneId := ⟨4 * p.val + l.val, by omega⟩

/-- Side numbers below 32 of a path, as side identifiers. -/
def sidesOf (p : PathId) : List SideId := (List.finRange 32).filter fun i => i.val / 8 == p.val
/-- Lanes of a path. -/
def lanesOf (p : PathId) : List LaneId := (List.finRange 16).filter fun l => l.val / 4 == p.val

/-- A path that is configured. -/
def pathOn (s : State) (p : PathId) : Bool := pcMode s.paths[p].cfg != 0
/-- Common mode is driven on a path's transmitters: not in DORMANT, nor in the L1 substates (Table 4.6, R126). -/
def commonMode (s : State) (p : PathId) : Bool := domOn s (33 + p.val) && !s.paths[p].cmOff

/-- A lane within its path's width (R89). -/
def laneOn (s : State) (l : LaneId) : Bool :=
  pathOn s (pathOfLane l) && decide (l.val % 4 < pcLanes s.paths[pathOfLane l].cfg)

/-- Members of a path's formed group, the path alone where none has formed (R93). -/
def groupOf (s : State) (p : PathId) : List PathId :=
  if s.paths[p].formed = false then [p]
  else if pcBond s.paths[p].cfg = 1 then (List.finRange 4).filter fun q => q.val / 2 == p.val / 2
  else if pcBond s.paths[p].cfg = 2 then List.finRange 4
  else [p]
/-- The leader of a path's group (R93). -/
def leaderOf (s : State) (p : PathId) : PathId := (groupOf s p).headD p

/-- The rate set that serves a path now: 1 to 3 for 8, 16 and 32 GT/s of MODE 1, else 0 (R202). -/
def runSet (x : Path) : Fin 4 :=
  if pcMode x.cfg = 1 then (if x.rateNow = 3 then 1 else if x.rateNow = 4 then 2 else if x.rateNow = 5 then 3 else 0) else 0

/-- Line rate in kb/s of a RATE_NOW code (R133). -/
def rateKb (r : Nat) : Nat :=
  match r with
  | 1 => 2500000
  | 2 => 5000000
  | 3 => 8000000
  | 4 => 16000000
  | 5 => 32000000
  | _ => 0

/-- The rate a path runs at: RATE_NOW in MODE 1, else PATH_CFG.RATE. -/
def runRate (x : Path) : Nat := if pcMode x.cfg = 1 then rateKb x.rateNow.val else pcRate x.cfg

/-- A lane carries data: L0 in MODE 1, data in MODES 2 to 4, locked in MODE 5, any edge in MODE 6 (R186, R193). -/
def inData (s : State) (i : SideId) : Bool :=
  let x := s.paths[pathOf i]
  let l := s.lanes[laneOf i]
  x.st == .active && laneOn s (laneOf i) &&
  match pcMode x.cfg with
  | 1 => x.ltssm == 3 && !l.parked
  | 5 => l.lock[endOf i]
  | 6 => !l.ei[endOf i]
  | _ => l.seg[endOf i] == 4

/-- A side in auto-negotiation or training (R196, R139, R114). -/
def inTraining (s : State) (i : SideId) : Bool :=
  let x := s.paths[pathOf i]
  let l := s.lanes[laneOf i]
  x.st == .active && laneOn s (laneOf i) &&
  match pcMode x.cfg with
  | 1 => x.ltssm == 1 || x.ltssm == 2 || x.ltssm == 4 || x.ltssm == 5 || x.ltssm == 6
  | 5 => false
  | 6 => false
  | _ => l.seg[endOf i] == 1 || l.seg[endOf i] == 2 || l.seg[endOf i] == 3

/-- The line of the active Mould at an index of a table. -/
def lineAt (s : State) (t : Nat) (i : Nat) : Option Line :=
  match s.seq.active with
  | some m => (vget m.tables t)[i]?
  | none => none

/-- A line of a table and action is running, its action begun, and passes a test. -/
def lineRuns (s : State) (t : Nat) (action : Nat) (f : Line → Bool) : Bool :=
  s.seq.running.any fun r => r.acts && r.table.val == t &&
    match lineAt s t r.idx with | some l => l.action == action && f l | none => false

/-- A work window is open: a WORK line runs (R23). -/
def workRuns (s : State) : Bool := lineRuns s 0 0x10 fun _ => true

/-- A sweep holds a side: the plan runs and names it (R181, R194). -/
def sweepHolds (s : State) (i : SideId) : Bool :=
  s.sweep.st == 3 && bit s.sweep.masks[pathOf i] (i.val % 8)

/-- A sweep step holds a side's deckle samplers: the sweep holds the side, or a SWEEP line of it runs (R119, R181). -/
def sweepStep (s : State) (i : SideId) : Bool :=
  sweepHolds s i || lineRuns s (1 + (pathOf i).val) 0x62 fun l => bit l.target (i.val % 8)

/-- QUAL_A.FROZEN of a side (R194). -/
def frozen (s : State) (i : SideId) : Bool :=
  bit s.sides[i].calCfg 39 || s.sides[i].margin.isSome || sweepHolds s i

/-- Clock and domain of an island are present (R44). Domain numbers as R34 and Table 2.1 give them. -/
def present (s : State) (island : Nat) : Bool :=
  let dom := match island with
    | 0 => true
    | 1 => true
    | 2 => domOn s 37
    | 3 => domOn s 41
    | 4 => domOn s 42
    | 5 => domOn s 45
    | 6 => domOn s 47
    | _ => if island < 12 then domOn s (33 + (island - 8)) else domOn s (island - 31)
  dom && !(s.pow.absent.toList.drop island).headD false

/-- LANE_STATUS.LSTATE of a lane (R97, R98). A lane beyond its path's width reads the path's state too, DESIGN CHOICE (log entry 122). -/
def lstate (s : State) (l : LaneId) : Nat :=
  match s.paths[pathOfLane l].st with
  | .active => if s.lanes[l].parked then 3 else 0
  | .idle => 1
  | .dormant => 2

/-- LANE_STATUS of a lane, Table 4.5. -/
def laneStatus (s : State) (l : LaneId) : R40 :=
  let x := s.lanes[l]
  pack 40 [(x.logLane.toNat, 32), (b2n x.lock[0], 31), (b2n x.lock[1], 30), (b2n x.ei[0], 29), (b2n x.ei[1], 28),
    (b2n s.sides[sideOf l 0].rxPol, 27), (b2n s.sides[sideOf l 1].rxPol, 26), (lstate s l, 24),
    (b2n (s.sides[sideOf l 0].pinned && s.sides[sideOf l 1].pinned), 23), (x.fill[0] / 40, 18), (x.fill[1] / 40, 13)]

/-- BP_STATUS of a lane, Table 6.6. -/
def bpStatus (x : Lane) : R40 :=
  pack 40 [(x.seg[0].val, 37), (x.seg[1].val, 34), (b2n x.rr[0], 33), (b2n x.rr[1], 32), (b2n x.align[0], 31),
    (b2n x.align[1], 30), (x.anTech.toNat, 27), (x.anFec.toNat, 25)]

/-- PIN_REPORT of a side, Table 7.10. -/
def pinReport (x : Side) : R40 :=
  pack 40 [(x.pinLat.toNat, 18), (x.pinErr.toNat, 10), (b2n x.pinned, 9), (b2n x.pinValid, 8), (x.pinAge.toNat, 0)]

/-- PCIE_STATUS of a path, Table 5.8. -/
def pcieStatus (s : State) (p : PathId) : R40 :=
  let x := s.paths[p]
  pack 40 [(x.ltssm.val, 35), (x.rateNow.val, 32), (x.position.val, 30), (x.eqDone.toNat, 24), (x.eqPhase.val, 22),
    (x.widthNow.val, 19), (b2n x.clkreq, 18), (b2n x.perst, 17),
    (b2n ((sidesOf p).any fun i => s.sides[i].margin.isSome), 16)]

/-- A side of a path in slow mode (R189). -/
def slowSide (s : State) (i : SideId) : Bool := pcMode s.paths[pathOf i].cfg == 6

/-- MARGIN of Table 8.2 on the trackers' positions. -/
def marginOf (slow : Bool) (x : Side) : Nat :=
  let h := (x.top.pos - x.bottom.pos).toNat
  if slow then h else min (2 * (x.right.pos - x.left.pos).toNat) h

/-- CAL_QUAL_A of a side, Tables 8.2 and 8.3. -/
def qualA (s : State) (i : SideId) : R40 :=
  let x := s.sides[i]
  let w := if slowSide s i then 0 else (roundDiv ((x.right.pos - x.left.pos) * 1000) 128).toNat
  pack 40 [(w, 30), (((x.top.pos - x.bottom.pos) * 2).toNat, 21), (if x.calValid then marginOf (slowSide s i) x else 0, 13),
    (x.calAge.toNat, 5), (b2n x.calValid, 4), (b2n x.gated, 3), (b2n x.sparse, 2), (b2n (frozen s i), 1)]

/-- CAL_QUAL_B of a side. -/
def qualB (x : Side) : R40 := pack 40 [(x.resid.toNat, 24), (x.baseline.toNat, 8)]

/-- TIME_STATUS, Table 7.8. -/
def timeStatus (t : TimeIsl) : R40 :=
  pack 40 [(t.st.val, 37), (t.srcNow.toNat, 35), (t.tscale.toNat, 33), (t.hop.toNat, 29), (t.utc.toNat, 13),
    (b2n t.utcValid, 12), (b2n t.leap61, 11), (b2n t.leap59, 10), (b2n t.restored, 9), (b2n t.upHold, 8)]

/-- Total frequency correction in ppb: FREQ_ADJ and the pull at 0.153 ppb per LSB (Table 7.9, R161). -/
def totalFreq (t : TimeIsl) : Int := roundDiv (t.freqAdj + 153 * ((t.pull.toNat : Int) - 0x8000)) 1000

/-- TIME_QUALITY, Table 7.9. -/
def timeQuality (t : TimeIsl) : R40 :=
  pack 40 [(fieldOf 20 (clampI (-524287) 524287 t.offset), 20), (fieldOf 14 (clampI (-8191) 8191 (totalFreq t)), 6)]

/-- The level at PPS_OUT: high from the rising edge of the last PPS line's pulse to its falling edge (R167). -/
def ppsLevel (s : State) : Bool :=
  match s.time.ppsOut with | some (rise, fall) => decide (rise ≤ s.now) && decide (s.now < fall) | none => false

/-- TIME_STATUS_CHAIN, Table 7.9. -/
def chainStatus (t : TimeIsl) : R40 := pack 40 [(t.hopD.toNat, 18), (t.missed.toNat, 2), (b2n t.lost, 1)]

/-- VQUAL of a window, Table 8.4. -/
def vqual (v : Veneer) (w : Fin 16) : R40 :=
  pack 40 [(v.qWin[w].1.toNat, 26), (v.qWin[w].2.toNat, 24), (v.qAge[w].toNat, 16), (b2n v.qValid[w], 15)]

/-- Entries in a ring (R315). -/
def ringCount (head tail : BitVec 16) : Nat := (head - tail).toNat

/-- ATTN_CAUSE, Table 13.2: latched causes, and level causes from their conditions. -/
def attnCause (s : State) : R40 :=
  let w := s.win
  pack 40 [(b2n (w.rplHead != w.rplTail), 39), (b2n (w.evtHead != w.evtTail), 38),
    (b2n (decide (512 ≤ ringCount w.trcHead w.trcTail)), 37), (b2n w.cWdog, 36), (b2n w.cLost, 35), (b2n w.cOwn, 34),
    (b2n w.cGulcy, 33), (b2n (w.sclStuck || w.sdaStuck), 32), (b2n w.cBadidx, 31), (b2n w.restPend, 30)]

/-- STATUS.ATTN (R312). -/
def attn (s : State) : Bool := (attnCause s &&& s.win.attnMask) != 0

/-- ALERT_N asserted (R307), the released states of R30 apart. -/
def alertN (s : State) : Bool :=
  attn s && bit s.win.mgtCfg 37 && (s.pow.dev == .boot || s.pow.dev == .run || s.pow.dev == .rest)

/-- STATUS, Table 13.2. -/
def statusReg (s : State) : R40 :=
  let w := s.win
  pack 40 [(w.devState.toNat, 38), (b2n w.gulcyUp, 37), (b2n w.coreClk, 36), (b2n w.sheets, 35), (b2n w.restPend, 34),
    (b2n (attn s), 33), (s.time.st.val, 29)]

/-- BOOT, Table 13.3. -/
def bootReg (w : Window) : R40 :=
  pack 40 [(b2n w.bootBank, 39), (b2n w.fallback, 38), (w.resetKind.toNat, 35), (b2n w.aoInvalid, 34),
    (w.pathBoot.toNat, 30), (w.svcBoot.toNat, 28)]

/-- MGT_STATUS, Table 12.5. -/
def mgtStatus (w : Window) : R40 :=
  pack 40 [(w.maddrN.toNat, 36), (b2n w.sclStuck, 35), (b2n w.sdaStuck, 34), (b2n w.pecErr, 33), (b2n w.partialWr, 32),
    (b2n w.nacked, 31), (b2n w.woke, 30)]

/-- OWN, Table 13.3. -/
def ownReg (w : Window) : R40 := pack 40 [(w.owner.toNat, 37), (b2n w.yielding, 36), (w.ownEpoch.toNat, 30)]

/-- WDOG, Table 13.3. -/
def wdogReg (w : Window) : R40 := pack 40 [(w.wdTimeout.toNat, 24), (b2n w.wdArm, 23), (w.wdResets.toNat, 15)]

/-- What window register `k` reads (R310, R311). EMERG, write only, and registers 21 to 31 read zero. -/
def windowRead (s : State) (k : Nat) : R40 :=
  let w := s.win
  match k with
  | 0 => w.id
  | 1 => statusReg s
  | 2 => attnCause s
  | 3 => w.attnMask
  | 4 => pack 40 [(w.cmdHead.toNat, 24), (w.cmdTail.toNat, 8)]
  | 5 => pack 40 [(w.rplHead.toNat, 24), (w.rplTail.toNat, 8)]
  | 6 => pack 40 [(w.evtHead.toNat, 24), (w.evtTail.toNat, 8)]
  | 7 => pack 40 [(w.trcHead.toNat, 24), (w.trcTail.toNat, 8)]
  | 8 => pack 40 [(w.evtLost.toNat, 24), (w.trcLost.toNat, 8), (w.notOwn.toNat, 0)]
  | 9 => ownReg w
  | 10 => wdogReg w
  | 12 => w.mgtCfg
  | 13 => mgtStatus w
  | 14 => s.seq.sheet
  | 15 => BitVec.ofNat 40 (s.now.toNat / 2 ^ 40)
  | 16 => BitVec.ofNat 40 s.now.toNat
  | 17 => bootReg w
  | 18 => pack 40 [(w.tj.toNat, 30), (w.vin.toNat, 14)]
  | 19 => w.trcCfg
  | 20 => w.scratch
  | _ => 0

/-- VEN_CFG.ENABLE (R239). -/
def venOn (s : State) : Bool := bit s.ven.cfg 7

/-- The Veneer bus is idle (R241). -/
def busIdle (s : State) : Bool := (s.ven.seen &&& 0xFD) == 0 && s.ven.grant.isNone && s.ven.cycle.isNone

/-- Master's VMST_CFG byte (R262). -/
def mstByte (s : State) (m : Nat) : Nat := fld s.ven.mst (15 + 8 * m) (8 + 8 * m)
/-- VMST_CFG EN of a master. -/
def mstEn (s : State) (m : Nat) : Bool := mstByte s m / 128 % 2 == 1
/-- VIRQ_CFG EN of a line. -/
def irqEn (s : State) (i : Nat) : Bool := bit s.ven.irq (18 + 3 * i)

/-- A scan line's SCAN_CFG.ENABLE. -/
def scanOn (s : State) (l : Fin 4) : Bool := bit s.scan.lines[l].cfg 39

/-- A loop-back of LOOP_SET is on. -/
def anyLoop (t : Test) : Bool :=
  t.loopSvc != 0 || t.loopVen != 0 || t.loopSync || t.echo.toList.any id

/-- TIME_CFG.SOURCE (R174). -/
def timeSource (t : TimeIsl) : Nat := fld t.cfg 39 38

/-- The condition of Table 16.2 for domain D`d`, d from 1 to 50 (R400, R403). -/
def domWanted (s : State) (d : Nat) : Bool :=
  let run := s.pow.dev == .run
  let boot := s.pow.dev == .boot
  let act := fun t a => match s.seq.active with | some m => hasAction m t a | none => false
  if d = 0 then false
  else if d ≤ 32 then
    let l : LaneId := Fin.ofNat 16 ((d - 1) / 2)
    (run || boot) && laneOn s l && s.paths[pathOfLane l].st != .dormant
  else if d ≤ 36 then
    let p : PathId := Fin.ofNat 4 (d - 33)
    (run || boot) && pathOn s p && s.paths[p].st != .dormant
  else match d with
    | 37 => run || boot
    | 38 => run || boot
    | 39 => run
    | 40 => run
    | 41 => run || boot
    | 42 => run && s.svc.mode != 0
    | 43 => run && s.svc.mode != 0
    | 44 => run && s.svc.mode != 0
    | 45 => run && (venOn s || (upto 8).any (irqEn s) || (upto 4).any (mstEn s))
    | 46 => run && venOn s
    | 47 => run && (List.finRange 4).any (scanOn s)
    | 48 => run && (s.paths.toList.any (fun x => x.test) || anyLoop s.test)
    | 49 => run && act 0 0x12
    | 50 => run && (timeSource s.time == 2 || timeSource s.time == 3 || act 8 0x21 || act 8 0x22 || s.test.loopSync)
    | _ => false

/-- A path's idle time counts (R404). In a group only the leader's PERST_N acts (R125). -/
def pathIdle (s : State) (p : PathId) : Bool :=
  let x := s.paths[p]
  pathOn s p && x.st == .idle && !x.test && !(pcMode x.cfg == 1 && s.paths[leaderOf s p].perst) &&
  (sidesOf p).all fun i => s.sides[i].margin.isNone && !sweepHolds s i

/-- The idle conditions of Table 16.4a that are levels (R407); a character or a VIRQ_N change restarts the count in its
own row. -/
def deviceIdle (s : State) : Bool :=
  s.pow.dev == .run &&
  ((List.finRange 4).all fun p => !pathOn s p ||
    (s.paths[p].st == .dormant && !s.paths[p].latch && !s.paths[p].wakeReq)) &&
  (s.svc.mode == 0 || !s.svc.link) && s.svc.recs.isEmpty && s.mbx.arrived.isEmpty && s.mbx.taken.isEmpty && s.mbx.owed.isEmpty &&
  s.win.cmdHead == s.win.cmdTail && s.win.rplHead == s.win.rplTail &&
  s.svc.holder.isNone && ((upto 4).all fun m => !(mstEn s m && bit s.ven.breq m)) && busIdle s &&
  s.store.job.isNone && !s.paths.toList.any (fun x => x.test) && !anyLoop s.test

/-- Available credits of a session's class (R371). -/
def available (x : Session) (c : Fin 4) : Nat := x.credits[c] - x.used[c]

/-- Entries of the CPL buffer that are taken or reserved: built completions, started NP and LK records, CTL commands
taken and unreplied (R225). -/
def cplTaken (s : State) : Nat :=
  (s.svc.cpl.filter fun o => !o.refusal).length + (s.svc.recs.filter fun r => r.started && r.cls != .pw && !r.stale).length +
  (s.mbx.taken.filter fun t => t.req.issuer != .twoWire).length

/-- Reply slots free: not filled and not reserved by a taken ring command (R319). -/
def replySlotFree (s : State) : Bool :=
  decide (ringCount s.win.rplHead s.win.rplTail + (s.mbx.taken.filter fun t => t.req.issuer == .twoWire).length < 64)

end Sys2Proof.Machine
end

