-- ==== Sys2Proof/Machine/Ops.lean ====
section
/-! DEFINITION. The operations the meanings share: updates of one part of the state, events and trace entries (R321, R322,
R441 to R443), the passing of time, domains switched on and off (R400 to R402), replies and the common command gate
(R317 to R320, R334), ring ownership (R326), the watchdog's reset (R331), crossings that return absent (R45). -/

namespace Sys2Proof.Machine

/-! ### One part of the state replaced -/

/-- The window registers changed. -/
def State.modWin (s : State) (f : Window → Window) : State := { s with win := f s.win }
/-- The two-wire target changed. -/
def State.modTw (s : State) (f : TwoWire → TwoWire) : State := { s with tw := f s.tw }
/-- The mailbox changed. -/
def State.modMbx (s : State) (f : Mailbox → Mailbox) : State := { s with mbx := f s.mbx }
/-- One lane side changed. -/
def State.modSide (s : State) (i : SideId) (f : Side → Side) : State := { s with sides := vmod s.sides i f }
/-- One lane changed. -/
def State.modLane (s : State) (l : LaneId) (f : Lane → Lane) : State := { s with lanes := vmod s.lanes l f }
/-- One path changed. -/
def State.modPath (s : State) (p : PathId) (f : Path → Path) : State := { s with paths := vmod s.paths p f }
/-- The TIME island changed. -/
def State.modTime (s : State) (f : TimeIsl → TimeIsl) : State := { s with time := f s.time }
/-- The sequencer changed. -/
def State.modSeq (s : State) (f : Seqr → Seqr) : State := { s with seq := f s.seq }
/-- The sweep changed. -/
def State.modSweep (s : State) (f : Sweep → Sweep) : State := { s with sweep := f s.sweep }
/-- The bridge changed. -/
def State.modSvc (s : State) (f : Bridge → Bridge) : State := { s with svc := f s.svc }
/-- One session changed. -/
def State.modSession (s : State) (k : SessionId) (f : Session → Session) : State :=
  s.modSvc fun b => { b with sessions := vmod b.sessions k f }
/-- The Veneer logic changed. -/
def State.modVen (s : State) (f : Veneer → Veneer) : State := { s with ven := f s.ven }
/-- The scan engine changed. -/
def State.modScan (s : State) (f : Scan → Scan) : State := { s with scan := f s.scan }
/-- One scan line changed. -/
def State.modLine (s : State) (l : Fin 4) (f : ScanLine → ScanLine) : State :=
  s.modScan fun c => { c with lines := vmod c.lines l f }
/-- The store changed. -/
def State.modStore (s : State) (f : Store → Store) : State := { s with store := f s.store }
/-- The AO domain changed. -/
def State.modPow (s : State) (f : Power → Power) : State := { s with pow := f s.pow }
/-- Gulcy changed. -/
def State.modCpu (s : State) (f : Gulcy → Gulcy) : State := { s with cpu := f s.cpu }
/-- Test state changed. -/
def State.modTest (s : State) (f : Test → Test) : State := { s with test := f s.test }

/-- A value the manual leaves open, unsigned: what the n-th open value is, nothing says (log entry 1). -/
def State.openNat (s : State) : Nat := Sys2Proof.Config.freeNat s.free
/-- A value the manual leaves open, signed. -/
def State.openInt (s : State) : Int := Sys2Proof.Config.freeInt s.free
/-- The next open value is another one. -/
def State.usedFree (s : State) : State := { s with free := s.free + 1 }

/-! ### Events and trace -/

/-- The 32 bytes of an event entry, Table 13.7. -/
def eventBytes (e : EventEntry) : List Byte :=
  be 2 e.code.toNat ++ be 2 e.seq.toNat ++ be 2 e.count.toNat ++ [by1 e.data.length, 0] ++ stampBytes e.stamp
    ++ slice e.data 0 14

/-- The event and trace rings can be written: D37 is on and no REST entry has passed its commit point (R321, R322). -/
def ringsOpen (s : State) : Bool :=
  domOn s 37 && (match s.pow.rest with | .committed => false | _ => true)

/-- An entry lost for want of room in a ring or in the hold: EVT_LOST and LOST (R321). -/
def loseEvent (s : State) : State := s.modWin fun w => { w with evtLost := satInc w.evtLost, cLost := true }

/-- An entry put into the event ring, or lost where the ring is full (R321). -/
def ringEvent (s : State) (e : EventEntry) : State :=
  if ringCount s.win.evtHead s.win.evtTail < 256 then
    let a := 0x2000 + s.win.evtHead.toNat % 256 * 32
    (s.modMbx fun m => { m with mem := Mem.writeAll m.mem a (eventBytes e) }).modWin fun w =>
      { w with evtHead := w.evtHead + 1 }
  else loseEvent s

/-- An entry put where the device keeps it: the ring, or the hold of 16 while the ring cannot be written (R321). -/
def placeEvent (s : State) (e : EventEntry) : State :=
  if ringsOpen s then ringEvent s e
  else if s.mbx.hold.length < 16 then s.modMbx fun m => { m with hold := m.hold ++ [e] }
  else loseEvent s

/-- Held events enter the ring in order once it can be written (R321). -/
def releaseHold (s : State) : State :=
  s.mbx.hold.foldl ringEvent (s.modMbx fun m => { m with hold := [] })

/-- How an event is coalesced: not at all, once per sheet or once per second for the subject its key spells (R441). -/
inductive Limit where
  | none
  | sheet (key : List Byte)
  | second (key : List Byte)
  deriving DecidableEq, Repr

/-- The limits the event tables give (R255, R309, R330, R441, R444 and the tables of Table 18.1). -/
def limitOf (code : Nat) (data : List Byte) : Limit :=
  match code with
  | 0x0101 => .sheet (data.take 1)
  | 0x0102 => .sheet (data.take 2)
  | 0x0107 => .sheet (data.take 1)
  | 0x0204 => .sheet (data.take 1)
  | 0x0501 => .sheet (data.take 1)
  | 0x0502 => .sheet (data.take 1)
  | 0x0A31 => .sheet ((data.drop 1).take 1)
  | 0x0D02 => .sheet (data.take 1)
  | 0x0609 => .sheet (data.take 1)
  | 0x060B => .sheet (data.take 2)
  | 0x0701 => .sheet (data.take 1)
  | 0x0702 => .sheet (data.take 1)
  | 0x0703 => .sheet (data.take 1)
  | 0x0704 => .sheet []
  | 0x0705 => .sheet []
  | 0x0710 => .sheet (data.take 1)
  | 0x0711 => .sheet (data.take 1)
  | 0x0712 => .sheet []
  | 0x0801 => .sheet (data.take 1)
  | 0x0802 => .sheet (data.take 1)
  | 0x0803 => .sheet (data.take 1)
  | 0x0804 => .sheet (data.take 1)
  | 0x0805 => .sheet (data.take 1)
  | 0x0806 => .sheet (data.take 1)
  | 0x0807 => .sheet (data.take 2)
  | 0x0808 => .sheet (data.take 2)
  | 0x0904 => .sheet []
  | 0x0905 => .sheet []
  | 0x0915 => .sheet []
  | 0x0408 => .second []
  | 0x0312 => .second (data.take 1)
  | 0x0601 => .second (data.take 6)
  | _ => .none

/-- An occurrence of a coalesced event: counted with those of its subject, the first one's data and stamp kept (R441). -/
def noteEvent (s : State) (code : Nat) (key data : List Byte) : State :=
  let c := BitVec.ofNat 16 code
  if s.mbx.coal.any fun x => x.code == c && x.key == key then
    s.modMbx fun m => { m with coal := m.coal.map fun x =>
      if x.code == c && x.key == key then { x with count := satInc x.count } else x }
  else s.modMbx fun m => { m with coal := m.coal ++ [{ code := c, key, data, stamp := s.now, count := 1 }] }

/-- Sessions an event's EVT record goes to (R223): the writer of a failed posted write, else every bound session whose
mask enables the class, class c by bit c − 1 (R365). -/
def evtTargets (s : State) (code : Nat) (data : List Byte) : List SessionId :=
  (List.finRange 4).filter fun k =>
    s.svc.sessions[k].addr.isSome &&
    (if code = 0x0608 then decide (num data 0 1 = k.val) else bit s.svc.sessions[k].mask (code / 256 - 1))

/-- The EVT record of an event for one session, skipped, counted and noted where the buffer is full (R223, R237). -/
def evtRecord (e : EventEntry) (s : State) (k : SessionId) : State :=
  if s.svc.evt.length < 16 then
    let bytes := [0x14, 0] ++ be 2 40 ++ [0, 0, 0, 0] ++ eventBytes e
    s.modSvc fun b => { b with evt := b.evt ++ [{ session := k, bytes := bytes, credit := none }] }
  else
    let d : List Byte := [0x14, by1 k.val]
    noteEvent (s.modSvc fun b => { b with evtSkip := satInc b.evtSkip }) 0x060B d d

/-- EVT records of an event, while the Dovetail engine is on (R204). -/
def evtRecords (s : State) (code : Nat) (e : EventEntry) : State :=
  if domOn s 44 then (evtTargets s code e.data).foldl (evtRecord e) s else s

/-- Events that enter the persistent log, Table 17.8. -/
def logged (code : Nat) : Bool :=
  code / 256 == 0x0B || code / 256 == 0x0C || code == 0x0510 || code == 0x0511 || code == 0x0912 || code == 0x0913
    || code == 0x0914 || code == 0x0A10 || code == 0x0A11

/-- A logged event staged in the AO domain, at most 56; beyond that lost and counted (R438). -/
def stageLog (s : State) (code : Nat) (e : EventEntry) : State :=
  if logged code = false then s
  else if s.store.staged.length < 56 then
    s.modStore fun t => { t with staged := t.staged ++ [e], stageNs := if t.staged.isEmpty then 0 else t.stageNs }
  else s.modStore fun t => { t with logLost := t.logLost + 1 }

/-- An event entry produced now: its SEQ, the ring or the hold, EVT records, the log staging (R321, R223, R438). -/
def emit (s : State) (code : Nat) (count : BitVec 16) (data : List Byte) (stamp : Stamp) : State :=
  let e : EventEntry := { code := BitVec.ofNat 16 code, seq := s.mbx.evtSeq, count, data, stamp }
  stageLog (evtRecords (placeEvent (s.modMbx fun m => { m with evtSeq := m.evtSeq + 1 }) e) code e) code e

/-- An event raised: coalesced where its table limits it, else written at once (R441, R442). -/
def raise (s : State) (code : Nat) (data : List Byte) : State :=
  match limitOf code data with
  | .none => emit s code 1 data s.now
  | .sheet key => noteEvent s code key data
  | .second key => noteEvent s code key data

/-- A coalesced event belongs to those written at a whole second. -/
def perSecond (c : Coalesced) : Bool :=
  match limitOf c.code.toNat c.data with | .second _ => true | _ => false

/-- One coalesced entry written (R441). -/
def writeCoalesced (s : State) (c : Coalesced) : State := emit s c.code.toNat c.count c.data c.stamp

/-- Coalesced entries that a test selects, written in the order of their first occurrences (R441). -/
def flushCoalesced (sel : Coalesced → Bool) (s : State) : State :=
  (s.mbx.coal.filter sel).foldl writeCoalesced
    (s.modMbx fun m => { m with coal := m.coal.filter fun c => !sel c })

/-- A trace entry produced: kind 0x01 always, 0x02 and 0x03 as TRC_CFG enables them; lost where the ring is full or
D37 is off (R322). -/
def trace (s : State) (kind subject value : Nat) (stamp : Stamp) : State :=
  if (kind = 2 ∧ bit s.win.trcCfg 39 = false) ∨ (kind = 3 ∧ bit s.win.trcCfg 38 = false) then s
  else
    let entry := [by1 kind, by1 subject] ++ be 2 value ++ be 2 s.mbx.trcSeq.toNat ++ stampBytes stamp
    let s := s.modMbx fun m => { m with trcSeq := m.trcSeq + 1 }
    if ringsOpen s && decide (ringCount s.win.trcHead s.win.trcTail < 1024) then
      let a := 0x4000 + s.win.trcHead.toNat % 1024 * 16
      (s.modMbx fun m => { m with mem := Mem.writeAll m.mem a entry }).modWin fun w => { w with trcHead := w.trcHead + 1 }
    else s.modWin fun w => { w with trcLost := satInc w.trcLost, cLost := true }

/-- A Calender or trim step traced (R322, kind 0x02). -/
def traceStep (s : State) (subject corr : Nat) (code : Int) : State :=
  trace s 2 subject (corr * 256 + fieldOf 8 code) s.now

/-- A crossing that returned absent: its destination's counter and event 0x0A31 (R45). -/
def absent (s : State) (src dst : Nat) : State :=
  raise (s.modPow fun p => { p with crossings := vmodN p.crossings dst satInc }) 0x0A31 [by1 src, by1 dst]

/-! ### Time -/

/-- 2^-72 s steps of spine time in some nanoseconds at a FREQ_ADJ in 0.001 ppb, rounded down (R155). -/
def spineStep (ns : Nat) (adj : Int) : Nat := ((ns : Int) * 2 ^ 72 * (10 ^ 12 + adj) / 10 ^ 21).toNat

/-- What a receiver counts while time passes: bits and errors of a locked checker (R457), long runs of a locked transparent
lane (R146), glitches of a slow lane (R148). How many is not the state's to say: each count advances by an open value
(log entry 1). -/
def countSide (s : State) (i : SideId) : State :=
  let x := s.sides[i]
  let mode := pcMode s.paths[pathOf i].cfg
  let s := if x.chkLock then (s.modSide i fun x => { x with
      chkBits := satAdd x.chkBits s.openNat, chkErrs := satAdd x.chkErrs s.usedFree.openNat }).usedFree.usedFree else s
  if inData s i && (mode == 5 || mode == 6) then
    (s.modSide i fun x => if mode == 5 then { x with longRuns := satAdd x.longRuns s.openNat }
      else { x with glitches := satAdd x.glitches s.openNat }).usedFree
  else s

/-- Sending as far as spine time has come: a frame whose last bit has ended is counted as sent, and the driver is disabled TURN bit times
after it (R265, R288). -/
def sentOut (now : Nat) (x : ScanLine) : ScanLine :=
  let x := if x.sendEnds.any fun e => decide (e ≤ now) then { x with sendEnds := none, counts := vmod x.counts 4 satInc } else x
  { x with driver := x.driver && (x.sendEnds.isSome || decide (now < x.turnEnds)) }

/-- Counts that run beside spine time: HEALTH, which takes the monitors' open readings (R313, log entry 1), idle times, the watchdog, the lease, the log staging, the pull (R329, R234, R404,
R407, R438, R161). -/
def countTime (ns : Nat) (s : State) : State :=
  let s := forSides s countSide
  let s := if s.pow.dev == .boot || s.pow.dev == .run then
      (s.modWin fun w => { w with tj := BitVec.ofInt 10 s.openInt, vin := BitVec.ofNat 16 s.usedFree.openNat }).usedFree.usedFree
    else s
  let s := forPaths s fun s p => if pathIdle s p then s.modPath p fun x => { x with idleNs := x.idleNs + ns } else s
  let idle := deviceIdle s
  let s := s.modPow fun p => { p with idleNs := if idle then p.idleNs + ns else p.idleNs }
  let s := s.modWin fun w => { w with wdCount := if s.pow.dev == .run && domOn s 37 then w.wdCount + ns else w.wdCount }
  let s := s.modSvc fun b => { b with leaseNs := b.leaseNs - ns }
  let s := s.modStore fun t => { t with stageNs := if t.staged.isEmpty then t.stageNs else t.stageNs + ns }
  let s := s.modScan fun c => { c with lines := c.lines.map (sentOut s.now.toNat) }
  s.modTime fun t => { t with pullNs := t.pullNs + ns }

/-- Coalesced events of a second written when spine time passes a whole second (R441). -/
def secondPassed (before : Stamp) (s : State) : State :=
  if before.toNat / 2 ^ 40 = s.now.toNat / 2 ^ 40 then s else flushCoalesced perSecond s

/-- Nanoseconds pass: spine time while D41 is on, and the counts (log entry 7). -/
def elapse (ns : Nat) (s : State) : State :=
  let before := s.now
  let s := if domOn s 41 then s.modTime fun t => { t with spine := t.spine + BitVec.ofNat 112 (spineStep ns t.freqAdj) } else s
  secondPassed before (countTime ns s)

/-- Time passes until spine time reads a stamp; nothing passes where it already does (log entry 7). -/
def elapseTo (t : Nat) (s : State) : State :=
  if t ≤ s.now.toNat then s
  else
    let before := s.now
    let ns := (t - s.now.toNat) * 10 ^ 9 / 2 ^ 40
    secondPassed before (countTime ns (s.modTime fun x => { x with spine := BitVec.ofNat 112 (t * 2 ^ 32) }))

/-! ### What a meaning ends with -/

/-- Consequences that follow every change: a pulse owed when ATTN goes from clear to set (R305), idle times that restart
when a condition fails (R404, R407), REST_PEND that follows the idle conditions (R407). -/
def settle (old s : State) : State :=
  { s with
    tw := { s.tw with owed := s.tw.owed || (!attn old && attn s), pulseSent := s.tw.pulseSent && attn s }
    paths := Vector.ofFn fun p => if pathIdle s p then s.paths[p] else { s.paths[p] with idleNs := 0 }
    pow := { s.pow with idleNs := if deviceIdle s then s.pow.idleNs else 0 }
    win := { s.win with restPend := s.win.restPend && deviceIdle s } }

/-- The answer of a meaning: the next state, with what follows every change. -/
def done (old s : State) : Host.Outcome State Fault Refusal := .next (settle old s)

/-- One sheet-clock tick with no command waiting: 8 ns pass (log entry 7). -/
def tick (s : State) : State :=
  let t := elapse 8 s
  settle s t

/-! ### Domains -/

/-- What a lane side holds after its domain has been off: the kept registers and counters of Table 16.4. -/
def resetSide (x : Side) : Side :=
  { rxeq := x.rxeq, dfeA := x.dfeA, dfeB := x.dfeB, trim := x.trim, soff := x.soff, calCfg := x.calCfg, txeq := x.txeq
    rxPol := x.rxPol, rxHost := x.rxHost, txPol := x.txPol, term := x.term, txIdle := true
    slips := x.slips, longRuns := x.longRuns, glitches := x.glitches, steps := x.steps, gates := x.gates
    inserts := x.inserts, deletes := x.deletes, rejects := x.rejects, partner := x.partner
    chkBits := x.chkBits, chkErrs := x.chkErrs, patSel := 0, loopDep := 0 }

/-- What a lane holds after its path TX island has been off: LOG_LANE, AN_TECH, AN_FEC and the settings taken. -/
def resetLane (x : Lane) : Lane :=
  { logLane := x.logLane, anTech := x.anTech, anFec := x.anFec, parked := x.parked, pin := x.pin, bpCfg := x.bpCfg
    lineCfg := x.lineCfg }

/-- What the TIME island holds after it has been off (Table 16.4, Tables 7.7 to 7.9): everything but the fields its
tables reset. -/
def resetTime (t : TimeIsl) : TimeIsl :=
  { t with upHold := false, hopD := 0, missed := 0, lost := false, mark := false, ppsOut := none, chainOut := none,
           hops := [], meas := [], step := none, sync := none, delayReq := none, reqDue := false }

/-- What a scan line holds after D47 has been off: SCAN_CFG, THRESH and ADAPT of SCAN_CAL, its counters. -/
def resetScanLine (x : ScanLine) : ScanLine :=
  { cfg := x.cfg, cal := pack 40 [(fld x.cal 39 33, 33)], counts := x.counts, calNext := x.calNext
    cfgNext := x.cfgNext }

/-- What switching off domain D`d` loses (R402, Table 16.2). -/
def domainLost (s : State) (d : Nat) : State :=
  if d = 0 then s
  else if d ≤ 32 then
    let i : SideId := Fin.ofNat 32 (d - 1)
    (s.modSide i resetSide).modLane (laneOf i) fun x => { x with
      lock := vmod x.lock (endOf i) fun _ => false, ei := vmod x.ei (endOf i) fun _ => true
      seg := vmod x.seg (endOf i) fun _ => 0, rr := vmod x.rr (endOf i) fun _ => false
      align := vmod x.align (endOf i) fun _ => false, reqDone := vmod x.reqDone (endOf i) fun _ => false }
  else if d ≤ 36 then
    let p : PathId := Fin.ofNat 4 (d - 33)
    (lanesOf p).foldl (fun s l => s.modLane l resetLane)
      (s.modPath p fun x => { x with eqPhase := 0, pllInt := false, formed := x.formed })
  else match d with
    | 37 => s.modMbx fun m => { m with mem := [] }
    | 41 => s.modTime resetTime
    | 45 => s.modVen fun v => { v with
        qValid := Vector.replicate 16 false, qAge := Vector.replicate 16 0, qWin := Vector.replicate 16 (0, 0)
        qReads := Vector.replicate 16 0, reads := Vector.replicate 64 0, cycle := none, waiting := none, serving := none
        grant := none, afterGrant := false, holding := false, faulting := false, driven := [], upwDue := none }
    | 46 => s.modVen fun v => { v with vlck := false, vrst := false }
    | 47 => s.modScan fun c => { c with lines := c.lines.map resetScanLine }
    | 48 => (s.modTest fun t => { t with patterns := Vector.replicate 4 [0xAAAAAAAAAA] })
    | 50 => s.modTime fun t => { t with ppsOut := none, chainOut := none }
    | _ => s

/-- Domain D`d` switched on or off as its condition in Table 16.2 now asks (R400, R401). -/
def settleDomain (s : State) (d : Nat) : State :=
  if domWanted s d = domOn s d then s
  else
    let want := domWanted s d
    let s := s.modPow fun p => { p with domains := vmodN p.domains (d - 1) fun _ => want }
    if want then s else domainLost s d

/-- Every domain whose condition has changed switched, one at a time (R401). -/
def settleDomains (s : State) : State := ((upto 50).map fun i => i + 1).foldl settleDomain s

/-- Every switched domain off, with what that loses (R26, R411). -/
def allOff (s : State) : State :=
  ((upto 50).map fun i => i + 1).foldl (fun s d =>
    if domOn s d then domainLost (s.modPow fun p => { p with domains := vmodN p.domains (d - 1) fun _ => false }) d else s) s

/-! ### Replies and the command gate -/

/-- A reply: STATUS of Table 14.3 and the payload. -/
structure Reply where
  status  : Nat
  payload : List Byte
  deriving DecidableEq, Repr

/-- What executing a command leaves: the state, and its reply unless its work goes on in lines. -/
abbrev Result := State × Option Reply

/-- OK with a payload. -/
def okWith (s : State) (p : List Byte) : Result := (s, some ⟨0x00, p⟩)
/-- OK without payload. -/
def okay (s : State) : Result := okWith s []
/-- A failure, which has no effect (R334). -/
def failWith (s : State) (st : Nat) : Result := (s, some ⟨st, []⟩)
/-- BAD_LENGTH. -/
def badLength (s : State) : Result := failWith s 0x01
/-- BUSY. -/
def busy (s : State) : Result := failWith s 0x03
/-- MOULD_REJECT without payload. -/
def mouldReject (s : State) : Result := failWith s 0x08

/-- The 64 bytes of a reply entry, Table 13.6. -/
def replyBytes (op tag : BitVec 16) (st : Nat) (lat : Byte) (p : List Byte) (stamp : Stamp) : List Byte :=
  be 2 op.toNat ++ be 2 tag.toNat ++ [by1 (min p.length 46), by1 st, lat, 0] ++ slice p 0 46 ++ stampBytes stamp

/-- A reply written where its command came from: the reply ring, or a CTL record to the session (R320, R219); none goes to
a session that is unbound (R210), and none crosses to a bridge that is absent (R45). Gulcy restarts the watchdog's count (R329). -/
def writeReply (s : State) (who : Issuer) (op tag rtag : BitVec 16) (lat : Byte) (r : Reply) : State :=
  let bytes := replyBytes op tag r.status lat r.payload s.now
  let s := s.modWin fun w => { w with wdCount := 0 }
  match who with
  | .twoWire =>
    let a := 0x1000 + s.win.rplHead.toNat % 64 * 64
    (s.modMbx fun m => { m with mem := Mem.writeAll m.mem a bytes }).modWin fun w => { w with rplHead := w.rplHead + 1 }
  | .session k =>
    let rec8 : List Byte := [0x15, 0] ++ be 2 72 ++ be 2 rtag.toNat ++ [0, 0]
    if present s 4 = false then absent s 2 4
    else if s.svc.sessions[k].addr.isNone then s
    else s.modSvc fun b => { b with cpl := b.cpl ++
      [{ session := k, bytes := rec8 ++ bytes, credit := some 3, reset := op == 0x0B07 && r.status == 0 }] }

/-- Gulcy can take a command: it runs, D37 is on, sheets run, no REST entry has committed, and a work window is open (R21, R23,
R24, R312). -/
def gulcyReady (s : State) : Bool := s.cpu.running && ringsOpen s && s.pow.dev == .run && s.win.sheets && workRuns s

/-- A reply slot or a CPL entry is free for a command of this issuer (R319, R225). -/
def replyRoom (s : State) (who : Issuer) : Bool :=
  match who with
  | .twoWire => replySlotFree s
  | .session _ => decide (cplTaken s < 16)

/-- Gulcy takes its first command: GULCY_UP set, and ATTN_CAUSE.GULCY with it (R312, R331). -/
def gulcyTakes (s : State) : State :=
  if s.win.gulcyUp then s else s.modWin fun w => { w with gulcyUp := true, cGulcy := true }

/-- A command whose execution has come to its end or goes on: the reply, or its place among the taken ones; domains whose
conditions it changed are switched in the same work window (R401). -/
def finish (who : Issuer) (op : BitVec 16) (r : Req) (rtag : BitVec 16) (lat : Byte) (x : Result) : State :=
  match x.2 with
  | some rep => settleDomains (writeReply x.1 who op r.tag rtag lat rep)
  | none => settleDomains (x.1.modMbx fun m => { m with taken := m.taken ++ [{ opcode := op, req := r, rtag, lat }] })

/-- The issuer's standing: the two-wire side commands only while it owns the rings, CLAIM apart (R324, R325). -/
def disownedBy (s : State) (op : Nat) (who : Issuer) : Bool :=
  who == .twoWire && s.win.owner != 0 && op != 0x0101

/-- A credit of a class taken (R225). -/
def takeCredit (s : State) (k : SessionId) (c : Fin 4) : State := s.modSession k fun x => { x with used := vmod x.used c (· + 1), news := true }

/-- A session's command holds a CTL credit from its acceptance (R225). -/
def takeCtlCredit (who : Issuer) (s : State) : State :=
  match who with
  | .twoWire => s
  | .session k => takeCredit s k 3

/-- A Gulcy command row. Gulcy takes the command and executes it in its work window; where it cannot take one now, or
others have arrived before it, the command waits among those that have arrived (R23, R319, R327). -/
def command (op : Nat) (h : Req → State → Result) (r : Req) (s : State) : State :=
  let c := BitVec.ofNat 16 op
  let s := takeCtlCredit r.issuer s
  if gulcyReady s && replyRoom s r.issuer && s.mbx.arrived.isEmpty && s.mbx.owed.isEmpty then
    let s := gulcyTakes s
    finish r.issuer c r r.tag 0 (if disownedBy s op r.issuer then failWith s 0x06 else h r s)
  else s.modMbx fun m => { m with arrived := m.arrived ++
    [{ issuer := r.issuer, body := some (c, r), rtag := r.tag, lat := 0, answered := false, disowned := false }] }

/-- The reply of a command taken earlier, found by its opcode among those given; nothing where none is found, as after a
restart of its session (R211). -/
def replyTaken (s : State) (ops : List Nat) (rep : Reply) : State :=
  match s.mbx.taken.find? fun t => ops.contains t.opcode.toNat with
  | none => s
  | some t =>
    writeReply (s.modMbx fun m => { m with taken := m.taken.erase t }) t.req.issuer t.opcode t.req.tag t.rtag t.lat rep

/-- Replies that wait are written in order, each as soon as its issuer's side has room (R319, R328). -/
def payOwed : List Owed → State → State
  | [], s => s
  | o :: rest, s =>
    if replyRoom s o.issuer then payOwed rest (writeReply s o.issuer o.opcode o.tag o.rtag o.lat ⟨o.status, o.payload⟩)
    else payOwed rest (s.modMbx fun m => { m with owed := m.owed ++ [o] })

/-- Every reply that waits is written where it finds room. -/
def payAll (s : State) : State := payOwed s.mbx.owed (s.modMbx fun m => { m with owed := [] })

/-- A reply decided now and written as soon as there is room. -/
def oweReply (s : State) (o : Owed) : State := payAll (s.modMbx fun m => { m with owed := m.owed ++ [o] })

/-- Every command waiting or taken has passed one more sheet boundary: LAT (R317). -/
def ageCommands (s : State) : State :=
  s.modMbx fun m => { m with
    arrived := m.arrived.map fun a => { a with lat := satInc a.lat }
    taken := m.taken.map fun t => { t with lat := satInc t.lat }
    owed := m.owed.map fun o => { o with lat := satInc o.lat } }

/-! ### Ownership, the service processor -/

/-- Ring ownership set (R325, R326). A change sets ATTN_CAUSE.OWN and raises event 0x0911 with its cause; when ownership
leaves the two-wire side, its commands not yet taken will be answered NOT_OWNER. -/
def setOwner (s : State) (owner : BitVec 3) (yielding : Bool) (epoch : BitVec 6) (cause : Nat) : State :=
  let old := s.win.owner
  let s := s.modWin fun w => { w with owner, yielding, ownEpoch := epoch }
  if owner = old then s
  else
    let s := s.modWin fun w => { w with cOwn := true }
    let s := if old = 0 then s.modMbx fun m => { m with arrived := m.arrived.map fun a =>
      if a.issuer == .twoWire then { a with disowned := true } else a } else s
    raise s 0x0911 [by1 old.toNat, by1 owner.toNat, by1 cause]

/-- The service processor reset by the watchdog (0) or by CPU_RESET (1) (R331). -/
def resetGulcy (s : State) (cause : Nat) : State :=
  let s := s.modWin fun w => { w with gulcyUp := false, cGulcy := true, wdResets := satInc w.wdResets }
  let s := s.modCpu fun _ => { running := false, revive := true }
  raise s 0x0913 [by1 cause]

/-! ### The Mould's declarations -/

/-- A path mode at a rate stays within the window a Mould declares for the path (R42). -/
def pathFits (m : Mould) (p : PathId) (mode rate : Nat) : Bool :=
  decide (pathWindow mode rate ≤ pathWindow m.modes[p] m.rates[p])

/-- A service-port mode stays within the window a Mould declares for it (R42). -/
def svcFits (m : Mould) (mode : Nat) : Bool := decide (svcWindow mode ≤ svcWindow m.svcMode)

/-- The active Mould and the pending one (R346). -/
def bothMoulds (s : State) : List Mould := s.seq.active.toList ++ (s.seq.shadow.map PendingMould.mould).toList

/-- A line counted as missed for a cause: counter, event 0x0501, trace kind 0x03 (R75, R322). -/
def missLine (s : State) (t : Fin 9) (idx cause : Nat) (stamp : Stamp) : State :=
  let s := s.modSeq fun q => { q with missed := vmod q.missed t satInc }
  let s := raise s 0x0501 ([by1 t.val] ++ be 2 idx ++ [by1 cause] ++ be 5 s.seq.sheet.toNat)
  trace s 3 cause (t.val * 4096 + idx) stamp

/-- An overrun counted: counter and event 0x0502 with cause 0 (R77). -/
def overrunLine (s : State) (t : Fin 9) (idx : Nat) : State :=
  let s := s.modSeq fun q => { q with overruns := vmod q.overruns t satInc }
  raise s 0x0502 ([by1 t.val] ++ be 2 idx ++ [0] ++ be 5 s.seq.sheet.toNat)

end Sys2Proof.Machine
end

