-- ==== Sys2Proof/Machine/Bus.lean ====
section
/-! DEFINITION. What the bridge, the Veneer logic and the window share: records and their ends (R217, R220, R225, R226,
R230), the order within a session (R227), the local spaces (R213, R214), the lock and its breaking (R231 to R235, R256),
ENABLE becoming 0 (R262), a session unbound or restarted (R210, R211). -/

namespace Sys2Proof.Machine

/-! ### Spaces and windows -/

/-- Space of a spine address, Table 9.4. -/
def spaceOf (a : R40) : Nat := a.toNat / 2 ^ 32
/-- Offset of a spine address. -/
def offOf (a : R40) : Nat := a.toNat % 2 ^ 32

/-- VWIN_CFG.SIZE_LOG2. -/
def winLog (c : R40) : Nat := fld c 39 34
/-- Bytes of a window's WIDTH. -/
def winBytes (c : R40) : Nat := if fld c 33 32 = 0 then 1 else if fld c 33 32 = 1 then 2 else 4
/-- The exclusive-or of a window's MAP (R242). -/
def winXor (c : R40) : Nat := if fld c 31 30 = 1 then 1 else if fld c 31 30 = 2 then 3 else 0
/-- VWIN_CFG.SPLIT. -/
def winSplit (c : R40) : Bool := bit c 28
/-- RIGHTS of a session: 0 none, 1 read, 2 read and write. -/
def winRight (c : R40) (k : Nat) : Nat := fld c (21 + 2 * k) (20 + 2 * k)

/-- A record carries no address: ACQUIRE, RELEASE, ACK_BROKEN (R218, R227). -/
def unaddressed (r : Rec) : Bool := r.cls == .lk && (r.op == 1 || r.op == 4 || r.op == 5)

/-- A record addresses some Veneer window, or counts as addressed to all of them (R227). -/
def onVeneer (r : Rec) : Bool := unaddressed r || decide (spaceOf r.addr < 16)

/-- Two records of a session address the same window or space (R227). -/
def samePlace (a b : Rec) : Bool :=
  if unaddressed a || unaddressed b then onVeneer a && onVeneer b else spaceOf a.addr == spaceOf b.addr

/-- Records of the same session accepted before one. -/
def before (s : State) (r : Rec) : List Rec :=
  (s.svc.recs.takeWhile fun e => e.num != r.num).filter fun e => e.session == r.session

/-- Table 9.13 lets a record start: no earlier posted write to its place, and for NP and LK no earlier NP or LK there. -/
def orderAllows (s : State) (r : Rec) : Bool :=
  (before s r).all fun e => !samePlace r e || (r.cls == .pw && e.cls != .pw)

/-- A record that has not started can start as far as order and CPL entries go (R225, R227). -/
def canStart (s : State) (r : Rec) : Bool :=
  orderAllows s r && (r.cls == .pw || decide (cplTaken s < 16))

/-! ### Completions, refusals, credits -/

/-- The bytes of a CPL record, Table 9.10. -/
def cplBytes (st : Nat) (tag : BitVec 16) (disp wait : Nat) (addr : R40) (size : Nat) (data : List Byte) : List Byte :=
  [0x11, by1 st] ++ be 2 (16 + 4 * ceilDiv data.length 4) ++ be 2 tag.toNat ++ [by1 disp, by1 (min wait 255)]
    ++ be 5 addr.toNat ++ [by1 size] ++ be 2 data.length ++ pad4 data

/-- A credit of a class returns to its session (R225). -/
def giveBack (s : State) (k : SessionId) (c : Fin 4) : State :=
  s.modSession k fun x => { x with used := vmod x.used c (· - 1), news := true }

/-- One more in a session's counter of Table 9.5. -/
def countSession (s : State) (k : SessionId) (i : Fin 10) : State :=
  s.modSession k fun x => { x with counts := vmod x.counts i satInc }

/-- The credit class of a record. -/
def classIx (c : RecClass) : Fin 4 := match c with | .pw => 0 | .np => 1 | .lk => 2

/-- A refusal queued as a CPL with disposition REFUSED, or lost and counted where the queue of 16 is full (R226). A lost
refusal returns the credit its request held. -/
def refuse (s : State) (k : SessionId) (st : Nat) (tag : BitVec 16) (wait : Nat) (addr : R40) (size : Nat)
    (credit : Option (Fin 4)) : State :=
  if (s.svc.cpl.filter fun o => o.refusal).length < 16 then
    s.modSvc fun b => { b with cpl := b.cpl ++
      [{ session := k, bytes := cplBytes st tag 3 wait addr size [], credit := credit, refusal := true }] }
  else
    let s := raise (countSession s k 9) 0x0609 [by1 k.val]
    match credit with
    | some c => giveBack s k c
    | none => s

/-- A record leaves the bridge. -/
def dropRec (s : State) (r : Rec) : State := s.modSvc fun b => { b with recs := b.recs.filter fun e => e.num != r.num }

/-- A record ends. A posted write returns its credit, and one that fails is counted and reported (R230); an NP or LK record
is answered by a CPL that holds its credit until it leaves (R225). One of a session restarted meanwhile is answered by none (R211). -/
def endRec (s : State) (r : Rec) (st disp : Nat) (data : List Byte) : State :=
  let s := dropRec s r
  if r.cls == .pw then
    let s := if r.credit then giveBack s r.session 0 else s
    if st = 0 then s
    else raise (countSession s r.session 6) 0x0608
      ([by1 r.session.val] ++ be 2 r.tag.toNat ++ be 5 r.addr.toNat ++ [by1 st])
  else if r.stale then s
  else
    let bytes := cplBytes st r.tag disp r.wait r.addr r.size data
    let cr := if r.credit then some (classIx r.cls) else none
    s.modSvc fun b => { b with cpl := b.cpl ++ [{ session := r.session, bytes := bytes, credit := cr }] }

/-- Disposition of a record a line has served: SPARE or SHARE (R220). -/
def lineDisp (r : Rec) : Nat := if r.spare then 1 else 0

/-! ### Signals and local spaces -/

/-- A signal by its number. -/
def findSignal (s : State) (n : Nat) : Option Signal := s.scan.signals.find? fun x => x.id == n

/-- CTRL.OUTPUT of a signal definition (R277). -/
def sigOutput (b : List Byte) : Bool := num b 0 1 / 64 % 2 == 1

/-- A signal's entry in the signal table, Table of R214; one that is not defined reads VALUE 0, AGE 65535, FLAGS 0. -/
def signalEntry (s : State) (n : Nat) : List Byte :=
  match findSignal s n with
  | some x => be 5 x.value.toNat ++ be 2 x.age.toNat ++ [x.flags]
  | none => [0, 0, 0, 0, 0, 0xFF, 0xFF, 0]

/-- An output signal set by a host: VALUE, VALID 1, AGE 0 (R282, R379). -/
def setOutput (s : State) (n : Nat) (v : BitVec 40) : State :=
  s.modScan fun c => { c with signals := c.signals.map fun x =>
    if x.id == n then { x with value := v, flags := x.flags ||| 0x80, age := 0 } else x }

/-- Lease remaining in whole milliseconds, of the holder (Table 9.5). -/
def leaseMs (s : State) (k : SessionId) : Nat :=
  if s.svc.holder = some k then min 65535 (s.svc.leaseNs / 1000000) else 0

/-- A session's 256 bytes of the local status space, Table 9.5. -/
def statusOf (s : State) (k : SessionId) : List Byte :=
  let x := s.svc.sessions[k]
  let word := b2n x.addr.isSome * 2 ^ 31 + x.epoch.toNat * 2 ^ 24 + b2n (s.svc.holder == some k) * 2 ^ 23
    + b2n x.broken * 2 ^ 22 + leaseMs s k
  slice (be 4 word ++ [by1 (available x 0), by1 (available x 1), by1 (available x 2), by1 (available x 3)]
    ++ be 2 x.ackSeq.toNat ++ be 2 x.upSeq.toNat ++ [0, 0, 0, 0]
    ++ (x.counts.toList.map fun c => [0, 0, 0] ++ be 5 c.toNat).flatten) 0 256

/-- The local status space, Table 9.5. -/
def localStatus (s : State) : List Byte :=
  slice ([1, 0] ++ be 2 s.svc.etype.toNat ++ be 4 (s.svc.mode.val * 2 ^ 30 + b2n s.svc.link * 2 ^ 29)) 0 256
    ++ ((List.finRange 4).map (statusOf s)).flatten

/-- What a read of a local space returns (R214): all its bytes at one instant. -/
def localRead (s : State) (a : R40) (n : Nat) : List Byte :=
  let o := offOf a
  match spaceOf a with
  | 0x20 => slice (((upto 34).map fun i => signalEntry s (o / 8 + i)).flatten) (o % 8) n
  | 0x30 => Mem.readAll s.ven.shadow o n
  | 0xF0 => slice (localStatus s) o n
  | _ => List.replicate n 0

/-- A write of whole signal entries, eight bytes each. -/
def writeEntries : Nat → Nat → List Byte → State → State
  | 0, _, _, s => s
  | k + 1, n, bs, s => writeEntries k (n + 1) (bs.drop 8) (setOutput s n (BitVec.ofNat 40 (num bs 0 5)))

/-- What a write to a local space does (R214): output signals, or the upstream shadow buffer. -/
def localWrite (s : State) (a : R40) (bs : List Byte) : State :=
  match spaceOf a with
  | 0x20 => writeEntries (bs.length / 8) (offOf a / 8) bs s
  | 0x30 => s.modVen fun v => { v with shadow := Mem.writeAll v.shadow (offOf a) bs }
  | _ => s

/-! ### Checks of a record -/

/-- Check 4 of Table 9.8: space, offset or right missing (R213, R214, R242). `count` bytes, `wr` for a write. -/
def reachable (s : State) (k : SessionId) (a : R40) (count : Nat) (wr : Bool) : Bool :=
  let o := offOf a
  let sp := spaceOf a
  if sp < 16 then
    let c := vget s.ven.win sp
    venOn s && winLog c != 0 && decide (o < 2 ^ winLog c) && decide ((if wr then 2 else 1) ≤ winRight c k.val)
      && winRight c k.val != 3
  else match sp with
    | 0x20 => decide (o < 0x1000) && (!wr || (upto (max 1 (ceilDiv (o % 8 + count) 8))).all fun i =>
        decide (512 ≤ o / 8 + i) || match findSignal s (o / 8 + i) with | some x => sigOutput x.bytes | none => false)
    | 0x30 => decide (o < 0x10000) && bit s.ven.up (19 + k.val)
    | 0xF0 => decide (o < 0x500) && !wr
    | _ => false

/-- Bytes of a space or window (R213). -/
def spaceSize (s : State) (sp : Nat) : Nat :=
  if sp < 16 then 2 ^ winLog (vget s.ven.win sp)
  else match sp with | 0x20 => 0x1000 | 0x30 => 0x10000 | 0xF0 => 0x500 | _ => 0

/-- Check 5 of Table 9.8: alignment, extent, width and whole entries (R243, R214). -/
def carriable (s : State) (a : R40) (size count : Nat) (wr : Bool) : Bool :=
  let o := offOf a
  let sp := spaceOf a
  o % size == 0 && decide (o + count ≤ spaceSize s sp) &&
  (if sp < 16 then decide (size ≤ winBytes (vget s.ven.win sp)) || winSplit (vget s.ven.win sp)
   else if sp = 0x20 ∧ wr then o % 8 == 0 && count % 8 == 0 else true)

/-- Checks 4 and 5 of Table 9.8, as R245 makes them again when the first cycle would start. -/
def placeCheck (s : State) (k : SessionId) (a : R40) (size count : Nat) (wr : Bool) : Option Nat :=
  if reachable s k a count wr = false then some 0x11
  else if carriable s a size count wr = false then some 0x10
  else none

/-- A record writes: PW and LOCKED_WRITE. -/
def isWrite (r : Rec) : Bool := r.cls == .pw || (r.cls == .lk && r.op == 3)

/-- Checks 1 to 6 of Table 9.8, in order, skipping those that do not apply. -/
def checkRecord (s : State) (r : Rec) : Option Nat :=
  let lk := r.cls == .lk
  if lk && (r.op == 0 || decide (5 < r.op.toNat)) then some 0x02
  else if unaddressed r then
    (if r.op == 1 && (r.lease == 0 || decide (s.svc.sessions[r.session].leaseMax.toNat < r.lease)) then some 0x01 else none)
  else if r.size ≠ 1 ∧ r.size ≠ 2 ∧ r.size ≠ 4 then some 0x10
  else if 256 < r.count ∨ r.count % r.size ≠ 0 ∨ (r.count = 0 ∧ r.cls ≠ .pw) then some 0x10
  else if lk && decide (16 ≤ spaceOf r.addr) then some 0x11
  else placeCheck s r.session r.addr r.size r.count (isWrite r)

/-! ### What the bridge serves with no bus cycle -/

/-- The outcome of a record that is able to start and needs no bus cycle: local spaces, ACQUIRE by the holder, and LK
records answered NOT_OWNER or LOCK_BROKEN (R220, R231, R233, R235). -/
def localServe (s : State) (r : Rec) : Option State :=
  if r.started || r.chosen || !canStart s r then none
  else match r.cls with
    | .pw => if spaceOf r.addr < 16 then none else some (endRec (localWrite s r.addr r.data) r 0x00 2 [])
    | .np => if spaceOf r.addr < 16 then none else some (endRec s r 0x00 2 (localRead s r.addr r.count))
    | .lk =>
      if r.op == 5 then some (endRec (s.modSession r.session fun x => { x with broken := false }) r 0x00 2 [])
      else if s.svc.sessions[r.session].broken then some (endRec s r 0x14 2 [])
      else if s.svc.holder = some r.session then
        (if r.op == 1 then some (endRec (s.modSvc fun b => { b with leaseNs := r.lease * 1000000 }) r 0x00 2 []) else none)
      else if r.op == 1 then none
      else some (endRec s r 0x06 2 [])

/-- Serve what needs no bus cycle, oldest first, as long as something can be served. -/
def serveLocals : Nat → State → State
  | 0, s => s
  | n + 1, s =>
    match s.svc.recs.findSome? (localServe s) with
    | some t => serveLocals n t
    | none => s

/-- Every record that can be served locally is (R220). -/
def afterBridge (s : State) : State := serveLocals (s.svc.recs.length + 1) s

/-! ### The lock -/

/-- A LOCKED_READ or LOCKED_WRITE of a session. -/
def lockedRec (k : SessionId) (r : Rec) : Bool := r.session == k && r.cls == .lk && (r.op == 2 || r.op == 3)

/-- Locked records of a session whose lock breaks: the one on the bus ends with its cycle, the others that have started end
with LOCK_BROKEN and the bytes they have (R256); one that a line chose and that waits for an idle bus waits no more, to be answered
as every LK record of a broken session is (R235). -/
def breakRecords (k : SessionId) (s : State) : State :=
  let mark := fun (r : Rec) =>
    if lockedRec k r then (if r.onBus then { r with broken := true } else { r with chosen := false }) else r
  let s := s.modSvc fun b => { b with recs := b.recs.map mark }
  (s.svc.recs.filter fun r => lockedRec k r && r.started && !r.onBus).foldl
    (fun s r => endRec s r 0x14 (lineDisp r) r.got) s

/-- The steps of R234 with a cause: VLCK_N negated at once or at the end of the cycle in progress, no holder, the BROKEN
mark unless the session is being unbound, event 0x0607. -/
def breakLock (s : State) (cause : Nat) : State :=
  match s.svc.holder with
  | none => s
  | some k =>
    let busy := s.ven.cycle.isSome
    let s := s.modSvc fun b => { b with holder := none, leaseNs := 0, unlock := busy }
    let s := s.modVen fun v => { v with vlck := busy && v.vlck }
    let s := if cause = 3 then s else s.modSession k fun x => { x with broken := true }
    breakRecords k (raise s 0x0607 [by1 k.val, by1 cause])

/-! ### ENABLE becoming 0 -/

/-- A record that needs the Veneer bus. -/
def needsBus (r : Rec) : Bool :=
  if r.cls == .lk then r.op == 1 || r.op == 2 || r.op == 3 else decide (spaceOf r.addr < 16)

/-- One record ended because no window exists any more (R262). -/
def endDisabled (s : State) (r : Rec) : State :=
  if r.started then endRec s r 0x11 (lineDisp r) r.got else endRec s r 0x11 2 []

/-- What ENABLE becoming 0 does beside the register: outputs released, every record that needs the bus ended (R262). -/
def disableVeneer (s : State) : State :=
  let s := s.modVen fun v => { v with cycle := none, waiting := none, grant := none, afterGrant := false, holding := false, faulting := false, driven := [], vlck := false, vrst := false, upwDue := none }
  let s := s.modSvc fun b => { b with unlock := false }
  afterBridge ((s.svc.recs.filter needsBus).foldl endDisabled s)

/-- A window comes to exist and with it its CYCLE service: its reads are counted afresh (R200). -/
def enterService (v : Veneer) (w : Fin 16) : Veneer :=
  { v with qReads := vmod v.qReads w fun _ => 0, qValid := vmod v.qValid w fun _ => false
           qWin := vmod v.qWin w fun _ => (0, 0), qAge := vmod v.qAge w fun _ => 0 }

/-- VEN_CFG put in force; ENABLE becoming 0 ends what needs the bus (R262). -/
def applyVenCfg (s : State) (v : R40) : State :=
  let was := venOn s
  let s := s.modVen fun x => { x with cfg := v, cfgNext := none }
  if was && !venOn s then disableVeneer s
  else if !was && venOn s then s.modVen fun x => (List.finRange 16).foldl enterService x
  else s

/-- A VEN line is in progress. -/
def venLineRuns (s : State) : Bool := s.seq.running.any fun r => r.table == 5 && r.acts

/-! ### Sessions that end or start afresh -/

/-- Records of a session taken out of every upstream buffer that a test selects, and counted. -/
def dropOut (k : SessionId) (l : List OutRec) : List OutRec := l.filter fun o => o.session != k

/-- Commands of a session that have arrived or are unreplied: no reply goes to it any more (R210, R211). -/
def dropCommands (s : State) (k : SessionId) : State :=
  s.modMbx fun m => { m with arrived := m.arrived.filter fun a => a.issuer != .session k
                             taken := m.taken.filter fun t => t.req.issuer != .session k
                             owed := m.owed.filter fun o => o.issuer != .session k }

/-- How many records of a session the bridge holds that unbinding discards (R210). -/
def heldBy (s : State) (k : SessionId) : Nat :=
  (s.svc.recs.filter fun r => r.session == k && !(r.cls == .pw && r.started)).length +
  ((s.svc.cpl ++ s.svc.upw ++ s.svc.sig ++ s.svc.evt).filter fun o => o.session == k).length +
  (s.mbx.arrived.filter fun a => a.issuer == .session k).length

/-- A session unbound: its lock broken with cause unbind, everything it has waiting discarded and counted, credits
returned, its mask cleared, ownership back to the two-wire side (R210, R326, R367). Posted writes already started go on. -/
def unbindSession (s : State) (k : SessionId) : State :=
  if s.svc.sessions[k].addr.isNone then s
  else
    let s := if s.svc.holder = some k then breakLock s 3 else s
    let n := heldBy s k
    let s := s.modSvc fun b => { b with
      recs := (b.recs.filter fun r => r.session != k || (r.cls == .pw && r.started)).map fun r =>
        if r.session == k then { r with credit := false } else r
      cpl := dropOut k b.cpl, upw := dropOut k b.upw, sig := dropOut k b.sig
      evt := dropOut k b.evt, discarded := satAdd b.discarded n }
    let s := dropCommands s k
    let s := s.modSession k fun x => { x with
      addr := none, known := false, seqKnown := false, epoch := 0, ackSeq := 0, ackMap := 0, upSeq := 0, upwNum := 0
      used := Vector.replicate 4 0, mask := 0, broken := false, news := false }
    if s.win.owner.toNat = k.val + 1 then setOwner s 0 true 0 1 else s

/-- A session's host has restarted with a newer epoch (R211): its waiting NP, LK and CTL work and what was not yet sent is
discarded, its lock broken with cause restart, credits and sequence state reset, posted writes kept. An NP or LK record that has
started ends with its cycles, answered by nothing (DEDUCED, log entry 22). -/
def restartSession (s : State) (k : SessionId) (epoch : BitVec 6) : State :=
  let old := s.svc.sessions[k].epoch
  let s := if s.svc.holder = some k then breakLock s 1 else s
  let s := s.modSvc fun b => { b with
    recs := (b.recs.filter fun r => r.session != k || r.cls == .pw || r.started).map fun r =>
      if r.session == k then { r with credit := false, stale := r.cls != .pw } else r
    cpl := dropOut k b.cpl }
  let s := dropCommands s k
  let s := s.modSession k fun x => { x with
    epoch := epoch, seqKnown := false, ackSeq := 0, ackMap := 0, upSeq := 0, upwNum := 0
    used := Vector.replicate 4 0, news := true }
  let s := raise s 0x0606 [by1 k.val, by1 old.toNat, by1 epoch.toNat]
  if s.win.owner.toNat = k.val + 1 then setOwner s 0 true 0 2 else s

/-! ### A broken store -/

/-- The store in progress ended by CANCEL or by the end of a run: what it wrote stays invalid (R70, R387, R389). -/
def breakStore (s : State) : State :=
  match s.store.job with
  | none => s
  | some j => s.modStore fun t =>
    let t := { t with job := none }
    match j with
    | .mould k _ _ _ => { t with slots := vmod t.slots k fun x => { x with valid := false } }
    | .config k _ _ => { t with copies := vmod t.copies k fun x => { x with valid := false } }
    | .fwErase b _ _ _ => { t with banks := vmodN t.banks (b2n b) fun x => { x with valid := false } }
    | .fwOpen b .. => { t with banks := vmodN t.banks (b2n b) fun x => { x with valid := false } }

end Sys2Proof.Machine
end

