-- ==== Sys2Proof/Machine/Calender.lean ====
section
/-! DEFINITION. The corrections of Table 8.1 as codes in the registers of Table 8.3 (R185, R202), and how a host write or a
seed reaches a side (R196). -/

namespace Sys2Proof.Machine

/-- The five register images of CAL_SEED and CAL_SET: CAL_RXEQ, CAL_DFE_A, CAL_DFE_B, CAL_TRIM, CAL_SOFF (R349). -/
structure CalImages where
  rxeq : R40
  dfeA : R40
  dfeB : R40
  trim : R40
  soff : R40
  deriving DecidableEq, Repr

/-- The images of a side for one rate set. -/
def imagesOf (x : Side) (set : Fin 4) : CalImages :=
  { rxeq := x.rxeq[set], dfeA := x.dfeA[set], dfeB := x.dfeB[set], trim := x.trim, soff := x.soff }

/-- The images put into a side for one rate set. -/
def putImages (x : Side) (set : Fin 4) (c : CalImages) : Side :=
  { x with
    rxeq := vmod x.rxeq set fun _ => c.rxeq, dfeA := vmod x.dfeA set fun _ => c.dfeA, dfeB := vmod x.dfeB set fun _ => c.dfeB
    trim := c.trim, soff := c.soff }

/-- Lane-side corrections: ID and subindex. ID 3 has taps h1 to h12, ID 5 four data samplers, ID 6 two deckle samplers. -/
def allCorrs : List (Nat × Nat) :=
  [(1, 0), (2, 0)] ++ (upto 12).map (fun i => (3, i)) ++ [(4, 0)] ++ (upto 4).map (fun i => (5, i))
    ++ [(6, 0), (6, 1), (7, 0), (8, 0), (9, 0), (10, 0)]

/-- Place of a correction: its register (0 RXEQ, 1 DFE_A, 2 DFE_B, 3 TRIM, 4 SOFF), highest and lowest bit, signed. -/
def corrPlace (corr sub : Nat) : Nat × Nat × Nat × Bool :=
  match corr with
  | 1 => (0, 39, 35, false)
  | 2 => (0, 34, 30, false)
  | 3 =>
    if sub = 0 then (1, 39, 33, true)
    else if sub < 4 then (1, 38 - 6 * sub, 33 - 6 * sub, true)
    else (2, 59 - 5 * sub, 55 - 5 * sub, true)
  | 4 => (0, 29, 24, true)
  | 5 => (4, 39 - 6 * sub, 34 - 6 * sub, true)
  | 6 => (4, 15 - 6 * sub, 10 - 6 * sub, true)
  | 7 => (3, 34, 30, false)
  | 8 => (3, 39, 35, false)
  | 9 => (3, 29, 26, false)
  | _ => (3, 25, 21, false)

/-- A register of the images by its number in `corrPlace`. -/
def imageReg (c : CalImages) (k : Nat) : R40 :=
  match k with | 0 => c.rxeq | 1 => c.dfeA | 2 => c.dfeB | 3 => c.trim | _ => c.soff

/-- One register of the images replaced. -/
def setImage (c : CalImages) (k : Nat) (r : R40) : CalImages :=
  match k with
  | 0 => { c with rxeq := r }
  | 1 => { c with dfeA := r }
  | 2 => { c with dfeB := r }
  | 3 => { c with trim := r }
  | _ => { c with soff := r }

/-- A correction's code in the images. -/
def corrGet (c : CalImages) (corr sub : Nat) : Int :=
  let p := corrPlace corr sub
  if p.2.2.2 then sfld (imageReg c p.1) p.2.1 p.2.2.1 else (fld (imageReg c p.1) p.2.1 p.2.2.1 : Nat)

/-- A correction's code replaced in the images. -/
def corrSet (c : CalImages) (corr sub : Nat) (v : Int) : CalImages :=
  let p := corrPlace corr sub
  setImage c p.1 (setFld (imageReg c p.1) p.2.1 p.2.2.1 (fieldOf (p.2.1 + 1 - p.2.2.1) v))

/-- Lowest code of a correction (Tables 4.1 and 8.1). -/
def corrLow (corr sub : Nat) : Int :=
  match corr with
  | 3 => if sub = 0 then -63 else if sub < 4 then -31 else -15
  | 4 => -32
  | 5 => -32
  | 6 => -32
  | _ => 0

/-- Highest code of a correction. -/
def corrHigh (corr sub : Nat) : Int :=
  match corr with
  | 3 => if sub = 0 then 63 else if sub < 4 then 31 else 15
  | 9 => 15
  | _ => 31

/-- Limits noted for corrections that have left their end are forgotten: reached again, they are reported again (R195). -/
def relimit (set : Fin 4) (x : Side) : Side :=
  { x with atLimit := x.atLimit.filter fun k => corrGet (imagesOf x set) k.1 k.2.1 == k.2.2 }

/-- `relimit` on every side of a path, by the set that serves it now. -/
def relimitPath (s : State) (p : PathId) : State :=
  (sidesOf p).foldl (fun s i => s.modSide i (relimit (runSet s.paths[p]))) s

/-- A code put whole into a side's running rate set (R109, R191). -/
def putCode (s : State) (i : SideId) (corr sub : Nat) (v : Int) : State :=
  let set := runSet s.paths[pathOf i]
  s.modSide i fun x => relimit set (putImages x set (corrSet (imagesOf x set) corr sub v))

/-- A correction holds at an end of its range with a target beyond it: event 0x0302, once until it leaves that end (R195). -/
def limitEvent (s : State) (i : SideId) (corr sub : Nat) (code : Int) : State :=
  if s.sides[i].atLimit.contains (corr, sub, code) then s
  else raise (s.modSide i fun x => { x with atLimit := x.atLimit ++ [(corr, sub, code)] }) 0x0302
    ([0, by1 i.val, 0, by1 corr] ++ sbe 2 code)

/-- The DFE does not act at the side's rate: below 6.0 Gb/s, and in slow mode (R81). -/
def dfeIdle (s : State) (i : SideId) : Bool := slowSide s i || decide (runRate s.paths[pathOf i] < 6000000)

/-- The tap a side's DFE applies: the written one, zero where the DFE does not act (R81). -/
def appliedTap (s : State) (i : SideId) (k : Fin 12) : Int :=
  if dfeIdle s i then 0 else corrGet (imagesOf s.sides[i] (runSet s.paths[pathOf i])) 3 k.val

/-- Every code of the images lies in its range (R80, R185). -/
def imagesOk (c : CalImages) : Bool :=
  allCorrs.all fun k => decide (corrLow k.1 k.2 ≤ corrGet c k.1 k.2) && decide (corrGet c k.1 k.2 ≤ corrHigh k.1 k.2)

/-- The images without reserved bits; CAL_TRIM.SEEDED is not theirs to write. -/
def cleanImages (c : CalImages) (seeded : Bool) : CalImages :=
  { rxeq := pack 40 [(fld c.rxeq 39 24, 24)], dfeA := pack 40 [(fld c.dfeA 39 15, 15)], dfeB := c.dfeB
    trim := pack 40 [(fld c.trim 39 21, 21), (b2n seeded, 20)], soff := pack 40 [(fld c.soff 39 4, 4)] }

/-- A side carries no traffic: its path is off, or it follows Detect, Held or electrical idle (R196). -/
def noTraffic (s : State) (i : SideId) : Bool :=
  let x := s.paths[pathOf i]
  !laneOn s (laneOf i) || x.st != .active || s.lanes[laneOf i].ei[endOf i] ||
  (pcMode x.cfg == 1 && (x.ltssm == 0 || x.ltssm == 12))

/-- Which target entries of a side stand for a correction. -/
def isTarget (corr sub : Nat) (t : CalTarget) : Bool := t.corr == corr && t.sub == sub

/-- A target set for one correction, in place of an earlier one. -/
def putTarget (l : List CalTarget) (t : CalTarget) : List CalTarget := l.filter (fun u => !isTarget t.corr t.sub u) ++ [t]

/-- Corrections a MASK of CAL_SET selects. -/
def maskCorrs (mask : Nat) : List (Nat × Nat) :=
  allCorrs.filter fun k => mask / 2 ^ (corrPlace k.1 k.2).1 % 2 == 1

/-- A ramp set for each selected correction whose code differs (R196). -/
def rampTo (x : Side) (set : Fin 4) (want : CalImages) (ks : List (Nat × Nat)) : Side :=
  ks.foldl (fun x k =>
    let have' := corrGet (imagesOf x set) k.1 k.2
    let goal := corrGet want k.1 k.2
    if have' = goal then { x with targets := x.targets.filter fun u => !isTarget k.1 k.2 u }
    else { x with targets := putTarget x.targets { corr := k.1, sub := k.2, code := goal, ramp := true } }) x

/-- Selected corrections written whole; their targets end. -/
def writeWhole (x : Side) (set : Fin 4) (want : CalImages) (ks : List (Nat × Nat)) : Side :=
  let c := ks.foldl (fun c k => corrSet c k.1 k.2 (corrGet want k.1 k.2)) (imagesOf x set)
  { putImages x set c with targets := x.targets.filter fun u => !ks.any fun k => isTarget k.1 k.2 u }

/-- A host write or a seed of the selected images reaches a side (R196, R350): whole without traffic, by ramp with it. The
equaliser images of a set that does not run are stored at once. -/
def writeImages (s : State) (i : SideId) (set : Fin 4) (want : CalImages) (mask : Nat) : State :=
  let running := set == runSet s.paths[pathOf i]
  let quiet := noTraffic s i
  s.modSide i fun x => relimit (runSet s.paths[pathOf i]) <|
    if quiet then writeWhole x set want (maskCorrs mask)
    else if running then rampTo x set want (maskCorrs mask)
    else rampTo (writeWhole x set want (maskCorrs (mask % 8))) set want (maskCorrs (mask / 8 * 8))

/-- R196 refuses a write: the side trains and the write reaches what is running on it. -/
def writeRefused (s : State) (i : SideId) (set : Fin 4) (mask : Nat) : Bool :=
  !noTraffic s i && inTraining s i && (set == runSet s.paths[pathOf i] || mask % 8 == 0)

end Sys2Proof.Machine
end

