-- ==== Sys2Proof/Machine/Paths.lean ====
section
/-! DEFINITION. What the commands and events of lanes and paths share: which PATH_CFG values stand (R90, R91, R93, R104,
R143), the pinned range (R87, R100), electrical idle and the way through it (R92, R98), entry to and exit from data
(R187, R189, R193), transmitter settings (R84, R113). -/

namespace Sys2Proof.Machine

/-! ### Values of PATH_CFG -/

/-- A PCI Express rate in kb/s (Table 4.3). -/
def pcieRate (r : Nat) : Bool := r == 2500000 || r == 5000000 || r == 8000000 || r == 16000000 || r == 32000000

/-- No field of PATH_CFG holds a reserved encoding, and none is set outside the modes that have it (Table 4.4, R91). -/
def pathFieldsOk (c : R40) : Bool :=
  pcMode c != 7 && fld c 36 35 != 3 && pcBond c != 3 && pcPclk c != 3 && decide (pcSub c ≤ 2) &&
  (pcMode c == 1 || (pcPclk c == 0 && pcBond c == 0)) && (pcMode c == 2 || (!pcFec c && pcSub c == 0))

/-- Width, clocking, buffer and rate that Table 4.3 permits in the mode (R90, R91, R104, R143). -/
def pathModeOk (c : R40) : Bool :=
  let rate := pcRate c
  match pcMode c with
  | 0 => c == 0
  | 1 => pcieRate rate && (pcPclk c != 0 || pcClk c) && (pcPclk c == 0 || !pcPinned c)
  | 2 =>
    (if pcSub c = 2 then rate == 25781250 && pcLanes c == 4 && pcClk c && pcPinned c && pcFec c
     else if pcSub c = 1 then rate == 25781250 else rate == 10312500) &&
    (pcClk c || (!pcPinned c && !pcFec c)) && (!pcFec c || pcPinned c)
  | 3 => rate == 1250000 && !pcPinned c
  | 4 => rate == 3125000 && !pcPinned c && pcLanes c == 4
  | 5 => decide (1000000 ≤ rate) && decide (rate ≤ 32000000) && pcPinned c
  | _ => decide (50000 ≤ rate) && decide (rate ≤ 1000000) && !pcPinned c

/-- PIN_LAT within the pinned range at a rate in kb/s: A + (3 + f) × 40 UI with f from 2 to 14; 0 asks for the centre
(R87, R100, R344). -/
def pinLatOk (lat rate : Nat) : Bool :=
  lat == 0 || (rate != 0 && decide (1600 * rate + 5 * 160000000000 ≤ lat * rate)
    && decide (lat * rate ≤ 1600 * rate + 17 * 160000000000))

/-- Paths of the bond group a PATH_CFG value names for a path (R93). -/
def bondMembers (p : PathId) (bond : Nat) : List PathId :=
  if bond = 1 then (List.finRange 4).filter fun q => q.val / 2 == p.val / 2
  else if bond = 2 then List.finRange 4
  else [p]

/-- R93: BOND is accepted under a Mould that declares every member with MODE 1, where every member has MODE 1, width x4 and
equal CLKSRC, PCLK, BUF, RATE and PIN_LAT: the rest of PATH_CFG. A formed group that keeps BOND changes as one (R343). -/
def bondOk (s : State) (p : PathId) (c : R40) : Bool :=
  pcBond c == 0 ||
  (pcMode c == 1 && pcLanes c == 4 &&
   (match s.seq.active with
    | some m => (bondMembers p (pcBond c)).all fun q => m.modes[q] == 1
    | none => false) &&
   ((s.paths[p].formed && pcBond c == pcBond s.paths[p].cfg) ||
    (bondMembers p (pcBond c)).all fun q =>
      q == p || (setFld s.paths[q].cfg 34 33 0 == setFld c 34 33 0 && s.paths[q].pinLat == s.paths[p].pinLat)))

/-- Check 3 of a PATH_CFG value for a path (R91, R93, R104, R143, R345). -/
def pathCfgOk (s : State) (p : PathId) (c : R40) : Bool :=
  pathFieldsOk c && pathModeOk c && bondOk s p c && (pcMode c == 0 || pinLatOk s.paths[p].pinLat.toNat (pcRate c))

/-- A path counts as DORMANT for the commands (R341). -/
def isDormant (s : State) (p : PathId) : Bool := s.paths[p].st == .dormant

/-- A member of a bond group that has not formed stays in electrical idle (R93). -/
def forming (x : Path) : Bool := pcBond x.cfg != 0 && !x.formed

/-- LSTATE code of a path state (R97). -/
def stCode (st : PathState) : Nat := match st with | .active => 0 | .idle => 1 | .dormant => 2

/-- A path's state set: changes between ACTIVE and IDLE counted, entry to and exit from DORMANT reported (R98). -/
def setPathState (s : State) (p : PathId) (st : PathState) : State :=
  let old := s.paths[p].st
  if old = st then s
  else
    let s := s.modPath p fun x => { x with st := st }
    if old = .dormant ∨ st = .dormant then raise s 0x0104 [by1 p.val, by1 (stCode old), by1 (stCode st)]
    else s.modPath p fun x => { x with changes := satInc x.changes }

/-- Every member of a path's group that is not DORMANT takes a state together (R98): DORMANT is left only as R406 says. -/
def setGroupState (s : State) (p : PathId) (st : PathState) : State :=
  (groupOf s p).foldl (fun s q => if s.paths[q].st = .dormant then s else setPathState s q st) s

/-! ### Entry to and exit from data -/

/-- A tracker forgets its reversals and moves by 4 again (R187). -/
def freshTracker (t : Tracker) : Tracker := { t with coarse := true, revs := 0, lastOut := none }

/-- A side leaves L0 or data: VALID and the gate end, the next measurement is the first again (R189, R193). -/
def leaveData (x : Side) : Side :=
  { x with
    fecWait := 0, calValid := false, adapted := false, gated := false, calm := 0, gatedN := 0, fresh := true, history := [], measUi := 0, measErr := 0, measErr1 := 0
    sparse := false, left := freshTracker x.left, right := freshTracker x.right
    top := freshTracker x.top, bottom := freshTracker x.bottom }

/-- A side enters L0 or data. Trackers keep the position they reached in training; where no measurement closed in training they
start at −8, +8, +10 and −10 (R187). -/
def enterData (x : Side) : Side :=
  let y := leaveData x
  if x.adapted then y
  else { y with left := { pos := -8 }, right := { pos := 8 }, top := { pos := 10 }, bottom := { pos := -10 } }

/-- Margining ends (R118). -/
def endMargin (x : Side) : Side :=
  { x with margin := none, deferred := none, marginN := 0, dkPhase := Vector.replicate 2 0, dkThr := Vector.replicate 2 0 }

/-- A receiver's requests end (R111, R124, R141). -/
def endRequests (x : Side) : Side := { x with reqRun := false, presets := [], eqAsk := none, krAsk := none, reqTried := [] }

/-- The single step tried next from a setting, of those not yet tried since the figure last rose; which of them comes first is not
stated: an open value chooses. None is left where no step raises the figure (R111, R141). -/
def nextStep {α : Type} (step : Fin 4 → Option α) (tried : List (Fin 4)) (open' : Nat) : Option (Fin 4 × α) :=
  let cs := ((List.finRange 4).filter fun n => !tried.contains n).filterMap fun n => (step n).map fun t => (n, t)
  cs[open' % cs.length]?

/-- What a lane shows in electrical idle, its buffers emptied (R92, R98). -/
def idleLane (x : Lane) : Lane :=
  { x with
    lock := Vector.replicate 2 false, ei := Vector.replicate 2 true, parked := false, fill := Vector.replicate 2 0
    seg := Vector.replicate 2 0, rr := Vector.replicate 2 false, align := Vector.replicate 2 false
    reqDone := Vector.replicate 2 false, rrSent := false, mismatch := false, joined := false }

/-- What a side shows in electrical idle: its transmitter idle, no margin command, no requests. -/
def idleSide (x : Side) : Side :=
  { endRequests (leaveData x) with txIdle := true, pinned := false, margin := none, deferred := none, reqBest := none, marginN := 0 }

/-- A pattern select in force; a change clears the checker and starts a new search (R455, R457). -/
def withPattern (sel : Byte) (x : Side) : Side :=
  if x.patSel = sel then x else { x with patSel := sel, chkLock := false, chkBits := 0, chkErrs := 0 }

/-- A side without loop-back and pattern (R453). -/
def clearTest (x : Side) : Side := { withPattern 0 x with loopDep := 0 }

/-- A depth or a pattern holds a side (R454). -/
def underTest (x : Side) : Bool := x.loopDep != 0 || x.patSel != 0

/-- A lane and both its sides in electrical idle. -/
def idleAll (s : State) (l : LaneId) : State :=
  ((s.modLane l idleLane).modSide (sideOf l 0) idleSide).modSide (sideOf l 1) idleSide

/-- Every receiver of a path's group sees electrical idle (R98). -/
def quietGroup (s : State) (p : PathId) : Bool :=
  (groupOf s p).all fun q => (lanesOf q).all fun l => !laneOn s l || (s.lanes[l].ei[0] && s.lanes[l].ei[1])

/-- An ACTIVE path whose receivers all see electrical idle enters IDLE, and its group with it (R98). -/
def idleIfQuiet (s : State) (p : PathId) : State :=
  if s.paths[p].st = .active ∧ quietGroup s p = true then setGroupState s p .idle else s

/-- A side whose depth and pattern end passes through electrical idle with its lane (R454). -/
def endTest (s : State) (i : SideId) : State :=
  if underTest s.sides[i] then idleIfQuiet (idleAll (s.modSide i clearTest) (laneOf i)) (pathOf i) else s

/-- A path's link is one link of several lanes: PCI Express, 100GBASE-KR4, 10GBASE-KX4 (Table 4.3). -/
def oneLink (c : R40) : Bool := pcMode c == 1 || pcMode c == 4 || (pcMode c == 2 && pcSub c == 2)

/-- The lane whose pages a lane's auto-negotiation runs on: lane 0 of a one-link path, else its own (R136). -/
def anLead (s : State) (l : LaneId) : LaneId :=
  if oneLink s.paths[pathOfLane l].cfg then laneIn (pathOfLane l) 0 else l

/-- The lane's auto-negotiation is skipped or over: its receivers start in the mode's datapath (R136 to R138). -/
def anOver (s : State) (l : LaneId) : Bool :=
  let x := s.lanes[anLead s l]
  bit s.lanes[l].bpCfg 37 || decide (2 ≤ x.seg[0].val) || decide (2 ≤ x.seg[1].val)

/-- A lane waits behind lane 0 of a one-link backplane path, its transmitters held in electrical idle (R136). -/
def anWaits (s : State) (l : LaneId) : Bool :=
  let c := s.paths[pathOfLane l].cfg
  decide (pcMode c ≠ 1) && oneLink c && l.val % 4 != 0 && !anOver s l

/-- Initial calibration of some side of a path has still to complete (R198). -/
def calibrating (s : State) (p : PathId) : Bool := (sidesOf p).any fun i => s.sides[i].calDue

/-- The transmitter that carries what a side receives may send: it is not held in electrical idle by a parked lane, by Held,
by a mismatch, by a wait for lane 0, by initial calibration, by a group that has not formed, or by a test (R93, R97, R123, R136,
R138, R198, R454). -/
def mayForward (s : State) (i : SideId) : Bool :=
  let x := s.lanes[laneOf i]
  let o := s.sides[opposite i]
  !x.parked && !x.mismatch && !(pcMode s.paths[pathOf i].cfg == 1 && s.paths[pathOf i].ltssm == 12) && !anWaits s (laneOf i) &&
  !calibrating s (pathOf i) && !forming s.paths[pathOf i] && !(underTest s.sides[i] && !underTest o) && o.loopDep != 1

/-- What a side receives leaves on the opposite transmitter, where nothing holds it in electrical idle (R98). -/
def forward (s : State) (i : SideId) : State :=
  if !s.lanes[laneOf i].ei[endOf i] && mayForward s i then s.modSide (opposite i) fun x => { x with txIdle := false } else s

/-- Both sides of the lanes in use of a path. -/
def sidesOn (s : State) (p : PathId) : List SideId := (sidesOf p).filter fun i => laneOn s (laneOf i)

/-- A path follows Held: transmitters idle, near-side terminations disconnected, buffers emptied, EQ_DONE cleared, margining over
(R123). Its PLL is back on REFCLK and common mode restored, wherever it stood in the L1 substates, DESIGN CHOICE (log entry 126). -/
def holdPath (s : State) (p : PathId) : State :=
  let s := s.modPath p fun x => { x with
    ltssm := 12, rateNow := 0, widthNow := 0, eqPhase := 0, eqDone := 0, pllInt := false, cmOff := false, found := 0 }
  let s := (sidesOn s p).foldl (fun s i => s.modSide i fun y => { endRequests (endMargin (leaveData y)) with txIdle := true }) s
  let s := ((lanesOf p).filter (laneOn s)).foldl (fun s l =>
    (s.modLane l fun y => { y with fill := Vector.replicate 2 0, parked := false, joined := false }).modSide (sideOf l 0)
      fun y => { y with term := false }) s
  relimitPath s p

/-- Terminations once a path is configured: none on a path that is off or a lane beyond its width; in PCI Express the near
ones wait for receiver detection (R89, R105). -/
def setTerm (s : State) (l : LaneId) : State :=
  let on := laneOn s l
  let near := on && pcMode s.paths[pathOfLane l].cfg != 1
  (s.modSide (sideOf l 0) fun x => { x with term := near }).modSide (sideOf l 1) fun x => { x with term := on }

/-- Receiver polarity outside PCI Express and KR is the host's (R95). -/
def hostPolarity (mode : Nat) (x : Side) : Side := if mode = 1 ∨ mode = 2 then x else { x with rxPol := x.rxHost }

/-- Initial calibration of a side that comes on from off: started, or skipped with its event where it is seeded (R198). -/
def startCal (s : State) (i : SideId) : State :=
  if bit s.sides[i].trim 20 then raise s 0x0301 [by1 i.val, 1, 0, 0] else s.modSide i fun x => { x with calDue := true }

/-- A PATH_CFG value put in force: the path goes through electrical idle (R92, R152), its lanes that come on from off start
initial calibration. A path switched off counts no ACTIVE to IDLE change, and LOG_LANE keeps its number in MODE 1, DESIGN CHOICE (log
entries 124 and 125). -/
def takeCfg (s : State) (p : PathId) (c : R40) : State :=
  if s.paths[p].cfg = c then s
  else
    let was := (lanesOf p).filter (laneOn s)
    let s := if pcMode c = 0 then s.modPath p fun x => { x with st := .idle, latch := false, armed := false, wakeReq := false }
      else setPathState s p .idle
    let s := s.modPath p fun x => { x with
      cfg := c, formed := false, ltssm := 0, rateNow := 0, widthNow := 0, eqPhase := 0
      pllInt := false, cmOff := false, found := 0, idleNs := 0, posDue := true }
    let s := (lanesOf p).foldl idleAll s
    let s := (sidesOf p).foldl (fun s i => s.modSide i fun x => clearTest (hostPolarity (pcMode c) x)) s
    let s := (lanesOf p).foldl setTerm (relimitPath s p)
    let s := if pcMode c = 1 then (if s.paths[p].perst then holdPath s p else s)
      else (lanesOf p).foldl (fun s l => s.modLane l fun x => { x with logLane := 0xFF }) s
    let come := (lanesOf p).filter fun l => laneOn s l && !was.contains l
    come.foldl (fun s l => startCal (startCal s (sideOf l 0)) (sideOf l 1)) s

/-- The members of a group that has dissolved and is to form again go back to electrical idle (R93). -/
def unformMember (s : State) (q : PathId) : State :=
  if forming s.paths[q] && s.paths[q].st != .dormant then
    let s := (setPathState s q .idle).modPath q fun x => { x with ltssm := 0, rateNow := 0, widthNow := 0, eqPhase := 0, posDue := true }
    let s := (lanesOf q).foldl idleAll s
    if s.paths[q].perst then holdPath s q else s
  else s

/-- The group forms once every member holds one configuration and PIN_LAT with its BOND; from then on only the leader's PERST_N
acts, and what its receivers already see goes on (R93, R98, R125). -/
def formGroup (s : State) (p : PathId) : State :=
  let c := s.paths[p].cfg
  let ms := bondMembers p (pcBond c)
  if pcBond c != 0 && ms.all fun q => s.paths[q].cfg == c && s.paths[q].pinLat == s.paths[p].pinLat then
    let s := ms.foldl (fun s q => s.modPath q fun x => { x with formed := true, ltssm := 0 }) s
    if s.paths[ms.headD p].perst then ms.foldl holdPath s
    else
      let awake := ((ms.map (sidesOn s)).flatten).filter fun i => !s.lanes[laneOf i].ei[endOf i]
      if awake.isEmpty then s else awake.foldl forward (setGroupState s p .active)
  else s

/-! ### Margin commands -/

/-- The value of a row of Table 5.6, in its order: 1 for Supported and Yes, 0 for an error count that is no rate, the offsets in
percent of a UI and in 10 mV. -/
def marginCap (k : Fin 9) : Nat :=
  match k.val with
  | 3 => 0
  | 4 => 32
  | 5 => 50
  | 6 => 60
  | 7 => 24
  | 8 => 63
  | _ => 1

/-- A margin command takes effect on a side (R118, Table 5.6): two interpolator steps for each timing step, two codes for
each voltage step, on the first deckle sampler. -/
def takeMargin (c : MarginCmd) (x : Side) : Side :=
  match c with
  | .timing n => { x with margin := some c, deferred := none, marginAns := some (.taken x.marginN), dkPhase := vmod x.dkPhase 0 fun _ => 2 * n }
  | .voltage n => { x with margin := some c, deferred := none, marginAns := some (.taken x.marginN), dkThr := vmod x.dkThr 0 fun _ => 2 * n }
  | .goNormal => { endMargin x with marginAns := some (.taken 0) }
  | .clearErrors => { endMargin x with marginAns := some (.taken 0) }
  | .report k => { x with deferred := none, marginAns := some (.capability k (marginCap k)) }

/-! ### Transmitter settings -/

/-- TXEQ with its coefficients replaced, SWING kept, PRE2 as given. -/
def txWith (r : R40) (pre2 pre1 main post1 : Nat) : R40 :=
  pack 40 [(fld r 33 28, 28), (pre2, 24), (pre1, 19), (main, 12), (post1, 7)]

/-- A TXEQ value within its ranges: the coefficients add to 64, MAIN at least 24, SWING at most 32 (R84, Table 4.2). -/
def txeqOk (r : R40) : Bool :=
  decide (fld r 33 28 ≤ 32) && decide (fld r 27 24 ≤ 8) && decide (fld r 23 19 ≤ 16) && decide (24 ≤ fld r 18 12)
    && decide (fld r 11 7 ≤ 24) && fld r 27 24 + fld r 23 19 + fld r 18 12 + fld r 11 7 == 64

/-- (PRE1, MAIN, POST1) of a preset, Table 5.3. -/
def presetOf (k : Nat) : Nat × Nat × Nat :=
  match k with
  | 0 => (0, 48, 16)
  | 1 => (0, 54, 10)
  | 2 => (0, 52, 12)
  | 3 => (0, 56, 8)
  | 4 => (0, 64, 0)
  | 5 => (6, 58, 0)
  | 6 => (8, 56, 0)
  | 7 => (6, 46, 12)
  | 8 => (8, 48, 8)
  | 9 => (10, 54, 0)
  | _ => (0, 40, 24)

/-- A transmitter takes a preset or request whole, for one rate set (R109, R113): a host's ramp on it ends. -/
def takeTx (s : State) (i : SideId) (set : Fin 4) (t : Nat × Nat × Nat) : State :=
  s.modSide i fun x => { x with txeq := vmod x.txeq set fun r => txWith r 0 t.1 t.2.1 t.2.2, txRamp := none }

/-- Either KR segment of a lane is in training (R139, R347). -/
def krTraining (x : Lane) : Bool := (x.seg[0] == 2 || x.seg[0] == 3) || (x.seg[1] == 2 || x.seg[1] == 3)

end Sys2Proof.Machine
end

