-- ==== Sys2Proof/WellFormed.lean ====
section
/-! DEFINITION. Which commands and events are well formed: what the wires, the rings and the Mould can present at all. -/

namespace Sys2Proof

/-- A command entry carries at most 56 payload bytes (Table 13.5). -/
def Req.wf (r : Req) : Bool := decide (r.len.toNat ≤ 56) && decide (r.payload.length ≤ 56)

/-- An island number of R35: 0 to 6, 8 to 11, 32 to 63. -/
def islandWf (i : IslandId) : Bool :=
  decide (i.val ≤ 6) || (decide (8 ≤ i.val) && decide (i.val ≤ 11)) || decide (32 ≤ i.val)

/-- Lines a table can hold (Table 3.4). -/
def capacityOf (t : Nat) : Nat :=
  match t with
  | 0 => 4096
  | 5 => 2048
  | 6 => 1024
  | 8 => 256
  | _ => 512

/-- What a scan frame holds fits the longest frame a template describes, and one more octet that tells a longer one, with its inserted
zeros (R268, R270). -/
def ScanFrame.wf (f : ScanFrame) : Bool := decide (f.chars.length ≤ 257) && decide (f.bits.length ≤ 2468)

/-- A measurement names at most 1000 transitions per 1000 UI, and corrections of Table 8.1. -/
def Measured.wf (m : Measured) : Bool :=
  decide (m.transitions ≤ 1000) && m.targets.all fun t => decide (1 ≤ t.corr) && decide (t.corr ≤ 15)

/-- The well-formedness of a command or event. -/
def Instr.wf : Instr → Bool
  | .claim r | .cancel r | .identGet r | .evtMaskSet r | .corePllSelect r _ | .pathSet r | .pathGet r | .pinSet r
  | .protoSet r | .laneGet r | .txeqSet r | .polaritySet r | .countersGet r | .calGet r | .calSeed r | .calSet r
  | .calCfgSet r | .auxCalGet r | .auxCalSet r | .sweepPlan r | .sweepPoints r | .sweepArm r | .sweepAbort r
  | .sweepResult r | .timeGet r | .timeCfgSet r | .timeSet r | .delaySet r | .ptpIpSet r | .pullSet r | .mouldLoad r
  | .mouldStore r | .mouldActivate r | .mouldStatus r | .sessionBind r | .sessionUnbind r | .sessionCredits r
  | .sessionPolicy r | .sessionGet r | .svcSet r | .bridgeCountersGet r | .venSet r | .vwinSet r | .vmstSet r
  | .virqSet r | .vupSet r | .venGet r | .shadowWrite r | .scanSet r | .templateSet r | .signalSet r | .bundleSet r
  | .bundleMembers r | .signalWrite r | .signalRead r | .scanGet r | .timersSet r | .pathWake r | .powerGet r
  | .chargerSet r | .configSave r | .storeGet r | .fwBegin r | .fwData r | .fwCommit r | .logRead r | .deviceReset r
  | .testEnable r | .loopSet r | .patternUser r | .checkerGet r | .telemGet r => r.wf
  | .windowRegisterWrite _ bytes => decide (1 ≤ bytes.length) && decide (bytes.length ≤ 5)
  | .mailboxPointerSet bytes => decide (1 ≤ bytes.length) && decide (bytes.length ≤ 2)
  | .lineEnd t idx _ => decide (idx < capacityOf t.val)
  | .workLine idx _ | .trimLine idx _ _ | .storeLine idx | .restLine idx _ => decide (idx < capacityOf 0)
  | .telemLine idx samples => decide (idx < capacityOf 0) && decide (samples.length ≤ 16)
  | .servoLine idx | .ppsLine idx | .chainLine idx _ => decide (idx < capacityOf 8)
  | .txLine idx => decide (idx < capacityOf 7)
  | .cycleLine idx | .grantLine idx _ | .vcalLine idx | .vrstLine idx => decide (idx < capacityOf 5)
  | .pollLine o | .pollLineBusy o | .sendLine o => decide (o.idx < capacityOf 6)
  | .listenLine idx _ | .scalLine idx _ _ => decide (idx < capacityOf 6)
  | .scanFrameEnd _ f => f.wf
  | .calLine _ idx _ | .kerfLine _ idx | .sweepLine _ idx _ | .pinMeasLine _ idx _ | .patternLine _ idx
  | .loopLine _ idx | .dormantEnterLine _ idx | .dormantExitLine _ idx => decide (idx < capacityOf 1)
  | .measurementClose _ m => m.wf
  | .islandClockAbsent i | .islandClockReturned i => islandWf i
  | .eqPhaseEntry _ _ presets => presets.all fun b => decide (b.toNat ≤ 10)
  | .rateChange _ _ presets => presets.all fun x => decide (x.2.toNat ≤ 10)
  | .complianceEntry _ _ preset => decide (preset.toNat ≤ 10)
  | .cmdHeadDoorbell _ | .ringTailWrite _ _ | .attnCauseClear _ | .ownYieldWrite _ | .wdogWrite _ | .emergLockBreak _
  | .emergReleaseIo _ | .emergReclaim _ | .emergCpuReset _ | .windowPointerSet _ | .mailboxByteWrite _
  | .quickCommand _ | .twoWireStart _ _ | .twoWireStop _ | .addressMatchWake _ | .sclReleaseAfterWake | .sclStuck
  | .sdaStuck | .attentionPulse | .attentionPulseRepeat | .attentionPulseAbort | .frameReceived _ _
  | .ptpMessageReceived _ | .delayReqDue | .sourceLost _ | .ppsInEdge _ | .chainMarkReceived _ _ | .chainLost
  | .sheetBoundary | .patienceExpired | .restCommit _ | .targetAnswer _ _ _ _ _ _ | .targetRelease _ | .releaseTimeout
  | .readyWhileIdle _ _ | .leaseExpired | .grantEnd _ | .oldMasterCycle _ _ _ _ | .activityWithoutGrant _
  | .virqChange _ _ _ | .pollUnanswered _ | .scanCollision _ | .scanCfgApply _ | .kerfCommit _ | .noKerfTimeout _
  | .initialCalibrationDone _ _ | .receiverEiExit _ | .receiverEiEntry _ | .laneLockLost _ | .bufferSlip _ _
  | .skpAdjustment _ _ _ | .corePllLoss | .receiverDetect _ _ | .trainingSetReceived _ _
  | .eqPartnerEcho _ _ | .eqEchoTimeout _ | .eqPhaseComplete _ | .coefficientRequest _ _ _ _ | .perstAsserted _
  | .perstNegated _ | .l1SubstateEntry _ | .l1SubstateExit _ | .refclkLost _ | .marginCommand _ _ _ _ | .l0sEntry _ _
  | .anComplete _ _ _ | .krCoeffUpdate _ _ _ | .krStatusUpdate _ _ | .krUpdateTimeout _ | .krRequestsFinished _
  | .krReceiverReady _ | .krRestart _ _ | .transparentAcquire _ | .checkerLock _ | .checkerLockLost _
  | .svcLinkChange _ | .sweepPointStart | .restPendSet | .wakeSourceDetected _ | .spineTimeReload _ | .brownout _ _
  | .undervoltageLockout _ _ _ | .aoSwitchover _ | .resetNAsserted _ _ | .thermalShutdown _ _ | .thermalWarning _ _
  | .thermalWarningCleared _ | .resetRelease _ | .bankStarted | .bankStartFailed _ | .watchdogExpired | .gulcyRestarted
  | .deviceResetEffect _ | .cellCheck _ | .tapBypass | .tapIdcode | .tapSamplePreload | .tapExtest | .tapClamp
  | .tapHighz | .tapExtestPulse | .tapExtestTrain | .dormantSquelchActivity _ | .oldMasterStrobeRelease
  | .veneerBusIdle | .vbakFloatCrossing _ | .vaoLost | .anPagesReceived _ => true

end Sys2Proof
end

