-- ==== Sys2Proof/Machine/PathCmds.lean ====
section
/-! DEFINITION. Path and lane commands, group 0x02 (R341 to R348): PATH_SET, PATH_GET, PIN_SET, PROTO_SET, LANE_GET,
TXEQ_SET, POLARITY_SET, COUNTERS_GET. -/

namespace Sys2Proof.Machine

/-- GROUP of a path: 0 none, 1 forming, 2 formed (Table 14.5). -/
def groupCode (x : Path) : Nat := if pcBond x.cfg = 0 then 0 else if x.formed then 2 else 1

/-- The path a PATH byte names. -/
def pathArg (b : List Byte) (o : Nat) : Option PathId := if h : num b o 1 < 4 then some ⟨num b o 1, h⟩ else none

/-- The side a SIDE byte names. -/
def sideArg (b : List Byte) (o : Nat) : Option SideId := if h : num b o 1 < 32 then some ⟨num b o 1, h⟩ else none

/-- Paths that a PATH_SET changes and what each takes: the path; in a formed group whose leader keeps BOND or clears it,
every member (R343). -/
def pathSetTargets (s : State) (p : PathId) (c : R40) : List PathId :=
  if s.paths[p].formed && (pcBond c == pcBond s.paths[p].cfg || pcBond c == 0) then groupOf s p else [p]

/-- PATH_SET put in force (R343): a formed group whose leader changes BOND dissolves. -/
def applyPathSet (s : State) (p : PathId) (c : R40) : State :=
  if s.paths[p].cfg = c then s
  else
    let targets := pathSetTargets s p c
    let old := groupOf s p
    let s := old.foldl (fun s q => s.modPath q fun x => { x with formed := false }) s
    let s := targets.foldl (fun s q => takeCfg s q c) s
    formGroup ((old.filter fun q => !targets.contains q).foldl unformMember s) p

/-- PATH_SET, 0x0201 (R342, R343). -/
def doPathSet (r : Req) (s : State) : Result :=
  if r.len.toNat ≠ 6 then badLength s
  else match pathArg r.payload 0 with
    | none => badLength s
    | some p =>
      let c := img r.payload 1
      let targets := pathSetTargets s p c
      if pathCfgOk s p c = false then badLength s
      else if isDormant s p || (s.paths[p].formed && leaderOf s p != p) then busy s
      else if s.paths[p].cfg ≠ c ∧ (bothMoulds s).any (fun m => targets.any fun q => !pathFits m q (pcMode c) (pcRate c)) then
        mouldReject s
      else
        let s := applyPathSet s p c
        okWith s (imgBytes s.paths[p].cfg ++ [by1 (groupCode s.paths[p])])

/-- PATH_GET, 0x0202 (R342). -/
def doPathGet (r : Req) (s : State) : Result :=
  if r.len.toNat ≠ 1 then badLength s
  else match pathArg r.payload 0 with
    | none => badLength s
    | some p =>
      let x := s.paths[p]
      okWith s (imgBytes x.cfg ++ be 4 x.pinLat.toNat ++ imgBytes x.pcieCfg ++ imgBytes x.bpCfg ++ imgBytes x.lineCfg
        ++ imgBytes (pcieStatus s p) ++ [by1 (if pathOn s p then stCode x.st else 3), by1 (groupCode x),
          by1 (if x.formed then (leaderOf s p).val else 0xFF)])

/-- PIN_SET, 0x0203 (R344). -/
def doPinSet (r : Req) (s : State) : Result :=
  if r.len.toNat ≠ 5 then badLength s
  else match pathArg r.payload 0 with
    | none => badLength s
    | some p =>
      let v := num r.payload 1 4
      if pinLatOk v (pcRate s.paths[p].cfg) = false then badLength s
      else if isDormant s p then busy s
      else okay ((groupOf s p).foldl (fun s q => s.modPath q fun x => { x with pinLat := BitVec.ofNat 32 v }) s)

/-- A PCIE_CFG value that R115 accepts, Table 5.4. -/
def pcieCfgOk (c : R40) : Bool :=
  fld c 39 38 != 3 && decide (fld c 37 34 ≤ 10) && decide (fld c 33 30 ≤ 10) && fld c 13 12 != 3
    && (fld c 39 38 != 0 || fld c 29 19 != 0)

/-- PROTO_SET, 0x0204 (R115, R153, R347). Reserved bits read zero. -/
def doProtoSet (r : Req) (s : State) : Result :=
  if r.len.toNat ≠ 7 then badLength s
  else match pathArg r.payload 0 with
    | none => badLength s
    | some p =>
      let v := img r.payload 2
      match num r.payload 1 1 with
      | 0 =>
        let c : R40 := pack 40 [(fld v 39 15, 15), (fld v 13 12, 12)]
        if pcieCfgOk c = false then badLength s else if isDormant s p then busy s
        else okay (s.modPath p fun x => { x with pcieCfg := c })
      | 1 =>
        let c : R40 := pack 40 [(fld v 39 30, 30)]
        if fld c 39 38 = 3 then badLength s else if isDormant s p then busy s
        else okay (s.modPath p fun x => { x with bpCfg := c })
      | 2 =>
        if isDormant s p then busy s
        else okay (s.modPath p fun x => { x with lineCfg := pack 40 [(fld v 39 38, 38)] })
      | _ => badLength s

/-- TXEQ of the running set of a side. -/
def txNow (s : State) (i : SideId) : R40 := s.sides[i].txeq[runSet s.paths[pathOf i]]

/-- LANE_GET, 0x0205 (R342). -/
def doLaneGet (r : Req) (s : State) : Result :=
  if r.len.toNat ≠ 1 then badLength s
  else if h : num r.payload 0 1 < 16 then
    let l : LaneId := ⟨num r.payload 0 1, h⟩
    let n := sideOf l 0
    let f := sideOf l 1
    okWith s (imgBytes (laneStatus s l) ++ imgBytes (bpStatus s.lanes[l]) ++ imgBytes (pinReport s.sides[n])
      ++ imgBytes (pinReport s.sides[f]) ++ imgBytes (txNow s n) ++ imgBytes (txNow s f))
  else badLength s

/-- A host's TXEQ value written (R84): SWING at once and for every rate (R113); the coefficients whole on a set that does not run or a
transmitter in electrical idle, else as the goal of a ramp in the transmitter's kerfs. -/
def writeTxeq (s : State) (i : SideId) (set : Fin 4) (v : R40) : State :=
  let running := set == runSet s.paths[pathOf i]
  let swing := fun (r : R40) => setFld r 33 28 (fld v 33 28)
  s.modSide i fun x =>
    let x := { x with txeq := x.txeq.map swing, txRamp := x.txRamp.map swing }
    if running && !x.txIdle then { x with txRamp := if x.txeq[set] = v then none else some v }
    else { x with txeq := vmod x.txeq set fun _ => v, txRamp := if running then none else x.txRamp }

/-- The rate set a SET byte names for a side: 0xFF the running one; 1 to 3 only in MODE 1 (R340, R347, R350). -/
def setArg (s : State) (i : SideId) (b : Nat) : Option (Fin 4) :=
  if b = 0xFF then some (runSet s.paths[pathOf i])
  else if h : b < 4 then (if b = 0 ∨ pcMode s.paths[pathOf i].cfg = 1 then some ⟨b, h⟩ else none)
  else none

/-- TXEQ_SET, 0x0206 (R84, R114, R139, R347). -/
def doTxeqSet (r : Req) (s : State) : Result :=
  if r.len.toNat ≠ 7 then badLength s
  else match sideArg r.payload 0 with
    | none => badLength s
    | some i =>
      let raw := img r.payload 2
      let v : R40 := pack 40 [(fld raw 33 7, 7)]
      match setArg s i (num r.payload 1 1) with
      | none => badLength s
      | some set =>
        let x := s.paths[pathOf i]
        if txeqOk v = false then badLength s
        else if isDormant s (pathOf i) || (pcMode x.cfg == 1 && x.ltssm == 6)
            || (pcMode x.cfg == 2 && krTraining s.lanes[laneOf i]) then busy s
        else okay (writeTxeq s i set v)

/-- POLARITY_SET, 0x0207 (R95, R347). -/
def doPolaritySet (r : Req) (s : State) : Result :=
  if r.len.toNat ≠ 2 then badLength s
  else match sideArg r.payload 0 with
    | none => badLength s
    | some i =>
      if isDormant s (pathOf i) then busy s
      else
        let v := num r.payload 1 1
        let mode := pcMode s.paths[pathOf i].cfg
        okay (s.modSide i fun x => hostPolarity mode { x with rxHost := v % 2 == 1, txPol := v / 2 % 2 == 1 })

/-- Counters as five bytes each. -/
def counterBytes (l : List R40) : List Byte := (l.map imgBytes).flatten

/-- The counters of a lane side, Table 14.6 KIND 0. -/
def sideCounters (x : Side) : List R40 := [x.slips, x.longRuns, x.glitches, x.steps, x.gates, x.inserts, x.deletes]

/-- COUNTERS_GET, 0x0208 (R348). -/
def doCountersGet (r : Req) (s : State) : Result :=
  let b := r.payload
  let clear := num b 2 1 % 2 == 1
  let n := num b 1 1
  if r.len.toNat ≠ 3 then badLength s
  else match num b 0 1 with
    | 0 => match sideArg b 1 with
      | none => badLength s
      | some i =>
        let t := if clear then s.modSide i fun x => { x with slips := 0, longRuns := 0, glitches := 0, steps := 0, gates := 0, inserts := 0, deletes := 0 } else s
        okWith t (counterBytes (sideCounters s.sides[i]))
    | 1 => match pathArg b 1 with
      | none => badLength s
      | some p =>
        let x := s.paths[p]
        okWith (if clear then s.modPath p fun x => { x with deskew := 0, changes := 0, l0s := 0 } else s)
          (counterBytes [x.deskew, x.changes, x.l0s])
    | 2 =>
      if n ≠ 0 then badLength s
      else
        let x := s.time
        okWith (if clear then s.modTime fun x => { x with ptpIgnored := 0, ppsRejected := 0, chainDiscarded := 0 } else s)
          (counterBytes [x.ptpIgnored, x.ppsRejected, x.chainDiscarded])
    | 3 =>
      if h : n < 9 then
        let t : Fin 9 := ⟨n, h⟩
        okWith (if clear then s.modSeq fun q => { q with missed := vmod q.missed t fun _ => 0, overruns := vmod q.overruns t fun _ => 0 } else s)
          (counterBytes [s.seq.missed[t], s.seq.overruns[t]])
      else badLength s
    | 4 =>
      if h : n < 64 then
        let i : IslandId := ⟨n, h⟩
        if islandWf i then
          okWith (if clear then s.modPow fun p => { p with crossings := vmod p.crossings i fun _ => 0 } else s)
            (counterBytes [s.pow.crossings[i]])
        else badLength s
      else badLength s
    | _ => badLength s

/-- PATH_SET. -/
def execPathSet (r : Req) (s : State) : Host.Outcome State Fault Refusal := done s (command 0x0201 doPathSet r s)
/-- PATH_GET. -/
def execPathGet (r : Req) (s : State) : Host.Outcome State Fault Refusal := done s (command 0x0202 doPathGet r s)
/-- PIN_SET. -/
def execPinSet (r : Req) (s : State) : Host.Outcome State Fault Refusal := done s (command 0x0203 doPinSet r s)
/-- PROTO_SET. -/
def execProtoSet (r : Req) (s : State) : Host.Outcome State Fault Refusal := done s (command 0x0204 doProtoSet r s)
/-- LANE_GET. -/
def execLaneGet (r : Req) (s : State) : Host.Outcome State Fault Refusal := done s (command 0x0205 doLaneGet r s)
/-- TXEQ_SET. -/
def execTxeqSet (r : Req) (s : State) : Host.Outcome State Fault Refusal := done s (command 0x0206 doTxeqSet r s)
/-- POLARITY_SET. -/
def execPolaritySet (r : Req) (s : State) : Host.Outcome State Fault Refusal := done s (command 0x0207 doPolaritySet r s)
/-- COUNTERS_GET. -/
def execCountersGet (r : Req) (s : State) : Host.Outcome State Fault Refusal := done s (command 0x0208 doCountersGet r s)

end Sys2Proof.Machine
end

