-- ==== Sys2Proof/Machine/CalCmds.lean ====
section
/-! DEFINITION. Calender commands, group 0x03 up to 0x0306 (R349 to R351). -/

namespace Sys2Proof.Machine

/-- CAL_GET, 0x0301. -/
def doCalGet (r : Req) (s : State) : Result :=
  if r.len.toNat ≠ 2 then badLength s
  else match sideArg r.payload 0 with
    | none => badLength s
    | some i => match setArg s i (num r.payload 1 1) with
      | none => badLength s
      | some set =>
        let x := s.sides[i]
        okWith s (imgBytes x.rxeq[set] ++ imgBytes x.dfeA[set] ++ imgBytes x.dfeB[set] ++ imgBytes x.trim ++ imgBytes x.soff
          ++ imgBytes (qualA s i) ++ imgBytes (qualB x) ++ imgBytes x.calCfg)

/-- The five images of a payload (R349). -/
def payloadImages (b : List Byte) : CalImages :=
  { rxeq := img b 4, dfeA := img b 9, dfeB := img b 14, trim := img b 19, soff := img b 24 }

/-- CAL_SEED and CAL_SET with the images a mask selects (R196, R350). -/
def doCalWrite (r : Req) (s : State) (mask : Nat) (seed : Bool) : Result :=
  match sideArg r.payload 0 with
  | none => badLength s
  | some i =>
    let b := num r.payload 1 1
    match setArg s i b with
    | none => badLength s
    | some set =>
      let x := s.sides[i]
      let given := payloadImages r.payload
      let pick := fun k => if mask / 2 ^ k % 2 = 1 then imageReg given k else imageReg (imagesOf x set) k
      let want := cleanImages { rxeq := pick 0, dfeA := pick 1, dfeB := pick 2, trim := pick 3, soff := pick 4 } (bit x.trim 20)
      if b = 0xFF ∨ mask % 32 = 0 ∨ imagesOk want = false then badLength s
      else if isDormant s (pathOf i) || writeRefused s i set mask then busy s
      else
        let s := writeImages s i set want mask
        okay (if seed then s.modSide i fun x => { x with trim := setFld x.trim 20 20 1 } else s)

/-- CAL_SEED, 0x0302. -/
def doCalSeed (r : Req) (s : State) : Result := if r.len.toNat ≠ 29 then badLength s else doCalWrite r s 31 true
/-- CAL_SET, 0x0303. -/
def doCalSet (r : Req) (s : State) : Result :=
  if r.len.toNat ≠ 29 then badLength s else doCalWrite r s (num r.payload 2 1 % 32) false

/-- Sides a SUBJECT names (Table 14.4). -/
def subjectSides (n : Nat) : Option (List SideId) :=
  if n < 32 then some ((List.finRange 32).filter fun i => i.val == n)
  else if 0x40 ≤ n ∧ n ≤ 0x43 then some ((List.finRange 32).filter fun i => i.val / 8 == n - 0x40)
  else if n = 0xFF then some (List.finRange 32)
  else none

/-- CAL_CFG_SET, 0x0304 (R202, R351). -/
def doCalCfgSet (r : Req) (s : State) : Result :=
  if r.len.toNat ≠ 6 then badLength s
  else match subjectSides (num r.payload 0 1) with
    | none => badLength s
    | some l =>
      let v := img r.payload 1
      if fld v 32 28 < 4 ∨ fld v 27 16 = 0 ∨ fld v 15 12 = 0 then badLength s
      else if l.any fun i => isDormant s (pathOf i) then busy s
      else okay (l.foldl (fun s i => s.modSide i fun x => { x with calCfg := pack 40 [(fld v 39 12, 12)] }) s)

/-- AUX_CAL_GET, 0x0305. -/
def doAuxCalGet (r : Req) (s : State) : Result :=
  let n := num r.payload 1 1
  if r.len.toNat ≠ 2 then badLength s
  else match num r.payload 0 1 with
    | 0 => if h : n < 16 then okWith s (imgBytes s.ven.tap[n] ++ imgBytes (vqual s.ven ⟨n, h⟩)) else badLength s
    | 1 => if h : n < 4 then okWith s (imgBytes s.scan.lines[n].cal ++ [0, 0, 0, 0, 0]) else badLength s
    | _ => badLength s

/-- A byte lane's tap in VTAP (Table 8.4). -/
def tapOf (v : R40) (lane : Nat) : Nat := fld v (21 + 6 * lane) (16 + 6 * lane)

/-- A window's taps set whole; the shadows keep their offsets as far as the code range 0 to 63 allows (R185, R200). -/
def setTaps (w : Fin 16) (t : R40) (v : Veneer) : Veneer :=
  let hold := fun (v : Veneer) (lane : Nat) =>
    { v with early := vmodN v.early (4 * w.val + lane) fun e => max (-(tapOf t lane : Int)) e
             late := vmodN v.late (4 * w.val + lane) fun e => min (63 - (tapOf t lane : Int)) e }
  (upto 4).foldl hold { v with tap := vmod v.tap w fun _ => t }

/-- VTAP written (R202): with ADAPT 0 the taps wait for the next VCAL line. -/
def writeTap (s : State) (w : Fin 16) (v : R40) : State :=
  let v : R40 := pack 40 [(fld v 39 3, 3)]
  s.modVen fun x =>
    let rest := x.tapNext.filter fun p => p.1 != w
    if bit v 3 then setTaps w v { x with tapNext := rest }
    else { x with tap := vmod x.tap w fun t => setFld t 3 3 0, tapNext := rest ++ [(w, v)] }

/-- SCAN_CAL written (R202): THRESH and ADAPT; with ADAPT 0 the threshold waits for the next SCAL line. -/
def writeScanCal (s : State) (l : Fin 4) (v : R40) : State :=
  s.modLine l fun x =>
    if bit v 33 then { x with cal := setFld (setFld x.cal 39 34 (fld v 39 34)) 33 33 1, calNext := none }
    else { x with cal := setFld x.cal 33 33 0, calNext := some v }

/-- AUX_CAL_SET, 0x0306. -/
def doAuxCalSet (r : Req) (s : State) : Result :=
  let n := num r.payload 1 1
  let v := img r.payload 2
  if r.len.toNat ≠ 7 then badLength s
  else match num r.payload 0 1 with
    | 0 => if h : n < 16 then okay (writeTap s ⟨n, h⟩ v) else badLength s
    | 1 => if h : n < 4 then okay (writeScanCal s ⟨n, h⟩ v) else badLength s
    | _ => badLength s

/-- CAL_GET. -/
def execCalGet (r : Req) (s : State) : Host.Outcome State Fault Refusal := done s (command 0x0301 doCalGet r s)
/-- CAL_SEED. -/
def execCalSeed (r : Req) (s : State) : Host.Outcome State Fault Refusal := done s (command 0x0302 doCalSeed r s)
/-- CAL_SET. -/
def execCalSet (r : Req) (s : State) : Host.Outcome State Fault Refusal := done s (command 0x0303 doCalSet r s)
/-- CAL_CFG_SET. -/
def execCalCfgSet (r : Req) (s : State) : Host.Outcome State Fault Refusal := done s (command 0x0304 doCalCfgSet r s)
/-- AUX_CAL_GET. -/
def execAuxCalGet (r : Req) (s : State) : Host.Outcome State Fault Refusal := done s (command 0x0305 doAuxCalGet r s)
/-- AUX_CAL_SET. -/
def execAuxCalSet (r : Req) (s : State) : Host.Outcome State Fault Refusal := done s (command 0x0306 doAuxCalSet r s)

end Sys2Proof.Machine
end

