-- ==== Sys2Proof/Machine/SweepCmds.lean ====
section
/-! DEFINITION. Sweep plans and their commands, 0x0310 to 0x0314 (R181 to R183, R352 to R354). -/

namespace Sys2Proof.Machine

/-- SHEET_N of the active Mould; 8, that of the base Mould, where none is active. -/
def sheetN (s : State) : Nat := match s.seq.active with | some m => m.sheetN | none => 8

/-- A stamp is a sheet boundary of a period (R50). -/
def isBoundary (n t : Nat) : Bool := boundaryStamp n (boundaryAt n t) == t

/-- Margin commands that waited for the sweep take effect (R119). -/
def releaseMargins (s : State) : State :=
  forSides s fun s i => s.modSide i fun x => match x.deferred with | none => x | some c => takeMargin c x

/-- The plan ends aborted with event 0x0422 (R183, R354). Which point was completed last is open where none was. -/
def abortSweep (s : State) (cause : Nat) : State :=
  if s.sweep.st = 2 ∨ s.sweep.st = 3 then
    let last := if s.sweep.done = 0 then s.openNat else s.sweep.done - 1
    let s := if s.sweep.done = 0 then s.usedFree else s
    let plan := s.sweep.plan
    let s := releaseMargins (s.modSweep fun w => { w with st := 5, point := none, moved := false, ending := none })
    raise s 0x0422 [plan, by1 cause, by1 last]
  else s

/-- SWEEP_PLAN, 0x0310 (R352, R353). -/
def doSweepPlan (r : Req) (s : State) : Result :=
  let b := r.payload
  let d := num b 1 1
  let np := num b 2 2
  let masks : Vector Byte 4 := Vector.ofFn fun p : Fin 4 => by1 (num b (14 + p.val) 1)
  if r.len.toNat ≠ 18 ∨ d = 0 ∨ np = 0 ∨ 256 < np ∨ num b 14 4 = 0 ∨ isBoundary (sheetN s) (num b 4 10) = false
      ∨ (List.finRange 32).any (fun i => bit masks[pathOf i] (i.val % 8) && !laneOn s (laneOf i)) then badLength s
  else if s.sweep.st = 2 ∨ s.sweep.st = 3 then busy s
  else okay (s.modSweep fun _ =>
    { st := 1, plan := by1 (num b 0 1), d := d, npoints := np, s0 := BitVec.ofNat 80 (num b 4 10), masks := masks })

/-- The pairs of SWEEP_POINTS from an index on. -/
def pointPairs (first : Nat) : Nat → List Byte → List (Nat × Int × Int)
  | 0, _ => []
  | k + 1, b => (first, signedOf 8 (num b 0 1), signedOf 8 (num b 1 1)) :: pointPairs (first + 1) k (b.drop 2)

/-- The command names the plan held. -/
def holdsPlan (s : State) (b : List Byte) : Bool := s.sweep.st != 0 && s.sweep.plan.toNat == num b 0 1

/-- SWEEP_POINTS, 0x0311 (R353). Where the plan it names is not the one held there is no NPOINTS to exceed. -/
def doSweepPoints (r : Req) (s : State) : Result :=
  let b := r.payload
  let k := num b 2 1
  let first := num b 1 1
  let ps := pointPairs first k (b.drop 4)
  if k = 0 ∨ 26 < k ∨ r.len.toNat ≠ 4 + 2 * k then badLength s
  else if ps.any (fun p => decide (p.2.1 < -64) || decide (64 < p.2.1) || decide (p.2.2 < -127)) then badLength s
  else if holdsPlan s b && decide (s.sweep.npoints < first + k) then badLength s
  else if s.sweep.st ≠ 1 ∨ s.sweep.plan.toNat ≠ num b 0 1 then busy s
  else okay (s.modSweep fun w => { w with points := (w.points.filter fun q => !(ps.any fun p => p.1 == q.1)) ++ ps })

/-- SWEEP_ARM, 0x0312. -/
def doSweepArm (r : Req) (s : State) : Result :=
  let n := sheetN s
  let endOfNext := boundaryStamp n (boundaryAt n s.seq.base.toNat + 2)
  if r.len.toNat ≠ 1 ∨ holdsPlan s r.payload = false then badLength s
  else if (upto s.sweep.npoints).any (fun k => !(s.sweep.points.any fun p => p.1 == k)) then badLength s
  else if s.sweep.s0.toNat ≤ endOfNext then badLength s
  else okay (s.modSweep fun w => { w with st := 2 })

/-- SWEEP_ABORT, 0x0313 (R354). -/
def doSweepAbort (r : Req) (s : State) : Result :=
  if r.len.toNat ≠ 1 ∨ holdsPlan s r.payload = false then badLength s
  else okWith (abortSweep s 4) [by1 s.sweep.st.val]

/-- What SWEEP_RESULT tells of one side at a point. -/
def resultOf (s : State) (point : Nat) (i : SideId) : List Byte :=
  let w := s.sweep
  let c := w.cells.find? fun c => c.point == point && c.side == i
  let f := (w.flags.find? fun f => f.1 == point).elim 0 fun f => f.2.toNat
  let inPlan := bit w.masks[pathOf i] (i.val % 8)
  let counts := match c with | some c => imgBytes c.compared ++ imgBytes c.errors | none => List.replicate 10 0
  counts ++ [by1 (f + 8 * b2n inPlan + 16 * b2n (decide (point < w.done)))]

/-- SWEEP_RESULT, 0x0314. -/
def doSweepResult (r : Req) (s : State) : Result :=
  let b := r.payload
  let n := num b 3 1
  let side := num b 2 1
  if r.len.toNat ≠ 4 ∨ holdsPlan s b = false ∨ n = 0 ∨ 4 < n ∨ 32 < side + n ∨ s.sweep.npoints ≤ num b 1 1 then badLength s
  else okWith s ([by1 s.sweep.st.val] ++ ((upto n).map fun k => resultOf s (num b 1 1) (Fin.ofNat 32 (side + k))).flatten)

/-- SWEEP_PLAN. -/
def execSweepPlan (r : Req) (s : State) : Host.Outcome State Fault Refusal := done s (command 0x0310 doSweepPlan r s)
/-- SWEEP_POINTS. -/
def execSweepPoints (r : Req) (s : State) : Host.Outcome State Fault Refusal := done s (command 0x0311 doSweepPoints r s)
/-- SWEEP_ARM. -/
def execSweepArm (r : Req) (s : State) : Host.Outcome State Fault Refusal := done s (command 0x0312 doSweepArm r s)
/-- SWEEP_ABORT. -/
def execSweepAbort (r : Req) (s : State) : Host.Outcome State Fault Refusal := done s (command 0x0313 doSweepAbort r s)
/-- SWEEP_RESULT. -/
def execSweepResult (r : Req) (s : State) : Host.Outcome State Fault Refusal := done s (command 0x0314 doSweepResult r s)

end Sys2Proof.Machine
end

