-- ==== Sys2Proof/Machine/TimeCmds.lean ====
section
/-! DEFINITION. Time commands, group 0x04 (R174, R355 to R358). -/

namespace Sys2Proof.Machine

/-- TIME_GET, 0x0401. -/
def doTimeGet (r : Req) (s : State) : Result :=
  if r.len.toNat ≠ 0 then badLength s
  else
    let t := s.time
    okWith s (imgBytes t.cfg ++ imgBytes (timeStatus t) ++ imgBytes (timeQuality t) ++ imgBytes (chainStatus t)
      ++ sbe 4 t.freqAdj ++ be 2 t.pull.toNat ++ stampBytes s.now ++ stampBytes t.ppsStamp)

/-- Measurement starts again: a change of source, domain or transport (R174). The next measurement is a first one, as R159 has it for a
source change, after any of the three, and TSCALE keeps its value until the new source tells its own, DESIGN CHOICE (log entries 131 and
132). -/
def restartMeasurement (t : TimeIsl) : TimeIsl :=
  let src := timeSource t
  { t with st := if src = 0 then 1 else 2, srcNow := BitVec.ofNat 2 src, first := true, lockRun := 0, lockHist := [], meas := []
           lockedAt := none, sync := none, delayReq := none, reqDue := false, master := none
           hop := if src = 3 then t.hop else 0 }

/-- TIME_CFG written (R174); a source selected ends the pull's own target (R358). -/
def writeTimeCfg (s : State) (v : R40) : State :=
  s.modTime fun t =>
    let old := t.cfg
    let t := { t with cfg := v, pullGoal := if fld v 39 38 = 0 then t.pullGoal else none }
    if fld v 39 38 = fld old 39 38 ∧ fld v 19 12 = fld old 19 12 then t else restartMeasurement t

/-- TIME_CFG_SET, 0x0402 (R174, R356). DOMAIN has seven bits, so none is above 127. -/
def doTimeCfgSet (r : Req) (s : State) : Result :=
  let v := img r.payload 0
  if r.len.toNat ≠ 5 ∨ fld v 27 20 = 0 then badLength s
  else okay (writeTimeCfg s (pack 40 [(fld v 39 11, 11)]))

/-- TIME_SET, 0x0403 (R357): the step is V − T, and with SOURCE 2 its whole seconds. -/
def doTimeSet (r : Req) (s : State) : Result :=
  let src := timeSource s.time
  if r.len.toNat ≠ 10 then badLength s
  else if src = 1 ∨ src = 3 then busy s
  else
    let d := signedOf 80 (num r.payload 0 10 + 2 ^ 80 - s.now.toNat)
    let d := if src = 2 then d / 2 ^ 40 * 2 ^ 40 else d
    okay (s.modTime fun t => { t with step := some d, st := if t.st = 0 then 1 else t.st, tscale := 3 })

/-- A delay's range in 0.25 ns units (R356). -/
def delayOk (which : Nat) (v : Int) : Bool :=
  match which with
  | 0 => decide (-400000 ≤ v) && decide (v ≤ 400000)
  | 1 => decide (0 ≤ v) && decide (v ≤ 8000)
  | 2 => decide (0 ≤ v) && decide (v ≤ 8000)
  | 3 => decide (-4000000 ≤ v) && decide (v ≤ 4000000)
  | 4 => decide (0 ≤ v) && decide (v ≤ 4000)
  | _ => false

/-- DELAY_SET, 0x0404. -/
def doDelaySet (r : Req) (s : State) : Result :=
  let w := num r.payload 0 1
  let v := signedOf 32 (num r.payload 1 4)
  if r.len.toNat ≠ 5 ∨ delayOk w v = false then badLength s
  else okay (s.modTime fun t => { t with delays := vmodN t.delays w fun _ => v })

/-- A PTP source address R356 accepts. -/
def ptpIpOk (a : Nat) : Bool := a != 0 && a != 0xFFFFFFFF && !(decide (0xE0000000 ≤ a) && decide (a ≤ 0xEFFFFFFF))

/-- PTP_IP_SET, 0x0405. -/
def doPtpIpSet (r : Req) (s : State) : Result :=
  let a := num r.payload 0 4
  if r.len.toNat ≠ 4 ∨ ptpIpOk a = false then badLength s
  else okay (s.modTime fun t => { t with ptpIp := BitVec.ofNat 32 a })

/-- PULL_SET, 0x0406 (R358). -/
def doPullSet (r : Req) (s : State) : Result :=
  if r.len.toNat ≠ 2 then badLength s
  else if timeSource s.time ≠ 0 then busy s
  else okay (s.modTime fun t => { t with pullGoal := some (BitVec.ofNat 16 (num r.payload 0 2)) })

/-- TIME_GET. -/
def execTimeGet (r : Req) (s : State) : Host.Outcome State Fault Refusal := done s (command 0x0401 doTimeGet r s)
/-- TIME_CFG_SET. -/
def execTimeCfgSet (r : Req) (s : State) : Host.Outcome State Fault Refusal := done s (command 0x0402 doTimeCfgSet r s)
/-- TIME_SET. -/
def execTimeSet (r : Req) (s : State) : Host.Outcome State Fault Refusal := done s (command 0x0403 doTimeSet r s)
/-- DELAY_SET. -/
def execDelaySet (r : Req) (s : State) : Host.Outcome State Fault Refusal := done s (command 0x0404 doDelaySet r s)
/-- PTP_IP_SET. -/
def execPtpIpSet (r : Req) (s : State) : Host.Outcome State Fault Refusal := done s (command 0x0405 doPtpIpSet r s)
/-- PULL_SET. -/
def execPullSet (r : Req) (s : State) : Host.Outcome State Fault Refusal := done s (command 0x0406 doPullSet r s)

end Sys2Proof.Machine
end

