-- ==== Sys2Proof/Machine/MouldCmds.lean ====
section
/-! DEFINITION. Mould commands, group 0x05 (R69 to R73, R359 to R362). -/

namespace Sys2Proof.Machine

/-- Code of the store in progress: 1, 2 a Mould slot, 3 a firmware update, 4 a configuration save (Table 14.11). -/
def storeCode (t : Store) : Nat :=
  match t.job with
  | none => 0
  | some (.mould slot _ _ _) => slot.val + 1
  | some (.config _ _ _) => 4
  | some (.fwErase _ _ _ _) => 3
  | some (.fwOpen ..) => 3

/-- The loaded bytes of the RAM image. -/
def ramBytes (s : State) : List Byte := Mem.readAll s.store.ram 0 s.store.ramLen

/-- The bytes of a slot's image. -/
def slotBytes (s : State) (k : Fin 2) : List Byte := Mem.readAll s.store.slots[k].image 0 s.store.slots[k].len

/-- MOULD_LOAD, 0x0501 (R360). -/
def doMouldLoad (r : Req) (s : State) : Result :=
  let b := r.payload
  let off := num b 0 3
  let n := num b 3 1
  if n = 0 ∨ 52 < n ∨ r.len.toNat ≠ 4 + n ∨ 163840 < off + n then badLength s
  else match s.store.job with
    | some (.mould ..) => busy s
    | _ => okay (s.modStore fun t =>
        { t with ram := Mem.writeAll t.ram off (slice b 4 n), ramLen := max (if off = 0 then 0 else t.ramLen) (off + n) })

/-- A MOULD_REJECT reply: reason, table, line index (Table 14.10). -/
def rejectWith (s : State) (o : Offence) : Result := (s, some ⟨0x08, [o.reason, o.table] ++ be 2 o.index.toNat⟩)

/-- MOULD_STORE, 0x0502 (R70, R362, R386). Its reply comes when the store has ended. -/
def doMouldStore (r : Req) (s : State) : Result :=
  let k := num r.payload 0 1
  let bs := ramBytes s
  if r.len.toNat ≠ 1 ∨ 1 < k then badLength s
  else if s.store.job.isSome then busy s
  else match loaderCheck bs s.store.ramLen with
    | some o => rejectWith s o
    | none =>
      if (s.seq.active.elim 0 storeLines) = 0 then failWith s 0x07
      else
        let len := num bs 12 4
        (s.modStore fun t => { t with job := some (.mould (Fin.ofNat 2 k) (t.ram.filter fun c => c.1 < len) len 0) }, none)

/-- The first offence of R361 of a Mould under the configuration in force: paths in order, then the service port. -/
def conflict (s : State) (m : Mould) : Option Offence :=
  match (List.finRange 4).find? fun p => !pathFits m p (pcMode s.paths[p].cfg) (pcRate s.paths[p].cfg) with
  | some p => some (tabOff 0x13 (1 + p.val))
  | none => if svcFits m s.svc.mode.val then none else some (tabOff 0x13 7)

/-- S lies ahead of a sheet number (R71). -/
def liesAhead (at' now : R40) : Bool := decide (1 ≤ (at' - now).toNat) && decide ((at' - now).toNat < 2 ^ 39)

/-- Sheet S's projected start is a boundary of both periods (R73). -/
def commonStart (s : State) (m : Mould) (at' : R40) : Bool :=
  let n := sheetN s
  m.sheetN == n || (boundaryAt n s.seq.base.toNat + (at' - s.seq.sheet).toNat) * n % m.sheetN == 0

/-- An activation judged once its image has passed (R71, R73, R361). -/
def activate (s : State) (m : Mould) (source : Byte) (at' : R40) : Result :=
  match conflict s m with
  | some o => rejectWith s o
  | none =>
    if liesAhead at' s.seq.sheet && commonStart s m at' then
      okay (s.modSeq fun q => { q with shadow := some { mould := m, source := source, sheet := at' } })
    else rejectWith s (headOff 0x12)

/-- An image checked by the loader, then judged. -/
def activateImage (s : State) (bs : List Byte) (source : Byte) (at' : R40) : Result :=
  match loaderCheck bs bs.length with
  | some o => rejectWith s o
  | none => activate s (toMould bs) source at'

/-- A pending activation withdrawn or cancelled: shadow memory cleared, event 0x0511 (R73, R74, R361). -/
def dropShadow (s : State) (reason : Nat) : State :=
  match s.seq.shadow with
  | none => s
  | some x =>
    raise (s.modSeq fun q => { q with shadow := none }) 0x0511 ([by1 reason] ++ be 4 x.mould.imageId.toNat ++ imgBytes x.sheet)

/-- MOULD_ACTIVATE, 0x0503. -/
def doMouldActivate (r : Req) (s : State) : Result :=
  let src := num r.payload 0 1
  let at' := img r.payload 1
  if r.len.toNat ≠ 6 ∨ (3 < src ∧ src ≠ 0xFF) then badLength s
  else if src = 0xFF then okWith (dropShadow s 0x00) [by1 (b2n s.seq.shadow.isSome)]
  else if s.seq.shadow.isSome then busy s
  else if src = 3 then activate s baseMould 3 at'
  else if src = 2 then activateImage s (ramBytes s) 2 at'
  else
    let k : Fin 2 := Fin.ofNat 2 src
    if s.store.slots[k].valid then activateImage s (slotBytes s k) (by1 src) at' else failWith s 0x07

/-- Validity and IMAGE_ID of a slot as MOULD_STATUS gives them. -/
def slotStatus (s : State) (k : Fin 2) : List Byte :=
  let x := s.store.slots[k]
  [by1 (b2n x.valid)] ++ (if x.valid then Mem.readAll x.image 20 4 else [0, 0, 0, 0])

/-- MOULD_STATUS, 0x0504, Table 14.11. -/
def doMouldStatus (r : Req) (s : State) : Result :=
  if r.len.toNat ≠ 0 then badLength s
  else
    let active := match s.seq.active with
      | some m => [s.seq.source] ++ be 4 m.imageId.toNat ++ [by1 m.sheetN]
      | none => [s.seq.source, 0, 0, 0, 0, 0]
    let pend := match s.seq.shadow with
      | some x => [1, x.source] ++ imgBytes x.sheet ++ be 4 x.mould.imageId.toNat
      | none => List.replicate 11 0
    okWith s (active ++ imgBytes s.seq.since ++ pend ++ slotStatus s 0 ++ slotStatus s 1 ++ be 3 s.store.ramLen
      ++ [by1 (storeCode s.store)])

/-- MOULD_LOAD. -/
def execMouldLoad (r : Req) (s : State) : Host.Outcome State Fault Refusal := done s (command 0x0501 doMouldLoad r s)
/-- MOULD_STORE. -/
def execMouldStore (r : Req) (s : State) : Host.Outcome State Fault Refusal := done s (command 0x0502 doMouldStore r s)
/-- MOULD_ACTIVATE. -/
def execMouldActivate (r : Req) (s : State) : Host.Outcome State Fault Refusal := done s (command 0x0503 doMouldActivate r s)
/-- MOULD_STATUS. -/
def execMouldStatus (r : Req) (s : State) : Host.Outcome State Fault Refusal := done s (command 0x0504 doMouldStatus r s)

end Sys2Proof.Machine
end

