-- ==== Sys2Proof/Machine/ManageCmds.lean ====
section
/-! DEFINITION. Management commands, group 0x01 (R325 to R328, R365 to R368), and session and service-port commands, group
0x06 (R369 to R373). -/

namespace Sys2Proof.Machine

/-! ### Ownership -/

/-- OWNER code of an issuer. -/
def issuerCode (who : Issuer) : Nat := match who with | .twoWire => 0 | .session k => k.val + 1

/-- The issuer owns the rings (R324, R363). -/
def ownsRings (s : State) (who : Issuer) : Bool := s.win.owner.toNat == issuerCode who

/-- A session's epoch by OWNER code; 0 for the two-wire side (Table 13.3). -/
def ownerEpoch (s : State) (code : Nat) : BitVec 6 := if code = 0 then 0 else (vget s.svc.sessions (code - 1)).epoch

/-- CLAIM, 0x0101 (R325). -/
def doClaim (r : Req) (s : State) : Result :=
  let v := num r.payload 0 1
  let y := num r.payload 1 1
  let new := if v = 0xFF then issuerCode r.issuer else v
  let old := s.win.owner.toNat
  if r.len.toNat ≠ 2 ∨ 1 < y ∨ 4 < new ∨ (new ≠ 0 ∧ (vget s.svc.sessions (new - 1)).addr.isNone) then badLength s
  else if ownsRings s r.issuer || s.win.yielding then
    okWith (setOwner s (BitVec.ofNat 3 new) (y == 1) (ownerEpoch s new) 0) [by1 new, by1 old]
  else failWith s 0x06

/-! ### CANCEL -/

/-- The entry of the command ring at a count (R315, Table 13.5): opcode and request. -/
def ringEntry (s : State) (count : BitVec 16) : BitVec 16 × Req :=
  let b := Mem.readAll s.mbx.mem (count.toNat % 64 * 64) 64
  (BitVec.ofNat 16 (num b 0 2), { issuer := .twoWire, tag := BitVec.ofNat 16 (num b 2 2), len := by1 (num b 4 1), payload := b.drop 8 })

/-- Each waiting arrival with the opcode and request it stands for: ring entries lie in ring order from CMD_TAIL on. -/
def arrivalsFrom (s : State) : BitVec 16 → List Arrival → List (Arrival × BitVec 16 × Req)
  | _, [] => []
  | t, a :: rest =>
    match a.body with
    | some b => (a, b) :: arrivalsFrom s t rest
    | none => (a, ringEntry s t) :: arrivalsFrom s (t + 1) rest

/-- Waiting arrivals with what they stand for. -/
def arrivalBodies (s : State) : List (Arrival × BitVec 16 × Req) := arrivalsFrom s s.win.cmdTail s.mbx.arrived

/-- The first arrival a test selects marked as answered. -/
def markFirst (f : Arrival × BitVec 16 × Req → Bool) : List (Arrival × BitVec 16 × Req) → List Arrival
  | [] => []
  | p :: rest => if f p then { p.1 with answered := true } :: rest.map (·.1) else p.1 :: markFirst f rest

/-- A waiting command a CANCEL may name: of its issuer, carrying the tag, not answered, not a CANCEL. -/
def cancelMatch (who : Issuer) (tag : Nat) (p : Arrival × BitVec 16 × Req) : Bool :=
  p.1.issuer == who && p.2.2.tag.toNat == tag && !p.1.answered && p.2.1 != 0x0102

/-- A command that ends at a step boundary when cancelled: MOULD_STORE, CONFIG_SAVE, FW_BEGIN (R362, R366). -/
def cancellable (op : Nat) : Bool := op == 0x0502 || op == 0x0B01 || op == 0x0B03

/-- A CANCEL applied: the oldest unreplied command of its issuer with the tag (R328, Table 13.9). Answers RESULT. -/
def applyCancel (who : Issuer) (tag : Nat) (s : State) : State × Nat :=
  match s.mbx.taken.find? fun t => t.req.issuer == who && t.req.tag.toNat == tag with
  | some t =>
    if cancellable t.opcode.toNat then
      let s := breakStore (s.modMbx fun m => { m with taken := m.taken.erase t })
      (oweReply s { issuer := who, opcode := t.opcode, tag := t.req.tag, rtag := t.rtag, lat := t.lat, status := 0x05, payload := [] }, 2)
    else (s, 3)
  | none =>
    match (arrivalBodies s).find? (cancelMatch who tag) with
    | none => (s, 0)
    | some p =>
      let s := s.modMbx fun m => { m with arrived := (markFirst (cancelMatch who tag) (arrivalBodies s)).filter fun a => !a.answered || a.body.isNone }
      (oweReply s { issuer := who, opcode := p.2.1, tag := p.2.2.tag, rtag := p.1.rtag, lat := p.1.lat, status := 0x04, payload := [] }, 1)

/-- CANCEL, 0x0102 (R365, R366). -/
def doCancel (r : Req) (s : State) : Result :=
  if r.len.toNat ≠ 2 then badLength s
  else
    let x := applyCancel r.issuer (num r.payload 0 2) s
    okWith x.1 [by1 x.2]

/-! ### Identity, masks, CORE clock -/

/-- IDENT_GET, 0x0103. -/
def doIdentGet (r : Req) (s : State) : Result :=
  if r.len.toNat ≠ 0 then badLength s
  else okWith s (imgBytes s.win.id ++ be 6 s.store.eui48.toNat ++ be 8 s.store.eui64.toNat ++ s.store.serial ++ stampBytes s.store.made)

/-- The session a SESSION byte names. -/
def sessionArg (b : List Byte) (o : Nat) : Option SessionId := if h : num b o 1 < 4 then some ⟨num b o 1, h⟩ else none

/-- EVT_MASK_SET, 0x0104 (R367). -/
def doEvtMaskSet (r : Req) (s : State) : Result :=
  if r.len.toNat ≠ 3 then badLength s
  else match sessionArg r.payload 0 with
    | none => badLength s
    | some k =>
      if s.svc.sessions[k].addr.isNone then badLength s
      else okay (s.modSession k fun x => { x with mask := BitVec.ofNat 16 (num r.payload 1 2 % 2 ^ 13) })

/-- CORE_PLL_SELECT, 0x0105 (R368). Whether the PLL locks within 100 µs is the row's operand. -/
def doCorePllSelect (locks : Bool) (r : Req) (s : State) : Result :=
  if r.len.toNat ≠ 0 then badLength s
  else if s.win.coreClk then okWith s [1]
  else if locks then okWith (raise (s.modWin fun w => { w with coreClk := true }) 0x0A30 [2, 0]) [1]
  else (s, some ⟨0x03, [0]⟩)

/-! ### Sessions -/

/-- A command marked O, its other checks passed (R363). -/
def owned (r : Req) (s : State) (x : Result) : Result := if ownsRings s r.issuer then x else failWith s 0x06

/-- A session bound to an address (R370, R210). -/
def bindSession (s : State) (k : SessionId) (a : Mac) : State :=
  if s.svc.sessions[k].addr = some a then s
  else (unbindSession s k).modSession k fun x => { x with addr := some a }

/-- SESSION_BIND, 0x0601 (R370). -/
def doSessionBind (r : Req) (s : State) : Result :=
  let a : Mac := BitVec.ofNat 48 (num r.payload 1 6)
  if r.len.toNat ≠ 7 then badLength s
  else match sessionArg r.payload 0 with
    | none => badLength s
    | some k => if a = 0 ∨ bit a 40 = true then badLength s else owned r s (okay (bindSession s k a))

/-- SESSION_UNBIND, 0x0602. -/
def doSessionUnbind (r : Req) (s : State) : Result :=
  if r.len.toNat ≠ 1 then badLength s
  else match sessionArg r.payload 0 with
    | none => badLength s
    | some k => owned r s (okay (unbindSession s k))

/-- Buffer entries of a credit class, Table 9.12. -/
def classBuffer (c : Fin 4) : Nat := match c with | 0 => 32 | 1 => 16 | 2 => 4 | 3 => 8

/-- Credits of the four sessions of a class with one session's value replaced (R371). -/
def creditSum (s : State) (k : SessionId) (c : Fin 4) (v : Nat) : Nat :=
  ((List.finRange 4).map fun j => if j = k then v else s.svc.sessions[j].credits[c]).sum

/-- SESSION_CREDITS, 0x0603 (R371). -/
def doSessionCredits (r : Req) (s : State) : Result :=
  if r.len.toNat ≠ 5 then badLength s
  else match sessionArg r.payload 0 with
    | none => badLength s
    | some k =>
      let v : Vector Nat 4 := Vector.ofFn fun c : Fin 4 => num r.payload (1 + c.val) 1
      if (List.finRange 4).any fun c => decide (classBuffer c < creditSum s k c v[c]) then badLength s
      else owned r s (okay (s.modSession k fun x => { x with credits := v, news := true }))

/-- SESSION_POLICY, 0x0604. -/
def doSessionPolicy (r : Req) (s : State) : Result :=
  if r.len.toNat ≠ 3 then badLength s
  else match sessionArg r.payload 0 with
    | none => badLength s
    | some k =>
      if num r.payload 1 2 = 0 then badLength s
      else owned r s (okay (s.modSession k fun x => { x with leaseMax := BitVec.ofNat 16 (num r.payload 1 2) }))

/-- SESSION_GET, 0x0605. -/
def doSessionGet (r : Req) (s : State) : Result :=
  if r.len.toNat ≠ 1 then badLength s
  else match sessionArg r.payload 0 with
    | none => badLength s
    | some k =>
      let x := s.svc.sessions[k]
      let lines := fun t => s.seq.active.elim 0 fun m => cycleLines m t
      okWith s ([by1 (b2n x.addr.isSome)] ++ be 6 ((x.addr.getD 0).toNat) ++ [by1 x.epoch.toNat]
        ++ (x.credits.toList.map by1) ++ ((List.finRange 4).map fun c => by1 (available x c)) ++ be 2 x.leaseMax.toNat
        ++ be 2 x.mask.toNat ++ [by1 (2 * b2n (s.svc.holder == some k) + b2n x.broken)] ++ be 3 (lines k.val) ++ be 3 (lines 0x0F))

/-- Records of a frame put back at the head of the queues their classes name: 0x12 UPW, 0x13 SIG, 0x14 EVT, else CPL. -/
def putBack (out : List OutRec) (b : Bridge) : Bridge :=
  let of := fun (c : Nat) => out.filter fun o => num o.bytes 0 1 == c
  { b with upw := of 0x12 ++ b.upw, sig := of 0x13 ++ b.sig, evt := of 0x14 ++ b.evt
           cpl := (out.filter fun o => !([0x12, 0x13, 0x14].contains (num o.bytes 0 1))) ++ b.cpl }

/-- The newest frame sent counts as not sent: no SEQ used, its records back in their queues with their credits outstanding; a
Delay_Req is due again (R205). -/
def unsend (s : State) (f : Leaving) : State :=
  let s := s.modSvc fun b => { b with sent := b.sent.drop 1 }
  match f.session with
  | none => s.modTime fun t => { t with reqDue := true, reqSeq := t.reqSeq - 1, delayReq := none }
  | some k =>
    let s := (s.modSvc (putBack f.out)).modSession k fun x => { x with upSeq := x.upSeq - 1, news := true }
    let s := f.out.foldl (fun s o => match o.credit with | some c => takeCredit s k c | none => s) s
    if f.out.any (fun o => o.reset) && s.pow.resetDue == some false then s.modPow fun p => { p with resetDue := some true } else s

/-- What a link loss undoes: the frames of the TX line in progress that have not wholly left, newest first (R205). -/
def cutFrames (s : State) : State :=
  ((s.svc.leaving.filter fun f => decide (s.now.toNat < f.ends)).foldl unsend s).modSvc fun b => { b with leaving := [] }

/-- The link of the service port comes up or goes down; event 0x060C at each change (R205). -/
def setLink (s : State) (up : Bool) : State :=
  if s.svc.link = up then s
  else
    let s := if up then s else cutFrames s
    raise (s.modSvc fun b => { b with link := up }) 0x060C [by1 s.svc.mode.val, by1 (b2n up)]

/-- A DOVE_ETYPE R206 accepts. -/
def etypeOk (v : Nat) : Bool :=
  decide (0x0600 ≤ v) && !([0x0800, 0x0806, 0x8100, 0x86DD, 0x8808, 0x88F7].contains v)

/-- SVC_SET's effect: a new mode takes the link down (R205, R372). -/
def applySvcSet (s : State) (mode : Fin 4) (etype : Nat) : State :=
  let s := if s.svc.mode = mode then s else (setLink s false).modSvc fun b => { b with mode := mode }
  s.modSvc fun b => { b with etype := BitVec.ofNat 16 etype }

/-- SVC_SET, 0x0606 (R346, R372). -/
def doSvcSet (r : Req) (s : State) : Result :=
  let e := num r.payload 1 2
  if r.len.toNat ≠ 3 ∨ etypeOk e = false then badLength s
  else if h : num r.payload 0 1 < 4 then
    let mode : Fin 4 := ⟨num r.payload 0 1, h⟩
    if mode ≠ s.svc.mode ∧ (bothMoulds s).any (fun m => !svcFits m mode.val) then mouldReject s
    else owned r s (okay (applySvcSet s mode e))
  else badLength s

/-- BRIDGE_COUNTERS_GET, 0x0607, Table 15.3. -/
def doBridgeCountersGet (r : Req) (s : State) : Result :=
  let b := r.payload
  let n := num b 1 1
  let clear := num b 2 1 % 2 == 1
  if r.len.toNat ≠ 4 then badLength s
  else match num b 0 1 with
    | 0 => match sessionArg b 1 with
      | none => badLength s
      | some k => okWith (if clear then s.modSession k fun x => { x with counts := x.counts.mapIdx fun i c => if i < 5 then 0 else c } else s)
          (counterBytes (s.svc.sessions[k].counts.toList.take 5))
    | 1 => match sessionArg b 1 with
      | none => badLength s
      | some k => okWith (if clear then s.modSession k fun x => { x with counts := x.counts.mapIdx fun i c => if i < 5 then c else 0 } else s)
          (counterBytes (s.svc.sessions[k].counts.toList.drop 5))
    | 2 =>
      if h : n < 16 then
        let w : Fin 16 := ⟨n, h⟩
        let v := s.ven
        okWith (if clear then s.modVen fun v => { v with cycles := vmod v.cycles w fun _ => 0, timeouts := vmod v.timeouts w fun _ => 0, faults := vmod v.faults w fun _ => 0, violations := vmod v.violations w fun _ => 0 } else s)
          (counterBytes [v.cycles[w], v.timeouts[w], v.faults[w], v.violations[w]])
      else badLength s
    | 3 =>
      if h : n < 4 then
        let m : Fin 4 := ⟨n, h⟩
        let v := s.ven
        okWith (if clear then s.modVen fun v => { v with delivered := vmod v.delivered m fun _ => 0, served := vmod v.served m fun _ => 0, refused := vmod v.refused m fun _ => 0 } else s)
          (counterBytes [v.delivered[m], v.served[m], v.refused[m]])
      else badLength s
    | 4 =>
      if h : n < 4 then
        let l : Fin 4 := ⟨n, h⟩
        okWith (if clear then s.modLine l fun x => { x with counts := Vector.replicate 8 0 } else s) (counterBytes s.scan.lines[l].counts.toList)
      else badLength s
    | 5 =>
      if 128 ≤ n then badLength s
      else
        let c := match s.scan.templates.find? fun t => t.id == n with | some t => [t.passed, t.failed] | none => [0, 0]
        okWith (if clear then s.modScan fun c => { c with templates := c.templates.map fun t => if t.id == n then { t with passed := 0, failed := 0 } else t } else s)
          (counterBytes c)
    | _ => badLength s

/-- CLAIM. -/
def execClaim (r : Req) (s : State) : Host.Outcome State Fault Refusal := done s (command 0x0101 doClaim r s)

/-- A CANCEL finds room for its target's reply beside its own, where the target has reserved none (R319, R327). -/
def cancelRoom (s : State) (who : Issuer) (tag : Nat) : Bool :=
  if s.mbx.taken.any (fun t => t.req.issuer == who && t.req.tag.toNat == tag) || !(arrivalBodies s).any (cancelMatch who tag) then true
  else match who with
    | .twoWire => decide (ringCount s.win.rplHead s.win.rplTail + (s.mbx.taken.filter fun t => t.req.issuer == .twoWire).length + 2 ≤ 64)
    | .session _ => decide (cplTaken s + 2 ≤ 16)

/-- CANCEL. -/
def execCancel (r : Req) (s : State) : Host.Outcome State Fault Refusal :=
  done s <|
    if cancelRoom s r.issuer (num r.payload 0 2) then command 0x0102 doCancel r s
    else (takeCtlCredit r.issuer s).modMbx fun m => { m with arrived := m.arrived ++
      [{ issuer := r.issuer, body := some (0x0102, r), rtag := r.tag, lat := 0, answered := false, disowned := false }] }

/-- IDENT_GET. -/
def execIdentGet (r : Req) (s : State) : Host.Outcome State Fault Refusal := done s (command 0x0103 doIdentGet r s)
/-- EVT_MASK_SET. -/
def execEvtMaskSet (r : Req) (s : State) : Host.Outcome State Fault Refusal := done s (command 0x0104 doEvtMaskSet r s)
/-- CORE_PLL_SELECT. -/
def execCorePllSelect (r : Req) (locks : Bool) (s : State) : Host.Outcome State Fault Refusal :=
  done s (command 0x0105 (doCorePllSelect locks) r s)
/-- SESSION_BIND. -/
def execSessionBind (r : Req) (s : State) : Host.Outcome State Fault Refusal := done s (command 0x0601 doSessionBind r s)
/-- SESSION_UNBIND. -/
def execSessionUnbind (r : Req) (s : State) : Host.Outcome State Fault Refusal := done s (command 0x0602 doSessionUnbind r s)
/-- SESSION_CREDITS. -/
def execSessionCredits (r : Req) (s : State) : Host.Outcome State Fault Refusal := done s (command 0x0603 doSessionCredits r s)
/-- SESSION_POLICY. -/
def execSessionPolicy (r : Req) (s : State) : Host.Outcome State Fault Refusal := done s (command 0x0604 doSessionPolicy r s)
/-- SESSION_GET. -/
def execSessionGet (r : Req) (s : State) : Host.Outcome State Fault Refusal := done s (command 0x0605 doSessionGet r s)
/-- SVC_SET. -/
def execSvcSet (r : Req) (s : State) : Host.Outcome State Fault Refusal := done s (command 0x0606 doSvcSet r s)
/-- BRIDGE_COUNTERS_GET. -/
def execBridgeCountersGet (r : Req) (s : State) : Host.Outcome State Fault Refusal := done s (command 0x0607 doBridgeCountersGet r s)

end Sys2Proof.Machine
end

