-- ==== Sys2Proof/Machine/VeneerCmds.lean ====
section
/-! DEFINITION. Veneer commands, group 0x07 (R244, R245, R262, R374, R375). -/

namespace Sys2Proof.Machine

/-- VEN_CFG as last accepted, in force or waiting for the end of a line (R262). -/
def venCfgNow (s : State) : R40 := s.ven.cfgNext.getD s.ven.cfg

/-- VWIN_BASE and VWIN_CFG of a window as last accepted (R245). -/
def winNow (s : State) (w : Fin 16) : R40 × R40 :=
  match s.ven.winNext.find? fun p => p.1 == w with
  | some p => p.2
  | none => (s.ven.base[w], s.ven.win[w])

/-- VEN_CFG.VCLK_DIV. -/
def vclkDiv (c : R40) : Nat := fld c 39 36

/-- No reserved encoding in a VEN_CFG value (Table 10.4). -/
def venCfgOk (c : R40) : Bool :=
  (vclkDiv c == 0 || (decide (4 ≤ vclkDiv c) && decide (vclkDiv c ≤ 12))) && fld c 15 8 != 0

/-- VEN_SET, 0x0701. -/
def doVenSet (r : Req) (s : State) : Result :=
  let v : R40 := pack 40 [(fld (img r.payload 0) 39 7, 7)]
  if r.len.toNat ≠ 5 ∨ venCfgOk v = false then badLength s
  else if vclkDiv v = 0 ∧ (List.finRange 16).any (fun w => bit (winNow s w).2 29) = true then badLength s
  else if bit v 7 = false ∧ s.svc.holder.isSome then busy s
  else if venLineRuns s then okay (s.modVen fun x => { x with cfgNext := some v })
  else okay (applyVenCfg s v)

/-- MAP fits WIDTH: swap16 not with 8 bits, swap32 only with 32 (R244, R375). -/
def mapOk (map width : Nat) : Bool := map != 3 && width != 3 && !(map == 1 && width == 0) && !(map == 2 && width != 2)

/-- A window's BASE address (Table 10.5). -/
def baseAddr (b : R40) : Nat := fld b 39 8

/-- A window configuration R244 accepts, given VCLK_DIV. -/
def winCfgOk (base c : R40) (div : Nat) : Bool :=
  let n := winLog c
  (n == 0 || (decide (8 ≤ n) && decide (n ≤ 32))) && baseAddr base % 2 ^ n == 0 && mapOk (fld c 31 30) (fld c 33 32) &&
  !(bit c 29 && div == 0) && ((upto 4).all fun k => winRight c k != 3) && fld c 19 16 != 0 && fld c 12 10 != 0 && fld c 9 7 != 0

/-- A window put in force. -/
def applyWin (s : State) (w : Fin 16) (base c : R40) : State :=
  s.modVen fun x =>
    let x := if winLog x.win[w] = 0 ∧ winLog c ≠ 0 then enterService x w else x
    { x with base := vmod x.base w fun _ => base, win := vmod x.win w fun _ => c, winNext := x.winNext.filter fun p => p.1 != w }

/-- The VEN line in progress serves a window (R245). -/
def lineServes (s : State) (w : Fin 16) : Bool := s.ven.serving.any fun p => p.2 == w.val

/-- VWIN_SET, 0x0702. -/
def doVwinSet (r : Req) (s : State) : Result :=
  let base : R40 := pack 40 [(fld (img r.payload 1) 39 8, 8)]
  let c := img r.payload 6
  if r.len.toNat ≠ 11 then badLength s
  else if h : num r.payload 0 1 < 16 then
    let w : Fin 16 := ⟨num r.payload 0 1, h⟩
    if winCfgOk base c (vclkDiv (venCfgNow s)) = false then badLength s
    else if lineServes s w then
      okay (s.modVen fun x => { x with winNext := (x.winNext.filter fun p => p.1 != w) ++ [(w, base, c)] })
    else okay (applyWin s w base c)
  else badLength s

/-- VMST_SET, 0x0703. -/
def doVmstSet (r : Req) (s : State) : Result :=
  let v := img r.payload 0
  let master := fun m => fld v (15 + 8 * m) (8 + 8 * m)
  if r.len.toNat ≠ 5 ∨ (upto 4).any (fun m => !mapOk (master m / 2 % 4) (master m / 8 % 4)) then badLength s
  else okay (s.modVen fun x => { x with mst := pack 40 ((upto 4).map fun m => (master m / 2, 9 + 8 * m)) })

/-- VIRQ_SET, 0x0704. -/
def doVirqSet (r : Req) (s : State) : Result :=
  if r.len.toNat ≠ 5 then badLength s
  else okay (s.modVen fun x => { x with irq := pack 40 [(fld (img r.payload 0) 39 16, 16)] })

/-- VUP_SET, 0x0705. -/
def doVupSet (r : Req) (s : State) : Result :=
  if r.len.toNat ≠ 5 then badLength s
  else okay (s.modVen fun x => { x with up := pack 40 [(fld (img r.payload 0) 39 19, 19)] })

/-- VEN_GET, 0x0706. -/
def doVenGet (r : Req) (s : State) : Result :=
  if r.len.toNat ≠ 1 then badLength s
  else if h : num r.payload 0 1 < 16 then
    let v := s.ven
    let w := num r.payload 0 1
    okWith s (imgBytes v.base[w] ++ imgBytes v.win[w] ++ imgBytes v.cfg ++ imgBytes v.mst ++ imgBytes v.irq ++ imgBytes v.up)
  else badLength s

/-- SHADOW_WRITE, 0x0707. -/
def doShadowWrite (r : Req) (s : State) : Result :=
  let off := num r.payload 0 2
  let n := num r.payload 2 1
  if n < 4 ∨ 52 < n ∨ r.len.toNat ≠ 3 + n ∨ off % 4 ≠ 0 ∨ n % 4 ≠ 0 ∨ 65536 < off + n then badLength s
  else okay (s.modVen fun v => { v with shadow := Mem.writeAll v.shadow off (slice r.payload 3 n) })

/-- VEN_SET. -/
def execVenSet (r : Req) (s : State) : Host.Outcome State Fault Refusal := done s (command 0x0701 doVenSet r s)
/-- VWIN_SET. -/
def execVwinSet (r : Req) (s : State) : Host.Outcome State Fault Refusal := done s (command 0x0702 doVwinSet r s)
/-- VMST_SET. -/
def execVmstSet (r : Req) (s : State) : Host.Outcome State Fault Refusal := done s (command 0x0703 doVmstSet r s)
/-- VIRQ_SET. -/
def execVirqSet (r : Req) (s : State) : Host.Outcome State Fault Refusal := done s (command 0x0704 doVirqSet r s)
/-- VUP_SET. -/
def execVupSet (r : Req) (s : State) : Host.Outcome State Fault Refusal := done s (command 0x0705 doVupSet r s)
/-- VEN_GET. -/
def execVenGet (r : Req) (s : State) : Host.Outcome State Fault Refusal := done s (command 0x0706 doVenGet r s)
/-- SHADOW_WRITE. -/
def execShadowWrite (r : Req) (s : State) : Host.Outcome State Fault Refusal := done s (command 0x0707 doShadowWrite r s)

end Sys2Proof.Machine
end

