-- ==== Sys2Proof/Machine/ScanCmds.lean ====
section
/-! DEFINITION. Scan commands, group 0x08 (R264, R270, R277, R283, R376 to R380). Templates, signals and bundles wait for
the sheet boundary (R285); a later command is judged with the definitions as last accepted. -/

namespace Sys2Proof.Machine

/-! ### Definitions as last accepted -/

/-- SCAN_CFG of a line as last accepted, in force or waiting (R264). -/
def scanCfgNow (s : State) (l : Fin 4) : R40 :=
  match s.scan.lines[l].cfgNext with | some c => c.1 | none => s.scan.lines[l].cfg

/-- The bytes of a template, all zero where it is unused. -/
def templateBytes (s : State) (id : Nat) : List Byte :=
  match s.scan.templates.find? fun t => t.id == id with | some t => t.bytes | none => List.replicate 64 0

/-- The bytes of a template as last accepted. -/
def templateNow (s : State) (id : Nat) : List Byte :=
  s.scan.newDefs.foldl (fun b d => match d with | .template k v => if k = id then v else b | _ => b) (templateBytes s id)

/-- The definition of a signal, all zero where it is not defined. -/
def signalBytes (s : State) (id : Nat) : List Byte :=
  match findSignal s id with | some x => x.bytes | none => List.replicate 16 0

/-- The definition of a signal as last accepted. -/
def signalNow (s : State) (id : Nat) : List Byte :=
  s.scan.newDefs.foldl (fun b d => match d with | .signal k v => if k = id then v else b | _ => b) (signalBytes s id)

/-- Header and 64 members of a bundle, all zero where it has never been set. -/
def bundleData (s : State) (id : Nat) : List Byte × List (BitVec 16) :=
  match s.scan.bundles.find? fun b => b.id == id with
  | some b => (b.header, b.members)
  | none => (List.replicate 16 0, List.replicate 64 0)

/-- Header and members of a bundle as last accepted. -/
def bundleNow (s : State) (id : Nat) : List Byte × List (BitVec 16) :=
  s.scan.newDefs.foldl (fun b d => match d with | .bundle k h m => if k = id then (h, m) else b | _ => b) (bundleData s id)

/-! ### Templates -/

/-- KIND of a template. -/
def tKind (b : List Byte) : Nat := num b 0 1
/-- LINE of a template. -/
def tLine (b : List Byte) : Nat := num b 1 1
/-- CHECK of a template. -/
def tCheck (b : List Byte) : Nat := num b 2 1
/-- MARK_LEN of a template. -/
def tMark (b : List Byte) : Nat := num b 4 1
/-- ADDR_LEN of a template. -/
def tAddr (b : List Byte) : Nat := num b 9 1
/-- END of a template. -/
def tEnd (b : List Byte) : Nat := num b 12 1
/-- FRAME_LEN of a template. -/
def tLen (b : List Byte) : Nat := num b 14 2
/-- REPLY of a template. -/
def tReply (b : List Byte) : Nat := num b 18 1
/-- REQ_LEN of a template. -/
def tReqLen (b : List Byte) : Nat := num b 22 1

/-- A scan line uses HDLC-style framing. -/
def hdlc (cfg : R40) : Bool := bit cfg 38

/-- Reserved bits and bytes of a template, which read zero (R8). -/
def cleanTemplate (b : List Byte) : List Byte :=
  slice b 0 3 ++ [by1 (num b 3 1 % 8)] ++ slice b 4 15 ++ [0] ++ slice b 20 3 ++ [0] ++ slice b 24 40

/-- A template within the ranges of Table 11.2, given the framing of its line and the templates of the device (R270). -/
def templateOk (s : State) (b : List Byte) : Bool :=
  let h := hdlc (scanCfgNow s (Fin.ofNat 4 (tLine b)))
  let reply := templateNow s (tReply b)
  decide (tKind b ≤ 3) && decide (tLine b ≤ 3) && decide (tCheck b ≤ 5) && decide (tMark b ≤ 4) && decide (tAddr b ≤ 2) &&
  (!h || (tMark b == 0 && tEnd b == 0)) &&
  (match tKind b with
   | 1 => match tEnd b with
      | 0 => decide (1 ≤ tLen b) && decide (tLen b ≤ 256)
      | 1 => true
      | 2 => decide (2 ≤ num b 17 1) && decide (num b 17 1 ≤ 31)
      | _ => false
   | 2 => decide (tReply b < 128) && tKind reply == 1 && tLine reply == tLine b && num b 20 2 != 0
      && decide (1 ≤ tReqLen b) && decide (tReqLen b ≤ 40)
   | 3 => decide (1 ≤ tReqLen b) && decide (tReqLen b ≤ 40)
   | _ => true)

/-- A POLL or SEND line of a Mould names a template. -/
def mouldNames (m : Mould) (id : Nat) : Bool :=
  (vget m.tables 6).any fun l => (l.action == 0x50 || l.action == 0x52) && l.operand.toNat == id

/-- A signal, a bundle's member among them, or a line of the active or pending Mould names a template (R270, R377). -/
def templateNamed (s : State) (id : Nat) : Bool :=
  ((upto 512).any fun n => let b := signalNow s n
    num b 0 1 / 128 == 1 && num b 1 1 == id) || (bothMoulds s).any fun m => mouldNames m id

/-! ### Signals and bundles -/

/-- CODING of a signal definition. -/
def sCoding (b : List Byte) : Nat := num b 0 1 / 16 % 4
/-- LITTLE of a signal definition. -/
def sLittle (b : List Byte) : Bool := num b 0 1 / 8 % 2 == 1
/-- TEMPLATE of a signal definition. -/
def sTemplate (b : List Byte) : Nat := num b 1 1
/-- BIT_OFF of a signal definition. -/
def sOff (b : List Byte) : Nat := num b 2 2
/-- LEN of a signal definition. -/
def sLen (b : List Byte) : Nat := num b 4 1
/-- SHIFT of a signal definition. -/
def sShift (b : List Byte) : Nat := num b 5 1 % 16
/-- SCALE of a signal definition, in 2^-32. -/
def sScale (b : List Byte) : Int := signedOf 40 (num b 6 5)
/-- OFFSET of a signal definition, in 2^-16. -/
def sOffset (b : List Byte) : Int := signedOf 40 (num b 11 5)

/-- DEFINED of a signal definition. -/
def sDefined (b : List Byte) : Bool := num b 0 1 / 128 == 1

/-- Reserved bits of a signal definition, which read zero. -/
def cleanSignal (b : List Byte) : List Byte :=
  [by1 (num b 0 1 / 8 * 8)] ++ slice b 1 4 ++ [by1 (sShift b)] ++ slice b 6 10

/-- Bytes in which a signal's field must lie (R277). -/
def fieldRoom (t : List Byte) : Nat :=
  if tKind t = 1 then (if tEnd t = 0 then tLen t else 256) else tReqLen t

/-- A signal definition R277 accepts. One with DEFINED 0 takes the definition away and is not judged. -/
def signalOk (s : State) (b : List Byte) : Bool :=
  !sDefined b ||
  (let t := templateNow s (sTemplate b)
   decide (sTemplate b < 128) && tKind t == (if sigOutput b then 3 else 1) && decide (1 ≤ sLen b) && decide (sLen b ≤ 32) &&
   decide (sOff b ≤ 2047) &&
   decide (sOff b + sLen b ≤ 8 * fieldRoom t) &&
   !(sCoding b == 3 && sLen b % 4 != 0) && !(sLittle b && (sOff b % 8 != 0 || sLen b % 8 != 0)) &&
   !(sigOutput b && sScale b == 0))

/-- ENTRIES of a bundle header. -/
def bEntries (h : List Byte) : Nat := num h 1 1
/-- EN of a bundle header. -/
def bEn (h : List Byte) : Bool := num h 0 1 / 128 == 1
/-- ON_CHANGE of a bundle header. -/
def bChange (h : List Byte) : Bool := num h 0 1 / 64 % 2 == 1
/-- PERIOD of a bundle header. -/
def bPeriod (h : List Byte) : Nat := num h 2 2
/-- DEADBAND of a bundle header. -/
def bDead (h : List Byte) : Int := signedOf 40 (num h 6 5)

/-- Reserved bits and bytes of a bundle header, which read zero. -/
def cleanBundle (h : List Byte) : List Byte :=
  [by1 (num h 0 1 / 64 * 64 + num h 0 1 % 16)] ++ slice h 1 10 ++ List.replicate 5 0

/-- A bundle R283 accepts. -/
def bundleOk (s : State) (h : List Byte) (ms : List (BitVec 16)) : Bool :=
  decide (1 ≤ bEntries h) && decide (bEntries h ≤ 64) && (bChange h || (bPeriod h != 0 && decide (num h 4 2 < bPeriod h))) &&
  decide (0 ≤ bDead h) && (ms.take (bEntries h)).all fun m => decide (m.toNat < 512) && sDefined (signalNow s m.toNat)

/-! ### The commands -/

/-- A SCAN_CFG value R264 accepts. -/
def scanCfgOk (c : R40) : Bool :=
  fld c 37 36 != 3 && decide (fld c 35 33 ≤ 4) && decide (2 ≤ fld c 30 26) && decide (8 ≤ fld c 16 0) && decide (fld c 16 0 ≤ 80000)

/-- The scan line a byte names. -/
def lineArg (b : List Byte) (o : Nat) : Option (Fin 4) := if h : num b o 1 < 4 then some ⟨num b o 1, h⟩ else none

/-- SCAN_SET, 0x0801. -/
def doScanSet (r : Req) (s : State) : Result :=
  let raw := img r.payload 1
  let c : R40 := pack 40 [(fld raw 39 21, 21), (fld raw 16 0, 0)]
  if r.len.toNat ≠ 6 ∨ scanCfgOk c = false then badLength s
  else match lineArg r.payload 0 with
    | none => badLength s
    | some l => okay (s.modLine l fun x => { x with cfgNext := if x.cfgNext.isNone && x.cfg == c then none else some (c, false) })

/-- TEMPLATE_SET PART 0 with the whole template put together (R377). Defining one that is unused changes no template's KIND. -/
def setTemplate (s : State) (id : Nat) (b : List Byte) : Result :=
  let old := templateNow s id
  if templateOk s b = false then badLength s
  else if tKind old ≠ 0 ∧ (tKind b ≠ tKind old ∨ tLine b ≠ tLine old) ∧ templateNamed s id = true then busy s
  else okay (s.modScan fun c => { c with newDefs := c.newDefs ++ [.template id b], staged := if c.staged.any (fun p => p.1 == id) then none else c.staged })

/-- TEMPLATE_SET, 0x0802 (R377). -/
def doTemplateSet (r : Req) (s : State) : Result :=
  let id := num r.payload 0 1
  let part := slice r.payload 2 32
  if r.len.toNat ≠ 34 ∨ 128 ≤ id then badLength s
  else match num r.payload 1 1 with
    | 0 =>
      let high := match s.scan.staged with | some p => if p.1 = id then p.2 else (templateNow s id).drop 32 | none => (templateNow s id).drop 32
      setTemplate s id (cleanTemplate (part ++ high))
    | 1 => okay (s.modScan fun c => { c with staged := some (id, part) })
    | _ => badLength s

/-- SIGNAL_SET, 0x0803. -/
def doSignalSet (r : Req) (s : State) : Result :=
  let id := num r.payload 0 2
  let b := cleanSignal (slice r.payload 2 16)
  if r.len.toNat ≠ 18 ∨ 512 ≤ id ∨ signalOk s b = false then badLength s
  else okay (s.modScan fun c => { c with newDefs := c.newDefs ++ [.signal id b] })

/-- Members of a bundle with the staged ones in place (R378). -/
def stagedMembers (s : State) (id : Nat) (ms : List (BitVec 16)) : List (BitVec 16) :=
  (s.scan.members.filter fun p => p.1 == id).foldl (fun ms p => ms.set p.2.1 p.2.2) ms

/-- BUNDLE_SET, 0x0804 (R283, R378). -/
def doBundleSet (r : Req) (s : State) : Result :=
  let id := num r.payload 0 1
  let h := cleanBundle (slice r.payload 1 16)
  let ms := stagedMembers s id (bundleNow s id).2
  if r.len.toNat ≠ 17 ∨ 64 ≤ id ∨ bundleOk s h ms = false then badLength s
  else okay (s.modScan fun c => { c with newDefs := c.newDefs ++ [.bundle id h ms], members := c.members.filter fun p => p.1 != id })

/-- BUNDLE_MEMBERS, 0x0805 (R378). -/
def doBundleMembers (r : Req) (s : State) : Result :=
  let id := num r.payload 0 1
  let first := num r.payload 1 1
  let k := num r.payload 2 1
  if k = 0 ∨ 26 < k ∨ r.len.toNat ≠ 3 + 2 * k ∨ 64 ≤ id ∨ 63 < first ∨ 64 < first + k then badLength s
  else okay (s.modScan fun c => { c with members := c.members ++ (upto k).map fun i => (id, first + i, BitVec.ofNat 16 (num r.payload (3 + 2 * i) 2)) })

/-- The pairs of a SIGNAL_WRITE. -/
def writePairs (b : List Byte) : List (Nat × R40) :=
  (upto (num b 0 1)).map fun i => (num b (1 + 7 * i) 2, img b (3 + 7 * i))

/-- A signal is defined as an output. -/
def isOutput (s : State) (n : Nat) : Bool := match findSignal s n with | some x => sigOutput x.bytes | none => false

/-- SIGNAL_WRITE, 0x0806 (R379). -/
def doSignalWrite (r : Req) (s : State) : Result :=
  let k := num r.payload 0 1
  let ps := writePairs r.payload
  if k = 0 ∨ 7 < k ∨ r.len.toNat ≠ 1 + 7 * k ∨ ps.any (fun p => !isOutput s p.1) then badLength s
  else okay (ps.foldl (fun s p => setOutput s p.1 p.2) s)

/-- SIGNAL_READ, 0x0807 (R379). -/
def doSignalRead (r : Req) (s : State) : Result :=
  let first := num r.payload 0 2
  let n := num r.payload 2 1
  if r.len.toNat ≠ 3 ∨ n = 0 ∨ 5 < n ∨ 512 < first + n then badLength s
  else okWith s ((upto n).map fun i => signalEntry s (first + i)).flatten

/-- SCAN_GET, 0x0808, Table 15.6. -/
def doScanGet (r : Req) (s : State) : Result :=
  let ix := num r.payload 1 2
  let part := num r.payload 3 1
  if r.len.toNat ≠ 4 then badLength s
  else match num r.payload 0 1 with
    | 0 =>
      if h : ix < 4 then
        let l : Fin 4 := ⟨ix, h⟩
        if part ≠ 0 then badLength s else okWith s (imgBytes s.scan.lines[l].cfg ++ imgBytes s.scan.lines[l].cal)
      else badLength s
    | 1 => if 128 ≤ ix ∨ 1 < part then badLength s else okWith s (slice (templateBytes s ix) (32 * part) 32)
    | 2 => if 512 ≤ ix ∨ part ≠ 0 then badLength s else okWith s (signalBytes s ix)
    | 3 =>
      if 64 ≤ ix ∨ 4 < part then badLength s
      else if part = 0 then okWith s (bundleData s ix).1
      else okWith s ((((bundleData s ix).2.drop (16 * (part - 1))).take 16).map fun m => be 2 m.toNat).flatten
    | _ => badLength s

/-- SCAN_SET. -/
def execScanSet (r : Req) (s : State) : Host.Outcome State Fault Refusal := done s (command 0x0801 doScanSet r s)
/-- TEMPLATE_SET. -/
def execTemplateSet (r : Req) (s : State) : Host.Outcome State Fault Refusal := done s (command 0x0802 doTemplateSet r s)
/-- SIGNAL_SET. -/
def execSignalSet (r : Req) (s : State) : Host.Outcome State Fault Refusal := done s (command 0x0803 doSignalSet r s)
/-- BUNDLE_SET. -/
def execBundleSet (r : Req) (s : State) : Host.Outcome State Fault Refusal := done s (command 0x0804 doBundleSet r s)
/-- BUNDLE_MEMBERS. -/
def execBundleMembers (r : Req) (s : State) : Host.Outcome State Fault Refusal := done s (command 0x0805 doBundleMembers r s)
/-- SIGNAL_WRITE. -/
def execSignalWrite (r : Req) (s : State) : Host.Outcome State Fault Refusal := done s (command 0x0806 doSignalWrite r s)
/-- SIGNAL_READ. -/
def execSignalRead (r : Req) (s : State) : Host.Outcome State Fault Refusal := done s (command 0x0807 doSignalRead r s)
/-- SCAN_GET. -/
def execScanGet (r : Req) (s : State) : Host.Outcome State Fault Refusal := done s (command 0x0808 doScanGet r s)

end Sys2Proof.Machine
end

