-- ==== Sys2Proof/Machine/PowerCmds.lean ====
section
/-! DEFINITION. Power commands, group 0x0A (R381 to R384). -/

namespace Sys2Proof.Machine

/-- TIMERS_SET, 0x0A01 (R382). -/
def doTimersSet (r : Req) (s : State) : Result :=
  let path := fun p => num r.payload (2 * p) 2
  let rest := num r.payload 8 3
  if r.len.toNat ≠ 11 ∨ (upto 4).any (fun p => decide (60000 < path p)) ∨ (rest ≠ 0 ∧ (rest < 10 ∨ 600000 < rest)) then badLength s
  else
    let s := forPaths s fun s p => s.modPath p fun x => { x with pathT := BitVec.ofNat 16 (path p.val) }
    okay (s.modPow fun x => { x with restT := BitVec.ofNat 24 rest })

/-- PATH_WAKE, 0x0A02 (R383). -/
def doPathWake (r : Req) (s : State) : Result :=
  let mask := num r.payload 0 1 % 16
  let hit := (List.finRange 4).filter fun p => mask / 2 ^ p.val % 2 == 1 && isDormant s p
  if r.len.toNat ≠ 1 ∨ mask = 0 then badLength s
  else okWith (hit.foldl (fun s p => s.modPath p fun x => { x with wakeReq := true }) s) [by1 (hit.map fun p => 2 ^ p.val).sum]

/-- Switched domains as POWER_GET gives them: bit i − 1 for D`i`. -/
def domainBits (s : State) : Nat := (s.pow.domains.toList.mapIdx fun i b => b2n b * 2 ^ i).sum

/-- CHARGER_SET as last accepted. -/
def chargerNow (s : State) : BitVec 4 := s.pow.chargeNext.getD s.pow.charger

/-- POWER_GET, 0x0A03, Table 15.8. -/
def doPowerGet (r : Req) (s : State) : Result :=
  if r.len.toNat ≠ 0 then badLength s
  else
    let x := s.pow
    okWith s (((List.finRange 4).map fun p => by1 (if pathOn s p then stCode s.paths[p].st else 3)) ++ be 7 (domainBits s)
      ++ ((List.finRange 4).map fun p => be 2 s.paths[p].pathT.toNat).flatten ++ be 3 x.restT.toNat
      ++ be 3 (min (x.idleNs / 1000000) 0xFFFFFF) ++ [x.wake] ++ be 2 x.saveUs.toNat ++ be 2 x.restoreUs.toNat ++ be 2 6595
      ++ be 2 x.vbak.toNat ++ [by1 (64 * x.charging.val + (chargerNow s).toNat), 0])

/-- CHARGER_SET, 0x0A04 (R384). -/
def doChargerSet (r : Req) (s : State) : Result :=
  let v := num r.payload 0 1 % 16
  if r.len.toNat ≠ 1 ∨ v % 4 = 3 then badLength s
  else okay (s.modPow fun x => { x with chargeNext := some (BitVec.ofNat 4 v) })

/-- TIMERS_SET. -/
def execTimersSet (r : Req) (s : State) : Host.Outcome State Fault Refusal := done s (command 0x0A01 doTimersSet r s)
/-- PATH_WAKE. -/
def execPathWake (r : Req) (s : State) : Host.Outcome State Fault Refusal := done s (command 0x0A02 doPathWake r s)
/-- POWER_GET. -/
def execPowerGet (r : Req) (s : State) : Host.Outcome State Fault Refusal := done s (command 0x0A03 doPowerGet r s)
/-- CHARGER_SET. -/
def execChargerSet (r : Req) (s : State) : Host.Outcome State Fault Refusal := done s (command 0x0A04 doChargerSet r s)

end Sys2Proof.Machine
end

