-- ==== Sys2Proof/Machine/StoreCmds.lean ====
section
/-! DEFINITION. Store commands, group 0x0B (R385 to R392). -/

namespace Sys2Proof.Machine

/-! ### CONFIG_SAVE -/

/-- The configuration a CONFIG_SAVE takes when it starts (R387): settings as last accepted. -/
def snapshot (s : State) : StoredConfig :=
  let defs := fun (n : Nat) (f : Nat → List Byte) (keep : List Byte → Bool) => ((upto n).map fun i => (i, f i)).filter fun p => keep p.2
  { mgtCfg := s.win.mgtCfg, attnMask := s.win.attnMask, wdog := pack 40 [(s.win.wdTimeout.toNat, 24), (b2n s.win.wdArm, 23)]
    timeCfg := s.time.cfg, delays := s.time.delays, ptpIp := s.time.ptpIp, svcMode := s.svc.mode, etype := s.svc.etype
    sessions := Vector.ofFn fun k : Fin 4 => let x := s.svc.sessions[k]
      (x.addr, x.credits, x.leaseMax, x.mask)
    venCfg := venCfgNow s, base := Vector.ofFn fun w : Fin 16 => (winNow s w).1, win := Vector.ofFn fun w : Fin 16 => (winNow s w).2
    mst := s.ven.mst, irq := s.ven.irq, up := s.ven.up, scanCfg := Vector.ofFn fun l : Fin 4 => scanCfgNow s l
    templates := defs 128 (templateNow s) (fun b => tKind b != 0), signals := defs 512 (signalNow s) sDefined
    bundles := (((upto 64).map fun i => (i, bundleNow s i)).filter fun p => bEntries p.2.1 != 0)
    pathT := Vector.ofFn fun p : Fin 4 => s.paths[p].pathT, restT := s.pow.restT, charger := chargerNow s
    txeq := Vector.ofFn fun i : Fin 32 => let x := s.sides[i]
      match x.txRamp with | some v => vmod x.txeq (runSet s.paths[pathOf i]) fun _ => v | none => x.txeq
    pcieCfg := Vector.ofFn fun p : Fin 4 => s.paths[p].pcieCfg, bpCfg := Vector.ofFn fun p : Fin 4 => s.paths[p].bpCfg
    lineCfg := Vector.ofFn fun p : Fin 4 => s.paths[p].lineCfg, pathCfg := Vector.ofFn fun p : Fin 4 => s.paths[p].cfg
    pinLat := Vector.ofFn fun p : Fin 4 => s.paths[p].pinLat }

/-- The reset values as a configuration: those of the device's registers, and the strapped service-port mode (R205). -/
def factoryConfig (s : State) : StoredConfig := { snapshot State.reset with svcMode := ⟨s.win.svcBoot.toNat % 4, by omega⟩ }

/-- The copy a CONFIG_SAVE writes: an invalid one, else the one with the lower sequence number (R387). -/
def copyToWrite (t : Store) : Fin 2 :=
  if t.copies[0].valid = false then 0
  else if t.copies[1].valid = false then 1
  else if t.copies[0].seq ≤ t.copies[1].seq then 0 else 1

/-- No STORE line runs under the active Mould: K is 0 (R390). -/
def noStoreLines (s : State) : Bool := (s.seq.active.elim 0 storeLines) == 0

/-- CONFIG_SAVE, 0x0B01 (R386, R387, R390). Its reply comes when the store has ended. -/
def doConfigSave (r : Req) (s : State) : Result :=
  if r.len.toNat ≠ 1 then badLength s
  else if s.store.job.isSome then busy s
  else if noStoreLines s then failWith s 0x07
  else
    let data := if num r.payload 0 1 % 2 = 1 then factoryConfig s else snapshot s
    (s.modStore fun t => { t with job := some (.config (copyToWrite t) (some data) 0) }, none)

/-! ### STORE_GET -/

/-- Validity and sequence number of a configuration copy. -/
def copyStatus (x : Copy) : List Byte := [by1 (b2n x.valid)] ++ be 4 (if x.valid then x.seq.toNat else 0)

/-- Validity and record of a bank. -/
def bankStatus (x : Bank) : List Byte :=
  if x.valid then [1] ++ be 4 x.seq.toNat ++ be 3 x.len ++ be 4 x.crc.toNat else List.replicate 12 0

/-- Entries of the persistent log, oldest first (R439). -/
def logEntries (t : Store) : List EventEntry := (t.log.map LogPage.entries).flatten

/-- Firmware bytes received in the open update. -/
def fwReceived (t : Store) : Nat := match t.job with | some (.fwOpen _ _ _ n ..) => n | _ => 0

/-- STORE_GET, 0x0B02, Table 15.10. -/
def doStoreGet (r : Req) (s : State) : Result :=
  if r.len.toNat ≠ 0 then badLength s
  else
    let t := s.store
    okWith s (copyStatus t.copies[0] ++ copyStatus t.copies[1] ++ bankStatus t.banks[0] ++ bankStatus t.banks[1]
      ++ be 2 (logEntries t).length ++ [by1 (storeCode t)] ++ be 3 (fwReceived t))

/-! ### Firmware -/

/-- A firmware update is open and no FW_COMMIT works on it. -/
def fwIdle (t : Store) : Bool := match t.job with | some (.fwOpen _ _ _ _ _ _ _ committing _ _) => !committing | _ => false

/-- FW_BEGIN, 0x0B03 (R386, R388). Its reply comes when the erases have ended. -/
def doFwBegin (r : Req) (s : State) : Result :=
  let bank := num r.payload 0 1
  let len := num r.payload 1 3
  if r.len.toNat ≠ 8 ∨ 1 < bank ∨ len % 256 ≠ 0 ∨ len = 0 ∨ 2097152 < len then badLength s
  else if (s.store.job.isSome && !fwIdle s.store) || (bank == 1) == s.win.bootBank then busy s
  else if noStoreLines s then failWith s 0x07
  else owned r s
    ((breakStore s).modStore fun t => { t with job := some (.fwErase (bank == 1) len (BitVec.ofNat 32 (num r.payload 4 4)) 0) }, none)

/-- FW_DATA, 0x0B04 (R388): in order, into the page buffer of 2048 bytes. -/
def doFwData (r : Req) (s : State) : Result :=
  let off := num r.payload 0 3
  let n := num r.payload 3 1
  if n = 0 ∨ 52 < n ∨ r.len.toNat ≠ 4 + n then badLength s
  else match s.store.job with
    | some (.fwOpen bank len crc received programmed made sum committing back recording) =>
      if off ≠ received ∨ len < off + n then badLength s
      else if 2048 < received - 256 * programmed + n then busy s
      else owned r s (okay (s.modStore fun t => { t with
        job := some (.fwOpen bank len crc (received + n) programmed made (BitVec.ofNat 32 (crc32Run sum.toNat (slice r.payload 4 n))) committing back recording) }))
    | _ => busy s

/-- FW_COMMIT, 0x0B05 (R388). Its reply comes when the bank has been read back and its record written. -/
def doFwCommit (r : Req) (s : State) : Result :=
  if r.len.toNat ≠ 1 then badLength s
  else match s.store.job with
    | some (.fwOpen bank len crc received programmed made sum committing back recording) =>
      if num r.payload 0 1 ≠ b2n bank then badLength s
      else if committing then busy s
      else if received < len ∨ noStoreLines s = true then failWith s 0x07
      else owned r s (s.modStore fun t => { t with job := some (.fwOpen bank len crc received programmed made sum true back recording) }, none)
    | _ => badLength s

/-! ### Log and reset -/

/-- LOG_READ, 0x0B06 (R392). -/
def doLogRead (r : Req) (s : State) : Result :=
  let l := logEntries s.store
  if r.len.toNat ≠ 2 then badLength s
  else match l[num r.payload 0 2]? with
    | none => badLength s
    | some e => okWith s (be 2 l.length ++ eventBytes e)

/-- DEVICE_RESET, 0x0B07 (R391). -/
def doDeviceReset (r : Req) (s : State) : Result :=
  if r.len.toNat ≠ 1 ∨ num r.payload 0 1 ≠ 0x5A then badLength s
  else owned r s (okay (s.modPow fun x => { x with resetDue := some (r.issuer != .twoWire) }))

/-- CONFIG_SAVE. -/
def execConfigSave (r : Req) (s : State) : Host.Outcome State Fault Refusal := done s (command 0x0B01 doConfigSave r s)
/-- STORE_GET. -/
def execStoreGet (r : Req) (s : State) : Host.Outcome State Fault Refusal := done s (command 0x0B02 doStoreGet r s)
/-- FW_BEGIN. -/
def execFwBegin (r : Req) (s : State) : Host.Outcome State Fault Refusal := done s (command 0x0B03 doFwBegin r s)
/-- FW_DATA. -/
def execFwData (r : Req) (s : State) : Host.Outcome State Fault Refusal := done s (command 0x0B04 doFwData r s)
/-- FW_COMMIT. -/
def execFwCommit (r : Req) (s : State) : Host.Outcome State Fault Refusal := done s (command 0x0B05 doFwCommit r s)
/-- LOG_READ. -/
def execLogRead (r : Req) (s : State) : Host.Outcome State Fault Refusal := done s (command 0x0B06 doLogRead r s)
/-- DEVICE_RESET. -/
def execDeviceReset (r : Req) (s : State) : Host.Outcome State Fault Refusal := done s (command 0x0B07 doDeviceReset r s)

end Sys2Proof.Machine
end

