-- ==== Sys2Proof/Machine/TestCmds.lean ====
section
/-! DEFINITION. Test commands, group 0x0D (R393 to R396, R453, R454, R457 to R459). -/

namespace Sys2Proof.Machine

/-- A path's TEST bit set or cleared; clearing it ends every loop-back and pattern of the path (R394, R453, R464). -/
def setTest (s : State) (p : PathId) (on : Bool) : State :=
  let s := s.modPath p fun x => { x with test := on }
  if on then s else (sidesOf p).foldl endTest s

/-- The balls return to mission logic once some TEST bit is clear (R464). -/
def releaseTap (s : State) : State :=
  if s.paths.toList.all fun x => x.test then s else s.modTest fun t => { t with tapBalls := false }

/-- TEST_ENABLE, 0x0D01. -/
def doTestEnable (r : Req) (s : State) : Result :=
  if r.len.toNat ≠ 1 then badLength s
  else okay (releaseTap (forPaths s fun s p => setTest s p (num r.payload 0 1 / 2 ^ p.val % 2 == 1)))

/-- INDEX and DEPTH of a LOOP_SET within Table 15.11. -/
def loopOk (iface ix depth : Nat) : Bool :=
  match iface with
  | 0 => ix == 0 && decide (depth ≤ 2)
  | 1 => ix == 0 && decide (depth ≤ 2)
  | 2 => decide (ix < 4) && decide (depth ≤ 1)
  | 3 => ix == 0 && decide (depth ≤ 1)
  | _ => false

/-- R395 answers a LOOP_SET BUSY. -/
def loopBusy (s : State) (who : Issuer) (iface ix : Nat) : Bool :=
  match iface with
  | 0 => who != .twoWire
  | 1 => venOn s
  | 2 => scanOn s (Fin.ofNat 4 ix)
  | _ => timeSource s.time == 3

/-- A loop-back set or ended (R459). One of the service port takes its link down (R205, R395). -/
def applyLoop (s : State) (iface ix depth : Nat) : State :=
  let s := match iface with
    | 0 => (if depth = 0 then s else setLink s false).modTest fun t => { t with loopSvc := Fin.ofNat 3 depth }
    | 1 => s.modTest fun t => { t with loopVen := Fin.ofNat 3 depth }
    | 2 => s.modTest fun t => { t with echo := vmodN t.echo ix fun _ => depth == 1 }
    | _ => s.modTest fun t => { t with loopSync := depth == 1 }
  raise s 0x0D10 [by1 iface, by1 ix, by1 depth]

/-- LOOP_SET, 0x0D02. -/
def doLoopSet (r : Req) (s : State) : Result :=
  let iface := num r.payload 0 1
  let ix := num r.payload 1 1
  let depth := num r.payload 2 1
  if r.len.toNat ≠ 3 ∨ loopOk iface ix depth = false then badLength s
  else if loopBusy s r.issuer iface ix then busy s
  else okay (applyLoop s iface ix depth)

/-- PATTERN_USER, 0x0D03 (R458). -/
def doPatternUser (r : Req) (s : State) : Result :=
  let k := num r.payload 1 1
  let n := num r.payload 0 1
  if k = 0 ∨ 8 < k ∨ r.len.toNat ≠ 2 + 5 * k then badLength s
  else if h : n < 4 then
    if s.sides.toList.any fun x => x.patSel.toNat % 128 == 0x10 + n then busy s
    else okay (s.modTest fun t => { t with patterns := t.patterns.set n ((upto k).map fun i => img r.payload (2 + 5 * i)) h })
  else badLength s

/-- CHECKER_GET, 0x0D04 (R457). -/
def doCheckerGet (r : Req) (s : State) : Result :=
  if r.len.toNat ≠ 2 then badLength s
  else match sideArg r.payload 0 with
    | none => badLength s
    | some i =>
      let x := s.sides[i]
      okWith (if num r.payload 1 1 % 2 = 1 then s.modSide i fun x => { x with chkBits := 0, chkErrs := 0 } else s)
        (imgBytes x.chkBits ++ imgBytes x.chkErrs ++ [by1 (b2n x.chkLock), x.patSel])

/-- TELEM_GET, 0x0D05 (R396). -/
def doTelemGet (r : Req) (s : State) : Result :=
  if r.len.toNat ≠ 0 then badLength s
  else
    let t := s.test
    okWith s (stampBytes t.telemAt ++ (t.telem.toList.map fun v => be 2 v.toNat).flatten ++ be 2 t.telemHas.toNat)

/-- TEST_ENABLE. -/
def execTestEnable (r : Req) (s : State) : Host.Outcome State Fault Refusal := done s (command 0x0D01 doTestEnable r s)
/-- LOOP_SET. -/
def execLoopSet (r : Req) (s : State) : Host.Outcome State Fault Refusal := done s (command 0x0D02 doLoopSet r s)
/-- PATTERN_USER. -/
def execPatternUser (r : Req) (s : State) : Host.Outcome State Fault Refusal := done s (command 0x0D03 doPatternUser r s)
/-- CHECKER_GET. -/
def execCheckerGet (r : Req) (s : State) : Host.Outcome State Fault Refusal := done s (command 0x0D04 doCheckerGet r s)
/-- TELEM_GET. -/
def execTelemGet (r : Req) (s : State) : Host.Outcome State Fault Refusal := done s (command 0x0D05 doTelemGet r s)

end Sys2Proof.Machine
end

