-- ==== Sys2Proof/Machine/Lines.lean ====
section
/-! DEFINITION. How a line of the active Mould starts (R44, R45, R53, R54, R75, R76, R265): the common part of every line row. -/

namespace Sys2Proof.Machine

/-- Spine time, in 2^-40 s, some ticks of 8 ns into the sheet in progress. -/
def tickStamp (s : State) (ticks : Nat) : Nat := s.seq.base.toNat + ceilDiv (ticks * 8 * 2 ^ 40) (10 ^ 9)

/-- Sheets run: the device is in RUN and the sequencer has begun a sheet (R503, R414). -/
def sheetsRun (s : State) : Bool := s.pow.dev == .run && !s.seq.stopped && !s.seq.firstDue

/-- The line at an index of a table, where it runs in the sheet in progress (R53). -/
def lineNow (s : State) (t idx : Nat) : Option Line :=
  match lineAt s t idx with
  | some l => if sheetsRun s && runsIn l s.seq.sheet s.seq.second then some l else none
  | none => none

/-- Islands a line names, whose absence together makes it missed: lane sides for a path line, the power controller for
its own actions (R56, R75). -/
def namedIslands (x : Placed) : List Nat :=
  if powerAction x.line.action then [0]
  else if (trimIslands x.line).isEmpty = false then trimIslands x.line
  else if 1 ≤ x.table ∧ x.table ≤ 4 then maskIslands (x.table - 1) x.line.target.toNat
  else destinations x

/-- Lane sides of a path that a line names and whose islands are present (R75). -/
def namedSides (s : State) (p : PathId) (l : Line) : List SideId :=
  (sidesOf p).filter fun i => bit l.target (i.val % 8) && present s (32 + i.val)

/-- A SCAN line on a scan line with ENABLE 0: empty, without tokens (R265). -/
def scanOff (s : State) (t : Nat) (l : Line) : Bool := t == 6 && !scanOn s (Fin.ofNat 4 l.target.toNat)

/-- Causes 2 and 3 of R75. -/
def missCause (s : State) (a : Nat) : Option Nat :=
  let need := fun d => if domOn s d then none else some 2
  match a with
  | 0x12 => need 49
  | 0x13 => need 38
  | 0x21 => need 50
  | 0x22 => need 50
  | 0x30 => if s.svc.link then none else some 3
  | 0x40 => need 46
  | 0x41 => need 46
  | 0x43 => need 46
  | 0x50 => need 47
  | 0x51 => need 47
  | 0x52 => need 47
  | 0x53 => need 47
  | _ => none

/-- A line noted as running. -/
def pushLine (s : State) (t : Fin 9) (idx : Nat) (tokens acts : Bool) : State :=
  s.modSeq fun q => { q with running := q.running ++ [{ table := t, idx, tokens, acts }] }

/-- The sequencer's word of a tick returned absent from an island, counted once for all the line events it carries (R45, R59). -/
def tokenAbsent (tick : Nat) (s : State) (i : Nat) : State :=
  if s.seq.absentAt.contains (i, tick) then s
  else absent (s.modSeq fun q => { q with absentAt := (q.absentAt.filter fun w => w.1 != i) ++ [(i, tick)] }) 3 i

/-- A line's event on a tick returned absent from each of its islands that is not present (R45). -/
def tokensAbsent (s : State) (x : Placed) (tick : Nat) : State :=
  ((destinations x).filter fun i => !present s i).foldl (tokenAbsent tick) s

/-- A line's start tokens and what they find (R44, R45, R75); `f` is its action. -/
def beginLine (t : Fin 9) (idx : Nat) (l : Line) (f : Line → State → State) (s : State) : State :=
  let x : Placed := { table := t.val, index := idx, line := l }
  let stamp : Stamp := BitVec.ofNat 80 (tickStamp s l.start)
  let named := namedIslands x
  let none' := !named.isEmpty && named.all fun i => !present s i
  let s := tokensAbsent s x stamp.toNat
  if none' then missLine (pushLine s t idx true false) t idx 1 stamp
  else match missCause s l.action with
    | some c => missLine (pushLine s t idx true false) t idx c stamp
    | none => f l (pushLine s t idx true true)

/-- A line's start window has passed (R22, R40). -/
def lateLine (s : State) (t : Fin 9) (l : Line) : Bool :=
  match s.seq.active with
  | some m => decide (tickStamp s (l.start + lineWindow m t.val l.action l.target.toNat) < s.now.toNat)
  | none => false

/-- A line starts (R53, R54): time passes to its start tick and its action begins; one whose start window has passed is skipped and
missed, never run late (R22, log entry 121). Nothing happens where the table holds no such line at the index, where it does not run
in this sheet, or where it runs already. -/
def startLine (t : Fin 9) (idx action : Nat) (f : Line → State → State) (s : State) : State :=
  match lineNow s t.val idx with
  | none => s
  | some l =>
    if l.action ≠ action ∨ s.seq.running.any (fun r => r.table == t && r.idx == idx) = true then s
    else
      let s := elapseTo (tickStamp s l.start) s
      if scanOff s t.val l then pushLine s t idx false true
      else if lateLine s t l then missLine (pushLine s t idx false false) t idx 1 (BitVec.ofNat 80 (tickStamp s l.start))
      else beginLine t idx l f s

/-- Table number of a path (Table 3.4). -/
def pathTable (p : PathId) : Fin 9 := ⟨1 + p.val, by omega⟩

end Sys2Proof.Machine
end

