-- ==== Sys2Proof/Machine/Lanes.lean ====
section
/-! DEFINITION. Events of lanes and islands: electrical idle (R98, R176), lost lock (R102), slips (R86, R87), elastic
adjustment (R121, R145, R179), absent clocks (R36, R48), squelch activity on a DORMANT path (R99). -/

namespace Sys2Proof.Machine

/-! ### Buffers and starting a lane -/

/-- Fill in bits at which a direction starts: 8 words, or at the pinned rate the whole bits that leave its latency within half a UI of
PIN_LAT (R86 to R88, R176). The latency is 0.40 ns and 3 words beside the fill (R100), and the part of a UI between arrival and departure,
`phase` in 1/1024 UI, which the phase detectors measure. -/
def startFill (x : Path) (pin : BitVec 32) (phase : Nat) : Nat :=
  if pcPinned x.cfg && runRate x == pcRate x.cfg && pin != 0 then
    (roundDiv (1024 * ((pin.toNat * runRate x : Nat) - (1600 * runRate x : Nat)) - (phase * 4000000000 : Nat)) 4096000000000 - 120).toNat
  else 320

/-- The measured phase between arrival and departure at a start of writing: open (R176, log entry 1). -/
def startPhase (s : State) : Nat := s.openNat % 1024

/-- Training of one receiver of a KR lane starts, with the host's polarity until a frame marker is seen; the requester asks for
initialize first, unless it passes (R95, R137, R141, R347). -/
def startTraining (s : State) (i : SideId) : State :=
  let cfg := s.lanes[laneOf i].bpCfg
  (s.modLane (laneOf i) fun x => { x with
      seg := vmod x.seg (endOf i) fun _ => 2, rr := vmod x.rr (endOf i) fun _ => false
      reqDone := vmod x.reqDone (endOf i) fun _ => false, align := vmod x.align (endOf i) fun _ => false, rrSent := false }).modSide i fun x =>
    { endRequests (leaveData x) with
      rxPol := x.rxHost, reqRun := fld cfg 39 38 != 2, krAsk := if fld cfg 39 38 = 2 then none else some .init
      reqSteps := if fld cfg 39 38 = 0 then fld cfg 35 30 else 0, reqBest := none, partner := none, reported := none }

/-- One receiver of a lane reaches data, with its buffer set (R142, R187). Alignment is found where the FEC the partners
resolved is the configured one (R144), and at once where AN_OFF 1 left it unresolved, DESIGN CHOICE (log entry 129). -/
def startData (s : State) (i : SideId) : State :=
  let p := s.paths[pathOf i]
  let e := endOf i
  let fecOk := bit s.lanes[laneOf i].bpCfg 37 || pcFec p.cfg == (s.lanes[laneOf i].anFec != 0)
  ((s.modLane (laneOf i) fun x => { x with
      seg := vmod x.seg e fun _ => 4, lock := vmod x.lock e fun _ => true, align := vmod x.align e fun _ => fecOk
      fill := vmod x.fill e fun _ => startFill p x.pin (startPhase s) }).modSide i enterData).usedFree

/-- A receiver of a lane that need not negotiate, or has negotiated, starts in its mode's datapath (R137, R138, R152). -/
def startDatapath (s : State) (i : SideId) : State :=
  if pcMode s.paths[pathOf i].cfg = 2 ∧ bit s.lanes[laneOf i].bpCfg 36 = false then startTraining s i else startData s i

/-- A receiver of a backplane lane starts where its lane stands (R136 to R138, R153): with both segments in detect the lane takes
BP_CFG and starts; where its other receiver is already in data, it joins it there. -/
def startBackplane (s : State) (i : SideId) : State :=
  let l := laneOf i
  let s := if s.lanes[l].seg[0] = 0 ∧ s.lanes[l].seg[1] = 0 then s.modLane l fun x => { x with bpCfg := s.paths[pathOf i].bpCfg } else s
  if s.lanes[l].seg[endOf (opposite i)] = 4 then startData s i
  else if anOver s l then startDatapath s i
  else s.modLane l fun x => { x with seg := vmod x.seg (endOf i) fun _ => 1 }

/-- What a receiver does in its mode once it leaves electrical idle (R136, R146, R148, R152). -/
def startReceiver (s : State) (i : SideId) : State :=
  let mode := pcMode s.paths[pathOf i].cfg
  if mode = 6 then
    (s.modLane (laneOf i) fun x => { x with lock := vmod x.lock (endOf i) fun _ => true }).modSide i enterData
  else if 2 ≤ mode ∧ mode ≤ 4 then startBackplane s i
  else s

/-! ### Electrical idle -/

/-- RECEIVER_EI_EXIT: the lane takes its settings, the path turns ACTIVE with its group, the opposite transmitter sends
(R88, R93, R98, R153, R176). Either receiver's exit counts as the lane's own, and a slow lane's buffer, whose path is fixed, shows 8
words, DESIGN CHOICE (log entries 123 and 127). -/
def execReceiverEiExit (side : SideId) (s : State) : Host.Outcome State Fault Refusal :=
  done s <|
    let p := pathOf side
    let l := laneOf side
    if laneOn s l = false ∨ domOn s (side.val + 1) = false ∨ s.lanes[l].ei[endOf side] = false then s
    else
      let y := s.paths[p]
      let s := s.modLane l fun x =>
        let x := { x with ei := vmod x.ei (endOf side) fun _ => false, pin := y.pinLat }
        let x := if pcMode y.cfg = 5 ∨ pcMode y.cfg = 6 then { x with lineCfg := y.lineCfg } else x
        { x with fill := vmod x.fill (endOf side) fun _ => startFill y x.pin (startPhase s) }
      let s := s.usedFree.modSide side fun x => { x with pinned := false, pinValid := false, pinPhase := 0 }
      if forming y then s
      else
        forward (startReceiver (setGroupState s p .active) side) side

/-- A receiver sees electrical idle: its buffer is emptied, its lock and data end, the opposite transmitter idles. -/
def enterIdle (s : State) (i : SideId) : State :=
  let s := s.modLane (laneOf i) fun x => { x with
    ei := vmod x.ei (endOf i) fun _ => true, lock := vmod x.lock (endOf i) fun _ => false
    fill := vmod x.fill (endOf i) fun _ => 0, seg := vmod x.seg (endOf i) fun _ => 0
    rr := vmod x.rr (endOf i) fun _ => false, align := vmod x.align (endOf i) fun _ => false
    reqDone := vmod x.reqDone (endOf i) fun _ => false, rrSent := false }
  let s := s.modSide i fun x => endRequests (leaveData x)
  s.modSide (opposite i) fun x => { x with txIdle := true }

/-- The receivers of a lane never report electrical idle (R149). -/
def neverIdle (s : State) (l : LaneId) : Bool :=
  let m := pcMode s.paths[pathOfLane l].cfg
  (m == 5 || m == 6) && bit s.lanes[l].lineCfg 38

/-- RECEIVER_EI_ENTRY (R98, R149). -/
def execReceiverEiEntry (side : SideId) (s : State) : Host.Outcome State Fault Refusal :=
  done s <|
    let l := laneOf side
    if laneOn s l = false ∨ domOn s (side.val + 1) = false ∨ s.lanes[l].ei[endOf side] = true ∨ neverIdle s l = true then s
    else idleIfQuiet (enterIdle s side) (pathOf side)

/-! ### Lost lock, slips, adjustments -/

/-- The lanes of the link a lane belongs to: those of its path or group where they make one link, else the lane alone. -/
def linkLanes (s : State) (l : LaneId) : List LaneId :=
  if oneLink s.paths[pathOfLane l].cfg then
    (((groupOf s (pathOfLane l)).map lanesOf).flatten).filter (laneOn s)
  else [l]

/-- LANE_LOCK_LOST (R102): events, and idle passed on where the receiver sees electrical idle. The others hold where any other lane of
the link is locked at that end, DESIGN CHOICE (log entry 128). -/
def execLaneLockLost (side : SideId) (s : State) : Host.Outcome State Fault Refusal :=
  done s <|
    let l := laneOf side
    if laneOn s l = false ∨ domOn s (side.val + 1) = false then s
    else
      let held := (linkLanes s l).any fun k => k != l && s.lanes[k].lock[endOf side]
      let s := s.modLane l fun x => { x with lock := vmod x.lock (endOf side) fun _ => false }
      let s := if pcMode s.paths[pathOf side].cfg = 5 then s.modSide side leaveData else s
      let s := if s.lanes[l].ei[endOf side] then s.modSide (opposite side) fun x => { x with txIdle := true } else s
      let s := raise s 0x0101 [by1 side.val]
      if held then raise s 0x0103 [by1 (leaderOf s (pathOf side)).val, by1 l.val] else s

/-- The side that receives a direction: near for downstream, far for upstream (R14). -/
def dirSide (l : LaneId) (d : Dir) : SideId := sideOf l (match d with | .down => 0 | .up => 1)

/-- Code of a direction (Table 18.2). -/
def dirCode (d : Dir) : Nat := match d with | .down => 0 | .up => 1

/-- BUFFER_SLIP (R86, R87). -/
def execBufferSlip (lane : LaneId) (dir : Dir) (s : State) : Host.Outcome State Fault Refusal :=
  done s <|
    let p := pathOfLane lane
    let i := dirSide lane dir
    if laneOn s lane = false ∨ domOn s (33 + p.val) = false then s
    else
      let f := startFill s.paths[p] s.lanes[lane].pin (startPhase s)
      let s := s.usedFree.modLane lane fun x => { x with fill := vmod x.fill (endOf i) fun _ => f }
      raise (s.modSide i fun x => { x with slips := satInc x.slips }) 0x0102 [by1 lane.val, by1 (dirCode dir)]

/-- UI in one adjustment of an elastic buffer: SKP symbols of 10 or 32 UI, an idle control block of 66, an /I2/ ordered set
of 20, a column of 10 on each lane (R121, R145). -/
def skpUnit (x : Path) : Nat :=
  match pcMode x.cfg with
  | 1 => if x.rateNow.val ≤ 2 then 10 else 32
  | 2 => 66
  | 3 => 20
  | 4 => 10
  | _ => 0

/-- A side's buffer is elastic and runs: its receiver sees signal, on a lane in use that is not parked, under no test. -/
def adjustable (s : State) (i : SideId) : Bool :=
  let l := laneOf i
  laneOn s l && domOn s (i.val + 1) && !pcPinned s.paths[pathOf i].cfg && !s.lanes[l].ei[endOf i] && !s.lanes[l].parked
    && !underTest s.sides[i]

/-- One adjustment of one buffer by `d` UI, traced and counted (R86, R179). It brings the fill back near 8 words, within the 4 to 12 of
R100; the drift it corrects, and so the fill it leaves, is open (log entry 1). -/
def adjustFill (d : Int) (s : State) (i : SideId) : State :=
  let s := (s.modLane (laneOf i) fun x => { x with fill := vmod x.fill (endOf i) fun _ => 160 + s.openNat % 321 }).usedFree
  let s := s.modSide i fun x => if 0 < d then { x with inserts := satInc x.inserts } else { x with deletes := satInc x.deletes }
  trace s 1 (32 + i.val) (fieldOf 16 d) s.now

/-- Buffers that one adjustment moves together: those of the link's lanes in the direction, at the ordered set of the same index, or a
lane's own where the skew is beyond what the device tolerates (R93, R94, R145). -/
def adjustedSides (s : State) (i : SideId) (skewOver : Bool) : List SideId :=
  if skewOver then [i] else ((linkLanes s (laneOf i)).map fun l => sideOf l (endOf i)).filter (adjustable s)

/-- SKP_ADJUSTMENT: one insertion or deletion in the elastic buffers of a link (R86, R93, R121, R145, R179), and a skew beyond 64 ns
counted, each lane then adjusting on its own (R94). The sign of `ui` tells an insertion from a deletion. -/
def execSkpAdjustment (side : SideId) (ui : Int) (skewOver : Bool) (s : State) : Host.Outcome State Fault Refusal :=
  done s <|
    let p := pathOf side
    let n : Int := (skpUnit s.paths[p] : Nat)
    if adjustable s side = false ∨ n = 0 ∨ ui = 0 then s
    else
      let s := (adjustedSides s side skewOver).foldl (adjustFill (if 0 < ui then n else -n)) s
      if skewOver then raise (s.modPath p fun x => { x with deskew := satInc x.deskew }) 0x0107 [by1 p.val] else s

/-! ### Island clocks -/

/-- An island becomes absent (R36). -/
def clockAbsent (s : State) (i : Nat) : State :=
  raise (s.modPow fun p => { p with absent := vmodN p.absent i fun _ => true }) 0x0A30 [by1 i, 1]

/-- A path's REFCLK runs again: a PLL that waited on the internal reference, its path's or its group's, returns to it once
CLKREQ_N is asserted (R93, R126). -/
def refclkBack (s : State) (p : PathId) : State :=
  let s := s.modPath p fun x => { x with refclk := true }
  if leaderOf s p = p then
    let ends := s.paths[p].clkreq
    (groupOf s p).foldl (fun s q => s.modPath q fun x => { x with pllInt := x.pllInt && !ends }) s
  else s

/-- The path whose transmit island an island number names (R35). -/
def txPath (i : Nat) : Option PathId := if h : 8 ≤ i ∧ i < 12 then some ⟨i - 8, by omega⟩ else none

/-- An absent island's clock returns (R36). REFCLK has returned with its path's transmit island (R122, R126). -/
def clockReturned (s : State) (i : Nat) : State :=
  let s := s.modPow fun p => { p with absent := vmodN p.absent i fun _ => false }
  let s := match txPath i with | some p => refclkBack s p | none => s
  raise s 0x0A30 [by1 i, 0]

/-- An island number of R35. -/
def islandNumbered (i : Nat) : Bool := decide (i ≤ 6) || (decide (8 ≤ i) && decide (i ≤ 11)) || decide (32 ≤ i)

/-- ISLAND_CLOCK_ABSENT (R36): for an island whose domain is on; the AO domain, with AO and MGT, is always on. -/
def execIslandClockAbsent (i : IslandId) (s : State) : Host.Outcome State Fault Refusal :=
  done s <| if islandNumbered i.val = true ∧ present s i.val = true then clockAbsent s i.val else s

/-- ISLAND_CLOCK_RETURNED (R36). For a path's transmit island that is not absent it tells that a lost REFCLK runs again (R126,
log entry 50). -/
def execIslandClockReturned (i : IslandId) (s : State) : Host.Outcome State Fault Refusal :=
  done s <|
    if s.pow.absent[i] then clockReturned s i.val
    else match txPath i.val with
      | some p => if s.paths[p].refclk then s else refclkBack s p
      | none => s

/-- CORE_PLL_LOSS (R48). -/
def execCorePllLoss (s : State) : Host.Outcome State Fault Refusal :=
  done s <| if s.win.coreClk then raise (s.modWin fun w => { w with coreClk := false }) 0x0A30 [2, 1] else s

/-- DORMANT_SQUELCH_ACTIVITY: the armed latch of a DORMANT path's lane 0 near side (R99, R405). -/
def execDormantSquelchActivity (p : PathId) (s : State) : Host.Outcome State Fault Refusal :=
  done s <|
    if (s.pow.dev == .run || s.pow.dev == .rest) && s.paths[p].armed then s.modPath p fun x => { x with latch := true } else s

/-- TRANSPARENT_ACQUIRE: a transparent receiver locks and its side enters data (R146). A slow receiver, which is in data already, reads
locked again once an edge has arrived (R148, log entry 134). -/
def execTransparentAcquire (side : SideId) (s : State) : Host.Outcome State Fault Refusal :=
  done s <|
    let l := laneOf side
    let mode := pcMode s.paths[pathOf side].cfg
    if laneOn s l = false ∨ (mode ≠ 5 ∧ mode ≠ 6) ∨ s.lanes[l].ei[endOf side] = true
      ∨ s.lanes[l].lock[endOf side] = true ∨ domOn s (side.val + 1) = false then s
    else
      let s := s.modLane l fun x => { x with lock := vmod x.lock (endOf side) fun _ => true }
      if mode = 5 then s.modSide side enterData else s

end Sys2Proof.Machine
end

