-- ==== Sys2Proof/Machine/CalRows.lean ====
section
/-! DEFINITION. The Calender at work: measurements and trackers (R186 to R190), the disturbance gate (R193), kerfs and the steps
made in them (R84, R150, R191 to R197), trims (R192), initial calibration (R198), pinning (R177 to R179), sweep points
(R181, R182). -/

namespace Sys2Proof.Machine

/-! ### Counts of CAL lines -/

/-- A line's action reaches a side: it lies in the line's mask, its island is present, and it is the path's. -/
def reaches (s : State) (p : PathId) (l : Line) (i : SideId) : Bool := (namedSides s p l).contains i

/-- Disagreements of the margined sampler, the first, counted under a margin command; the response to a step carries them (R118). -/
def countMargin (s : State) (c : SideCount) : State :=
  s.modSide c.side fun x => { x with
    marginN := x.marginN + c.errors
    marginAns := match x.marginAns with | some (.taken _) => some (.taken (x.marginN + c.errors)) | a => a }

/-- CAL: deckle sampler counts of the named sides that carry data and that no sweep holds (R181, R186); a margined side counts for its
margin command and is not measured (R118). A static transparent lane is measured and commits nothing (R147). -/
def calCounts (p : PathId) (counts : List SideCount) (l : Line) (s : State) : State :=
  counts.foldl (fun s c =>
    if reaches s p l c.side && inData s c.side && !sweepHolds s c.side then
      if s.sides[c.side].margin.isSome then countMargin s c
      else s.modSide c.side fun x => { x with
        measUi := x.measUi + c.compared, measErr := x.measErr + c.errors, measErr1 := x.measErr1 + c.errors1 }
    else s) s

/-- CAL_LINE (R186). -/
def execCalLine (p : PathId) (idx : Nat) (counts : List SideCount) (s : State) : Host.Outcome State Fault Refusal :=
  done s (startLine (pathTable p) idx 0x60 (calCounts p counts) s)

/-- KERF_LINE (R147, R150): while it runs, kerfs of its transparent lanes may carry steps; it does nothing else. -/
def execKerfLine (p : PathId) (idx : Nat) (s : State) : Host.Outcome State Fault Refusal :=
  done s (startLine (pathTable p) idx 0x61 (fun _ s => s) s)

/-! ### Trackers -/

/-- A tracker's move on a disagreement ratio: outward below 2^-17, inward above 2^-15, by 4 until its first reversal, then by 1;
`sign` is the outward direction (R187). `live` where reversals count, in L0 or data. -/
def moveTracker (live : Bool) (sign lo hi : Int) (errors ui : Nat) (t : Tracker) : Tracker :=
  let out := if errors * 2 ^ 17 < ui then some true else if ui < errors * 2 ^ 15 then some false else none
  match out with
  | none => t
  | some o =>
    let turned := live && (match t.lastOut with | some b => b != o | none => false)
    let coarse := t.coarse && !turned
    let step : Int := (if coarse then 4 else 1) * (if o then sign else -sign)
    { pos := clampI lo hi (t.pos + step), coarse := coarse, revs := t.revs + b2n turned, lastOut := if live then some o else none }

/-- The trackers that a closing measurement served move (R187); LEFT and RIGHT do not run in slow mode (R189). -/
def moveTrackers (slow live : Bool) (ui e0 e1 : Nat) (x : Side) : Side :=
  if x.turn then
    { x with right := if slow then x.right else moveTracker live 1 (-64) 63 e0 ui x.right
             bottom := moveTracker live (-1) (-127) 127 e1 ui x.bottom }
  else
    { x with left := if slow then x.left else moveTracker live (-1) (-64) 63 e0 ui x.left
             top := moveTracker live 1 (-127) 127 e1 ui x.top }

/-- Every tracker that runs has reversed twice (R189). -/
def settled (slow : Bool) (x : Side) : Bool :=
  (slow || (decide (2 ≤ x.left.revs) && decide (2 ≤ x.right.revs))) && decide (2 ≤ x.top.revs) && decide (2 ≤ x.bottom.revs)

/-! ### Targets -/

/-- CAL_CFG lets the Calender adapt a correction (Table 8.3). -/
def adapts (cfg : R40) (corr : Nat) : Bool :=
  match corr with
  | 1 => bit cfg 38
  | 2 => bit cfg 37
  | 3 => bit cfg 36
  | 4 => bit cfg 35
  | 5 => bit cfg 34
  | 7 => bit cfg 33
  | 8 => bit cfg 33
  | 9 => bit cfg 33
  | 10 => bit cfg 33
  | _ => false

/-- A target the Calender sets; none over a ramp of a host write (R196). -/
def aim (x : Side) (corr sub : Nat) (code : Int) : Side :=
  if adapts x.calCfg corr && !(x.targets.any fun t => isTarget corr sub t && t.ramp) then
    { x with targets := putTarget x.targets { corr, sub, code, ramp := false } }
  else x

/-- Targets of a measurement (R190): those it found for IDs 1, 2, 3 and 5, and the centre between the phase edges. -/
def setTargets (slow : Bool) (m : Measured) (x : Side) : Side :=
  let x := (m.targets.filter fun t => t.corr == 1 || t.corr == 2 || (t.corr == 3 && decide (t.sub < 12)) || (t.corr == 5 && decide (t.sub < 4))).foldl
    (fun x t => aim x t.corr t.sub t.code) x
  if slow then x else aim x 4 0 ((x.left.pos + x.right.pos).tdiv 2)

/-- A measurement is high (R193). -/
def isHigh (x : Side) (resid : Nat) : Bool :=
  !x.fresh && decide (x.baseline.toNat * fld x.calCfg 32 28 < resid * 4) && decide (fld x.calCfg 27 16 * 16 < resid)

/-- RESID of some UI whose squared errors sum to `sumSq` mV²: 65536 × mean(e²) / A_T² with A_T 160 mV, at most 65535, rounded down
(R188, log entry 133). -/
def residOf (sumSq ui : Nat) : Nat := if ui = 0 then 0 else min 65535 (65536 * sumSq / (ui * 25600))

/-- The mean of a list, rounded down. -/
def meanOf (l : List Nat) : Nat := l.sum / l.length

/-- An ungated measurement enters the baseline (R193). -/
def intoBaseline (resid : Nat) (x : Side) : Side :=
  let h := (resid :: x.history).take 16
  { x with history := h, baseline := BitVec.ofNat 16 (meanOf h), fresh := false }

/-- What a closing measurement collected: UI compared, the two samplers' disagreements, and its RESID. -/
structure Closed where
  ui    : Nat
  e0    : Nat
  e1    : Nat
  resid : Nat
  deriving DecidableEq, Repr

/-- The measurement that closes first of what a side has counted: 2^16 UI, or all of it where it is less (R186). Of counts beyond 2^16
UI, how many disagreements fell in the first 2^16 is open (log entry 1). -/
def closing (x : Side) (sumSq open0 open1 : Nat) : Closed :=
  if x.measUi ≤ 65536 then ⟨x.measUi, x.measErr, x.measErr1, residOf sumSq x.measUi⟩
  else ⟨65536, open0 % (x.measErr + 1), open1 % (x.measErr1 + 1), residOf sumSq 65536⟩

/-- A closed measurement's figures stand, and the counts beyond it begin the next one (R186 to R188). -/
def nextMeasurement (c : Closed) (x : Side) : Side :=
  { x with
    resid := BitVec.ofNat 16 c.resid, measUi := x.measUi - c.ui, measErr := x.measErr - c.e0, measErr1 := x.measErr1 - c.e1
    turn := !x.turn, calAge := 0 }

/-- An ungated measurement: its trackers move, its targets stand, the baseline follows; VALID once the trackers have settled
(R187 to R190, R193). -/
def useMeasurement (slow : Bool) (m : Measured) (c : Closed) (x : Side) : Side :=
  let x := setTargets slow m (moveTrackers slow true c.ui c.e0 c.e1 (intoBaseline c.resid x))
  { x with calValid := x.calValid || settled slow x }

/-- Sparse data on a transparent lane: fewer than one transition per 10 UI (R147, R194). -/
def noteSparse (s : State) (i : SideId) (m : Measured) : State :=
  if pcMode s.paths[pathOf i].cfg = 5 then
    let thin := decide (m.transitions < 100)
    let s := s.modSide i fun x => { x with sparse := thin }
    if thin then raise s 0x0312 ([by1 i.val] ++ be 2 (min m.transitions 65535)) else s
  else s

/-- The disturbance gate on a closed measurement: it is used, or gates the side, or passes while the side is gated (R193). -/
def gateMeasurement (s : State) (i : SideId) (m : Measured) (c : Closed) : State :=
  let slow := slowSide s i
  let old := s.sides[i]
  let high := isHigh old c.resid
  if old.gated then
    let calm := if high then 0 else old.calm + 1
    let n := old.gatedN + 1
    if calm < fld old.calCfg 15 12 then s.modSide i fun x => { x with calm := calm, gatedN := n }
    else raise (s.modSide i fun x => useMeasurement slow m c { x with gated := false, calm := 0, gatedN := 0 }) 0x0311
      ([by1 i.val] ++ be 2 (min n 65535))
  else if high then
    raise (s.modSide i fun x => { x with
        gated := true, calm := 0, gatedN := 0, gates := satInc x.gates, targets := x.targets.filter fun t => t.ramp }) 0x0310
      ([by1 i.val] ++ be 2 c.resid ++ be 2 old.baseline.toNat)
  else s.modSide i (useMeasurement slow m c)

/-- A closed measurement in L0 or data (R186 to R194). -/
def closeMeasurement (s : State) (i : SideId) (m : Measured) : State :=
  let old := s.sides[i]
  let c := closing old m.sumSq s.openNat s.usedFree.openNat
  let s := (gateMeasurement (noteSparse s.usedFree.usedFree i m) i m c).modSide i (nextMeasurement c)
  let q := qualA s i
  if s.sides[i].calValid && !old.calValid then
    raise s 0x0313 ([by1 i.val] ++ be 2 (fld q 39 30) ++ be 2 (fld q 29 21) ++ [by1 (fld q 20 13)])
  else s

/-- A target of CTLE, VGA or DFE lands whole in training, or holds at its end (R109, R139, R195). -/
def landTarget (i : SideId) (s : State) (t : CalTarget) : State :=
  let code := clampI (corrLow t.corr t.sub) (corrHigh t.corr t.sub) t.code
  let s := putCode s i t.corr t.sub code
  if code = t.code then s else limitEvent s i t.corr t.sub code

/-- A target that training adaptation follows: a CTLE, VGA or DFE one of the Calender's own (R81, R109, R194, R196). -/
def lands (s : State) (i : SideId) (t : CalTarget) : Bool :=
  decide (t.corr ≤ 3) && !t.ramp && !(t.corr == 3 && dfeIdle s i) && !frozen s i

/-- A measurement that closes in training: it runs outside lines, on 2^16 UI whose disagreements no row counts (log entry 1), moves
the trackers, sets targets, and adapts CTLE, VGA and DFE at once (R109, R139, R186, R190). -/
def closeTraining (s : State) (i : SideId) (m : Measured) : State :=
  let e0 := s.openNat
  let e1 := s.usedFree.openNat
  let slow := slowSide s i
  let s := s.usedFree.usedFree.modSide i fun x =>
    { setTargets slow m (moveTrackers slow false 65536 e0 e1 x) with
      resid := BitVec.ofNat 16 (residOf m.sumSq 65536), turn := !x.turn, calAge := 0, adapted := true }
  (s.sides[i].targets.filter (lands s i)).foldl (landTarget i) s

/-- Training in which measurements close: Recovery.Equalization, or auto-negotiation and training of a backplane lane (R109, R139,
R186). -/
def adapting (s : State) (i : SideId) : Bool :=
  inTraining s i && (pcMode s.paths[pathOf i].cfg != 1 || s.paths[pathOf i].ltssm == 6)

/-- A CAL line that names a side runs (R186). -/
def calRuns (s : State) (i : SideId) : Bool := lineRuns s (1 + (pathOf i).val) 0x60 fun l => bit l.target (i.val % 8)

/-- A side's word to the Calender's decision logic, D39, and what it does there: the word returns absent while that domain is off (R46). -/
def toCalender (side : SideId) (f : State → State) (s : State) : State :=
  if domOn s 39 && present s 2 then f s else absent s (32 + side.val) 2

/-- MEASUREMENT_CLOSE (R186): in L0 or data within a CAL line, at 2^16 compared UI or at the line's end on 2^12 or more; or in
training. -/
def execMeasurementClose (side : SideId) (m : Measured) (s : State) : Host.Outcome State Fault Refusal :=
  done s <|
    if domOn s (side.val + 1) = false then s
    else if inData s side then
      (if calRuns s side = true ∧ 4096 ≤ s.sides[side].measUi then toCalender side (fun s => closeMeasurement s side m) s else s)
    else if adapting s side then toCalender side (fun s => closeTraining s side m) s
    else s

/-! ### Steps in kerfs -/

/-- The mode whose kerf rule a side takes: its path's, a transparent lane's while a pattern is in force (Table 6.3, R454). -/
def kerfMode (s : State) (i : SideId) : Nat :=
  if s.sides[i].patSel.toNat % 128 = 0 then pcMode s.paths[pathOf i].cfg else 5

/-- A kerf of a side lies in a line in which its digital corrections may move (Tables 6.3 and 8.1). -/
def digitalLine (s : State) (i : SideId) : Bool :=
  let p := pathOf i
  let names := fun (l : Line) => bit l.target (i.val % 8)
  let live := bit s.lanes[laneOf i].lineCfg 39
  match kerfMode s i with
  | 5 => live && lineRuns s (1 + p.val) 0x61 names
  | 6 => live && lineRuns s (1 + p.val) 0x60 names
  | _ => lineRuns s (1 + p.val) 0x60 names

/-- What stops the Calender's own steps on a side (R194). -/
def ownStopped (s : State) (i : SideId) : Bool :=
  frozen s i || s.sides[i].gated || (pcMode s.paths[pathOf i].cfg == 5 && s.sides[i].sparse)

/-- A FEC lane commits only while its margin figure is at least 32 (Table 6.3). -/
def fecHolds (s : State) (i : SideId) : Bool :=
  let c := s.paths[pathOf i].cfg
  kerfMode s i == 2 && pcFec c && decide (fld (qualA s i) 20 13 < 32)

/-- A correction's code in the set that serves its side. -/
def codeNow (s : State) (i : SideId) (t : CalTarget) : Int := corrGet (imagesOf s.sides[i] (runSet s.paths[pathOf i])) t.corr t.sub

/-- A target would move its correction now: its code differs, and a step may be made (R191, R194, R196). -/
def pending (s : State) (i : SideId) (t : CalTarget) : Bool :=
  codeNow s i t != t.code && (t.ramp || !ownStopped s i) && !(t.corr == 3 && dfeIdle s i)

/-- The code one step nearer to a target, within the range (R191, R195). -/
def stepCode (s : State) (i : SideId) (t : CalTarget) : Int :=
  clampI (corrLow t.corr t.sub) (corrHigh t.corr t.sub) (if codeNow s i t < t.code then codeNow s i t + 1 else codeNow s i t - 1)

/-- One step of a correction toward its target: counted and traced; a ramp ends at its value; at an end of its range it holds,
with event 0x0302 once (R191, R195, R196, R203). A trim's step is stamped (R192). -/
def stepTarget (s : State) (i : SideId) (t : CalTarget) : State :=
  let goal := stepCode s i t
  if goal = codeNow s i t then limitEvent s i t.corr t.sub goal
  else
    let s := (putCode s i t.corr t.sub goal).modSide i fun x => { x with
      steps := satInc x.steps
      trimAt := if t.corr ≤ 4 then x.trimAt else (x.trimAt.filter fun k => !(k.1 == t.corr && k.2.1 == t.sub)) ++ [(t.corr, t.sub, s.now)]
      targets := if t.ramp && goal == t.code then x.targets.filter (fun u => !isTarget t.corr t.sub u) else x.targets }
    traceStep s (32 + i.val) t.corr goal

/-- A transmitter's coefficient one step toward a value. -/
def stepField (have' want : Nat) : Nat := if have' < want then have' + 1 else if want < have' then have' - 1 else have'

/-- One step per tap of a transmitter's ramp toward the host's coefficients (R84). -/
def stepTx (s : State) (i : SideId) : State :=
  match s.sides[i].txRamp with
  | none => s
  | some v =>
    let set := runSet s.paths[pathOf i]
    let r := s.sides[i].txeq[set]
    let f := fun hi lo => stepField (fld r hi lo) (fld v hi lo)
    let n := txWith r (f 27 24) (f 23 19) (f 18 12) (f 11 7)
    s.modSide i fun x => { x with txeq := vmod x.txeq set fun _ => n, txRamp := if n = v then none else some v }

/-- A side has a kerf: its lane carries data. -/
def hasKerf (s : State) (i : SideId) : Bool := domOn s (i.val + 1) && inData s i

/-- A TRIM line names a side. -/
def trimNames (l : Line) (i : SideId) : Bool := l.target == 0xFF || l.target.toNat == (laneOf i).val

/-- A trim of a side had not moved in the 10 µs before a TRIM line started, nor since (R192). -/
def rested (s : State) (i : SideId) (corr sub : Nat) (start : Nat) : Bool :=
  s.sides[i].trimAt.all fun k => !(k.1 == corr && k.2.1 == sub) || decide (k.2.2.toNat + 10995117 ≤ start)

/-- A trim may move at this kerf: a TRIM line that names its lane runs and finds it rested; on a transparent lane within a KERF line that
names the side, and on transparent and slow lanes only with EQ_LIVE (R147, R192, Table 6.3). -/
def trimMoves (s : State) (i : SideId) (t : CalTarget) : Bool :=
  let live := bit s.lanes[laneOf i].lineCfg 39
  (lineRuns s 0 0x11 fun l => trimNames l i && rested s i t.corr t.sub (tickStamp s l.start)) &&
  match kerfMode s i with
  | 5 => live && lineRuns s (1 + (pathOf i).val) 0x61 fun l => bit l.target (i.val % 8)
  | 6 => live
  | _ => true

/-- A correction may move at a kerf of its side (Table 8.1). -/
def kerfMoves (s : State) (i : SideId) (t : CalTarget) : Bool := if t.corr ≤ 4 then digitalLine s i else trimMoves s i t

/-- The corrections due at a kerf move one step each; on a FEC lane one in all, and none in the three blocks after it (R150, R191). A
correction that holds at its end makes no step. -/
def commitKerf (s : State) (i : SideId) : State :=
  let due := s.sides[i].targets.filter fun t => kerfMoves s i t && pending s i t
  if kerfMode s i == 2 && pcFec s.paths[pathOf i].cfg then
    let held := due.filter fun t => stepCode s i t == codeNow s i t
    let s' := held.foldl (fun s t => stepTarget s i t) s
    match due.find? fun t => stepCode s i t != codeNow s i t with
    | some t => (stepTarget s' i t).modSide i fun x => { x with fecWait := 3 }
    | none => s'
  else due.foldl (fun s t => stepTarget s i t) s

/-- KERF_COMMIT (R84, R150, R191, R192, R197): one kerf of a side. The transmitter that carries the side's data takes a step of its
ramp, and the corrections that may move in the lines now running take theirs. -/
def execKerfCommit (side : SideId) (s : State) : Host.Outcome State Fault Refusal :=
  done s <|
    if hasKerf s side = false then s
    else
      let s := stepTx s (opposite side)
      if s.sides[side].fecWait ≠ 0 then s.modSide side fun x => { x with fecWait := x.fecWait - 1 }
      else if fecHolds s side = true then s
      else commitKerf s side

/-- NO_KERF_TIMEOUT, event 0x0214 with the lane side and its mode (R150, R154). -/
def execNoKerfTimeout (side : SideId) (s : State) : Host.Outcome State Fault Refusal :=
  done s (if hasKerf s side then raise s 0x0214 [by1 side.val, by1 (pcMode s.paths[pathOf side].cfg)] else s)

/-! ### Trims -/

/-- A side whose replicas a TRIM line reads: it carries data and is not gated (R190). -/
def readsReplica (l : Line) (s : State) (i : SideId) : Bool :=
  trimNames l i && present s (32 + i.val) && inData s i && !s.sides[i].gated

/-- Targets a receiver's replicas give at the start of a TRIM line (R190). -/
def replicaTargets (l : Line) (s : State) (r : Replica) : State :=
  if readsReplica l s r.side then s.modSide r.side fun x => aim (aim (aim x 7 0 r.term) 8 0 r.pole) 9 0 r.bias
  else s

/-- The target a transmitter's impedance replica gives at the start of a TRIM line (R190). -/
def txReplicaTarget (l : Line) (s : State) (r : TxReplica) : State :=
  if readsReplica l s r.side then s.modSide r.side fun x => aim x 10 0 r.txz else s

/-- TRIM_LINE (R190, R192): the replicas set their targets; while the line runs, kerfs of its lanes move their trims. -/
def execTrimLine (idx : Nat) (replicas : List Replica) (txReplicas : List TxReplica) (s : State) : Host.Outcome State Fault Refusal :=
  done s (startLine 0 idx 0x11 (fun l s => txReplicas.foldl (txReplicaTarget l) (replicas.foldl (replicaTargets l) s)) s)

/-- What initial calibration settled on stands: IDs 5 to 10 (R198). -/
def takeCalibration (c : InitialCal) (x : Side) : Side :=
  { x with
    calDue := false, soff := pack 40 [(fld c.soff 39 4, 4)]
    trim := pack 40 [(c.pole.toNat, 35), (c.term.toNat, 30), (c.bias.toNat, 26), (c.txz.toNat, 21), (b2n (bit x.trim 20), 20)] }

/-- Once no side of a path calibrates, what its receivers already see is forwarded (R98, R198). -/
def calibrated (s : State) (p : PathId) : State := if calibrating s p then s else (sidesOn s p).foldl forward s

/-- INITIAL_CALIBRATION_DONE, event 0x0301 (R198). -/
def execInitialCalibrationDone (side : SideId) (c : InitialCal) (s : State) : Host.Outcome State Fault Refusal :=
  done s <|
    if s.sides[side].calDue = false ∨ domOn s (side.val + 1) = false then s
    else
      let set := runSet s.paths[pathOf side]
      let s := s.modSide side fun x => relimit set (takeCalibration c x)
      calibrated (raise s 0x0301 ([by1 side.val, 0] ++ be 2 c.micros.toNat)) (pathOf side)

/-! ### Pinning -/

/-- The latency a direction holds in 0.25 ps: its PIN_LAT, or the centre of the range where that is 0 (R87, R100). -/
def pinTarget (x : Path) (pin : BitVec 32) : Nat :=
  if pin = 0 then 1600 + 440 * 4000000000 / pcRate x.cfg else pin.toNat

/-- The residence latency between the balls: what the phase detectors measured, with the production calibration of the direction (R175). -/
def pinLatency (s : State) (m : PinMeasure) : BitVec 22 := BitVec.ofInt 22 ((m.lat.toNat : Int) + s.store.pinCal[m.side])

/-- A PIN_MEAS line measures one direction and, on a pinned path at its pinned rate, slews it toward PIN_LAT (R177, R178). -/
def measurePin (p : PathId) (l : Line) (s : State) (m : PinMeasure) : State :=
  let i := m.side
  let lat := pinLatency s m
  let lane := s.lanes[laneOf i]
  if reaches s p l i = false ∨ lane.ei[endOf i] = true ∨ lane.lock[endOf i] = false then s
  else
    let y := s.paths[p]
    let old := s.sides[i]
    if pcPinned y.cfg = false ∨ runRate y ≠ pcRate y.cfg then
      s.modSide i fun x => { x with pinLat := lat, pinErr := 0, pinned := false, pinValid := true, pinAge := 0 }
    else
      let d : Int := (lat.toNat : Int) - (pinTarget y lane.pin : Nat)
      let holds := decide (-6 ≤ d) && decide (d ≤ 6)
      let need := if m.stepSize = 0 then 0 else d.natAbs * 1024 / m.stepSize
      let moved : Int := (min m.steps need : Nat)
      let err := clampI (-127) 127 d
      let s := s.modSide i fun x => { x with
        pinLat := lat, pinErr := BitVec.ofInt 8 err, pinned := holds, pinValid := true, pinAge := 0
        pinPhase := x.pinPhase + (if 0 < d then -moved else moved) }
      if holds && !old.pinned then raise s 0x0410 ([by1 i.val] ++ be 4 lat.toNat)
      else if old.pinned && !holds then raise s 0x0411 ([by1 i.val] ++ sbe 1 err)
      else s

/-- PIN_MEAS_LINE (R177, R179). -/
def execPinMeasLine (p : PathId) (idx : Nat) (meas : List PinMeasure) (s : State) : Host.Outcome State Fault Refusal :=
  done s (startLine (pathTable p) idx 0x63 (fun l s => meas.foldl (measurePin p l) s) s)

/-! ### Sweeps -/

/-- Spine time at which a point of the plan starts (R181). -/
def pointStamp (s : State) (k : Nat) : Nat :=
  let n := sheetN s
  boundaryStamp n (boundaryAt n s.sweep.s0.toNat + k * s.sweep.d)

/-- SWEEP_POINT_START (R181, R182, R183): the first point begins, event 0x0420; a later one begins as the one before ends; after
the last the plan is complete, event 0x0421. A point flagged after a break ends the plan. -/
def execSweepPointStart (s : State) : Host.Outcome State Fault Refusal :=
  done s <|
    let w := s.sweep
    if w.st = 2 then
      if s.now.toNat < pointStamp s 0 then s
      else raise (s.modSweep fun w => { w with st := 3, point := some 0, moved := false, done := 0 }) 0x0420
        ([w.plan] ++ stampBytes w.s0)
    else if w.st = 3 then
      match w.point with
      | none => s
      | some k =>
        if s.now.toNat < pointStamp s (k + 1) then s
        else
          let s := s.modSweep fun w => { w with done := k + 1 }
          match w.ending with
          | some c => abortSweep s c.toNat
          | none =>
            if w.npoints ≤ k + 1 then
              raise (releaseMargins (s.modSweep fun w => { w with st := 4, point := none, moved := false })) 0x0421 [w.plan]
            else s.modSweep fun w => { w with point := some (k + 1), moved := false }
    else s

/-- A flag set on a point: bit 0 MISSED, 1 MISMATCH, 2 AFTER_BREAK (R182). -/
def flagPoint (s : State) (k b : Nat) : State :=
  s.modSweep fun w => { w with
    flags := if w.flags.any fun f => f.1 == k then w.flags.map fun f => if f.1 == k then (f.1, f.2 ||| BitVec.ofNat 3 (2 ^ b)) else f
      else w.flags ++ [(k, BitVec.ofNat 3 (2 ^ b))] }

/-- The deckle samplers of a side at a point of the plan (R181). -/
def placeDeckle (s : State) (k : Nat) (i : SideId) : State :=
  match s.sweep.points.find? fun p => p.1 == k with
  | none => s
  | some q => s.modSide i fun x => { x with dkPhase := vmod x.dkPhase 0 fun _ => q.2.1, dkThr := vmod x.dkThr 0 fun _ => q.2.2 }

/-- The counts of a point on a side (R182). -/
def addCount (s : State) (k : Nat) (c : SideCount) : State :=
  s.modSweep fun w => { w with
    cells := if w.cells.any fun x => x.point == k && x.side == c.side then
        w.cells.map fun x => if x.point == k && x.side == c.side then
          { x with compared := satAdd x.compared c.compared, errors := satAdd x.errors c.errors } else x
      else w.cells ++ [{ point := k, side := c.side, compared := satAdd 0 c.compared, errors := satAdd 0 c.errors }] }

/-- The point a SWEEP line's operand names: the point in progress for 0xFFFF, else a fixed point of the loaded plan (R181). -/
def sweepPoint (s : State) (l : Line) : Option Nat :=
  if l.operand = 0xFFFF then (if s.sweep.st = 3 then s.sweep.point else none)
  else if s.sweep.points.any fun p => p.1 == l.operand.toNat then some l.operand.toNat
  else none

/-- SWEEP: samplers moved at the first line of a point, counts added to the point (R181, R182). -/
def sweepCounts (p : PathId) (counts : List SideCount) (l : Line) (s : State) : State :=
  match sweepPoint s l with
  | none => s
  | some k =>
    let inPlan := fun (i : SideId) => bit s.sweep.masks[pathOf i] (i.val % 8)
    let s := if l.operand = 0xFFFF then
        (if s.sweep.moved then s
         else (((List.finRange 32).filter inPlan).foldl (fun s i => placeDeckle s k i) s).modSweep fun w => { w with moved := true })
      else ((namedSides s p l).filter inPlan).foldl (fun s i => placeDeckle s k i) s
    let s := (counts.filter fun c => reaches s p l c.side && inPlan c.side).foldl (fun s c => addCount s k c) s
    (counts.filter fun c => reaches s p l c.side && !inPlan c.side && s.sides[c.side].margin.isSome).foldl countMargin s

/-- SWEEP_LINE; a missed one flags its point MISSED (R182). -/
def execSweepLine (p : PathId) (idx : Nat) (counts : List SideCount) (s : State) : Host.Outcome State Fault Refusal :=
  done s <|
    let t := startLine (pathTable p) idx 0x62 (sweepCounts p counts) s
    let missed := t.seq.running != s.seq.running && t.seq.running.any fun r => r.table == pathTable p && r.idx == idx && !r.acts
    match lineAt s (pathTable p).val idx with
    | some l => if missed then (match sweepPoint s l with | some k => flagPoint t k 0 | none => t) else t
    | none => t

end Sys2Proof.Machine
end

