-- ==== Sys2Proof/Machine/TimeRows.lean ====
section
/-! DEFINITION. Spine time at work: the servo and the pull (R158 to R161), IEEE 1588 messages (R164, R165), PPS_IN and PPS_OUT
(R166, R167), the sync chain (R168 to R173), the reload after REST or power-off (R162, R163). -/

namespace Sys2Proof.Machine

/-- Some 0.25 ns units in 2^-40 s. -/
def quarterNs (v : Int) : Int := roundDiv (v * 2 ^ 40) 4000000000

/-- An offset in 2^-40 s as whole nanoseconds. -/
def offsetNs (v : Int) : Int := roundDiv (v * 10 ^ 9) (2 ^ 40)

/-- A signed number of nanoseconds in four bytes, as event data carry it (Table 18.2). -/
def ns4 (v : Int) : List Byte := sbe 4 (clampI (-2147483648) 2147483647 v)

/-! ### Measurements and source loss -/

/-- A valid measurement of the selected source: kept for the next SERVO line; the source delivers, so a state that is not LOCKED is
LOCKING (R157 to R159). -/
def addMeasure (off : Int) (s : State) : State :=
  s.modTime fun t => { t with meas := t.meas ++ [off], st := if t.st = 3 then 3 else 2 }

/-- FREQ_ADJ that HOLDOVER holds: its mean over the last 64 s of LOCKED, or its last value (R160). -/
def heldFreq (now : Stamp) (t : TimeIsl) : Int :=
  match t.lockedAt with
  | none => t.freqAdj
  | some at' =>
    let span := 64 * 2 ^ 40
    let h := (t.lockHist.filter fun x => decide (now.toNat - x.1.toNat ≤ span)).map fun x => x.2
    if now.toNat - at'.toNat < span ∨ h = [] then t.freqAdj else roundDiv h.sum h.length

/-- HOLDOVER entered from LOCKING or LOCKED, event 0x0402 (R158, R160). The code of the cause is open (log entry 1). -/
def enterHoldover (s : State) : State :=
  if s.time.st = 2 ∨ s.time.st = 3 then
    let cause := s.openNat
    let now := s.now
    let s := s.usedFree.modTime fun t => { t with st := 4, freqAdj := heldFreq now t, meas := [], lockRun := 0, lockedAt := none, lockHist := [] }
    raise s 0x0402 [by1 (timeSource s.time), by1 cause]
  else s

/-- The selected master is forgotten (R164). -/
def dropMaster (t : TimeIsl) : TimeIsl := { t with master := none, sync := none, delayReq := none }

/-- SOURCE_LOST: IEEE 1588 or PPS_IN fails under Table 7.2 (R158). Where IEEE 1588's announce receipt timeout expired, its master is
no longer one to select. -/
def execSourceLost (announce : Bool) (s : State) : Host.Outcome State Fault Refusal :=
  done s <|
    if domOn s 41 && (timeSource s.time == 1 || timeSource s.time == 2) then
      enterHoldover (s.modTime fun t => if announce ∧ timeSource t = 1 then dropMaster t else t)
    else s

/-! ### The servo -/

/-- One pull move of 1 LSB where 62.5 ms have passed since the last, traced (R161, R322). -/
def movePull (up : Bool) (s : State) : State :=
  let n := s.time.pull.toNat
  let v := if up then n + 1 else n - 1
  traceStep (s.modTime fun t => { t with pull := BitVec.ofNat 16 v, pullNs := 0, pullLim := false }) 3 14 v

/-- The pull has not moved for 62.5 ms (R161). -/
def pullFree (s : State) : Bool := decide (62500000 ≤ s.time.pullNs)

/-- The pull moves toward reducing FREQ_ADJ, which changes by its nominal effect; at an end of its range with FREQ_ADJ at its
bound event 0x0409 is raised once (R161). -/
def servoPull (s : State) : State :=
  let f := s.time.freqAdj
  let up := decide (0 < f)
  let atEnd := if up then s.time.pull == 0xFFFF else s.time.pull == 0
  if -153 ≤ f ∧ f ≤ 153 then s
  else if atEnd then
    if (f = 1000000 ∨ f = -1000000) ∧ s.time.pullLim = false then
      raise (s.modTime fun t => { t with pullLim := true }) 0x0409 (be 2 s.time.pull.toNat ++ sbe 4 f)
    else s
  else if pullFree s then
    (movePull up s).modTime fun t => { t with freqAdj := if up then f - 153 else f + 153 }
  else s

/-- The pull moves toward PULL_SET's target, FREQ_ADJ unchanged (R358). -/
def seekPull (s : State) : State :=
  match s.time.pullGoal with
  | none => s
  | some g =>
    if s.time.pull = g then s.modTime fun t => { t with pullGoal := none }
    else if pullFree s then movePull (decide (s.time.pull.toNat < g.toNat)) s
    else s

/-- A step of spine time decided, in place of one decided before (R32, R159). -/
def decideStep (off : Int) (s : State) : State := s.modTime fun t => { t with step := some off, first := false }

/-- The filter of bandwidth BW: what FREQ_ADJ becomes is open within its bound (R159, log entry 1). -/
def filterFreq (s : State) : State :=
  (s.modTime fun t => { t with freqAdj := clampI (-1000000) 1000000 s.openInt }).usedFree

/-- The lock condition (R159): 16 consecutive offsets below LOCK_THRESH enter LOCKED, event 0x0401; one beyond 4 × LOCK_THRESH
falls back to LOCKING. -/
def judgeLock (off : Int) (s : State) : State :=
  let thresh := fld s.time.cfg 27 20
  let mag := off.natAbs * 10 ^ 9
  let run := if mag < thresh * 2 ^ 40 then s.time.lockRun + 1 else 0
  let now := s.now
  let s := s.modTime fun t => { t with lockRun := run }
  if s.time.st = 3 then
    if 4 * thresh * 2 ^ 40 < mag then s.modTime fun t => { t with st := 2, lockedAt := none, lockHist := [] } else s
  else if s.time.st = 2 ∧ 16 ≤ run then
    raise (s.modTime fun t => { t with st := 3, lockedAt := some now, lockHist := [] }) 0x0401
      ([by1 (timeSource s.time)] ++ ns4 (offsetNs off))
  else s

/-- While LOCKED, FREQ_ADJ is kept for 64 s, and the crystal's error is measured, its value open (R160, R162). -/
def keepHistory (s : State) : State :=
  if s.time.st = 3 then
    let now := s.now
    (s.modTime fun t => { t with
      lockHist := (now, t.freqAdj) :: t.lockHist.filter (fun x => decide (now.toNat - x.1.toNat ≤ 64 * 2 ^ 40))
      xtalAdj := s.openInt }).usedFree
  else s

/-- The servo on the mean offset of the line's measurements (R159). -/
def servo (s : State) : State :=
  match s.time.meas with
  | [] => if timeSource s.time = 0 ∧ s.time.st ≠ 4 then seekPull s else s
  | l =>
    let off := roundDiv l.sum l.length
    let limit := fld s.time.cfg 35 28
    let s := s.modTime fun t => { t with meas := [], offset := offsetNs off }
    let s :=
      if s.time.first = true ∨ (limit ≠ 0 ∧ limit * 2 ^ 40 < off.natAbs * 10 ^ 6) then decideStep off s
      else filterFreq s
    keepHistory (servoPull (judgeLock off s))

/-- SERVO_LINE (R159, R161). -/
def execServoLine (idx : Nat) (s : State) : Host.Outcome State Fault Refusal :=
  done s (startLine 8 idx 0x20 (fun _ s => servo s) s)

/-! ### IEEE 1588 -/

/-- The data set of an Announce, in the order of the data-set comparison of IEEE 1588. -/
def dataSet (m : PtpMsg) : List Nat :=
  [m.prio1.toNat, m.clockClass.toNat, m.accuracy.toNat, m.variance.toNat, m.prio2.toNat, m.grandmaster.toNat, m.steps.toNat,
   m.clock.toNat]

/-- One list of numbers comes before another. -/
def lexLess : List Nat → List Nat → Bool
  | a :: t, b :: u => decide (a < b) || (a == b && lexLess t u)
  | _, _ => false

/-- A message Table 7.3 supports, for the transport and domain selected (R164). -/
def ptpSupported (t : TimeIsl) (m : PtpMsg) : Bool :=
  !m.tagged && m.udp == bit t.cfg 19 && m.domain.toNat == fld t.cfg 18 12 &&
  match m.kind with
  | .syncOneStep => decide (-7 ≤ m.logInterval) && decide (m.logInterval ≤ 1)
  | .syncTwoStep => decide (-7 ≤ m.logInterval) && decide (m.logInterval ≤ 1)
  | .other => false
  | _ => true

/-- An Announce: the best master is kept, event 0x0407 on a change; its timescale and UTC fields are reported (R156, R164). -/
def onAnnounce (m : PtpMsg) (s : State) : State :=
  let same := match s.time.master with | some x => x.clock == m.clock | none => false
  let better := match s.time.master with | some x => lexLess (dataSet m) (dataSet x) | none => true
  if same || better then
    let s := s.modTime fun t => { t with
      master := some m, tscale := if m.ptpScale then 1 else 2, utc := m.utcOffset, utcValid := m.utcValid
      leap61 := m.leap61, leap59 := m.leap59
      sync := if same then t.sync else none, delayReq := if same then t.delayReq else none }
    if same then s else raise s 0x0407 (be 8 m.clock.toNat)
  else s

/-- PHY delays count in SGMII mode only (Table 7.4). -/
def phyDelay (s : State) (w : Nat) : Int := if s.svc.mode = 3 then quarterNs (vget s.time.delays w) else 0

/-- A complete Sync and Delay_Resp pair gives an offset (R158, R159, R165): with t1 and t2 the Sync's origin and arrival, t3 and t4
the Delay_Req's departure and arrival, the source's time minus spine time. -/
def onDelayResp (m : PtpMsg) (s : State) : State :=
  match s.time.sync, s.time.delayReq with
  | some (_, t2, some t1), some (seq, t3) =>
    if seq = m.seqId then
      let back : Int := (t1.toNat : Int) - ((t2.toNat : Int) - phyDelay s 1)
      let out : Int := (m.origin.toNat : Int) - ((t3.toNat : Int) + phyDelay s 2)
      addMeasure ((back + out) / 2 + quarterNs s.time.delays[0]) (s.modTime fun t => { t with sync := none, delayReq := none })
    else s
  | _, _ => s

/-- What the PTP clock does with a supported message; only the selected master's count beside Announce (R164). -/
def onPtp (m : PtpMsg) (s : State) : State :=
  let ours := match s.time.master with | some x => x.clock == m.clock | none => false
  match m.kind with
  | .announce => onAnnounce m s
  | .syncOneStep => if ours then s.modTime fun t => { t with sync := some (m.seqId, m.rxStamp, some m.origin) } else s
  | .syncTwoStep => if ours then s.modTime fun t => { t with sync := some (m.seqId, m.rxStamp, none) } else s
  | .followUp =>
    if ours then s.modTime fun t => { t with sync := match t.sync with
      | some (q, rx, none) => if q = m.seqId then some (q, rx, some m.origin) else t.sync
      | x => x } else s
  | .delayResp => if ours then onDelayResp m s else s
  | .other => s

/-- PTP_MESSAGE_RECEIVED (R164): served while IEEE 1588 is the source; every other message that reaches the port is ignored and counted. -/
def execPtpMessageReceived (m : PtpMsg) (s : State) : Host.Outcome State Fault Refusal :=
  done s <|
    if domOn s 41 = false ∨ s.svc.link = false then s
    else if timeSource s.time = 1 ∧ ptpSupported s.time m = true then onPtp m s
    else s.modTime fun t => { t with ptpIgnored := satInc t.ptpIgnored }

/-- DELAY_REQ_DUE (R164, R236): a Delay_Req waits for the next TX line. -/
def execDelayReqDue (s : State) : Host.Outcome State Fault Refusal :=
  done s <|
    if domOn s 41 = true ∧ timeSource s.time = 1 ∧ s.time.master.isSome = true then s.modTime fun t => { t with reqDue := true } else s

/-! ### PPS -/

/-- PPS_IN_EDGE (R166): its stamp, and where PPS_IN is the source the offset to the nearest whole second. -/
def execPpsInEdge (stamp : Stamp) (s : State) : Host.Outcome State Fault Refusal :=
  done s <|
    if domOn s 41 = false ∨ domOn s 50 = false then s
    else
      let s := s.modTime fun t => { t with ppsStamp := stamp }
      if timeSource s.time ≠ 2 then s
      else
        let p : Int := (stamp.toNat : Int) - quarterNs s.time.delays[3]
        let off : Int := (p + 2 ^ 39) / 2 ^ 40 * 2 ^ 40 - p
        if (s.time.st = 2 ∨ s.time.st = 3) ∧ 2 ^ 40 < 10 * off.natAbs then
          raise (s.modTime fun t => { t with ppsRejected := satInc t.ppsRejected }) 0x0408 (ns4 (offsetNs off))
        else addMeasure off s

/-- PPS_LINE (R167): PPS_OUT rises 8 ns after the line's start tick, reckoned from the boundary, and falls DURATION later. -/
def execPpsLine (idx : Nat) (s : State) : Host.Outcome State Fault Refusal :=
  done s (startLine 8 idx 0x21 (fun l s =>
    let rise := BitVec.ofNat 80 (tickStamp s (l.start + 1))
    let fall := BitVec.ofNat 80 (tickStamp s (l.start + 1 + l.duration))
    s.modTime fun t => { t with ppsOut := some (rise, fall) }) s)

/-! ### The sync chain -/

/-- The delay a frame is advanced by, in 2^-40 s: HOP_DELAY with HOP_OVR, else the measured D (R170). -/
def chainDelay (t : TimeIsl) : Int :=
  if bit t.cfg 11 then quarterNs t.delays[4] else roundDiv ((t.hopD.toNat : Int) * 2 ^ 40) 4000000000000

/-- E: the first whole microsecond at or after the line's start plus 0.7 µs (R170). -/
def chainMicros (startStamp : Nat) : Nat := ceilDiv (startStamp * 10 ^ 7 + 7 * 2 ^ 40) (10 * 2 ^ 40)

/-- A stamp of whole microseconds. -/
def microStamp (us : Nat) : Nat := us / 10 ^ 6 * 2 ^ 40 + (roundDiv ((us % 10 ^ 6 : Nat) * 2 ^ 40) (10 ^ 6)).toNat

/-- The chain code for a whole microsecond (Table 7.6). -/
def chainCode (s : State) (us : Nat) : BitVec 80 :=
  let t := s.time
  let sweep := s.sweep.st == 3
  let head := be 9 (us / 10 ^ 6 % 2 ^ 40 * 2 ^ 32 + us % 10 ^ 6 * 2 ^ 12 + t.hop.toNat * 2 ^ 8 + t.st.val * 2 ^ 5 + b2n sweep * 2 ^ 4
    + (if sweep then s.sweep.point.getD 0 % 16 else 0))
  BitVec.ofNat 80 (ofBe head * 256 + (crc8 head).toNat)

/-- The return of a mark within 140 ns, in 0.25 ps (R171). -/
def inTime (reflection : Option (BitVec 22)) : Option (BitVec 22) := reflection.filter fun d => decide (d.toNat ≤ 560000)

/-- The hop delay of a mark sent: half the interval from its edge to the return, averaged over the last 16; with no return within 140 ns
D is 0 and event 0x040A is raised once (R171). -/
def hopMeasure (reflection : Option (BitVec 22)) (s : State) : State :=
  match inTime reflection with
  | some d => s.modTime fun t =>
    let h := (BitVec.ofNat 22 (d.toNat / 2) :: t.hops).take 16
    { t with hops := h, hopD := BitVec.ofNat 22 (meanOf (h.map fun x => x.toNat)) }
  | none =>
    let s' := s.modTime fun t => { t with hopD := 0, hops := [], noRefl := true }
    if s.time.noRefl then s' else raise s' 0x040A []

/-- A received code passes its checks (R172). -/
def chainCodeOk (code : BitVec 80) : Bool :=
  crc8 (be 9 (code.toNat / 256)) == by1 code.toNat && decide (fld code 39 20 ≤ 999999)

/-- A code whose checks fail, discarded and counted (R172). -/
def discardCode (s : State) : State := s.modTime fun t => { t with chainDiscarded := satInc t.chainDiscarded }

/-- The sync chain loop: a frame sent reaches the device's own receiver and is checked as a follower checks it; a good one is
the sheet's mark, and its code goes no further (R462). -/
def loopMark (code : BitVec 80) (s : State) : State :=
  if s.test.loopSync = false then s
  else if chainCodeOk code then s.modTime fun t => { t with mark := true, missed := 0 }
  else discardCode s

/-- CHAIN_LINE (R168 to R171, R462). The interval from the edge of the mark it sends to the reflection's return is the row's operand. -/
def execChainLine (idx : Nat) (reflection : Option (BitVec 22)) (s : State) : Host.Outcome State Fault Refusal :=
  done s (startLine 8 idx 0x22 (fun l s =>
    let us := chainMicros (tickStamp s l.start)
    let leaves := BitVec.ofInt 80 ((microStamp us : Nat) - chainDelay s.time)
    let code := chainCode s us
    loopMark code (hopMeasure reflection (s.modTime fun t => { t with chainOut := some (code, leaves) }))) s)

/-- A sweep in progress flagged, to end at the end of its point (Table 7.11, cause 0). -/
def breakSweepLater (s : State) : State :=
  match s.sweep.point with
  | some k => if s.sweep.st = 3 then (flagPoint s k 2).modSweep fun w => { w with ending := some 0 } else s
  | none => s

/-- What a good code brings (R172, R173, R182): the offset, the hop number, the chain restored, the upstream's holdover, a
mismatch of sweeps. -/
def goodMark (stamp : Stamp) (code : BitVec 80) (s : State) : State :=
  let hop := fld code 19 16
  let e := microStamp (fld code 79 40 * 10 ^ 6 + fld code 39 20)
  let wasLost := s.time.lost
  let held := fld code 15 13 == 4
  let wasHeld := s.time.upHold
  let s := s.modTime fun t => { t with
    mark := true, missed := 0, goodE := BitVec.ofNat 80 e, hop := BitVec.ofNat 4 (min 15 (hop + 1)), lost := false, upHold := held }
  let s := addMeasure ((e : Int) - (stamp.toNat : Int)) s
  let s := if wasLost then raise s 0x0405 [by1 hop] else s
  let s := if held && !wasHeld then raise s 0x0406 [by1 hop] else s
  let s := if held then breakSweepLater s else s
  match s.sweep.point with
  | some k =>
    if s.sweep.st = 3 ∧ (bit code 12 = false ∨ fld code 11 8 ≠ k % 16) then flagPoint s k 1 else s
  | none => s

/-- CHAIN_MARK_RECEIVED (R172): by a follower; in the sync chain loop the ball is ignored (R459). -/
def execChainMarkReceived (stamp : Stamp) (code : BitVec 80) (s : State) : Host.Outcome State Fault Refusal :=
  done s <|
    if domOn s 41 = false ∨ domOn s 50 = false ∨ timeSource s.time ≠ 3 ∨ s.test.loopSync = true then s
    else if chainCodeOk code then goodMark stamp code s
    else discardCode s

/-- CHAIN_LOST (R173): at the end of the second consecutive sheet with a missing mark. -/
def execChainLost (s : State) : Host.Outcome State Fault Refusal :=
  done s <|
    if domOn s 41 = false ∨ timeSource s.time ≠ 3 ∨ s.time.lost = true ∨ s.time.missed.toNat < 2 then s
    else
      let s := raise (s.modTime fun t => { t with lost := true }) 0x0404 (stampBytes s.time.goodE)
      breakSweepLater (enterHoldover s)

/-! ### Reload -/

/-- Spine time at a count of the holdover counter (R162), in 2^-72 s. -/
def reloaded (t : TimeIsl) (counter : BitVec 64) : Nat :=
  (((t.t0.toNat : Int) + ((counter - t.c0).toNat : Int) * 2 ^ 57 * (10 ^ 12 + t.xtalAdj) / 10 ^ 12)).toNat

/-- A reload is due: TIME has come on and no sheet has begun, on an exit from REST or at a start with valid AO memory
(R162, R163). -/
def reloadDue (s : State) : Bool :=
  domOn s 41 && s.seq.firstDue && ((s.pow.dev == .run && s.pow.exitDue) || (s.pow.dev == .boot && s.pow.aoValid))

/-- SPINE_TIME_RELOAD (R162, R163): a state that was LOCKING, LOCKED or HOLDOVER is HOLDOVER, with the frequency latched (R160). -/
def execSpineTimeReload (counter : BitVec 64) (s : State) : Host.Outcome State Fault Refusal :=
  done s <|
    if reloadDue s then
      s.modTime fun t => { t with
        spine := BitVec.ofNat 112 (reloaded t counter), restored := true
        st := if t.stSaved = 2 ∨ t.stSaved = 3 ∨ t.stSaved = 4 then 4 else t.stSaved
        freqAdj := t.f0, lockRun := 0, lockedAt := none, lockHist := [] }
    else s

end Sys2Proof.Machine
end

