-- ==== Sys2Proof/Machine/BridgeRows.lean ====
section
/-! DEFINITION. The service port at work: frames received (R206 to R219), TX lines (R225, R236), link changes (R205), patience
(R229), the lease (R234). -/

namespace Sys2Proof.Machine

/-! ### Frames -/

/-- The UDP destination port of an IPv4 frame, 0 where it is no UDP. -/
def udpPort (b : List Byte) : Nat :=
  if num b 23 1 = 17 then num b (14 + num b 14 1 % 16 * 4 + 2) 2 else 0

/-- An IEEE 1588 frame over Layer 2 (R206). -/
def ptpLayer2 (s : State) (b : List Byte) : Bool :=
  num b 12 2 == 0x88F7 && (num b 0 6 == 0x011B19000000 || num b 0 6 == s.store.eui48.toNat)

/-- An IEEE 1588 frame over UDP/IPv4 (R206). -/
def ptpUdp (s : State) (b : List Byte) : Bool :=
  num b 12 2 == 0x0800 && (udpPort b == 319 || udpPort b == 320) &&
  ((num b 0 6 == 0x01005E000181 && num b 30 4 == 0xE0000181)
    || (num b 0 6 == s.store.eui48.toNat && num b 30 4 == s.time.ptpIp.toNat))

/-- Records of a frame counted as dropped for the session it names, and as duplicate or stale where `stale` (R208). -/
def dropFrame (s : State) (k : SessionId) (stale : Bool) : State :=
  let s := countSession s k 1
  if stale then countSession s k 8 else s

/-- What SEQ is to a session (R212): accepted with how far ACK_SEQ moves on (0 for a late one), or not. -/
inductive SeqJudge where
  | first | ahead (d : Nat) | late (k : Nat) | drop
  deriving DecidableEq, Repr

/-- R212's table. -/
def judgeSeq (x : Session) (seq : BitVec 16) : SeqJudge :=
  let d := (seq - x.ackSeq).toNat
  if x.seqKnown = false then .first
  else if d = 0 then .drop
  else if d ≤ 32767 then .ahead d
  else if 65504 ≤ d then (if bit x.ackMap (65536 - d - 1) then .drop else .late (65536 - d))
  else .drop

/-- ACK_SEQ and ACK_MAP after an accepted SEQ. -/
def takeSeq (seq : BitVec 16) (j : SeqJudge) (x : Session) : Session :=
  match j with
  | .first => { x with seqKnown := true, ackSeq := seq, ackMap := 0, news := true }
  | .ahead d => { x with
      ackSeq := seq, ackMap := BitVec.ofNat 32 (x.ackMap.toNat * 2 ^ d + (if d ≤ 32 then 2 ^ (d - 1) else 0)), news := true }
  | .late k => { x with ackMap := BitVec.ofNat 32 (x.ackMap.toNat ||| 2 ^ (k - 1)) }
  | .drop => x

/-! ### Records -/

/-- The length in bytes that a record's class and fields define; none for an unknown class (R215 to R219). -/
def recordLen (b : List Byte) : Option Nat :=
  match num b 0 1 with
  | 1 => some (16 + 4 * ceilDiv (num b 14 2) 4)
  | 2 => some 16
  | 3 => some (if num b 1 1 = 3 then 20 + 4 * ceilDiv (num b 14 2) 4 else 20)
  | 4 => some 72
  | _ => none

/-- A record is malformed (R215). -/
def malformed (b : List Byte) : Bool :=
  let n := num b 2 2
  b.length < 8 || n < 8 || n % 4 != 0 || decide (b.length < n) ||
  match recordLen b with | some m => n != m | none => false

/-- A downward record as the bridge holds it (Tables 9.7 and 9.9). -/
def parseRec (k : SessionId) (b : List Byte) : Rec :=
  let c := num b 0 1
  { cls := if c = 1 then .pw else if c = 2 then .np else .lk, session := k, op := by1 (num b 1 1)
    tag := BitVec.ofNat 16 (num b 4 2), patience := num b 6 1, size := if c = 3 then num b 7 1 else num b 1 1
    addr := img b 8, count := num b 14 2, lease := num b 16 2, data := slice b (if c = 3 then 20 else 16) (num b 14 2)
    wait := 0, overflow := false, started := false, spare := false, chosen := false, onBus := false, credit := true
    done := 0, got := [], broken := false, window := none, num := 0, stale := false }

/-- A PW, NP or LK record checked, then refused, closed as an empty write, or accepted (R217, R225). -/
def takeRecord (s : State) (k : SessionId) (r : Rec) : State :=
  match checkRecord s r with
  | some st => refuse s k st r.tag 0 r.addr r.size none
  | none =>
    let c := classIx r.cls
    if available s.svc.sessions[k] c = 0 then refuse (countSession s k 3) k 0x15 r.tag 0 r.addr r.size none
    else
      let s := countSession s k 2
      if r.cls == .pw && r.count == 0 then countSession s k 5
      else (takeCredit s k c).modSvc fun b => { b with recs := b.recs ++ [{ r with num := b.recNum }], recNum := b.recNum + 1 }

/-- A CTL record: delivered to CORE with a CTL credit, or refused (R209, R219). Where CORE is absent it is not delivered (R44). -/
def takeCtl (s : State) (k : SessionId) (b : List Byte) : State :=
  let tag := BitVec.ofNat 16 (num b 4 2)
  if available s.svc.sessions[k] 3 = 0 then refuse (countSession s k 3) k 0x15 tag 0 0 0 none
  else if present s 2 = false then absent s 4 2
  else
    let req : Req := { issuer := .session k, tag := BitVec.ofNat 16 (num b 10 2), len := by1 (num b 12 1), payload := slice b 16 56 }
    (takeCredit (countSession s k 2) k 3).modMbx fun m => { m with arrived := m.arrived ++
      [{ issuer := .session k, body := some (BitVec.ofNat 16 (num b 8 2), req), rtag := tag, lat := 0, answered := false, disowned := false }] }

/-- One well-formed record (R215). -/
def oneRecord (s : State) (k : SessionId) (b : List Byte) : State :=
  match num b 0 1 with
  | 1 => takeRecord s k (parseRec k b)
  | 2 => takeRecord s k (parseRec k b)
  | 3 => takeRecord s k (parseRec k b)
  | 4 => takeCtl s k b
  | _ => refuse s k 0x02 (BitVec.ofNat 16 (num b 4 2)) 0 0 0 none

/-- The records of a frame in turn; a malformed one ends it with event 0x0603 (R215). What needs no bus cycle is served at
once (R209, R220). -/
def records (k : SessionId) (seq : BitVec 16) : Nat → Nat → List Byte → State → State
  | 0, _, _, s => s
  | n + 1, i, b, s =>
    if malformed b then raise s 0x0603 ([by1 k.val] ++ be 2 seq.toNat ++ [by1 i])
    else records k seq n (i + 1) (b.drop (num b 2 2)) (afterBridge (oneRecord s k (b.take (num b 2 2))))

/-- Checks 5 to 8 of Table 9.3, on a frame bound to its session. -/
def sessionFrame (s : State) (k : SessionId) (h b : List Byte) : State :=
  let epoch : BitVec 6 := BitVec.ofNat 6 (num h 1 1)
  let seq : BitVec 16 := BitVec.ofNat 16 (num h 4 2)
  let x := s.svc.sessions[k]
  let d := (epoch - x.epoch).toNat
  if x.known ∧ 32 ≤ d then dropFrame s k true
  else
    let s := if x.known = false then s.modSession k fun y => { y with epoch := epoch, known := true }
      else if d = 0 then s else restartSession s k epoch
    match judgeSeq s.svc.sessions[k] seq with
    | .drop => raise (dropFrame s k true) 0x0605 ([by1 k.val] ++ be 2 seq.toNat)
    | j =>
      let ack := s.svc.sessions[k].ackSeq
      let s := s.modSession k (takeSeq seq j)
      let s := match j with
        | .ahead d => if 1 < d then raise (countSession s k 7) 0x0604 ([by1 k.val] ++ be 2 (ack + 1).toNat ++ be 2 (seq - 1).toNat) else s
        | _ => s
      let n := num h 2 1
      if n = 0 ∨ 16 < n then raise (dropFrame s k false) 0x0602 [by1 k.val, by1 n]
      else records k seq n 0 b (countSession s k 0)

/-- A Dovetail frame from its header on: checks 3 and 4 of Table 9.3. -/
def dovetailFrame (s : State) (src : Nat) (h : List Byte) : State :=
  let k : SessionId := Fin.ofNat 4 (num h 1 1 / 64)
  if num h 0 1 ≠ 1 ∨ num h 3 1 % 2 = 1 ∨ h.length < 16 then raise s 0x0602 [by1 k.val, by1 (num h 2 1)]
  else if s.svc.sessions[k].addr ≠ some (BitVec.ofNat 48 src) then raise (dropFrame s k false) 0x0601 (be 6 src ++ [by1 k.val])
  else sessionFrame s k h (h.drop 16)

/-- A frame that reached the port, without its FCS (Table 9.3). PTP frames of the selected transport go to the PTP clock, whose
part is the row PTP_MESSAGE_RECEIVED. -/
def portFrame (fcsGood : Bool) (b : List Byte) (s : State) : State :=
  let type := num b 12 2
  if fcsGood = false ∨ b.length < 60 ∨ 1514 < b.length then s.modSvc fun x => { x with dropMac := satInc x.dropMac }
  else if type = 0x8100 then s.modSvc fun x => { x with dropVlan := satInc x.dropVlan }
  else if type = 0x8808 then s.modSvc fun x => { x with macCtrl := satInc x.macCtrl }
  else if ptpLayer2 s b || ptpUdp s b then
    if ptpUdp s b = bit s.time.cfg 19 then s else s.modTime fun t => { t with ptpIgnored := satInc t.ptpIgnored }
  else if type ≠ s.svc.etype.toNat ∨ num b 0 6 ≠ s.store.eui48.toNat then s.modSvc fun x => { x with dropDst := satInc x.dropDst }
  else dovetailFrame s (num b 6 6) (b.drop 14)

/-- FRAME_RECEIVED (R208): destination address onward, without the FCS, of which `fcsGood` tells. While the link is down every
frame is lost (R205). -/
def execFrameReceived (fcsGood : Bool) (bytes : List Byte) (s : State) : Host.Outcome State Fault Refusal :=
  done s (if s.svc.link && domOn s 44 then portFrame fcsGood bytes s else s)

/-! ### TX lines -/

/-- Records a frame takes: in order, while the next fits and there are fewer than 16 (R236). -/
def fillFrame : Nat → Nat → List OutRec → List OutRec
  | 0, _, _ => []
  | _, _, [] => []
  | n + 1, room, o :: rest => if o.bytes.length ≤ room then o :: fillFrame n (room - o.bytes.length) rest else []

/-- A session's waiting records in class order, oldest first within a class (R236). -/
def waitingFor (s : State) (k : SessionId) : List OutRec :=
  let mine := fun (l : List OutRec) => l.filter fun o => o.session == k
  mine s.svc.cpl ++ mine s.svc.upw ++ mine s.svc.sig ++ mine s.svc.evt

/-- The records of a session's next frame: 1518 bytes less header, FCS and Dovetail header. -/
def nextRecords (s : State) (k : SessionId) : List OutRec := fillFrame 16 1484 (waitingFor s k)

/-- The session has a frame to send: records, or news for a session heard from (R236). -/
def wantsFrame (s : State) (k : SessionId) : Bool :=
  let x := s.svc.sessions[k]
  x.addr.isSome && x.seqKnown && (x.news || !(waitingFor s k).isEmpty)

/-- The frame's bytes without FCS, with zero padding to 60 (R206, R207). -/
def frameBytes (s : State) (k : SessionId) (out : List OutRec) : List Byte :=
  let x := s.svc.sessions[k]
  let b := be 6 (x.addr.elim 0 (·.toNat)) ++ be 6 s.store.eui48.toNat ++ be 2 s.svc.etype.toNat
    ++ [1, by1 (k.val * 64 + x.epoch.toNat), by1 out.length, 1] ++ be 2 x.upSeq.toNat ++ be 2 x.ackSeq.toNat
    ++ be 4 x.ackMap.toNat ++ [by1 (available x 0), by1 (available x 1), by1 (available x 2), by1 (available x 3)]
    ++ (out.map fun o => o.bytes).flatten
  b ++ List.replicate (60 - b.length) 0

/-- The first of some records taken out of a list. -/
def takeOut (out l : List OutRec) : List OutRec := out.foldl (fun l o => l.erase o) l

/-- A frame sent, wholly left at `ends`: its records leave, their credits return, and its header counts them as returned (R225, R236,
R391). -/
def sendFrame (s : State) (k : SessionId) (ends : Nat) : State :=
  let out := nextRecords s k
  let s := s.modSvc fun b => { b with
    cpl := takeOut out b.cpl, upw := takeOut out b.upw, sig := takeOut out b.sig, evt := takeOut out b.evt }
  let s := out.foldl (fun s o => match o.credit with | some c => giveBack s k c | none => s) s
  let bytes := frameBytes s k out
  let s := (s.modSvc fun b => { b with
    sent := bytes :: b.sent, leaving := { session := some k, out, ends } :: b.leaving, txLast := k }).modSession k fun x =>
      { x with upSeq := x.upSeq + 1, news := false }
  if out.any (fun o => o.reset) && s.pow.resetDue == some true then s.modPow fun p => { p with resetDue := some false } else s

/-- Picoseconds one byte takes on the wire in the port's mode. -/
def bytePs (mode : Nat) : Nat := if mode = 2 then 800 else 8000

/-- Picoseconds a frame of `n` bytes without FCS takes on the wire, with preamble and gap, in the port's mode. -/
def wirePs (mode n : Nat) : Nat := (max n 60 + 4 + 20) * bytePs mode

/-- Spine time at which a frame that takes the wire, gap included, until `ps` picoseconds after its line's start has wholly left. -/
def leftAt (s : State) (l : Line) (ps : Nat) : Nat :=
  tickStamp s l.start + ceilDiv ((ps - 12 * bytePs s.svc.mode.val) * 2 ^ 40) (10 ^ 12)

/-- A frame of a session is the next: the round robin starts after the session served last (R236). -/
def nextSession (s : State) (mask : Nat) : Option SessionId :=
  ((upto 4).map fun i => (Fin.ofNat 4 (s.svc.txLast.val + 1 + i) : SessionId)).find? fun k =>
    (mask == 0 || mask / 2 ^ k.val % 2 == 1) && wantsFrame s k

/-- Frames sent one at a time from `at'` ps after the line's start, while the next one ends within the line's `room` (R236). -/
def sendFrames (l : Line) (room : Nat) : Nat → Nat → State → State
  | 0, _, s => s
  | n + 1, at', s =>
    match nextSession s l.target.toNat with
    | none => s
    | some k =>
      let out := nextRecords s k
      let ps := at' + wirePs s.svc.mode.val (30 + (out.map fun o => o.bytes.length).sum)
      if room < ps then s else sendFrames l room n ps (sendFrame s k (leftAt s l ps))

/-- The ones' complement sum of some 16-bit words, complemented (IPv4 and UDP checksums). -/
def onesSum (ws : List Nat) : Nat := 0xFFFF - (ws.foldl (fun a w => let t := a + w; t % 65536 + t / 65536) 0)

/-- Bytes as 16-bit words, a last odd one high. -/
def words16 : List Byte → List Nat
  | a :: b :: t => (a.toNat * 256 + b.toNat) :: words16 t
  | [a] => [a.toNat * 256]
  | [] => []

/-- A Delay_Req message: domain, clockIdentity EUI-64, portNumber 1, its sequence number; its other fields as IEEE 1588 has them, PRESUMED
(R164, log entry 137). -/
def delayReqMsg (s : State) : List Byte :=
  [0x01, 0x02] ++ be 2 44 ++ [by1 (fld s.time.cfg 18 12), 0] ++ be 2 0 ++ be 8 0 ++ be 4 0 ++ be 8 s.store.eui64.toNat ++ be 2 1
    ++ be 2 s.time.reqSeq.toNat ++ [0x01, 0x7F] ++ be 10 0

/-- A message as UDP to port 319 at 224.0.1.129, TTL 1, from the address PTP_IP_SET gave, with both checksums (R164). -/
def ptpOverUdp (s : State) (m : List Byte) : List Byte :=
  let src := be 4 s.time.ptpIp.toNat
  let dst := be 4 0xE0000181
  let len := 8 + m.length
  let udp := onesSum (words16 (src ++ dst ++ [0, 17] ++ be 2 len ++ be 2 319 ++ be 2 319 ++ be 2 len ++ m))
  let head := fun (sum : Nat) => [0x45, 0x00] ++ be 2 (20 + len) ++ be 2 0 ++ be 2 0 ++ [0x01, 17] ++ be 2 sum ++ src ++ dst
  head (onesSum (words16 (head 0))) ++ be 2 319 ++ be 2 319 ++ be 2 len ++ be 2 (if udp = 0 then 0xFFFF else udp) ++ m

/-- The Delay_Req frame in the selected transport, from the device's own address, padded to 60 bytes (R164, R206). -/
def delayReqFrame (s : State) : List Byte :=
  let m := delayReqMsg s
  let b := if bit s.time.cfg 19 then be 6 0x01005E000181 ++ be 6 s.store.eui48.toNat ++ be 2 0x0800 ++ ptpOverUdp s m
    else be 6 0x011B19000000 ++ be 6 s.store.eui48.toNat ++ be 2 0x88F7 ++ m
  b ++ List.replicate (60 - b.length) 0

/-- A PTP Delay_Req leaves, wholly left at `ends`; its stamp at the balls is open (R164, R165, log entry 1). -/
def sendDelayReq (s : State) (ends : Nat) : State :=
  let frame := delayReqFrame s
  ((s.modTime fun t => { t with
      reqDue := false, reqSeq := t.reqSeq + 1, delayReq := some (t.reqSeq, BitVec.ofNat 80 s.openNat) }).modSvc fun b =>
    { b with sent := frame :: b.sent, leaving := { session := none, out := [], ends } :: b.leaving }).usedFree

/-- TX (R236): a PTP frame that is due first, then the sessions' frames. -/
def transmit (l : Line) (s : State) : State :=
  let w := match s.seq.active with | some m => svcWindow m.svcMode | none => 0
  let room := (l.duration - w) * 8000
  let fuel := (s.svc.cpl ++ s.svc.upw ++ s.svc.sig ++ s.svc.evt).length + 4
  let s := s.modSvc fun b => { b with leaving := [] }
  if s.time.reqDue then
    let ps := wirePs s.svc.mode.val (delayReqFrame s).length
    if room < ps then s else sendFrames l room fuel ps (sendDelayReq s (leftAt s l ps))
  else sendFrames l room fuel 0 s

/-- TX_LINE (R236). -/
def execTxLine (idx : Nat) (s : State) : Host.Outcome State Fault Refusal :=
  done s (startLine 7 idx 0x30 (fun l s => if s.test.loopSvc = 0 then afterBridge (transmit l s) else s) s)

/-! ### Link, patience, lease -/

/-- The technology the port advertises under Clause 73, coded as AN_TECH: the running mode's alone, and no FEC; none in the modes without
auto-negotiation (R204, R205). -/
def portTech (mode : Fin 4) : Option Nat := match mode.val with | 1 => some 1 | 2 => some 3 | _ => none

/-- A bring-up brings the link up: the partner offers the running mode and insists on no FEC, or the PHY reports 1000 Mb/s (R204, R205). -/
def bringsUp (mode : Fin 4) (l : PortLink) : Bool :=
  match l with
  | .down => false
  | .resolved tech fec => portTech mode == some tech.val && !fec
  | .phy speed => mode == 3 && speed == 2

/-- A PHY reports a speed the port does not carry, in SGMII mode (R204). -/
def slowPhy (mode : Fin 4) (l : PortLink) : Bool := match l with | .phy speed => mode == 3 && speed != 2 | _ => false

/-- SVC_LINK_CHANGE (R204, R205): in mode 0, and in a loop-back of the port, the link stays down (R395, R459). A PHY at 10 or 100 Mb/s is
link down with event 0x060C, though the link was down before. -/
def execSvcLinkChange (link : PortLink) (s : State) : Host.Outcome State Fault Refusal :=
  done s <|
    let can := s.svc.mode != 0 && s.test.loopSvc == 0 && domOn s 42
    if bringsUp s.svc.mode link then (if can then setLink s true else s)
    else if slowPhy s.svc.mode link && can && !s.svc.link then raise s 0x060C [by1 s.svc.mode.val, 0]
    else setLink s false

/-- One request refused for want of patience (R229). -/
def refuseImpatient (s : State) (r : Rec) : State :=
  let s := (countSession s r.session 4).modSvc fun b => { b with recs := b.recs.erase r }
  refuse s r.session 0x16 r.tag r.patience r.addr r.size (if r.credit then some (classIx r.cls) else none)

/-- PATIENCE_EXPIRED (R229): at a sheet boundary every NP and LK request not started whose patience has run out is refused, in
order of acceptance. -/
def execPatienceExpired (s : State) : Host.Outcome State Fault Refusal :=
  done s (afterBridge
    ((s.svc.recs.filter fun r => r.cls != .pw && !r.started && decide (r.patience < r.wait)).foldl refuseImpatient s))

/-- LEASE_EXPIRED (R234), cause lease: the holder's lease has run out (R27). -/
def execLeaseExpired (s : State) : Host.Outcome State Fault Refusal :=
  done s (if s.svc.leaseNs = 0 then afterBridge (breakLock s 0) else s)

end Sys2Proof.Machine
end

