-- ==== Sys2Proof/Machine/Kr.lean ====
section
/-! DEFINITION. Backplane Ethernet: auto-negotiation (R136 to R138), split training as responder and requester (R139 to
R142), restarts (R143). -/

namespace Sys2Proof.Machine

/-- A lane in use of a path in MODE 2, 3 or 4, its sides powered. -/
def backplaneLane (s : State) (l : LaneId) : Bool :=
  let m := pcMode s.paths[pathOfLane l].cfg
  decide (2 ≤ m) && decide (m ≤ 4) && laneOn s l && domOn s (33 + (pathOfLane l).val)

/-- AN_TECH of the technology a path configures (Tables 6.1 and 6.6). -/
def wantedTech (c : R40) : Nat :=
  if pcMode c = 3 then 1 else if pcMode c = 4 then 2 else 3 + pcSub c

/-- Lanes that negotiate together: all of a one-link path on its lane 0, else the lane alone (R136). -/
def anLanes (s : State) (l : LaneId) : List LaneId :=
  if oneLink s.paths[pathOfLane l].cfg then (lanesOf (pathOfLane l)).filter (laneOn s) else [l]

/-- Receivers of a lane that see signal start in the datapath, and their opposite transmitters send (R137). -/
def laneResolved (s : State) (l : LaneId) : State :=
  [sideOf l 0, sideOf l 1].foldl (fun s i => if s.lanes[l].ei[endOf i] then s else forward (startDatapath s i) i) s

/-- A lane negotiates again, both its sides out of data, with BP_CFG as it now stands (R136, R143, R153): receivers that see signal start
in auto-negotiation, or in the datapath where AN_OFF is now 1; a lane that waits for lane 0 is held in electrical idle. -/
def negotiateAgain (s : State) (l : LaneId) : State :=
  let cfg := s.paths[pathOfLane l].bpCfg
  let s := s.modLane l fun x => { x with
    seg := Vector.replicate 2 0, rr := Vector.replicate 2 false, align := Vector.replicate 2 false, rrSent := false
    reqDone := Vector.replicate 2 false, bpCfg := cfg, mismatch := false }
  let both := [sideOf l 0, sideOf l 1]
  let s := both.foldl (fun s i => s.modSide i fun x => endRequests (leaveData x)) s
  let s := (both.filter fun i => !s.lanes[l].ei[endOf i]).foldl (fun s i =>
    if bit cfg 37 then startDatapath s i else s.modLane l fun x => { x with seg := vmod x.seg (endOf i) fun _ => 1 }) s
  if anWaits s l then both.foldl (fun s i => s.modSide i fun x => { x with txIdle := true }) s else both.foldl forward s

/-- AN_COMPLETE (R137, R138): the result, a mismatch of technology or FEC reported, else the datapath. Lanes 1 to 3 of a one-link path
report lane 0's AN_FEC and keep their AN_TECH, DESIGN CHOICE (log entry 130). -/
def execAnComplete (lane : LaneId) (tech : Fin 7) (fec : Fin 3) (s : State) : Host.Outcome State Fault Refusal :=
  done s <|
    let c := s.paths[pathOfLane lane].cfg
    let x := s.lanes[lane]
    if backplaneLane s lane = false ∨ bit x.bpCfg 37 = true ∨ (x.seg[0] ≠ 1 ∧ x.seg[1] ≠ 1) ∨ anWaits s lane = true then s
    else
      let s := s.modLane lane fun x => { x with anTech := BitVec.ofNat 3 tech.val, anFec := BitVec.ofNat 2 fec.val }
      if tech.val ≠ wantedTech c then
        let s := s.modLane lane fun x => { x with mismatch := true }
        let s := (s.modSide (sideOf lane 0) fun y => { y with txIdle := true }).modSide (sideOf lane 1) fun y => { y with txIdle := true }
        raise s 0x0212 [by1 lane.val, by1 tech.val]
      else
        let s := if (fec.val != 0) == pcFec c then s else raise s 0x0213 [by1 lane.val, by1 fec.val]
        let s := (anLanes s lane).foldl (fun s l => s.modLane l fun x => { x with anFec := BitVec.ofNat 2 fec.val }) s
        (anLanes s lane).foldl laneResolved s

/-- AN_PAGES_RECEIVED: pages after a mismatch start auto-negotiation again and are forwarded (R138, R153). -/
def execAnPagesReceived (side : SideId) (s : State) : Host.Outcome State Fault Refusal :=
  done s <|
    let l := laneOf side
    if backplaneLane s l = false ∨ s.lanes[l].mismatch = false then s
    else (anLanes s l).foldl negotiateAgain s

/-- A side in split training. -/
def trains (s : State) (i : SideId) : Bool :=
  let g := s.lanes[laneOf i].seg[endOf i]
  pcMode s.paths[pathOf i].cfg == 2 && backplaneLane s (laneOf i) && (g == 2 || g == 3) && !underTest s.sides[i]

/-- Polarity learned from a training frame (R95, R139), event 0x0106 where it changes. -/
def learnPolarity (s : State) (i : SideId) (inverted : Bool) : State :=
  if s.sides[i].rxPol = inverted then s
  else raise (s.modSide i fun y => { y with rxPol := inverted }) 0x0106 [by1 i.val]

/-- What a coefficient update makes of (PRE1, POST1), and the status reported: 1 updated, 2 minimum, 3 maximum (Table 6.2). -/
def krUpdate (req : KrRequest) (pre post : Nat) : Nat × Nat × Fin 4 :=
  match req with
  | .preDec => if 16 < pre + 2 ∨ 64 - pre - post < 26 then (pre, post, 2) else (pre + 2, post, 1)
  | .preInc => if pre < 2 then (pre, post, 3) else (pre - 2, post, 1)
  | .postDec => if 24 < post + 2 ∨ 64 - pre - post < 26 then (pre, post, 2) else (pre, post + 2, 1)
  | .postInc => if post < 2 then (pre, post, 3) else (pre, post - 2, 1)
  | .mainInc => (pre, post, 3)
  | .mainDec => (pre, post, 2)
  | .preset => (0, 0, 1)
  | .init => (3, 18, 1)

/-- TXEQ after a coefficient update: PRE2 0 and MAIN the rest of 64; unchanged where the request breaks a limit. -/
def krTxeq (req : KrRequest) (v : R40) : R40 :=
  let u := krUpdate req (fld v 23 19) (fld v 11 7)
  if u.2.2 = 1 then txWith v 0 u.1 (64 - u.1 - u.2.1) u.2.1 else v

/-- KR_COEFF_UPDATE (R139, R140). -/
def execKrCoeffUpdate (side : SideId) (req : KrRequest) (inverted : Bool) (s : State) : Host.Outcome State Fault Refusal :=
  done s <|
    if trains s side = false then s
    else
      let s := learnPolarity s side inverted
      let s := s.modLane (laneOf side) fun x => { x with lock := vmod x.lock (endOf side) fun _ => true }
      s.modSide side fun y =>
        let report := (krUpdate req (fld y.txeq[(0 : Fin 4)] 23 19) (fld y.txeq[(0 : Fin 4)] 11 7)).2.2
        { y with krReport := report, txeq := vmod y.txeq 0 (krTxeq req), txRamp := if report = 1 then none else y.txRamp }

/-- The single requests of the requester, by number (R141). -/
def krStep (n : Fin 4) : KrRequest := match n.val with | 0 => .preDec | 1 => .preInc | 2 => .postDec | _ => .postInc

/-- A requester goes on: the next single request, or the end of its requests once its steps are used up or no step raises the figure
(R141). -/
def krGoOn (open' : Nat) (x : Side) : Side :=
  match (if x.reqSteps = 0 then none else nextStep (fun n => some (krStep n)) x.reqTried open') with
  | some a => { x with krAsk := some a.2 }
  | none => endRequests x

/-- A requester's request judged by the side's margin figure once the partner has reported: the setting is kept where the figure rises,
after initialize in any case; fixed mode judges nothing (R141, R189). -/
def judgeKr (st : KrStatus) (open' : Nat) (x : Side) : Side :=
  let setting := (st.pre, st.main, st.post)
  let margin := marginOf false x
  let y := { x with reported := some setting }
  if x.reqRun = false then y
  else match x.krAsk with
    | some .init => krGoOn open' { y with reqBest := some (0, margin), partner := some setting }
    | some q =>
      let y := { y with reqSteps := x.reqSteps - 1 }
      let better := match x.reqBest with | some b => decide (b.2 < margin) | none => true
      krGoOn open' (if better then { y with reqBest := some (0, margin), partner := some setting, reqTried := [] }
        else { y with reqTried := ((List.finRange 4).filter fun n => krStep n == q) ++ x.reqTried })
    | none => endRequests y

/-- KR_STATUS_UPDATE: the partner's status, its receiver ready, the judging of a request (R141, R142). -/
def execKrStatusUpdate (side : SideId) (st : KrStatus) (s : State) : Host.Outcome State Fault Refusal :=
  done s <|
    if trains s side = false then s
    else
      let s := s.modLane (laneOf side) fun x => { x with rr := vmod x.rr (endOf side) fun _ => st.partnerRdy }
      (s.modSide side (judgeKr st s.openNat)).usedFree

/-- KR_UPDATE_TIMEOUT: the requests on the receiver end, event 0x0211 (R141). -/
def execKrUpdateTimeout (side : SideId) (s : State) : Host.Outcome State Fault Refusal :=
  done s <|
    if trains s side && s.sides[side].reqRun then
      raise (s.modSide side endRequests) 0x0211 ([by1 side.val] ++ be 4 (runRate s.paths[pathOf side]))
    else s

/-- KR_REQUESTS_FINISHED: once its requests have ended, the segment waits for receiver ready; event 0x0210 with the partner's setting
that the device kept, else the one it last reported, an open value where it has reported none, and the margin figure (R141). -/
def execKrRequestsFinished (side : SideId) (s : State) : Host.Outcome State Fault Refusal :=
  done s <|
    if trains s side = false ∨ s.lanes[laneOf side].seg[endOf side] ≠ 2 ∨ s.sides[side].reqRun = true then s
    else
      let y := s.sides[side]
      let t := match y.partner <|> y.reported with
        | some t => [t.1, t.2.1, t.2.2]
        | none => [by1 s.openNat, by1 s.usedFree.openNat, by1 s.usedFree.usedFree.openNat]
      let m := match y.reqBest with | some b => b.2 | none => marginOf false y
      let s := s.usedFree.usedFree.usedFree
      let s := (s.modLane (laneOf side) fun x => { x with
        seg := vmod x.seg (endOf side) fun _ => 3, reqDone := vmod x.reqDone (endOf side) fun _ => true }).modSide side endRequests
      raise s 0x0210 ([by1 side.val] ++ be 4 (runRate s.paths[pathOf side]) ++ t ++ [by1 m])

/-- KR_RECEIVER_READY: both partners ready and both receivers finished, receiver ready is set on both sides and forwarding
starts with the buffers set (R142). -/
def execKrReceiverReady (lane : LaneId) (s : State) : Host.Outcome State Fault Refusal :=
  done s <|
    let x := s.lanes[lane]
    if trains s (sideOf lane 0) && trains s (sideOf lane 1) && x.reqDone[0] && x.reqDone[1] && x.rr[0] && x.rr[1] then
      let s := startData (startData s (sideOf lane 0)) (sideOf lane 1)
      s.modLane lane fun x => { x with rrSent := true }
    else s

/-- KR_RESTART: DME pages or training frames that a receiver sees after its lane has reached data (R143), event 0x0215. Pages with the
lane's AN_OFF 1, and frames with its TRAIN_OFF 1 or outside MODE 2, are forwarded as data. -/
def execKrRestart (side : SideId) (dme : Bool) (s : State) : Host.Outcome State Fault Refusal :=
  done s <|
    let l := laneOf side
    let x := s.lanes[l]
    if backplaneLane s l = false ∨ x.ei[endOf side] = true ∨ (x.seg[0] ≠ 4 ∧ x.seg[1] ≠ 4) ∨ underTest s.sides[side] = true then s
    else if dme then
      (if bit x.bpCfg 37 then s
       else raise ((anLanes s l).foldl negotiateAgain s) 0x0215 [by1 side.val])
    else if pcMode s.paths[pathOf side].cfg ≠ 2 ∨ bit x.bpCfg 36 = true then s
    else
      let cfg := s.paths[pathOf side].bpCfg
      let s := if bit x.bpCfg 37 then s.modLane l fun x => { x with bpCfg := cfg } else s
      let seen := [sideOf l 0, sideOf l 1].filter fun i => !s.lanes[l].ei[endOf i]
      raise (seen.foldl startTraining s) 0x0215 [by1 side.val]

end Sys2Proof.Machine
end

