-- ==== Sys2Proof/Machine/Pcie.lean ====
section
/-! DEFINITION. PCI Express: receiver detection (R105), following the LTSSM (R106, R107), rate changes (R108), equalisation
(R109 to R114), position (R116), margining (R117 to R119), REFCLK (R122), PERST_N (R123, R124), the L1 substates (R126), L0s
(R128), compliance (R130). -/

namespace Sys2Proof.Machine

/-- A path runs PCI Express, and its group's PERST_N and CLKREQ_N act through it: it leads its group (R125). -/
def pcieLeader (s : State) (p : PathId) : Bool := pcMode s.paths[p].cfg == 1 && leaderOf s p == p

/-- A path of PCI Express that is powered and not Held. -/
def pcieLive (s : State) (p : PathId) : Bool :=
  pcMode s.paths[p].cfg == 1 && domOn s (33 + p.val) && s.paths[p].ltssm != 12

/-- Every path of a group changed. -/
def modGroup (s : State) (p : PathId) (f : Path → Path) : State := (groupOf s p).foldl (fun s q => s.modPath q f) s

/-- Every side of the lanes in use of a group changed. -/
def modGroupSides (s : State) (p : PathId) (f : Side → Side) : State :=
  (((groupOf s p).map sidesOf).flatten.filter fun i => laneOn s (laneOf i)).foldl (fun s i => s.modSide i f) s

/-- Lanes in use of a group. -/
def groupLanes (s : State) (p : PathId) : List LaneId := (((groupOf s p).map lanesOf).flatten).filter (laneOn s)

/-- Coefficients at 2.5 and 5.0 GT/s: −3.5 dB, or at 5.0 GT/s what the training sets select (Table 5.3, R113). -/
def deemphasis (rate : Nat) (six : Bool) : Nat × Nat × Nat := if rate = 2 ∧ six = true then (0, 48, 16) else (0, 53, 11)

/-- A group runs at a rate, with the set that serves it (R114, R195). -/
def setRate (s : State) (p : PathId) (rate : Fin 6) : State :=
  let s := modGroup s p fun x => { x with rateNow := rate }
  (groupOf s p).foldl relimitPath s

/-- Both transmitters of a lane take a setting for the running set. -/
def takeBoth (s : State) (l : LaneId) (t : Nat × Nat × Nat) : State :=
  let set := runSet s.paths[pathOfLane l]
  takeTx (takeTx s (sideOf l 0) set t) (sideOf l 1) set t

/-- The REFCLK a path's PLL may run on: the leader's in a group (R93). -/
def refclkOf (s : State) (p : PathId) : Bool := s.paths[leaderOf s p].refclk

/-- RECEIVER_DETECT (R105): near-side terminations follow the receivers found behind the far-side transmitters. Detection waits for
initial calibration (R198). -/
def execReceiverDetect (p : PathId) (found : BitVec 4) (s : State) : Host.Outcome State Fault Refusal :=
  done s <|
    let x := s.paths[p]
    if pcieLive s p = false ∨ x.ltssm ≠ 0 ∨ calibrating s p = true ∨ (pcClk x.cfg = true ∧ refclkOf s p = false ∧ x.pllInt = false) then s
    else
      let s := s.modPath p fun x => { x with found := BitVec.ofNat 4 (found.toNat % 2 ^ pcLanes x.cfg) }
      (lanesOf p).foldl (fun s l =>
        if laneOn s l then s.modSide (sideOf l 0) fun y => { y with term := bit found (l.val % 4) } else s) s

/-! ### Following -/

/-- Lanes of a WIDTH_NOW code (Table 5.8). -/
def widthLanes (w : Nat) : Nat := if w = 0 then 0 else 2 ^ (w - 1)

/-- A lane is back in its link, its receivers' signals forwarded again (R102). -/
def unparkLane (s : State) (l : LaneId) : State :=
  forward (forward (s.modLane l fun x => { x with parked := false }) (sideOf l 0)) (sideOf l 1)

/-- A lane is PARKED once the link runs without it: its partners gave it no number in the Configuration passed last, or one beyond
the trained width (R97). Its transmitters are idle; a lane the link runs with is taken back (R102). -/
def parkLane (s : State) (l : LaneId) : State :=
  let w := widthLanes s.paths[pathOfLane l].widthNow.val
  if w ≠ 0 ∧ (s.lanes[l].joined = false ∨ w ≤ s.lanes[l].logLane.toNat) then
    ((s.modLane l fun x => { x with parked := true }).modSide (sideOf l 0) fun y => { y with txIdle := true }).modSide (sideOf l 1)
      fun y => { y with txIdle := true }
  else unparkLane s l

/-- Entry to L0 of a group (R97, R187). -/
def enterL0 (s : State) (p : PathId) : State :=
  modGroupSides ((groupLanes s p).foldl parkLane s) p enterData

/-- Entry to Configuration: the partners number the lanes again (R96, R102). -/
def enterConfiguration (s : State) (p : PathId) : State :=
  (groupLanes s p).foldl (fun s l => s.modLane l fun x => { x with joined := false }) s

/-- Receiver settings and coefficients of the running set as Recovery.Equalization finds them (R124). -/
def saveEq (set : Fin 4) (x : Side) : Side := { x with eqSaved := some (x.rxeq[set], x.dfeA[set], x.dfeB[set], x.txeq[set]) }

/-- Entry to Recovery.Equalization: PCIE_CFG is taken, and what a PERST_N would restore is kept (R115, R124). -/
def enterEqualization (s : State) (p : PathId) : State :=
  modGroupSides (modGroup s p fun x => { x with pcieUse := x.pcieCfg, eqPhase := 0 }) p (saveEq (runSet s.paths[p]))

/-- Recovery.Equalization is left: requests are over and its results stand (R110, R114). -/
def leaveEqualization (s : State) (p : PathId) : State :=
  modGroupSides (modGroup s p fun x => { x with eqPhase := 0 }) p fun y => { endRequests y with eqSaved := none }

/-- Transmitters idle and link status cleared in Detect; the next training learns the position again (R107, R116). LOG_LANE keeps the
number of the training before, DESIGN CHOICE (log entry 124). -/
def enterDetect (s : State) (p : PathId) : State :=
  let s := setRate (modGroup s p fun x => { x with posDue := true, widthNow := 0, eqPhase := 0 }) p 0
  modGroupSides s p fun y => { y with txIdle := true }

/-- Entry to Polling: the link starts at 2.5 GT/s, the host's receiver polarity takes effect until a training set is seen
(R95, R113, R347). -/
def enterPolling (s : State) (p : PathId) : State :=
  let s := modGroupSides (setRate s p 1) p fun y => { y with rxPol := y.rxHost }
  (groupLanes s p).foldl (fun s l => takeBoth s l (deemphasis 1 false)) s

/-- A group follows its partners into a state (R107, R118). -/
def followState (s : State) (p : PathId) (st : Fin 13) : State :=
  let old := s.paths[p].ltssm
  if old = st then s
  else
    let s := if old = 3 then modGroupSides s p leaveData else s
    let s := if old = 6 then leaveEqualization s p else s
    let s := modGroup s p fun x => { x with ltssm := st }
    match st.val with
    | 0 => enterDetect s p
    | 1 => enterPolling s p
    | 2 => enterConfiguration s p
    | 3 => enterL0 s p
    | 4 => modGroupSides s p endMargin
    | 6 => enterEqualization s p
    | 10 => modGroupSides s p fun y => { y with txIdle := true }
    | _ => s

/-- POSITION learned from a TS2 at 2.5 GT/s of a near-side receiver (R116): 1 first, 2 second, 3 third or later. -/
def learnPosition (s : State) (p : PathId) (ts : TrainingSet) : State :=
  let pos : Fin 4 := if ts.present1 = false then 1 else if ts.present2 = false then 2 else 3
  let s := modGroup s p fun x => { x with position := pos, posDue := false }
  if pos = 3 then raise s 0x0206 [by1 (leaderOf s p).val] else s

/-- Rates that RATE leaves in the data-rate identifiers of a forwarded set, bit 0 for 2.5 GT/s (R106). -/
def keptRates (rate : Nat) (rates : BitVec 5) : BitVec 5 :=
  BitVec.ofNat 5 ((upto 5).map fun k => if rateKb (k + 1) ≤ rate then b2n (bit rates k) * 2 ^ k else 0).sum

/-- The end whose receivers are requesters in a phase: near in phase 2, far in phase 3. -/
def reqEnd (phase : Bool) : Fin 2 := if phase then 1 else 0
/-- The end whose transmitters are responders in a phase: far in phase 2, near in phase 3. -/
def rspEnd (phase : Bool) : Fin 2 := if phase then 0 else 1

/-- A side is requester in the phase in progress, and its requests run. -/
def requests (s : State) (i : SideId) : Bool :=
  let x := s.paths[pathOf i]
  x.ltssm == 6 && x.eqPhase != 0 && s.sides[i].reqRun && endOf i == reqEnd (x.eqPhase == 3)

/-- Requests of the phase in progress run on some lane of the link (R110). -/
def eqBusy (s : State) (p : PathId) : Bool :=
  ((groupOf s p).map sidesOf).flatten.any fun i => laneOn s (laneOf i) && requests s i

/-- The request a requester makes now: a preset, then coefficients (R111). -/
def requestNow (x : Side) : Option EqFields :=
  match x.presets, x.eqAsk with
  | k :: _, _ => some (.preset (by1 k))
  | [], some (_, t) => some (.coefficients t.1 t.2.1 t.2.2)
  | [], none => none

/-- The response a responder gives: FS 32, LF 8, its coefficients in units of the standard, and whether it rejected (R112). -/
def responseNow (set : Fin 4) (x : Side) : EqFields :=
  .response 32 8 (by1 (fld x.txeq[set] 23 19 / 2)) (by1 (fld x.txeq[set] 18 12 / 2)) (by1 (fld x.txeq[set] 11 7 / 2)) x.eqReject

/-- Preset and coefficient fields of a set that leaves on a side's balls: the device's own request or response where it is requester
or responder there in Recovery.Equalization, else as received (R106). -/
def eqFields (s : State) (o : SideId) (ts : TrainingSet) : Option EqFields :=
  let x := s.paths[pathOf o]
  if x.ltssm = 6 ∧ x.eqPhase ≠ 0 then
    if endOf o = rspEnd (x.eqPhase == 3) then some (responseNow (runSet x) s.sides[o])
    else if requests s o then requestNow s.sides[o]
    else ts.eq
  else ts.eq

/-- A training set as the device forwards it: rates above RATE cleared; in a TS2 at 2.5 GT/s going downstream, the Retimer
Present indications of its position (R106, R116). -/
def forwardedSet (x : Path) (down : Bool) (ts : TrainingSet) : TrainingSet :=
  let t := { ts with rates := keptRates (pcRate x.cfg) ts.rates, inverted := false }
  if down && ts.isTs2 && ts.rate25 then
    { t with present1 := t.present1 || x.position == 1, present2 := t.present2 || x.position == 2 }
  else t

/-- The number a training set of Configuration gives a lane: one below 16 takes it into the link, PAD leaves it out (R96, R102). -/
def learnNumber (s : State) (l : LaneId) (n : Byte) : State :=
  if n.toNat < 16 then unparkLane (s.modLane l fun x => { x with logLane := n, joined := true }) l
  else s.modLane l fun x => { x with joined := false }

/-- What a lane learns from a training set: lock, polarity in Polling, its logical number and the trained width in
Configuration (R95, R96, R107). -/
def learnLane (s : State) (i : SideId) (ts : TrainingSet) : State :=
  let l := laneOf i
  let s := s.modLane l fun x => { x with lock := vmod x.lock (endOf i) fun _ => true }
  let s := if ts.state = 1 ∧ s.sides[i].rxPol ≠ ts.inverted then
      raise (s.modSide i fun y => { y with rxPol := ts.inverted }) 0x0106 [by1 i.val] else s
  let s := if ts.state = 2 then learnNumber s l ts.laneNumber else s
  if ts.state = 2 ∧ ts.width ≠ 0 then modGroup s (pathOf i) fun x => { x with widthNow := ts.width } else s

/-- TRAINING_SET_RECEIVED (R95, R96, R106, R107, R116). The move from phase 3 to Recovery is held back while requests of the device
run (R110). -/
def execTrainingSetReceived (side : SideId) (ts : TrainingSet) (s : State) : Host.Outcome State Fault Refusal :=
  done s <|
    let p := pathOf side
    let l := laneOf side
    if pcieLive s p = false ∨ laneOn s l = false ∨ domOn s (side.val + 1) = false ∨ forming s.paths[p] = true ∨ ts.state = 12
      ∨ s.lanes[l].ei[endOf side] = true ∨ underTest s.sides[side] = true ∨ (ts.state = 4 ∧ eqBusy s p = true) then s
    else
      let s := modGroup s p fun x => { x with deemph6 := ts.deemph6 }
      let s := followState s p ts.state
      let s := if s.paths[p].posDue && ts.isTs2 && ts.rate25 && endOf side == 0 then learnPosition s p ts else s
      let s := learnLane s side ts
      let out := { forwardedSet s.paths[p] (endOf side == 0) ts with eq := eqFields s (opposite side) ts }
      s.modLane l fun x => { x with tsOut := vmod x.tsOut (endOf side) fun _ => some out }

/-- A host's ramps on a side end written whole, since the set they were for no longer runs (R196, R347). -/
def landRamps (set : Fin 4) (x : Side) : Side :=
  let c := (x.targets.filter fun t => t.ramp).foldl (fun c t => corrSet c t.corr t.sub t.code) (imagesOf x set)
  let y := { putImages x set c with targets := [] }
  match x.txRamp with
  | some v => { y with txeq := vmod y.txeq set fun _ => v, txRamp := none }
  | none => y

/-- A preset announced for a transmitter and the new rate is loaded; without one the held coefficients stand (R108, R114). -/
def loadPreset (p : PathId) (s : State) (x : SideId × Byte) : State :=
  if (groupOf s p).contains (pathOf x.1) && laneOn s (laneOf x.1) then
    takeTx s x.1 (runSet s.paths[pathOf x.1]) (presetOf x.2.toNat)
  else s

/-- RATE_CHANGE (R108, R113, R114): both directions through electrical idle, the rate's coefficients or, at 8.0 GT/s and above, the
presets announced for it, event 0x0203. A rate above RATE is never agreed, since the device clears it from what it forwards. -/
def execRateChange (p : PathId) (rate : Fin 5) (presets : List (SideId × Byte)) (s : State) : Host.Outcome State Fault Refusal :=
  done s <|
    let x := s.paths[p]
    if pcieLive s p = false ∨ forming x = true ∨ pcRate x.cfg < rateKb (rate.val + 1) then s
    else
      let set := runSet x
      let s := followState s p 5
      let s := modGroupSides s p fun y => { landRamps set (leaveData y) with txIdle := true, pinned := false }
      let s := setRate s p ⟨rate.val + 1, by omega⟩
      let s := (groupLanes s p).foldl (fun s l => s.modLane l fun y => { y with
        ei := Vector.replicate 2 true, lock := Vector.replicate 2 false, fill := Vector.replicate 2 0 }) s
      let s := if rate.val < 2 then (groupLanes s p).foldl (fun s l => takeBoth s l (deemphasis (rate.val + 1) x.deemph6)) s
        else presets.foldl (loadPreset p) s
      raise (idleIfQuiet s p) 0x0203 ([by1 (leaderOf s p).val] ++ be 4 (rateKb (rate.val + 1)))

/-! ### Equalisation -/

/-- Lanes of a group that take part in its link. -/
def linkedLanes (s : State) (p : PathId) : List LaneId := (groupLanes s p).filter fun l => !s.lanes[l].parked

/-- A requester's work in a phase (R111): presets of the mask, or the fixed one, or none. -/
def startRequests (c : R40) (phase : Bool) (x : Side) : Side :=
  let y := { endRequests x with reqBest := none, partner := none, reqSteps := 0 }
  match fld c 39 38 with
  | 0 => { y with presets := (upto 11).filter fun k => bit c (19 + k), reqSteps := fld c 18 15, reqRun := true }
  | 1 => { y with presets := [if phase then fld c 33 30 else fld c 37 34], reqRun := true }
  | _ => y

/-- One lane enters a phase: its requester starts, its responder takes the announced preset (R111, R112). -/
def lanePhase (phase : Bool) (presets : List Byte) (s : State) (l : LaneId) : State :=
  let x := s.paths[pathOfLane l]
  let q := sideOf l (reqEnd phase)
  let r := sideOf l (rspEnd phase)
  let s := s.modSide q (startRequests x.pcieUse phase)
  match presets[l.val]? with
  | some k => takeTx s r (runSet x) (presetOf k.toNat)
  | none => s

/-- EQ_PHASE_ENTRY (R109 to R112): at 8.0 GT/s and above. `presets` are those announced, by lane number. The move from one phase to
the other is held back while requests of the device run (R110). -/
def execEqPhaseEntry (p : PathId) (phase : Bool) (presets : List Byte) (s : State) : Host.Outcome State Fault Refusal :=
  done s <|
    if pcieLive s p = false ∨ s.paths[p].rateNow.val < 3 ∨ eqBusy s p = true then s
    else
      let s := modGroup (followState s p 6) p fun x => { x with eqPhase := if phase then 3 else 2 }
      let s := modGroupSides s p fun y => { y with rejects := 0, eqReject := false }
      (linkedLanes s p).foldl (lanePhase phase presets) s

/-- (c−1, c0, c+1) of a preset in 1/32 (Table 5.3). -/
def presetTriple (k : Nat) : Byte × Byte × Byte :=
  let t := presetOf k
  (by1 (t.1 / 2), by1 (t.2.1 / 2), by1 (t.2.2 / 2))

/-- A triple one step away in c−1 or c+1, c0 taking the rest of the sum; none where a magnitude would fall below 0 (R111, R112). -/
def stepTriple (t : Byte × Byte × Byte) (n : Fin 4) : Option (Byte × Byte × Byte) :=
  let move := fun (a b : Byte) => if b = 0 then none else some (a + 1, b - 1)
  match n.val with
  | 0 => (move t.1 t.2.1).map fun m => (m.1, m.2, t.2.2)
  | 1 => (move t.2.1 t.1).map fun m => (m.2, m.1, t.2.2)
  | 2 => (move t.2.2 t.2.1).map fun m => (t.1, m.2, m.1)
  | _ => (move t.2.1 t.2.2).map fun m => (t.1, m.1, m.2)

/-- A requester goes on from its best setting: the next coefficient step, or the end of its requests once its steps are used up or no
step raises the figure (R111). -/
def goOn (open' : Nat) (x : Side) : Side :=
  match x.partner with
  | some t =>
    match (if x.reqSteps = 0 then none else nextStep (stepTriple t) x.reqTried open') with
    | some a => { x with eqAsk := some a }
    | none => endRequests x
  | none => endRequests x

/-- A preset judged: the best is kept; in fixed mode nothing is judged (R111). -/
def judgePreset (c : R40) (margin k : Nat) (rest : List Nat) (x : Side) : Side :=
  let better := match x.reqBest with | some b => decide (b.2 < margin) | none => true
  let y := if better || fld c 39 38 == 1 then { x with reqBest := some (k, margin), partner := some (presetTriple k) } else x
  { y with presets := rest }

/-- A coefficient step judged: kept where it raises the figure (R111). -/
def judgeStep (margin : Nat) (a : Fin 4 × Byte × Byte × Byte) (x : Side) : Side :=
  let y := { x with reqSteps := x.reqSteps - 1, eqAsk := none }
  match x.reqBest with
  | some b => if b.2 < margin then { y with reqBest := some (b.1, margin), partner := some a.2, reqTried := [] }
      else { y with reqTried := a.1 :: x.reqTried }
  | none => y

/-- An echo judged by the side's margin figure (R111, R189): presets in order first, then single steps. -/
def judgeEcho (c : R40) (open' : Nat) (x : Side) : Side :=
  let margin := marginOf false x
  match x.presets, x.eqAsk with
  | k :: rest, _ =>
    let y := judgePreset c margin k rest x
    if rest.isEmpty then goOn open' y else y
  | [], some a => goOn open' (judgeStep margin a x)
  | [], none => goOn open' x

/-- EQ_PARTNER_ECHO (R111): the partner echoes the request made of it, which is then judged; fields that are not those asked for are
no echo of it. -/
def execEqPartnerEcho (side : SideId) (echo : EqFields) (s : State) : Host.Outcome State Fault Refusal :=
  done s <|
    if requests s side ∧ requestNow s.sides[side] = some echo then
      (s.modSide side (judgeEcho s.paths[pathOf side].pcieUse s.openNat)).usedFree
    else s

/-- EQ_ECHO_TIMEOUT: the requests on the lane end, event 0x0202 (R111). -/
def execEqEchoTimeout (side : SideId) (s : State) : Host.Outcome State Fault Refusal :=
  done s <|
    if requests s side then
      let x := s.paths[pathOf side]
      raise (s.modSide side endRequests) 0x0202
        ([by1 (pathOf side).val, by1 side.val] ++ be 4 (runRate x) ++ [by1 x.eqPhase.val])
    else s

/-- The result of a phase on one path: event 0x0201 with what its lane 0 receiver settled on. Where the device requested
nothing, the preset and the triple are the partner's own: open values. -/
def reportPhase (phase : Bool) (s : State) (q : PathId) : State :=
  let x := s.paths[q]
  let y := s.sides[sideOf (laneIn q 0) (reqEnd phase)]
  let preset := match y.reqBest with | some b => b.1 | none => s.openNat
  let t := match y.partner with
    | some t => [t.1, t.2.1, t.2.2]
    | none => [by1 s.usedFree.openNat, by1 s.usedFree.usedFree.openNat, by1 s.usedFree.usedFree.usedFree.openNat]
  raise s.usedFree.usedFree.usedFree.usedFree 0x0201
    ([by1 q.val, by1 (reqEnd phase).val] ++ be 4 (runRate x) ++ [by1 x.eqPhase.val, by1 preset] ++ t)

/-- Bit of EQ_DONE for a rate and a phase (Table 5.8). -/
def doneBit (rateNow : Nat) (phase : Bool) : Nat := 5 - 2 * (rateNow - 3) - b2n phase

/-- EQ_PHASE_COMPLETE (R110): once requests are finished on every lane, EQ_DONE and event 0x0201; after phase 3 the link moves to
Recovery. -/
def execEqPhaseComplete (p : PathId) (s : State) : Host.Outcome State Fault Refusal :=
  done s <|
    let x := s.paths[p]
    if x.ltssm ≠ 6 ∨ x.eqPhase = 0 ∨ pcieLive s p = false ∨ eqBusy s p = true then s
    else
      let phase := x.eqPhase == 3
      let s := (groupOf s p).foldl (reportPhase phase) s
      let s := modGroup s p fun x => { x with eqDone := x.eqDone ||| BitVec.ofNat 6 (2 ^ doneBit x.rateNow.val phase) }
      if phase then followState s p 4 else s

/-- A coefficient request R112 accepts: FS 32, LF 8. -/
def requestOk (cm1 c0 cp1 : Nat) : Bool :=
  cm1 + c0 + cp1 == 32 && decide (cm1 ≤ 8) && decide (cp1 ≤ 12) && decide (8 + cm1 + cp1 ≤ c0)

/-- COEFFICIENT_REQUEST (R109, R112): accepted whole into TXEQ, or rejected, counted and reported once per phase and side. -/
def execCoefficientRequest (side : SideId) (cm1 c0 cp1 : Byte) (s : State) : Host.Outcome State Fault Refusal :=
  done s <|
    let p := pathOf side
    let x := s.paths[p]
    let responds := (x.eqPhase == 2 && endOf side == 1) || (x.eqPhase == 3 && endOf side == 0)
    if pcieLive s p = false ∨ x.ltssm ≠ 6 ∨ responds = false ∨ laneOn s (laneOf side) = false then s
    else if requestOk cm1.toNat c0.toNat cp1.toNat then
      (takeTx s side (runSet x) (2 * cm1.toNat, 2 * c0.toNat, 2 * cp1.toNat)).modSide side fun y => { y with eqReject := false }
    else
      let first := ((lanesOf p).filter (laneOn s)).all fun l => s.sides[sideOf l (endOf side)].rejects == 0
      let s := s.modSide side fun y => { y with rejects := satInc y.rejects, eqReject := true }
      if first then
        raise s 0x0207 ([by1 p.val, by1 (endOf side).val] ++ be 4 (runRate x) ++ [by1 x.eqPhase.val] ++ be 2 1)
      else s

/-! ### PERST_N, CLKREQ_N, REFCLK -/

/-- Partial results of the rate in progress discarded (R124). -/
def restoreEq (set : Fin 4) (x : Side) : Side :=
  match x.eqSaved with
  | none => x
  | some v => relimit set { x with
      rxeq := vmod x.rxeq set fun _ => v.1, dfeA := vmod x.dfeA set fun _ => v.2.1, dfeB := vmod x.dfeB set fun _ => v.2.2.1
      txeq := vmod x.txeq set fun _ => v.2.2.2, eqSaved := none }

/-- PERST_N during equalisation (R124). -/
def perstInEq (s : State) (p : PathId) : State :=
  let x := s.paths[p]
  if x.ltssm ≠ 6 then s
  else
    let s := modGroupSides s p (restoreEq (runSet x))
    raise s 0x0205 ([by1 p.val] ++ be 4 (runRate x) ++ [by1 x.eqPhase.val])

/-- A group follows Held (R123). A PLL that the L1 substates have put on the internal reference is back on REFCLK there, DESIGN CHOICE
(log entry 126). -/
def enterHeld (s : State) (p : PathId) : State := (groupOf s p).foldl holdPath (perstInEq s p)

/-- PERST_ASSERTED (R123 to R125). -/
def execPerstAsserted (p : PathId) (s : State) : Host.Outcome State Fault Refusal :=
  done s <|
    let s := s.modPath p fun x => { x with perst := true }
    if pcieLeader s p && s.paths[p].ltssm != 12 then enterHeld s p else s

/-- PERST_NEGATED: the group follows Detect, where receiver detection runs (R105, R123, R125). -/
def execPerstNegated (p : PathId) (s : State) : Host.Outcome State Fault Refusal :=
  done s <|
    let s := s.modPath p fun x => { x with perst := false }
    if pcieLeader s p && s.paths[p].ltssm == 12 then
      modGroup s p fun x => { x with ltssm := 0, posDue := true }
    else s

/-- L1_SUBSTATE_ENTRY: CLKREQ_N negated; in IDLE the path PLL moves to the internal reference and common mode is no longer driven
(R126). -/
def execL1SubstateEntry (p : PathId) (s : State) : Host.Outcome State Fault Refusal :=
  done s <|
    let s := s.modPath p fun x => { x with clkreq := false }
    if pcieLeader s p && s.paths[p].st == .idle && domOn s (33 + p.val) then 
      modGroup s p fun x => { x with pllInt := pcClk x.cfg, cmOff := true }
    else s

/-- L1_SUBSTATE_EXIT: CLKREQ_N asserted; common mode is restored, and the PLL returns to REFCLK once it runs (R126). -/
def execL1SubstateExit (p : PathId) (s : State) : Host.Outcome State Fault Refusal :=
  done s <|
    let s := s.modPath p fun x => { x with clkreq := true }
    if pcieLeader s p then
      let runs := s.paths[p].refclk
      modGroup s p fun x => { x with pllInt := x.pllInt && !runs, cmOff := false }
    else s

/-- REFCLK_LOST: where path PLLs run on it, the islands of those paths become absent and event 0x020C is raised. A group's PLLs
run on the leader's (R36, R93, R122). -/
def execRefclkLost (p : PathId) (s : State) : Host.Outcome State Fault Refusal :=
  done s <|
    let x := s.paths[p]
    let s := s.modPath p fun x => { x with refclk := false }
    if leaderOf s p == p && pathOn s p && domOn s (33 + p.val) && pcClk x.cfg && !x.pllInt && x.refclk then
      let islands := ((groupOf s p).map fun q =>
        (8 + q.val) :: ((sidesOf q).filter fun i => laneOn s (laneOf i)).map fun i => 32 + i.val).flatten
      raise ((islands.filter (present s)).foldl clockAbsent s) 0x020C [by1 p.val]
    else s

/-! ### Margining, L0s, compliance -/

/-- Position used for margining (R116), by the PCIE_CFG in force (R115). -/
def marginPosition (x : Path) : Nat := if fld x.pcieUse 13 12 = 0 then x.position.val else fld x.pcieUse 13 12

/-- The end a receiver number names at a position (Table 5.5). -/
def marginEnd (pos receiver : Nat) : Option (Fin 2) :=
  if pos = 1 then (if receiver = 2 then some 0 else if receiver = 3 then some 1 else none)
  else if pos = 2 then (if receiver = 4 then some 0 else if receiver = 5 then some 1 else none)
  else none

/-- Steps within the capabilities of Table 5.6. -/
def marginOk (c : MarginCmd) : Bool :=
  match c with
  | .timing n => decide (-32 ≤ n) && decide (n ≤ 32)
  | .voltage n => decide (-60 ≤ n) && decide (n ≤ 60)
  | .goNormal => true
  | .clearErrors => true
  | .report _ => true

/-- MARGIN_COMMAND (R117 to R119): in L0 at 16.0 and 32.0 GT/s. A command to another receiver is forwarded; a step beyond the
capabilities sets nothing and is answered so. -/
def execMarginCommand (p : PathId) (lane : Fin 4) (receiver : Fin 8) (cmd : MarginCmd) (s : State) : Host.Outcome State Fault Refusal :=
  done s <|
    let x := s.paths[p]
    let l := laneIn p lane
    match marginEnd (marginPosition x) receiver.val with
    | none => s
    | some e =>
      let i := sideOf l e
      if pcieLive s p = false ∨ x.ltssm ≠ 3 ∨ x.rateNow.val < 4 ∨ laneOn s l = false then s
      else if marginOk cmd = false then s.modSide i fun y => { y with marginAns := some .beyond }
      else if sweepStep s i then
        raise (s.modSide i fun y => { y with deferred := some cmd, marginAns := some .setUp }) 0x020B [by1 p.val, by1 i.val]
      else s.modSide i (takeMargin cmd)

/-- L0S_ENTRY: electrical idle passed on in one direction, counted and reported (R128). -/
def execL0sEntry (p : PathId) (dir : Dir) (s : State) : Host.Outcome State Fault Refusal :=
  done s <|
    if pcieLive s p = false ∨ s.paths[p].ltssm ≠ 3 then s
    else
      let s := (linkedLanes s p).foldl (fun s l => enterIdle s (dirSide l dir)) s
      raise (s.modPath p fun x => { x with l0s := satInc x.l0s }) 0x0204 [by1 p.val, by1 (dirCode dir)]

/-- COMPLIANCE_ENTRY (R130): the rate and the announced preset or de-emphasis, event 0x020A. At 5.0 GT/s preset 0 stands for
−6.0 dB and every other for −3.5 dB. -/
def execComplianceEntry (p : PathId) (rate : Fin 5) (preset : Byte) (s : State) : Host.Outcome State Fault Refusal :=
  done s <|
    if pcieLive s p = false ∨ forming s.paths[p] = true then s
    else
      let s := followState s p 11
      let s := setRate s p ⟨rate.val + 1, by omega⟩
      let t := if rate.val < 2 then deemphasis (rate.val + 1) (preset == 0) else presetOf preset.toNat
      let s := (groupLanes s p).foldl (fun s l => takeBoth s l t) s
      raise s 0x020A ([by1 (leaderOf s p).val] ++ be 4 (rateKb (rate.val + 1)))

end Sys2Proof.Machine
end

