-- ==== Sys2Proof/Machine/VeneerRows.lean ====
section
/-! DEFINITION. The Veneer bus at work: CYCLE lines and their cycles (R228, R231 to R233, R242 to R256), old masters (R257 to
R259), interrupt lines (R260), VRST and VCAL lines (R261, R200), the loop target (R460), and what a VEN line's end does. -/

namespace Sys2Proof.Machine

/-! ### What the bus looks like -/

/-- The signal set of Table 18.2: what is seen asserted now. -/
def signalSet (s : State) : Nat :=
  s.ven.seen.toNat % 256 + 256 * b2n s.ven.vlck + 512 * s.ven.breq.toNat

/-- Some signal of R241 is seen asserted. -/
def busSeen (s : State) : Bool := (s.ven.seen &&& 0xFD) != 0

/-- Signals of some bits seen asserted, with what is already. -/
def see (n : Nat) (s : State) : State := s.modVen fun v => { v with seen := v.seen ||| BitVec.ofNat 13 n }

/-- Signals of some bits no longer seen asserted. -/
def unsee (n : Nat) (s : State) : State := s.modVen fun v => { v with seen := v.seen &&& ~~~ BitVec.ofNat 13 n }

/-- VRDY_N and VFLT_N as bits of the signal set. -/
def answerBits (rdy flt : Bool) : Nat := 64 * b2n rdy + 128 * b2n flt

/-! ### What the device drives (R239, R240, Tables 10.1 to 10.3) -/

/-- What stands on a Veneer ball: released, a level, or a running clock. -/
inductive Pin where
  | released | low | high | running
  deriving DecidableEq, Repr

/-- The Veneer outputs, VRDY_N and VFLT_N as a target among them. -/
structure VenPins where
  vad   : List Pin
  vale  : Pin
  vwr   : Pin
  vstb  : List Pin
  vrdy  : Pin
  vflt  : Pin
  vlck  : Pin
  vbgnt : List Pin
  vrst  : Pin
  vclk  : Pin
  deriving DecidableEq, Repr

/-- What a cycle puts on the bus: bytes on lanes of VAD, VALE high, VWR_N low, strobes asserted (R243). -/
structure CycleView where
  bytes   : List (Nat × Byte)
  ale     : Bool
  wrLow   : Bool
  strobes : BitVec 4
  deriving DecidableEq, Repr

/-- The four bytes of a Veneer address on VAD. -/
def addrBytes (a : BitVec 32) : List (Nat × Byte) := (upto 4).map fun i => (i, by1 (a.toNat / 256 ^ i))

/-- A cycle on the bus `n` steps after its start, its answer seen `m` steps ago where it has one: address phases of `ale`, `ale + hold`
and `t1` steps; an asynchronous cycle negates its strobes with the answer, a synchronous one a step later (R247, R249). -/
def cycleView (c : Cycle) (sync : Bool) (ale hold t1 n : Nat) (m : Option Nat) : CycleView :=
  let early := m.all (· == 0)
  { bytes := if n < hold then addrBytes c.addr else if c.write && early then c.lanes.zip c.data else []
    ale := decide (n < ale), wrLow := c.write && early
    strobes := if t1 ≤ n ∧ (if sync then early else m.isNone) = true then c.strobes else 0 }

/-- Steps of `ns` nanoseconds from one spine time to another. -/
def stepsOf (ns : Nat) (a b : Stamp) : Nat := (b.toNat - a.toNat) * 10 ^ 9 / (ns * 2 ^ 40)

/-- What the cycle in progress puts on the bus now: in VEN clocks of 10 ns by ALE_W, AHOLD and GAP (Table 10.2), or in VCLK periods, whose
first rising edge is taken to be the cycle's start (Table 10.3; DESIGN CHOICE, log entry 143). -/
def onBusNow (s : State) (c : Cycle) : CycleView :=
  let ale := fld c.cfg 19 16
  let hold := ale + fld c.cfg 15 13
  if bit c.cfg 29 then
    let ns := 10 * fld s.ven.cfg 39 36
    cycleView c true 1 1 1 (stepsOf ns c.began s.now) (c.answered.map fun a => stepsOf ns a s.now)
  else cycleView c false ale hold (hold + fld c.cfg 12 10) (stepsOf 10 c.began s.now) (c.answered.map fun a => stepsOf 10 a s.now)

/-- What is on the bus while no cycle runs: nothing, or the read data an old master is given (R258). -/
def noCycle (s : State) : CycleView :=
  let lanes := (upto 4).filter fun i => bit s.ven.seen (2 + i)
  { bytes := lanes.zip s.ven.driven, ale := false, wrLow := false, strobes := 0 }

/-- The device drives its Veneer outputs: D46 on, ENABLE 1, no internal loop-back (R239, R459). -/
def venDrives (s : State) : Bool := venOn s && domOn s 46 && s.test.loopVen != 1

/-- A level on an output of group G`g`: in an open-drain group a high one is released (R239, R240). -/
def groupPin (cfg : R40) (g : Nat) (high : Bool) : Pin :=
  if high then (if bit cfg (31 + g) then .released else .high) else .low

/-- The 32 bits of VAD with bytes on some lanes, the others released. -/
def vadPins (cfg : R40) (b : List (Nat × Byte)) : List Pin :=
  (upto 32).map fun i => match b.find? fun p => p.1 == i / 8 with
    | some p => groupPin cfg 0 (bit p.2 (i % 8))
    | none => .released

/-- Every Veneer output released. -/
def pinsReleased : VenPins :=
  { vad := List.replicate 32 .released, vale := .released, vwr := .released, vstb := List.replicate 4 .released, vrdy := .released
    vflt := .released, vlck := .released, vbgnt := List.replicate 4 .released, vrst := .released, vclk := .released }

/-- What the device drives on the Veneer bus (R239, R240, R248, R256 to R258, R261): nothing while it does not drive its outputs; VALE,
VWR_N and VSTB_N released for an old master from its grant until the bus is idle. -/
def venPins (s : State) : VenPins :=
  if venDrives s = false then pinsReleased
  else
    let cfg := s.ven.cfg
    let v := match s.ven.cycle with | some c => onBusNow s c | none => noCycle s
    let lent := s.ven.grant.isSome || s.ven.afterGrant
    let own := fun (p : Pin) => if lent then .released else p
    { vad := vadPins cfg v.bytes
      vale := own (groupPin cfg 1 v.ale), vwr := own (groupPin cfg 1 (!v.wrLow))
      vstb := (upto 4).map fun i => own (groupPin cfg 1 (!bit v.strobes i))
      vrdy := if s.ven.holding && !s.ven.faulting then .low else .released
      vflt := if s.ven.holding && s.ven.faulting then .low else .released
      vlck := groupPin cfg 2 (!s.ven.vlck)
      vbgnt := (upto 4).map fun i => groupPin cfg 3 (!(s.ven.grant.any fun m => m.val == i))
      vrst := groupPin cfg 4 (!s.ven.vrst)
      vclk := if fld cfg 39 36 = 0 then .low else .running }

/-- The outputs are driven at their idle levels again once the bus is seen idle after a grant (R257). -/
def driveAgain (s : State) : State := if busIdle s then s.modVen fun v => { v with afterGrant := false } else s

/-! ### Cycles -/

/-- Veneer addresses of the `n` bytes from offset `o` of a window, in spine order (R242). -/
def byteAddrs (base cfg : R40) (o n : Nat) : List Nat :=
  (upto n).map fun i => (baseAddr base + ((o + i) ^^^ winXor cfg)) % 2 ^ 32

/-- A record's place in the bridge taken by what it has become. -/
def putRec (s : State) (r q : Rec) : State := s.modSvc fun b => { b with recs := b.recs.map fun e => if e.num == r.num then q else e }

/-- The record on the bus. -/
def onBusRec (s : State) : Option Rec := s.svc.recs.find? fun r => r.onBus

/-- A record's next cycle starts: address, strobes and lanes (R242, R243, R247, R249); cycles are counted as they start. -/
def startCycle (s : State) (r : Rec) : State :=
  let w : Fin 16 := Fin.ofNat 16 (spaceOf r.addr)
  let cfg := match r.window with | some x => x | none => (s.ven.base[w], s.ven.win[w])
  let wb := winBytes cfg.2
  let n := min r.size wb
  let addrs := byteAddrs cfg.1 cfg.2 (offOf r.addr + r.done) n
  let lanes := addrs.map fun a => a % wb
  let s := putRec s r { r with started := true, chosen := false, onBus := true, window := some cfg }
  s.modVen fun v => { v with
    waiting := none, cycles := vmod v.cycles w satInc
    cycle := some { session := r.session, window := w, write := isWrite r, addr := BitVec.ofNat 32 (addrs.foldl min (2 ^ 32)),
                    strobes := BitVec.ofNat 4 (lanes.foldl (fun a l => a ||| 2 ^ l) 0), bytes := n, phase := .strobe
                    ok := true, lanes := lanes, got := [], diffs := (0, 0), lineOver := false, cfg := cfg.2
                    data := if isWrite r then slice r.data r.done n else [], began := s.now, answered := none } }

/-- An ACQUIRE served: VLCK_N asserted, its session the holder for LEASE ms, a CPL with OK (R231, R256). -/
def serveAcquire (s : State) (r : Rec) : State :=
  let s := s.modVen fun v => { v with vlck := true, waiting := none }
  let s := s.modSvc fun b => { b with holder := some r.session, leaseNs := r.lease * 1000000, unlock := false }
  endRec s r 0x00 (lineDisp r) []

/-- A RELEASE by the holder served: no holder, a CPL with OK; VLCK_N is negated at the end of the line (R233). -/
def serveRelease (s : State) (r : Rec) : State :=
  let s := s.modVen fun v => { v with waiting := some .unlock }
  endRec (s.modSvc fun b => { b with holder := none, leaseNs := 0 }) r 0x00 (lineDisp r) []

/-- The record a CYCLE line has chosen begins on the idle bus, its place checked again first (R231, R245, R246). One that can
no longer start, for want of a CPL entry, waits for another line, and so does one whose word the absent VEN island does not take (R44,
R45). -/
def beginRec (s : State) (r : Rec) : State :=
  let none' := fun (s : State) => s.modVen fun v => { v with waiting := none }
  if present s 5 = false then absent (none' (putRec s r { r with chosen := false })) 4 5
  else if r.started then startCycle s r
  else if canStart s r = false then none' (putRec s r { r with chosen := false })
  else if r.cls == .lk && r.op == 1 then serveAcquire s r
  else match placeCheck s r.session r.addr r.size r.count (isWrite r) with
    | some st => afterBridge (endRec (none' s) r st (lineDisp r) [])
    | none => startCycle s r

/-- A master to grant: named, enabled and requesting, in round robin after the one granted last, while no session holds the
lock and no loop-back runs (R232, R257, R460). -/
def grantable (s : State) (mask : BitVec 4) : Option (Fin 4) :=
  if s.svc.holder.isSome || s.test.loopVen != 0 then none
  else ((upto 4).map fun i => (Fin.ofNat 4 (s.ven.grantLast.val + 1 + i) : Fin 4)).find? fun m =>
    bit mask m.val && mstEn s m.val && bit s.ven.breq m.val

/-- What a VEN line waits to start begins, if the bus is idle (R246). -/
def beginWaiting (s : State) : State :=
  let s := driveAgain s
  if busIdle s = false then s
  else match s.ven.waiting with
    | none => s
    | some .unlock => s
    | some .cycle => match s.svc.recs.find? fun r => r.chosen with
      | some r => beginRec s r
      | none => s.modVen fun v => { v with waiting := none }
    | some (.grant mask) => match grantable s mask with
      | some m => s.modVen fun v => { v with waiting := none, grant := some m, grantLast := m }
      | none => s.modVen fun v => { v with waiting := none }
    | some .reset => s.modVen fun v => { v with waiting := none, vrst := true }

/-- A VEN line has something to start: at once on an idle bus, else once it is idle, with event 0x0705 where a signal is seen
asserted (R246). -/
def wantBus (s : State) (action : Nat) (w : VenWait) : State :=
  let s := if busSeen s then raise s 0x0705 ([by1 action] ++ be 2 (signalSet s)) else s
  beginWaiting (s.modVen fun v => { v with waiting := some w })

/-! ### Choosing a record -/

/-- An ACQUIRE of another session, accepted earlier, still waits (R231). -/
def acquireAhead (s : State) (r : Rec) : Bool :=
  (s.svc.recs.takeWhile fun e => e.num != r.num).any fun e => e.session != r.session && e.cls == .lk && e.op == 1 && !e.started

/-- A request of the bus, RELEASE by the holder among them. -/
def wantsLine (s : State) (r : Rec) : Bool :=
  needsBus r || (r.cls == .lk && r.op == 4 && s.svc.holder == some r.session)

/-- A request that has not started and can start in a CYCLE line (R225, R227, R231, R232). -/
def ableToStart (s : State) (r : Rec) : Bool :=
  wantsLine s r && !r.started && canStart s r &&
  (s.svc.holder.isNone || s.svc.holder == some r.session) &&
  (if r.cls == .lk then
    (if r.op == 1 then s.svc.holder.isNone && !acquireAhead s r && !s.svc.sessions[r.session].broken
     else s.svc.holder == some r.session)
   else true)

/-- A started request that has cycles still to run (R250). -/
def continues (s : State) (r : Rec) : Bool :=
  r.started && !r.broken && (s.svc.holder.isNone || s.svc.holder == some r.session) &&
  (if r.onBus then match s.ven.cycle with | some c => decide (r.done + c.bytes < r.count) | none => false else decide (r.done < r.count))

/-- CYCLE lines of the active Mould that are reserved for a session. -/
def hasReserved (s : State) (k : SessionId) : Bool :=
  match s.seq.active with
  | some m => (vget m.tables 5).any fun l => l.action == 0x40 && l.target.toNat == k.val
  | none => false

/-- A request is overflow (R228). -/
def isOverflow (s : State) (r : Rec) : Bool := r.overflow || !hasReserved s r.session

/-- The request a session is served next: its started one first, else the oldest that passes a test and can start (R228, R250). -/
def nextOf (s : State) (k : SessionId) (p : Rec → Bool) : Option Rec :=
  match s.svc.recs.find? fun r => r.session == k && p r && continues s r with
  | some r => some r
  | none => s.svc.recs.find? fun r => r.session == k && p r && ableToStart s r

/-- Requests that can start as a line reserved for their session starts are overflow from then on (R228). -/
def markOverflow (k : SessionId) (s : State) : State :=
  s.modSvc fun b => { b with recs := b.recs.map fun r =>
    if r.session == k && (ableToStart s r || r.started) then { r with overflow := true } else r }

/-- The record a CYCLE line serves, by its target (R228). -/
def chooseRec (s : State) (target : Nat) : Option Rec :=
  if target < 4 then nextOf s (Fin.ofNat 4 target) fun _ => true
  else ((upto 4).map fun i => (Fin.ofNat 4 (s.svc.spareLast.val + 1 + i) : SessionId)).findSome? fun k => nextOf s k (isOverflow s)

/-- The window a record addresses, 16 for none. -/
def servedWindow (r : Rec) : Nat := if unaddressed r then 16 else spaceOf r.addr

/-- A CYCLE line's action (R228, R246, R250). -/
def serveCycle (idx : Nat) (l : Line) (s : State) : State :=
  let t := l.target.toNat
  let s := if t < 4 then markOverflow (Fin.ofNat 4 t) s else s
  match chooseRec s t with
  | none => s
  | some r =>
    let s := if t < 4 then s else s.modSvc fun b => { b with spareLast := r.session }
    let q := { r with chosen := true, spare := if r.started then r.spare else decide (4 ≤ t) }
    let s := (putRec s r q).modVen fun v => { v with serving := some (idx, servedWindow r) }
    if r.cls == .lk && r.op == 4 then
      serveRelease (if busSeen s then raise s 0x0705 ([0x40] ++ be 2 (signalSet s)) else s) q
    else wantBus s 0x40 .cycle

/-- CYCLE_LINE (R228). -/
def execCycleLine (idx : Nat) (s : State) : Host.Outcome State Fault Refusal :=
  done s (startLine 5 idx 0x40 (fun l s => afterBridge (serveCycle idx l s)) s)

/-! ### Answers -/

/-- What leaves the bus with a cycle: VLCK_N of a lock broken meanwhile is negated (R234). -/
def cycleOver (s : State) : State :=
  let un := s.svc.unlock
  (s.modVen fun v => { v with cycle := none, vlck := v.vlck && !un }).modSvc fun b => { b with unlock := false }

/-- A record ends with a cycle, by a word from VEN to SVC. Where SVC is absent that word is not delivered: a write's credit is returned
with the cycle, an NP or LK record is answered by nothing (R44, R45, R225; DESIGN CHOICE, log entry 136). -/
def endOnBus (s : State) (r : Rec) (st : Nat) : State :=
  if present s 4 then endRec s r st (lineDisp r) r.got
  else
    let s := absent (dropRec s r) 5 4
    if r.cls == .pw && r.credit then giveBack s r.session 0 else s

/-- The record on the bus ends with its cycle and a failing status; under a broken lock with LOCK_BROKEN (R220, R230, R256). -/
def failCycle (s : State) (st : Nat) : State :=
  let s := cycleOver s
  match onBusRec s with
  | none => s
  | some r => endOnBus s r (if r.broken then 0x14 else st)

/-- A violation of R253: counted, event 0x0703, the cycle ends with BUS_FAULT. -/
def violate (s : State) (c : Cycle) (case : Nat) : State :=
  let s := s.modVen fun v => { v with violations := vmod v.violations c.window satInc }
  failCycle (raise s 0x0703 ([by1 c.window.val, by1 case] ++ be 4 c.addr.toNat)) 0x12

/-- Bytes of a cycle's lanes on VAD. -/
def laneBytes (c : Cycle) (data : Nat) : List Byte := c.lanes.map fun l => by1 (data / 256 ^ l)

/-- The shadow-buffer offset the loop target uses for a lane (R460). -/
def loopOffset (s : State) (c : Cycle) (lane : Nat) : Nat :=
  (c.addr.toNat % 65536 + lane - c.addr.toNat % winBytes s.ven.win[c.window]) % 65536

/-- What the loop target does with a cycle: a write stored, a read's bytes (R460). -/
def loopTarget (s : State) (c : Cycle) : State × List Byte :=
  let at' := c.lanes.map (loopOffset s c)
  if c.write then
    (s.modVen fun v => { v with shadow := (at'.zip c.data).foldl (fun m p => Mem.writeAll m p.1 [p.2]) v.shadow }, [])
  else (s, (at'.map fun o => Mem.readAll s.ven.shadow o 1).flatten)

/-- A target's answer to the cycle in progress (R247, R249, R252, R253). -/
def answerCycle (s : State) (c : Cycle) (rdy flt early : Bool) (data : BitVec 32) (diffs : BitVec 4 × BitVec 4) : State :=
  if rdy = false ∧ flt = false then s
  else if early then violate s c 1
  else if rdy && flt then violate s c 2
  else if flt then
    let s := s.modVen fun v => { v with faults := vmod v.faults c.window satInc, cycle := some { c with phase := .release, ok := false, answered := some s.now } }
    raise s 0x0702 ([by1 c.window.val, by1 c.session.val] ++ be 4 c.addr.toNat)
  else
    let x := if s.test.loopVen = 0 then (s, if c.write then [] else laneBytes c data.toNat) else loopTarget s c
    x.1.modVen fun v => { v with cycle := some { c with phase := .release, ok := true, got := x.2, diffs := diffs, answered := some s.now } }

/-- TARGET_ANSWER (R247, R249): VRDY_N or VFLT_N seen or sampled low. `addressPhase` tells an answer before the strobes; the
last two operands name the byte lanes whose shadow captures differed (R200). In a loop-back the answer is the loop target's:
at depth 1 the balls are not seen, at depth 2 a card's VFLT_N is (R459, R460). -/
def execTargetAnswer (rdy flt addressPhase : Bool) (data : BitVec 32) (earlyDiff lateDiff : BitVec 4) (s : State) :
    Host.Outcome State Fault Refusal :=
  done s <|
    match s.ven.cycle with
    | none => s
    | some c =>
      let loop := s.test.loopVen
      let rdy := rdy || loop != 0
      let flt := flt && loop != 1
      if c.phase != .strobe then s
      else afterBridge (answerCycle (see (answerBits rdy flt) s) c rdy flt (addressPhase && loop != 1) data (earlyDiff, lateDiff))

/-! ### Shadow captures of the delay taps -/

/-- One read's effect on the shadows of a byte lane (R200): inward where a bit differed, else outward, within the code range. -/
def moveShadows (w : Fin 16) (diffs : BitVec 4 × BitVec 4) (v : Veneer) (lane : Nat) : Veneer :=
  let k := 4 * w.val + lane
  let tap : Int := tapOf v.tap[w] lane
  { v with
    early := vmodN v.early k fun e => if bit diffs.1 lane then min 0 (e + 1) else max (-tap) (e - 1)
    late := vmodN v.late k fun e => if bit diffs.2 lane then max 0 (e - 1) else min (63 - tap) (e + 1)
    reads := vmodN v.reads k (· + 1) }

/-- Sampling window of a byte lane in taps. -/
def laneWindow (v : Veneer) (w : Fin 16) (lane : Nat) : Nat := (vget v.late (4 * w.val + lane) - vget v.early (4 * w.val + lane)).toNat

/-- VQUAL of a window after one more read: reported once 16 have closed, of the narrowest lane the window carries (R200). -/
def reportWindow (w : Fin 16) (v : Veneer) : Veneer :=
  let n := min 16 (v.qReads[w] + 1)
  let v := { v with qReads := vmod v.qReads w fun _ => n }
  if n < 16 then v
  else
    let worst := (upto (winBytes v.win[w])).foldl (fun b i => if laneWindow v w i < laneWindow v w b then i else b) 0
    { v with
      qValid := vmod v.qValid w fun _ => true, qAge := vmod v.qAge w fun _ => 0
      qWin := vmod v.qWin w fun _ => (BitVec.ofNat 14 (150 * laneWindow v w worst), BitVec.ofNat 2 worst) }

/-- What a read that ended with OK shows the taps (R200). -/
def learnTaps (c : Cycle) (v : Veneer) : Veneer :=
  if c.write then v else reportWindow c.window (c.lanes.foldl (moveShadows c.window c.diffs) v)

/-! ### Completion -/

/-- The next cycle of the same record may start in the line in progress: `since` ns after its start token's effect (R250). -/
def cycleFits (s : State) (r : Rec) (since : Nat) : Bool :=
  match s.ven.serving, r.window with
  | some (idx, _), some x =>
    let tcyc := fld x.2 6 0
    match lineAt s 5 idx with
    | some l => tcyc != 0 && decide (since + tcyc * 100 ≤ (l.duration - 4) * 8)
    | none => false
  | _, _ => false

/-- The cycle in progress completes (R247, R249, R250, R256). -/
def completeCycle (s : State) (c : Cycle) (since : Nat) : State :=
  match onBusRec s with
  | none => cycleOver s
  | some r =>
    if c.ok = false then failCycle s 0x12
    else
      let s := (cycleOver s).modVen (learnTaps c)
      let q := { r with done := r.done + c.bytes, got := r.got ++ c.got, onBus := false }
      let s := putRec s r q
      if r.broken then endOnBus s q 0x14
      else if q.count ≤ q.done then endOnBus s q 0x00
      else if !c.lineOver && cycleFits s q since then startCycle s q else s

/-- TARGET_RELEASE: VRDY_N and VFLT_N seen high again; the cycle recovers and completes. `since` is the time in ns from the
line's start token's effect to that completion (R247, R249, R250). -/
def execTargetRelease (since : Nat) (s : State) : Host.Outcome State Fault Refusal :=
  done s <|
    let s := unsee 0xC0 s
    match s.ven.cycle with
    | some c => if c.phase == .release then beginWaiting (afterBridge (completeCycle s c since)) else s
    | none => beginWaiting s

/-- RELEASE_TIMEOUT: case 3 of R253; the data of the cycle are discarded. -/
def execReleaseTimeout (s : State) : Host.Outcome State Fault Refusal :=
  done s <|
    match s.ven.cycle with
    | some c => if c.phase == .release then beginWaiting (afterBridge (violate s c 3)) else s
    | none => s

/-- READY_WHILE_IDLE (R254). -/
def execReadyWhileIdle (rdy flt : Bool) (s : State) : Host.Outcome State Fault Refusal :=
  done s <|
    if (rdy || flt) && domOn s 45 && (s.ven.seen &&& 0x3D) == 0 && s.ven.grant.isNone && s.ven.cycle.isNone then
      let s := see (answerBits rdy flt) (s.modVen fun v => { v with idleRdy := satInc v.idleRdy })
      raise s 0x0704 (be 2 (answerBits rdy flt))
    else s

/-- VENEER_BUS_IDLE: the bus is seen idle; outputs released after a grant are driven again and a waiting line begins (R246,
R257). -/
def execVeneerBusIdle (s : State) : Host.Outcome State Fault Refusal :=
  done s <|
    if domOn s 45 && s.ven.cycle.isNone && s.ven.grant.isNone && !s.ven.holding then
      afterBridge (beginWaiting (s.modVen fun v => { v with seen := 0 }))
    else s

/-! ### Old masters -/

/-- GRANT_LINE: `requests` are the VBREQ_N lines seen low (R257). -/
def execGrantLine (idx : Nat) (requests : BitVec 4) (s : State) : Host.Outcome State Fault Refusal :=
  done s <|
    let s := if domOn s 45 then s.modVen fun v => { v with breq := requests } else s
    startLine 5 idx 0x41 (fun l s =>
      let mask : BitVec 4 := BitVec.ofNat 4 l.target.toNat
      if (grantable s mask).isNone then s
      else wantBus (s.modVen fun v => { v with serving := some (idx, 16) }) 0x41 (.grant mask)) s

/-- GRANT_END: VBGNT_N is negated; a master whose VALE is high is in a cycle that it still finishes (R257). -/
def execGrantEnd (g : GrantOver) (s : State) : Host.Outcome State Fault Refusal :=
  done s <|
    if s.ven.grant.isSome then
      let s := if g.vale then see 1 s else s
      beginWaiting (s.modVen fun v => { v with breq := g.requests, grant := none, afterGrant := true })
    else s

/-- Lowest lane and size of one aligned group of 1, 2 or 4 strobed lanes within a width, none for other strobes (R258). -/
def strobeGroup (strobes : BitVec 4) (width : Nat) : Option (Nat × Nat) :=
  [(0, 1), (1, 1), (2, 1), (3, 1), (0, 2), (2, 2), (0, 4)].find? fun g =>
    decide (g.1 + g.2 ≤ width) && decide (strobes.toNat = (2 ^ g.2 - 1) * 2 ^ g.1)

/-- Lanes of a master's WIDTH. -/
def masterBytes (s : State) (m : Nat) : Nat := let w := mstByte s m / 8 % 4; if w = 0 then 1 else if w = 1 then 2 else 4

/-- The exclusive-or of a master's MAP. -/
def masterXor (s : State) (m : Nat) : Nat := let w := mstByte s m / 2 % 4; if w = 1 then 1 else if w = 2 then 3 else 0

/-- Session a master's writes go to. -/
def masterSession (s : State) (m : Nat) : SessionId := Fin.ofNat 4 (mstByte s m / 32)

/-- UPW entries taken, a write that waits for its strobes' release among them. -/
def upwTaken (s : State) : Nat := s.svc.upw.length + b2n s.ven.upwDue.isSome

/-- A UPW record built for a session (R221); none for a session that is unbound, which receives nothing (R236), and none crosses
to a bridge that is off (R45). -/
def buildUpw (s : State) (k : SessionId) (size source kind : Nat) (addr : Nat) (stamp : Stamp) (data : List Byte) : State :=
  let x := s.svc.sessions[k]
  if present s 4 = false then absent s 5 4
  else if x.addr.isNone then s
  else
    let bytes : List Byte := [0x12, by1 size] ++ be 2 (28 + 4 * ceilDiv data.length 4) ++ be 2 x.upwNum.toNat ++ [by1 source, by1 kind]
      ++ be 5 addr ++ [0] ++ be 2 data.length ++ stampBytes stamp ++ [0, 0] ++ pad4 data
    (s.modSvc fun b => { b with upw := b.upw ++ [{ session := k, bytes := bytes, credit := none }] }).modSession k
      fun x => { x with upwNum := x.upwNum + 1 }

/-- An old master's cycle refused with VFLT_N: counted, event 0x0710 with its cause (R258). -/
def refuseMaster (s : State) (m : Fin 4) (addr : BitVec 32) (cause : Nat) : State :=
  let s := s.modVen fun v => { v with holding := true, faulting := true, refused := vmod v.refused m satInc }
  raise s 0x0710 ([by1 m.val] ++ be 4 addr.toNat ++ [by1 cause])

/-- A strobe of the master that holds the grant is answered (R258, R237). -/
def answerMaster (s : State) (m : Fin 4) (write : Bool) (addr : BitVec 32) (strobes : BitVec 4) (data : BitVec 32) : State :=
  let width := masterBytes s m
  if bit s.ven.up 23 = false then refuseMaster s m addr 1
  else if addr.toNat / 65536 ≠ fld s.ven.up 39 24 then refuseMaster s m addr 2
  else match strobeGroup strobes width with
    | none => refuseMaster s m addr 3
    | some (low, n) =>
      let at' := fun (lane : Nat) => (addr.toNat % 65536 / width * width + lane) ^^^ masterXor s m
      let lanes := (upto n).map fun i => low + i
      let start := (lanes.map at').foldl min 65536
      if write then
        let byLane := fun (i : Nat) => (lanes.filter fun l => at' l == start + i).map fun l => by1 (data.toNat / 256 ^ l)
        if 32 ≤ upwTaken s then
          refuseMaster (raise s 0x060B [0x12, by1 (masterSession s m).val]) m addr 4
        else s.modVen fun v => { v with
          holding := true, upwDue := some (m, BitVec.ofNat 16 start, ((upto n).map byLane).flatten) }
      else s.modVen fun v => { v with
        holding := true, served := vmod v.served m satInc
        driven := (lanes.map fun l => Mem.readAll v.shadow (at' l) 1).flatten }

/-- The master whose cycles the device answers: the one granted, or until the bus is idle the one whose grant has ended, which finishes
the cycle in progress (R257, R258). -/
def servedMaster (v : Veneer) : Option (Fin 4) :=
  match v.grant with
  | some m => some m
  | none => if v.afterGrant then some v.grantLast else none

/-- OLD_MASTER_CYCLE: a strobe of the master is seen low; `addr` is what was latched at VALE's fall (R258). -/
def execOldMasterCycle (write : Bool) (addr : BitVec 32) (strobes : BitVec 4) (data : BitVec 32) (s : State) :
    Host.Outcome State Fault Refusal :=
  done s <|
    match servedMaster s.ven with
    | some m => if s.ven.holding || strobes == 0 then s else answerMaster (see (4 * strobes.toNat) (unsee 1 s)) m write addr strobes data
    | none => s

/-- OLD_MASTER_STROBE_RELEASE: the answer and read data are released, and a write's record is built with this stamp (R258). -/
def execOldMasterStrobeRelease (s : State) : Host.Outcome State Fault Refusal :=
  done s <|
    if s.ven.holding = false then s
    else
      let due := s.ven.upwDue
      let s := unsee 0x3C (s.modVen fun v => { v with holding := false, faulting := false, driven := [], upwDue := none })
      let s := match due with
        | some (m, off, data) =>
          buildUpw (s.modVen fun v => { v with delivered := vmod v.delivered m satInc }) (masterSession s m) data.length m.val 0
            (0x30 * 2 ^ 32 + off.toNat) s.now data
        | none => s
      afterBridge (beginWaiting s)

/-- ACTIVITY_WITHOUT_GRANT (R259): VALE or a strobe seen asserted; `signals` is the signal set of Table 18.2. -/
def execActivityWithoutGrant (signals : BitVec 13) (s : State) : Host.Outcome State Fault Refusal :=
  done s <|
    if (signals &&& 0x3D) != 0 && domOn s 45 && s.ven.cycle.isNone && s.ven.grant.isNone && !s.ven.afterGrant then
      let s := s.modVen fun v => { v with
        noGrant := satInc v.noGrant, seen := signals &&& 0xFF, breq := BitVec.ofNat 4 (signals.toNat / 512) }
      raise s 0x0712 (be 2 signals.toNat)
    else s

/-! ### Interrupts, reset and delay taps -/

/-- VIRQ_CHANGE: a level held for VIRQ_FILT; `stamp` is that of the first edge at which it was seen (R260). The change restarts
the device's idle time (R407). -/
def execVirqChange (line : Fin 8) (asserted : Bool) (stamp : Stamp) (s : State) : Host.Outcome State Fault Refusal :=
  done s <|
    if domOn s 45 = false ∨ bit s.ven.irqLevel line.val = asserted then s
    else
      let s := s.modVen fun v => { v with
        irqCount := vmod v.irqCount line satInc, irqLevel := setFld v.irqLevel line.val line.val (b2n asserted) }
      let s := s.modPow fun p => { p with idleNs := 0 }
      let k : SessionId := Fin.ofNat 4 (fld s.ven.irq (17 + 3 * line.val) (16 + 3 * line.val))
      if irqEn s line.val = false then s
      else if 32 ≤ upwTaken s then raise s 0x060B [0x12, by1 k.val]
      else buildUpw s k 0 line.val (if asserted then 1 else 2) 0 stamp []

/-- VRST_LINE (R261). -/
def execVrstLine (idx : Nat) (s : State) : Host.Outcome State Fault Refusal :=
  done s (startLine 5 idx 0x43 (fun _ s => wantBus (s.modVen fun v => { v with serving := some (idx, 16) }) 0x43 .reset) s)

/-- One tap in a VCAL line: one code toward the shadows' centre, the shadows held in absolute position, after 16 reads of its
lane (R200); traced (R322). -/
def moveTap (w : Fin 16) (s : State) (lane : Nat) : State :=
  let k := 4 * w.val + lane
  let v := s.ven
  let c := Int.tdiv (vget v.early k + vget v.late k) 2
  if vget v.reads k < 16 ∨ c = 0 then s
  else
    let d : Int := if 0 < c then 1 else -1
    let tap := ((tapOf v.tap[w] lane : Int) + d).toNat
    traceStep (s.modVen fun v => { v with
      tap := vmod v.tap w fun t => setFld t (21 + 6 * lane) (16 + 6 * lane) tap
      early := vmodN v.early k (· - d), late := vmodN v.late k (· - d) }) 5 11 tap

/-- A window in a VCAL line: a tap value that waits is taken whole, else, with ADAPT 1, each lane it carries (R200, R202). -/
def calWindow (s : State) (w : Fin 16) : State :=
  match s.ven.tapNext.find? fun p => p.1 == w with
  | some p => s.modVen fun v => setTaps w p.2 { v with tapNext := v.tapNext.filter fun q => q.1 != w }
  | none => if bit s.ven.tap[w] 3 then (upto (winBytes s.ven.win[w])).foldl (moveTap w) s else s

/-- VCAL_LINE (R200, R202): every window's taps; reads are counted afresh. -/
def execVcalLine (idx : Nat) (s : State) : Host.Outcome State Fault Refusal :=
  done s (startLine 5 idx 0x42 (fun _ s =>
    ((List.finRange 16).foldl calWindow s).modVen fun v => { v with reads := Vector.replicate 64 0 }) s)

/-! ### The end of a VEN line -/

/-- Timeouts counted for a window and event 0x0701 (R251). -/
def lineTimeout (s : State) (w : Fin 16) (k : SessionId) (addr : Nat) : State :=
  raise (s.modVen fun v => { v with timeouts := vmod v.timeouts w satInc }) 0x0701 ([by1 w.val, by1 k.val] ++ be 4 addr)

/-- The cycle in progress at its line's end: one without an answer ends with TIMEOUT, an overrun; one that is answered goes on
after the line (R43, R251). -/
def endCycle (s : State) (idx : Nat) (c : Cycle) : State :=
  if c.lineOver then s
  else if c.phase == .release then s.modVen fun v => { v with cycle := some { c with lineOver := true } }
  else failCycle (lineTimeout (overrunLine s 5 idx) c.window c.session c.addr.toNat) 0x13

/-- A record that its line chose and never began: TIMEOUT with COUNT 0; one begun in an earlier line goes on in a later one
(R251). -/
def endChosen (s : State) (idx : Nat) (r : Rec) : State :=
  let s := overrunLine s 5 idx
  if r.started then putRec s r { r with chosen := false }
  else
    let w : Fin 16 := Fin.ofNat 16 (spaceOf r.addr)
    let first := (byteAddrs s.ven.base[w] s.ven.win[w] (offOf r.addr) (min r.size (winBytes s.ven.win[w]))).foldl min (2 ^ 32)
    let s := if unaddressed r then s else lineTimeout s w r.session first
    endRec s r 0x13 (lineDisp r) []

/-- What a CYCLE line's end does (R233, R251). -/
def endCycleLine (s : State) (idx : Nat) : State :=
  let s := match s.ven.cycle with | some c => endCycle s idx c | none => s
  let s := match s.ven.waiting, s.svc.recs.find? fun r => r.chosen with
    | some .cycle, some r => endChosen s idx r
    | _, _ => s
  if s.ven.waiting == some VenWait.unlock then s.modVen fun v => { v with vlck := false } else s

/-- What a GRANT line's end does: the grant ends, and a master still strobing is an overrun of the grant (R257). -/
def endGrantLine (s : State) (idx : Nat) : State :=
  if s.ven.serving.any (fun p => p.1 == idx) = false then s
  else if s.ven.waiting.isSome then overrunLine s 5 idx
  else
    let s := if s.ven.grant.isSome then s.modVen fun v => { v with grant := none, afterGrant := true } else s
    driveAgain (if (s.ven.seen &&& 0x3C) != 0 then raise s 0x0711 [by1 s.ven.grantLast.val] else s)

/-- Changes of configuration that waited for the line's end (R245, R262). -/
def takeVenChanges (s : State) : State :=
  let s := s.ven.winNext.foldl (fun s p => applyWin s p.1 p.2.1 p.2.2) s
  match s.ven.cfgNext with
  | some v => settleDomains (applyVenCfg s v)
  | none => s

/-- What the end of a VEN line does. -/
def endVenLine (s : State) (idx : Nat) (l : Line) : State :=
  let s := match l.action with
    | 0x40 => endCycleLine s idx
    | 0x41 => endGrantLine s idx
    | 0x43 =>
      let s := if s.ven.waiting == some VenWait.reset then overrunLine s 5 idx else s
      s.modVen fun v => { v with vrst := false }
    | _ => s
  let s := s.modVen fun v => { v with serving := none, waiting := none }
  afterBridge (if venLineRuns s then s else takeVenChanges s)

end Sys2Proof.Machine
end

