-- ==== Sys2Proof/Machine/ScanRows.lean ====
section
/-! DEFINITION. Scan lines at work: POLL, LISTEN, SEND and SCAL lines (R201, R273 to R276), frames received, checked, matched and
decoded (R267 to R272, R278 to R281, R286), output frames (R282), definitions and bundles at the boundary (R284, R285). -/

namespace Sys2Proof.Machine

/-! ### Checks and bits -/

/-- Bytes of a check field (R270, R268). -/
def checkBytes (framing : Bool) (check : Nat) : Nat :=
  if framing then 2 else match check with | 0 => 0 | 1 => 1 | 2 => 1 | _ => 2

/-- The check field over some covered bytes (R268, R270). -/
def checkField (framing : Bool) (check : Nat) (lowFirst : Bool) (b : List Byte) : List Byte :=
  let word := fun (n : Nat) => if lowFirst then (be 2 n).reverse else be 2 n
  if framing then (be 2 (crc16R 0x8408 0xFFFF b ^^^ 0xFFFF)).reverse
  else match check with
    | 0 => []
    | 1 => [sum8 b]
    | 2 => [0 - sum8 b]
    | 3 => word (crc16R 0xA001 0xFFFF b)
    | 4 => word (crc16R 0xA001 0x0000 b)
    | _ => word (crc16L 0x1021 0xFFFF b)

/-- A template's check over the bytes of its frame before the check: from the first address byte, or from the marker with
COVER_MARK (R270). In HDLC-style framing every octet is covered. -/
def templateCheck (framing : Bool) (t b : List Byte) : List Byte :=
  let cover := num t 3 1 / 2 % 2 == 1
  checkField framing (tCheck t) (num t 3 1 % 2 == 1) (if framing || cover then b else b.drop (tMark t))

/-! ### Characters and bits on the line -/

/-- Data bits of a character (Table 11.1). -/
def dataBits (cfg : R40) : Nat := 7 + fld cfg 37 36

/-- Nine data bits, the ninth marking an address character (R266). -/
def nineBit (cfg : R40) : Bool := fld cfg 37 36 == 2

/-- The parity bit over some data bits, none with PARITY 0 (R266, Table 11.1). -/
def parityBit (cfg : R40) (d : List Bool) : Option Bool :=
  let odd := (d.filter id).length % 2 == 1
  match fld cfg 35 33 with
  | 0 => none
  | 1 => some odd
  | 2 => some (!odd)
  | 3 => some true
  | _ => some false

/-- Data bits of a character's value, least significant first (R266). -/
def charData (cfg : R40) (v : Nat) : List Bool := (upto (dataBits cfg)).map fun i => v / 2 ^ i % 2 == 1

/-- A character on the line: start bit, data bits, parity, stop bits (R266). -/
def charBits (cfg : R40) (v : Nat) : List Bool :=
  let d := charData cfg v
  false :: d ++ (parityBit cfg d).toList ++ List.replicate (1 + fld cfg 32 32) true

/-- The frame byte a received character gives: seven-bit ones have bit 7 = 0, the ninth bit is no part of it (R266). -/
def charByte (cfg : R40) (c : ScanChar) : Byte := by1 (if fld cfg 37 36 = 0 then c.data.toNat % 128 else c.data.toNat % 256)

/-- A received character's parity is wrong. -/
def charParityBad (cfg : R40) (c : ScanChar) : Bool :=
  match parityBit cfg (charData cfg c.data.toNat) with
  | some p => c.parity != p
  | none => false

/-- A stop bit of a received character reads as space. -/
def charStopBad (cfg : R40) (c : ScanChar) : Bool := !c.stop1 || (bit cfg 32 && !c.stop2)

/-- The flag 0x7E on the line. -/
def flagBits : List Bool := [false, true, true, true, true, true, true, false]

/-- Octets as bits, least significant first. -/
def octetBits (b : List Byte) : List Bool := (b.map fun x => (upto 8).map fun i => bit x i).flatten

/-- A zero inserted after five consecutive ones; `k` ones have just passed (R268). -/
def stuff : Nat → List Bool → List Bool
  | _, [] => []
  | k, true :: t => if k = 4 then true :: false :: stuff 0 t else true :: stuff (k + 1) t
  | _, false :: t => false :: stuff 0 t

/-- Inserted zeros taken out; `k` ones have just passed. -/
def unstuff : Nat → List Bool → List Bool
  | _, [] => []
  | k, true :: t => true :: unstuff (k + 1) t
  | k, false :: t => if k = 5 then unstuff 0 t else false :: unstuff 0 t

/-- The longest run of ones; `k` have just passed. -/
def longestOnes : Nat → List Bool → Nat
  | k, [] => k
  | k, true :: t => longestOnes (k + 1) t
  | k, false :: t => max k (longestOnes 0 t)

/-- Whole octets of some bits, least significant bit first. -/
def octetsOf (b : List Bool) : List Byte :=
  (upto (b.length / 8)).map fun i => by1 (((b.drop (8 * i)).take 8).foldr (fun x a => b2n x + 2 * a) 0)

/-- Bytes of a received frame with its check, by the line's framing (R266, R268). -/
def frameOctets (cfg : R40) (f : ScanFrame) : List Byte :=
  if hdlc cfg then octetsOf (unstuff 0 f.bits) else f.chars.map (charByte cfg)

/-- Seven or more consecutive ones abort a frame in HDLC-style framing (R268). -/
def frameAborted (cfg : R40) (f : ScanFrame) : Bool := hdlc cfg && decide (7 ≤ longestOnes 0 f.bits)

/-- A frame in HDLC-style framing that is no whole number of octets: its FCS cannot match (R268, log entry 141). -/
def ragged (cfg : R40) (f : ScanFrame) : Bool := hdlc cfg && (unstuff 0 f.bits).length % 8 != 0

/-- What was received begins a frame (R267): after GAP half characters of idle, at an address character with nine data bits, or as the
first character after the request of a POLL that awaits its reply; in HDLC-style framing at a flag that octets follow. -/
def beginsFrame (cfg : R40) (m : ScanMode) (f : ScanFrame) : Bool :=
  if hdlc cfg then !f.bits.isEmpty
  else match f.chars with
    | [] => false
    | c :: _ => decide (fld cfg 30 26 ≤ f.idle) || (nineBit cfg && bit c.data 8) ||
      (f.first && match m with | .poll _ _ a => a | _ => false)

/-- The 9-bit values of the characters a frame is sent as: with ADDR9 and nine data bits the first address byte is an address character
(R266, Table 11.2). -/
def charValues (cfg : R40) (t b : List Byte) : List Nat :=
  b.mapIdx fun i x =>
    x.toNat + (if nineBit cfg && num t 3 1 / 4 % 2 == 1 && decide (1 ≤ tAddr t) && i == tMark t then 256 else 0)

/-- The bits of a frame on the line (R266, R268). -/
def frameWire (cfg : R40) (t b : List Byte) : List Bool :=
  if hdlc cfg then flagBits ++ stuff 0 (octetBits b) ++ flagBits
  else ((charValues cfg t b).map (charBits cfg)).flatten

/-- What the driver holds for TURN bit times after a frame: mark, or flags with HDLC_IDLE 1 (R265, R268). -/
def turnWire (cfg : R40) : List Bool :=
  let n := fld cfg 25 22
  if hdlc cfg && bit cfg 21 then (flagBits ++ flagBits).take n else List.replicate n true

/-- Spine time that some bits take at DIV (R264). -/
def bitsTime (cfg : R40) (n : Nat) : Nat := ceilDiv (n * fld cfg 16 0 * 2 ^ 40) 96000000

/-- Bits of some bytes, most significant first: frame bit k is bit 7 − (k mod 8) of byte k / 8 (R278). -/
def frameBits (b : List Byte) : List Bool := (b.map fun x => (upto 8).map fun i => bit x (7 - i)).flatten

/-- The number some bits spell, first most significant. -/
def ofBits (b : List Bool) : Nat := b.foldl (fun a x => 2 * a + b2n x) 0

/-- `n` bits of a number, most significant first. -/
def toBits (n v : Nat) : List Bool := (upto n).map fun i => v / 2 ^ (n - 1 - i) % 2 == 1

/-- Bits in groups of eight reversed as bytes, as LITTLE asks (R278). -/
def swapBytes (b : List Bool) : List Bool :=
  ((upto (b.length / 8)).map fun i => (b.drop (b.length - 8 * (i + 1))).take 8).flatten

/-- BCD digits of some bits, none where one is above 9. -/
def bcdOf (b : List Bool) : Option Nat :=
  let digits := (upto (b.length / 4)).map fun i => ofBits ((b.drop (4 * i)).take 4)
  if digits.any fun d => decide (9 < d) then none else some (digits.foldl (fun a d => 10 * a + d) 0)

/-- The raw value of a field in a frame's bytes before its check; none where it is invalid (R278). -/
def rawField (d b : List Byte) : Option Int :=
  let bits := frameBits b
  if bits.length < sOff d + sLen d then none
  else
    let f := (bits.drop (sOff d)).take (sLen d)
    let f := if sLittle d then swapBytes f else f
    match sCoding d with
    | 0 => some (ofBits f : Nat)
    | 1 => some (signedOf (sLen d) (ofBits f))
    | 2 => let m : Int := (ofBits (f.drop 1) : Nat)
           some (if f.headD false then -m else m)
    | _ => (bcdOf f).map fun n => (n : Int)

/-- The rescaled value held within Q24.16, and whether it was clamped (R279). -/
def rescale (d : List Byte) (x : Int) : Int × Bool :=
  let v := roundDiv (x * sScale d * 2 ^ sShift d) (2 ^ 16) + sOffset d
  let c := clampI (-(2 ^ 39)) (2 ^ 39 - 1) v
  (c, c != v)

/-- A counter of R288 of a scan line, in its order. -/
def countScan (s : State) (l : Fin 4) (i : Fin 8) : State := s.modLine l fun x => { x with counts := vmod x.counts i satInc }

/-! ### Frames received -/

/-- KIND 1 templates of a line, ascending (R271). -/
def matchTemplates (s : State) (l : Fin 4) : List Nat :=
  (upto 128).filter fun id => let t := templateBytes s id
    tKind t == 1 && tLine t == l.val

/-- MARK and ADDR of a template stand at the start of a frame (R271). -/
def heads (t b : List Byte) : Bool :=
  let want := slice t 5 (tMark t) ++ slice t 10 (tAddr t)
  decide (want.length ≤ b.length) && b.take want.length == want

/-- The template of a frame received in an activity: REPLY first in a POLL line, then the others in order (R271). -/
def frameTemplate (s : State) (l : Fin 4) (m : ScanMode) (b : List Byte) : Option Nat :=
  let all := matchTemplates s l
  let order := match m with
    | .poll _ r _ => all.filter (· == r) ++ all.filter (· != r)
    | .listen (some r) => all.filter (· == r) ++ all.filter (· != r)
    | _ => all
  order.find? fun id => heads (templateBytes s id) b

/-- The length a template's END rule gives, none where any length ends by idle; 0 where a length byte gives none allowed (R271). -/
def endLength (t b : List Byte) : Option Nat :=
  match tEnd t with
  | 0 => some (tLen t)
  | 1 =>
    let off := num t 13 1
    let n : Int := (num b off 1 : Nat) + signedOf 8 (num t 16 1)
    if (off : Int) + 1 ≤ n ∧ n ≤ 256 then some n.toNat else some 0
  | _ => none

/-- The first cause of R269 that applies to a frame of a template, 0 where it passes. A frame that never ended (cut, too long,
aborted) has no check field and no length to judge. -/
def failCause (cfg : R40) (t : List Byte) (f : ScanFrame) : Nat :=
  let framing := hdlc cfg
  let b := frameOctets cfg f
  let n := b.length
  let k := checkBytes framing (tCheck t)
  let whole := !f.cut && decide (n ≤ 256) && !frameAborted cfg f
  if !framing && f.chars.any (charStopBad cfg) then 1
  else if !framing && f.chars.any (charParityBad cfg) then 2
  else if whole && (ragged cfg f || (decide (k ≤ n) && templateCheck framing t (b.take (n - k)) != b.drop (n - k))) then 3
  else if whole && (decide (n < tMark t + tAddr t + k) || (!framing && (match endLength t b with | some m => m != n | none => false))) then 4
  else if f.cut then 5
  else if 256 < n then 6
  else if frameAborted cfg f || (framing && decide (n < 3)) then 7
  else 0

/-- One input signal of a passing frame's template updated, or marked BADCODE (R280, R281). -/
def updateSignal (b : List Byte) (s : State) (x : Signal) : State :=
  let put := fun (s : State) (y : Signal) => s.modScan fun c => { c with signals := c.signals.map fun z => if z.id == x.id then y else z }
  match rawField x.bytes b with
  | none =>
    raise (put s { x with flags := x.flags ||| 0x10 }) 0x0807 (be 2 x.id ++ [by1 (sTemplate x.bytes)])
  | some raw =>
    let v := rescale x.bytes raw
    let s := put s { x with value := BitVec.ofNat 40 (fieldOf 40 v.1), flags := if v.2 then 0xA0 else 0x80, age := 0 }
    if v.2 then raise s 0x0808 (be 2 x.id) else s

/-- Input signals that name a template, in the order of their numbers. -/
def inputsOf (s : State) (id : Nat) : List Signal :=
  (upto 512).filterMap fun n => match findSignal s n with
    | some x => if !sigOutput x.bytes && sTemplate x.bytes == id then some x else none
    | none => none

/-- A template's counts and age changed. -/
def modTemplate (s : State) (id : Nat) (f : Template → Template) : State :=
  s.modScan fun c => { c with templates := c.templates.map fun t => if t.id == id then f t else t }

/-- A signed level in mV as an 11-bit field of SCAN_CAL. -/
def levelField (v : Int) : Nat := fieldOf 11 (clampI (-1024) 1023 v)

/-- V_MID of a passing frame (R286); none in scan echo (R461). -/
def measureMid (s : State) (l : Fin 4) (f : ScanFrame) : State :=
  if s.test.echo[l] then s
  else s.modLine l fun x => { x with
    cal := setFld (setFld x.cal 21 11 (levelField (roundDiv (f.vMark + f.vSpace) 2))) 10 3 0, haveMid := true }

/-- V_IDLE measured over a gap (R201, R286). AGE is that of the levels of frames, which grows where frames only fail. -/
def measureIdle (s : State) (l : Fin 4) (v : Option Int) : State :=
  match v with
  | none => s
  | some v =>
    if s.test.echo[l] then s
    else s.modLine l fun x => { x with cal := setFld x.cal 32 22 (levelField v), haveIdle := true }

/-- A frame that passed its check (R272, R280, R286). -/
def passFrame (s : State) (l : Fin 4) (id : Nat) (f : ScanFrame) : State :=
  let t := templateBytes s id
  let cfg := s.scan.lines[l].cfg
  let b := frameOctets cfg f
  let body := b.take (b.length - checkBytes (hdlc cfg) (tCheck t))
  let s := modTemplate (countScan s l 0) id fun t => { t with passed := satInc t.passed, age := 0 }
  measureMid ((inputsOf s id).foldl (updateSignal body) s) l f

/-- A frame that failed (R269, R288); 0xFF where no template was found. -/
def failFrame (s : State) (l : Fin 4) (id : Option Nat) (cause : Nat) : State :=
  let s := match id with | some id => modTemplate s id fun t => { t with failed := satInc t.failed } | none => s
  raise (countScan s l 1) 0x0802 [by1 l.val, by1 (id.getD 0xFF), by1 cause]

/-- A frame received in an activity judged: one that ended and matches no template is unmatched, else it passes or fails (R269,
R271). -/
def judgeFrame (s : State) (l : Fin 4) (m : ScanMode) (f : ScanFrame) : State :=
  let cfg := s.scan.lines[l].cfg
  let b := frameOctets cfg f
  match frameTemplate s l m b with
  | none =>
    if f.cut then failFrame s l none 5
    else if 256 < b.length then failFrame s l none 6
    else if frameAborted cfg f || (hdlc cfg && decide (b.length < 3)) then failFrame s l none 7
    else raise (countScan s l 2) 0x0803 [by1 l.val, b.headD 0]
  | some id =>
    let c := failCause cfg (templateBytes s id) f
    if c = 0 then passFrame s l id f else failFrame s l (some id) c

/-- Sending has ended with the frame whole, as what the line received shows: counted, the driver disabled (R265, R288). -/
def sendingOver (s : State) (l : Fin 4) : State :=
  s.modLine l fun x => { x with
    counts := if x.sendEnds.isSome then vmod x.counts 4 satInc else x.counts, sendEnds := none, driver := false }

/-- A POLL awaits its reply no longer. -/
def stopAwaiting (s : State) (l : Fin 4) : State :=
  s.modLine l fun x => { x with act := match x.act with | some (.poll t r _) => some (.poll t r false) | a => a }

/-- The activity that receives a frame: the one in progress, or for a frame that its end has cut the one that ended (R276). -/
def receives (x : ScanLine) (f : ScanFrame) : Option ScanMode := if f.cut && x.act.isNone then x.ended else x.act

/-- A frame ended in an activity: judged, a POLL awaiting no reply any more. In scan echo its own request is no reply (R461). -/
def takeFrame (s : State) (line : Fin 4) (m : ScanMode) (f : ScanFrame) : State :=
  let s := measureIdle (sendingOver s line) line f.vIdle
  let s := (judgeFrame s line m f).modLine line fun x => { x with ended := none }
  let s := if s.test.echo[line] then s else stopAwaiting s line
  s.modPow fun p => { p with idleNs := 0 }

/-- SCAN_FRAME_END (R267 to R272, R280, R286). Characters that begin no frame are not decoded (R267). -/
def execScanFrameEnd (line : Fin 4) (f : ScanFrame) (s : State) : Host.Outcome State Fault Refusal :=
  done s <|
    let x := s.scan.lines[line]
    match receives x f with
    | some m =>
      if domOn s 47 = false ∨ scanOn s line = false ∨ beginsFrame x.cfg m f = false then s else takeFrame s line m f
    | none => s

/-! ### Sending -/

/-- The frame a template's request or skeleton makes, with its check (R270). -/
def sendBytes (framing : Bool) (t req : List Byte) : List Byte := req ++ templateCheck framing t req

/-- A line begins to send a frame of a template: the driver is enabled from its first bit (R265, R274). The wait for idle takes no time
(DESIGN CHOICE, log entry 82). -/
def beginSend (s : State) (l : Fin 4) (m : ScanMode) (t bytes : List Byte) : State :=
  let cfg := s.scan.lines[l].cfg
  let frame := frameWire cfg t bytes
  let ends := s.now.toNat + bitsTime cfg frame.length
  (s.modLine l fun x => { x with
    act := some m, ended := none, driver := true, sent := bytes, wire := frame ++ turnWire cfg
    sendEnds := some ends, turnEnds := ends + bitsTime cfg (fld cfg 25 22) }).modPow fun p => { p with idleNs := 0 }

/-- A line begins to receive; `first` is the REPLY template that a POLL found busy tries first (R271, R273). -/
def beginListen (s : State) (l : Fin 4) (first : Option Nat) : State :=
  s.modLine l fun x => { x with act := some (.listen first), ended := none }

/-- A CONT line continues its predecessor's activity (R60). -/
def continuesAct (s : State) (l : Line) : Bool := l.cont && s.scan.lines[(Fin.ofNat 4 l.target.toNat : Fin 4)].act.isSome

/-- A line found busy sends nothing and receives (R274). -/
def foundBusy (s : State) (l : Fin 4) (template : Nat) (first : Option Nat) : State :=
  raise (beginListen (countScan s l 6) l first) 0x0805 [by1 l.val, by1 template]

/-- A POLL line's action (R274, R504). Its REPLY is that of its template as the line starts (R285). -/
def poll (busy : Bool) (l : Line) (s : State) : State :=
  let k : Fin 4 := Fin.ofNat 4 l.target.toNat
  let id := l.operand.toNat
  let t := templateBytes s id
  if continuesAct s l then s
  else if tKind t ≠ 2 ∨ tLine t ≠ k.val then s
  else if busy then foundBusy s k id (some (tReply t))
  else beginSend s k (.poll id (tReply t) true) t (sendBytes (hdlc s.scan.lines[k].cfg) t (slice t 24 (tReqLen t)))

/-- Output signals of a template, in the order of their numbers. -/
def outputsOf (s : State) (id : Nat) : List Signal :=
  (upto 512).filterMap fun n => match findSignal s n with
    | some x => if sigOutput x.bytes && sTemplate x.bytes == id then some x else none
    | none => none

/-- Least and greatest raw value of a field (R282). -/
def rawRange (d : List Byte) : Int × Int :=
  let n := sLen d
  match sCoding d with
  | 0 => (0, 2 ^ n - 1)
  | 1 => (-(2 ^ (n - 1)), 2 ^ (n - 1) - 1)
  | 2 => (-(2 ^ (n - 1) - 1), 2 ^ (n - 1) - 1)
  | _ => (0, 10 ^ (n / 4) - 1)

/-- The raw value an output signal's VALUE gives, clamped, and whether it was (R282). -/
def rawOf (x : Signal) : Int × Bool :=
  let v := roundDiv ((signedOf 40 x.value.toNat - sOffset x.bytes) * 2 ^ 16) (sScale x.bytes * 2 ^ sShift x.bytes)
  let r := rawRange x.bytes
  let c := clampI r.1 r.2 v
  (c, c != v)

/-- A raw value as the bits of its field (R278, R282). -/
def fieldBits (d : List Byte) (x : Int) : List Bool :=
  let n := sLen d
  let b := match sCoding d with
    | 0 => toBits n x.toNat
    | 1 => toBits n (fieldOf n x)
    | 2 => decide (x < 0) :: toBits (n - 1) x.natAbs
    | _ => ((upto (n / 4)).map fun i => toBits 4 (x.toNat / 10 ^ (n / 4 - 1 - i) % 10)).flatten
  if sLittle d then swapBytes b else b

/-- Bits of a list replaced from an offset. -/
def putBits (b : List Bool) (o : Nat) (v : List Bool) : List Bool := b.take o ++ v ++ b.drop (o + v.length)

/-- Bytes that bits spell. -/
def bytesOfBits (b : List Bool) : List Byte := (upto (b.length / 8)).map fun i => by1 (ofBits ((b.drop (8 * i)).take 8))

/-- The output frame of a template from a snapshot of its signals (R282). -/
def outputFrame (s : State) (id : Nat) : List Byte :=
  let t := templateBytes s id
  bytesOfBits ((outputsOf s id).foldl (fun b x => putBits b (sOff x.bytes) (fieldBits x.bytes (rawOf x).1))
    (frameBits (slice t 24 (tReqLen t))))

/-- SAT of one output signal as it is sent, with event 0x0808 (R281, R282). -/
def markSent (s : State) (x : Signal) : State :=
  let sat := (rawOf x).2
  let s := s.modScan fun c => { c with signals := c.signals.map fun z =>
    if z.id == x.id then { z with flags := setFld z.flags 5 5 (b2n sat) } else z }
  if sat then raise s 0x0808 (be 2 x.id) else s

/-- A SEND line's action (R274, R282, R504). -/
def send (busy : Bool) (l : Line) (s : State) : State :=
  let k : Fin 4 := Fin.ofNat 4 l.target.toNat
  let id := l.operand.toNat
  let t := templateBytes s id
  if continuesAct s l then s
  else if tKind t ≠ 3 ∨ tLine t ≠ k.val then s
  else match (outputsOf s id).find? fun x => bit x.flags 7 == false with
    | some x =>
      raise (beginListen (countScan s k 7) k none) 0x0806 ([by1 k.val, by1 id] ++ be 2 x.id)
    | none =>
      if busy then foundBusy s k id none
      else
        let bytes := sendBytes (hdlc s.scan.lines[k].cfg) t (outputFrame s id)
        beginSend ((outputsOf s id).foldl markSent s) k (.send id) t bytes

/-- A line's action with the level of the last gap in it that no frame of it follows, where there is one (R286). -/
def withGap (vIdle : Option Int) (f : Line → State → State) (l : Line) (s : State) : State :=
  measureIdle (f l s) (Fin.ofNat 4 l.target.toNat) vIdle

/-- POLL_LINE, its line found idle (R274). -/
def execPollLine (o : ScanOpening) (s : State) : Host.Outcome State Fault Refusal :=
  done s (startLine 6 o.idx 0x50 (withGap o.vIdle (poll false)) s)

/-- POLL_LINE_BUSY: a POLL or SEND line whose line was not idle within two character times (R274). -/
def execPollLineBusy (o : ScanOpening) (s : State) : Host.Outcome State Fault Refusal :=
  done s <|
    match lineNow s 6 o.idx with
    | some l =>
      if l.action = 0x50 then startLine 6 o.idx 0x50 (withGap o.vIdle (poll true)) s
      else startLine 6 o.idx 0x52 (withGap o.vIdle (send true)) s
    | none => s

/-- SEND_LINE, its line found idle (R274, R282). -/
def execSendLine (o : ScanOpening) (s : State) : Host.Outcome State Fault Refusal :=
  done s (startLine 6 o.idx 0x52 (withGap o.vIdle (send false)) s)

/-- A LISTEN line's action (R273). -/
def listen (l : Line) (s : State) : State := if continuesAct s l then s else beginListen s (Fin.ofNat 4 l.target.toNat) none

/-- LISTEN_LINE (R273, R286). -/
def execListenLine (idx : Nat) (vIdle : Option Int) (s : State) : Host.Outcome State Fault Refusal :=
  done s (startLine 6 idx 0x51 (withGap vIdle listen) s)

/-- POLL_UNANSWERED (R274, R286). -/
def execPollUnanswered (n : NoAnswer) (s : State) : Host.Outcome State Fault Refusal :=
  done s <|
    match s.scan.lines[n.line].act with
    | some (.poll t _ true) =>
      raise (countScan (measureIdle (stopAwaiting (sendingOver s n.line) n.line) n.line n.vIdle) n.line 3) 0x0801 [by1 n.line.val, by1 t]
    | _ => s

/-- SCAN_COLLISION (R275); none in scan echo (R461). -/
def execScanCollision (line : Fin 4) (s : State) : Host.Outcome State Fault Refusal :=
  done s <|
    let x := s.scan.lines[line]
    let hit := fun (t : Nat) =>
      raise (stopAwaiting ((countScan s line 5).modLine line fun x => { x with driver := false, sendEnds := none }) line) 0x0804 [by1 line.val, by1 t]
    if x.driver = false ∨ s.test.echo[line] = true then s
    else match x.act with
      | some (.poll t _ _) => hit t
      | some (.send t) => hit t
      | _ => s

/-! ### Thresholds and settings -/

/-- The threshold code R201 aims at. -/
def threshTarget (cal : R40) : Nat :=
  let t := clampI (-190) 125 (min (sfld cal 32 22 - 100) (sfld cal 21 11))
  (roundDiv (t + 190) 5).toNat

/-- The threshold has not moved in the last 10 µs (R192). -/
def threshRested (s : State) (x : ScanLine) : Bool := x.calMoved.all fun m => decide (m.toNat + 10995117 ≤ s.now.toNat)

/-- SCAL_LINE: a threshold that waits is taken whole; else, with ADAPT 1, the line idle, its levels measured and its last move 10 µs ago,
one step toward the target (R192, R201, R202, R461); traced (R322). -/
def execScalLine (idx : Nat) (vIdle : Option Int) (lineIdle : Bool) (s : State) : Host.Outcome State Fault Refusal :=
  done s (startLine 6 idx 0x53 (fun l s =>
    let k : Fin 4 := Fin.ofNat 4 l.target.toNat
    if scanOn s k = false then s
    else
      let s := measureIdle s k vIdle
      let x := s.scan.lines[k]
      match x.calNext with
      | some v => s.modLine k fun x => { x with cal := setFld x.cal 39 34 (fld v 39 34), calNext := none }
      | none =>
        let now := fld x.cal 39 34
        let want := threshTarget x.cal
        if bit x.cal 33 = false ∨ lineIdle = false ∨ s.test.echo[k] = true ∨ x.haveIdle = false ∨ x.haveMid = false ∨ want = now
          ∨ threshRested s x = false then s
        else
          let next := if now < want then now + 1 else now - 1
          traceStep (s.modLine k fun x => { x with cal := setFld x.cal 39 34 next, calMoved := some s.now }) 6 13 (next : Nat)) s)

/-- SCAN_CFG_APPLY: a sheet boundary has passed and the line is idle (R264). -/
def execScanCfgApply (line : Fin 4) (s : State) : Host.Outcome State Fault Refusal :=
  done s <|
    match s.scan.lines[line].cfgNext with
    | some (v, true) =>
      settleDomains (s.modLine line fun x =>
        let x := { x with cfg := v, cfgNext := none }
        if bit v 39 then x else { x with act := none, ended := none, driver := false, sendEnds := none })
    | _ => s

/-! ### The end of a SCAN line -/

/-- A line that works a transceiver: POLL, LISTEN, SEND (Table 3.2). -/
def onTransceiver (l : Line) : Bool := decide (0x50 ≤ l.action) && decide (l.action ≤ 0x52)

/-- The line that follows on the same transceiver, in this sheet or the first of the next (R60). -/
def nextOnLine (m : Mould) (idx : Nat) (l : Line) : Option Line :=
  let same := fun (x : Line) => onTransceiver x && x.target == l.target
  let t := vget m.tables 6
  match (t.drop (idx + 1)).find? same with
  | some x => some x
  | none => t.find? same

/-- The line after this one on its transceiver stands in the next sheet, which another Mould runs: a chain ends with the last old line
(R72). -/
def lastOfMould (s : State) (m : Mould) (idx : Nat) (l : Line) : Bool :=
  (s.seq.shadow.any fun x => x.sheet == s.seq.sheet + 1 && isBoundary x.mould.sheetN (boundaryStamp m.sheetN (boundaryAt m.sheetN s.seq.base.toNat + 1))) &&
  !((vget m.tables 6).drop (idx + 1)).any fun x => onTransceiver x && x.target == l.target

/-- A line's activity goes on in its successor (R60, R72, R276). -/
def chained (s : State) (idx : Nat) (l : Line) : Bool :=
  match s.seq.active with
  | some m => onTransceiver l && (nextOnLine m idx l).any (fun x => x.cont) && !lastOfMould s m idx l
  | none => false

/-- What the end of a SCAN line does: its activity ends unless a CONT line follows; a frame still being sent stops and is an overrun
(R60, R77, R276). -/
def endScanLine (s : State) (idx : Nat) (l : Line) : State :=
  let k : Fin 4 := Fin.ofNat 4 l.target.toNat
  if onTransceiver l = false ∨ chained s idx l = true then s
  else
    let s := if s.scan.lines[k].sendEnds.isSome then overrunLine s 6 idx else s
    s.modLine k fun x => { x with act := none, ended := x.act, driver := false, sendEnds := none }

/-! ### Definitions and bundles at the boundary -/

/-- One definition takes effect (R281, R283, R285). A template's counts and age stay with its number while it is in use. -/
def applyDef (s : State) (d : NewDef) : State :=
  s.modScan fun c => match d with
    | .template id b =>
      let old := c.templates.find? fun t => t.id == id
      let rest := c.templates.filter fun t => t.id != id
      let new : Template := match old with
        | some t => { t with bytes := b }
        | none => { id := id, bytes := b, passed := 0, failed := 0, age := 65535 }
      { c with templates := if tKind b = 0 then rest else rest ++ [new] }
    | .signal id b =>
      let rest := c.signals.filter fun x => x.id != id
      { c with signals := if sDefined b then
          rest ++ [{ id := id, bytes := b, value := 0, flags := if sigOutput b then 0x40 else 0, age := 65535 }] else rest }
    | .bundle id h ms =>
      { c with bundles := (c.bundles.filter fun b => b.id != id) ++
          [{ id := id, header := h, members := ms, since := none
             sent := List.replicate 64 (0, 0), resend := false }] }

/-- Every definition that waits takes effect, oldest first (R285). -/
def applyDefs (s : State) : State :=
  s.scan.newDefs.foldl applyDef (s.modScan fun c => { c with newDefs := [] })

/-- VALUE, FLAGS and AGE of a bundle's member as the signal table gives them. -/
def memberNow (s : State) (n : BitVec 16) : BitVec 40 × Byte × BitVec 16 :=
  match findSignal s n.toNat with
  | some x => (x.value, x.flags, x.age)
  | none => (0, 0, 65535)

/-- A member differs from what was last sent (R284). -/
def memberChanged (dead : Int) (now : BitVec 40 × Byte × BitVec 16) (sent : BitVec 40 × Byte) : Bool :=
  decide (dead < ((signedOf 40 now.1.toNat - signedOf 40 sent.1.toNat).natAbs : Nat)) || ((now.2.1 &&& 0xB0) != (sent.2 &&& 0xB0))

/-- Whether a bundle has an occasion in sheet `n`; one skipped for want of room comes again at the next boundary, whatever PERIOD is
(R284, DEDUCED, log entry 142). -/
def hasOccasion (s : State) (n : Nat) (b : Bundle) : Bool :=
  let members := b.members.take (bEntries b.header)
  bEn b.header &&
  if bChange b.header then
    b.resend || ((match b.since with | none => true | some k => decide (bPeriod b.header ≤ k)) &&
      ((members.map (memberNow s)).zip b.sent).any fun p => memberChanged (bDead b.header) p.1 p.2)
  else n % bPeriod b.header == num b.header 4 2

/-- The SIG record of an occasion (R222, R284). -/
def sigBytes (s : State) (n : Nat) (b : Bundle) : List Byte :=
  let k := bEntries b.header
  [0x13, by1 b.id] ++ be 2 (16 + 12 * k) ++ [by1 k, by1 (b2n (bChange b.header)), 0, 0] ++ be 5 n ++ [0, 0, 0] ++
    ((b.members.take k).map fun m => let x := memberNow s m
      be 2 m.toNat ++ be 5 x.1.toNat ++ [x.2.1] ++ be 2 x.2.2.toNat ++ [0, 0]).flatten

/-- An occasion's record for one session; the flag tells whether it was skipped for want of room (R237). None goes to an
unbound session, and none crosses to a bridge that is off (R45). -/
def sendSig (bytes : List Byte) (x : State × Bool) (k : SessionId) : State × Bool :=
  let s := x.1
  if present s 4 = false then (absent s 6 4, x.2)
  else if s.svc.sessions[k].addr.isNone then x
  else if s.svc.sig.length < 16 then (s.modSvc fun b => { b with sig := b.sig ++ [{ session := k, bytes := bytes, credit := none }] }, x.2)
  else (raise (s.modSvc fun b => { b with sigSkip := satInc b.sigSkip }) 0x060B [0x13, by1 k.val], true)

/-- One bundle evaluated for sheet `n` that has ended (R284). -/
def evaluate (n : Nat) (s : State) (b : Bundle) : State :=
  let put := fun (s : State) (y : Bundle) => s.modScan fun c => { c with bundles := c.bundles.map fun z => if z.id == b.id then y else z }
  if hasOccasion s n b then
    let mask := num b.header 0 1 % 16
    let x := ((List.finRange 4).filter fun k => mask / 2 ^ k.val % 2 == 1).foldl (sendSig (sigBytes s n b)) (s, false)
    put x.1 { b with since := some 0, resend := x.2, sent := b.members.map fun m => let v := memberNow s m
                                                              (v.1, v.2.1) }
  else s

/-- Every bundle evaluated in the order of its number (R284). -/
def evaluateBundles (n : Nat) (s : State) : State :=
  ((upto 64).filterMap fun id => s.scan.bundles.find? fun b => b.id == id).foldl (evaluate n) s

/-- Ages of signals and templates, and the sheets since each bundle's last occasion, some sheets older; that of a threshold's levels one
sheet (R202, R272, R280, R284, R287). -/
def ageScan (n : Nat) (s : State) : State :=
  s.modScan fun c => { c with
    signals := c.signals.map fun x => { x with age := satAdd x.age n }
    templates := c.templates.map fun t => { t with age := satAdd t.age n }
    bundles := c.bundles.map fun b => { b with since := b.since.map fun k => min 65535 (k + n) }
    lines := c.lines.map fun x => { x with cal := setFld x.cal 10 3 (min 255 (fld x.cal 10 3 + 1)) } }

end Sys2Proof.Machine
end

