-- ==== Sys2Proof/Machine/StoreRows.lean ====
section
/-! DEFINITION. STORE lines and the steps of each store (R70, R362, R386 to R390), the persistent log (R437 to R439), TELEM
lines (R396). -/

namespace Sys2Proof.Machine

/-! ### Steps of the stores -/

/-- Store steps of a MOULD_STORE (R362). -/
def mouldSteps (len : Nat) : Nat := 600 * (ceilDiv len 4096 + 1) + 8 * (ceilDiv len 256 + 2)
/-- Store steps of a CONFIG_SAVE (R390). -/
def configSteps : Nat := 11656
/-- Store steps of FW_BEGIN (R390). -/
def eraseSteps (len : Nat) : Nat := 8 + 600 * (ceilDiv len 4096 + 1)
/-- Store steps of one page program or one record. -/
def pageSteps : Nat := 8

/-- The other of two numbered things. -/
def other (k : Fin 2) : Fin 2 := if k = 0 then 1 else 0

/-- One more step of a MOULD_STORE: the slot is invalid from the first, valid with its new image after the last (R70). -/
def stepMould (s : State) (k : Fin 2) (image : Mem) (len made : Nat) : State :=
  let n := made + 1
  if n < mouldSteps len then
    s.modStore fun t => { t with slots := vmod t.slots k fun x => { x with valid := false }, job := some (.mould k image len n) }
  else
    replyTaken (s.modStore fun t => { t with slots := vmod t.slots k fun _ => { valid := true, image, len }, job := none })
      [0x0502] ⟨0x00, []⟩

/-- Sequence number of a new configuration copy: one above that of the other copy, 1 where that is invalid. -/
def copySeq (t : Store) (k : Fin 2) : BitVec 32 := if t.copies[other k].valid then t.copies[other k].seq + 1 else 1

/-- One more step of a CONFIG_SAVE (R387). -/
def stepConfig (s : State) (k : Fin 2) (data : Option StoredConfig) (made : Nat) : State :=
  let n := made + 1
  if n < configSteps then
    s.modStore fun t => { t with copies := vmod t.copies k fun x => { x with valid := false }, job := some (.config k data n) }
  else
    replyTaken (s.modStore fun t => { t with copies := vmod t.copies k fun _ => { valid := true, seq := copySeq t k, data }, job := none })
      [0x0B01] ⟨0x00, []⟩

/-- One more step of the erases of FW_BEGIN; after the last the update is open (R388). -/
def stepErase (s : State) (bank : Bool) (len : Nat) (crc : BitVec 32) (made : Nat) : State :=
  let n := made + 1
  let s := s.modStore fun t => { t with banks := vmodN t.banks (b2n bank) fun x => { x with valid := false } }
  if n < eraseSteps len then s.modStore fun t => { t with job := some (.fwErase bank len crc n) }
  else replyTaken (s.modStore fun t => { t with job := some (.fwOpen bank len crc 0 0 0 0xFFFFFFFF false 0 false) }) [0x0B03] ⟨0x00, []⟩

/-- Sequence number of a bank's new commit record (R388). -/
def bankSeq (t : Store) (bank : Bool) : BitVec 32 :=
  let o := vget t.banks (b2n !bank)
  if o.valid then o.seq + 1 else 1

/-- One more step of an open firmware update: its commit record, or the next complete page of its buffer (R388). -/
def stepFirmware (s : State) (bank : Bool) (len : Nat) (crc : BitVec 32) (received programmed made : Nat) (sum : BitVec 32)
    (committing : Bool) (back : Nat) (recording : Bool) : State :=
  let n := made + 1
  if recording then
    if n < pageSteps then s.modStore fun t => { t with job := some (.fwOpen bank len crc received programmed n sum committing back true) }
    else replyTaken (s.modStore fun t => { t with
        banks := vmodN t.banks (b2n bank) fun _ => { valid := true, seq := bankSeq t bank, len, crc }, job := none }) [0x0B05] ⟨0x00, []⟩
  else if received < 256 * (programmed + 1) then s
  else if n < pageSteps then
    s.modStore fun t => { t with job := some (.fwOpen bank len crc received programmed n sum committing back false) }
  else s.modStore fun t => { t with job := some (.fwOpen bank len crc received (programmed + 1) 0 sum committing back false) }

/-! ### The persistent log -/

/-- Nanoseconds since an entry was staged, by its stamp; 0 where spine time reads less. -/
def waited (s : State) (e : EventEntry) : Nat := (s.now.toNat - e.stamp.toNat) * 10 ^ 9 / 2 ^ 40

/-- A staged page written: at most seven entries, the next place and PSEQ; entering a sector starts the erase of the next; once
the staging has room the entries lost are reported (R437, R438). -/
def writePage (s : State) : State :=
  let es := s.store.staged.take 7
  let rest := s.store.staged.drop 7
  let entering := s.store.logAt % 16 == 0
  let s := s.modStore fun t => { t with
    log := t.log ++ [{ place := t.logAt, entries := es }], logAt := (t.logAt + 1) % 1024, pseq := t.pseq + 1, staged := rest
    stageNs := match rest with | [] => 0 | e :: _ => waited s e
    paging := none, erasing := if entering then some 0 else t.erasing }
  if s.store.logLost = 0 then s
  else raise (s.modStore fun t => { t with logLost := 0 }) 0x0B08 (be 2 (min s.store.logLost 65535))

/-- A page is due: seven staged entries, or one that has waited 1 s (R438). -/
def pageDue (t : Store) : Bool := decide (7 ≤ t.staged.length) || (!t.staged.isEmpty && decide (1000000000 ≤ t.stageNs))

/-- Writing waits for the erase of the sector it would enter (R438). -/
def pageBlocked (t : Store) : Bool := t.erasing.isSome && t.logAt % 16 == 0

/-- The sector after the write position, which an erase clears: that after the sector of the last page written. -/
def eraseSector (t : Store) : Nat := ((t.logAt + 1023) % 1024 / 16 + 1) % 64

/-- One step of the erase ahead: its first drops what the sector held, event 0x0B07 (R438). -/
def stepEraseAhead (s : State) (made : Nat) : State :=
  let gone := s.store.log.filter fun g => g.place / 16 == eraseSector s.store
  let n := (gone.map fun g => g.entries.length).sum
  let s := s.modStore fun t => { t with
    log := if made = 0 then t.log.filter (fun g => g.place / 16 != eraseSector t) else t.log
    erasing := if made + 1 < 600 then some (made + 1) else none }
  if made = 0 then raise s 0x0B07 (be 2 (min n 65535)) else s

/-- One step of log writing (R438): a page due goes first, then the erase ahead. -/
def stepLog (s : State) : State :=
  let t := s.store
  match t.paging with
  | some n => if n + 1 < pageSteps then s.modStore fun t => { t with paging := some (n + 1) } else writePage s
  | none =>
    if pageDue t && !pageBlocked t then s.modStore fun t => { t with paging := some 1 }
    else match t.erasing with
      | some n => stepEraseAhead s n
      | none => s

/-- One store step: of the store in progress, else of log writing (R386, R438). -/
def storeStep (s : State) : State :=
  match s.store.job with
  | some (.mould k image len made) => stepMould s k image len made
  | some (.config k data made) => stepConfig s k data made
  | some (.fwErase bank len crc made) => stepErase s bank len crc made
  | some (.fwOpen bank len crc received programmed made sum committing back recording) =>
    stepFirmware s bank len crc received programmed made sum committing back recording
  | none => stepLog s

/-- STORE_LINE (R386). -/
def execStoreLine (idx : Nat) (s : State) : Host.Outcome State Fault Refusal :=
  done s (startLine 0 idx 0x13 (fun _ s => storeStep s) s)

/-! ### Telemetry -/

/-- Channels of a TELEM line sampled (R396). -/
def sampleTelem (samples : List (BitVec 16)) (l : Line) (s : State) : State :=
  let mask := l.operand.toNat % 65536
  let at' := s.now
  s.modTest fun t => { t with
    telemAt := at', telemHas := t.telemHas ||| BitVec.ofNat 16 mask
    telem := Vector.ofFn fun c : Fin 16 => if mask / 2 ^ c.val % 2 = 1 then samples.getD c.val 0 else t.telem[c] }

/-- TELEM_LINE (R396). `samples` are the readings of channels 0 to 15; a channel beyond the list reads 0. -/
def execTelemLine (idx : Nat) (samples : List (BitVec 16)) (s : State) : Host.Outcome State Fault Refusal :=
  done s (startLine 0 idx 0x12 (sampleTelem samples) s)

end Sys2Proof.Machine
end

