-- ==== Sys2Proof/Machine/PowerRows.lean ====
section
/-! DEFINITION. Power at work: DORMANT and REST lines (R404 to R408, R411, R412, R503), wakes (R413, R414), supply and thermal
events (R398, R399, R446, R447), the backup cell (R415, R416), and the end of a run (R26, R421). -/

namespace Sys2Proof.Machine

/-! ### DORMANT -/

/-- Every member of the path's group has been idle for its PATH_T, and the path leads the group (R404). -/
def mayRest (s : State) (p : PathId) : Bool :=
  leaderOf s p == p && (groupOf s p).all fun q =>
    pathIdle s q && s.paths[q].pathT != 0 && decide (s.paths[q].pathT.toNat * 1000000 ≤ s.paths[q].idleNs)

/-- The group turns DORMANT: latches cleared and armed, event 0x0104 for each member, their domains off (R98, R405). -/
def enterDormant (s : State) (p : PathId) : State :=
  settleDomains ((groupOf s p).foldl (fun s q =>
    setPathState (s.modPath q fun x => { x with latch := false, armed := true }) q .dormant) s)

/-- DORMANT_ENTER_LINE (R404, R405); empty where the idle time falls short. -/
def execDormantEnterLine (p : PathId) (idx : Nat) (s : State) : Host.Outcome State Fault Refusal :=
  done s (startLine (pathTable p) idx 0x66 (fun _ s => if mayRest s p then enterDormant s p else s) s)

/-- Every member of the path's group is DORMANT with its latch set or a wake request standing, and the path leads it (R99, R404). -/
def mayWake (s : State) (p : PathId) : Bool :=
  leaderOf s p == p && (groupOf s p).all fun q =>
    s.paths[q].st == .dormant && (s.paths[q].latch || s.paths[q].wakeReq)

/-- The group returns to IDLE: domains on with the saved parts restored, event 0x0104, latch and request cleared (R406). -/
def leaveDormant (s : State) (p : PathId) : State :=
  settleDomains ((groupOf s p).foldl (fun s q =>
    (setPathState s q .idle).modPath q fun x => { x with latch := false, armed := false, wakeReq := false }) s)

/-- DORMANT_EXIT_LINE (R99, R406). -/
def execDormantExitLine (p : PathId) (idx : Nat) (s : State) : Host.Outcome State Fault Refusal :=
  done s (startLine (pathTable p) idx 0x67 (fun _ s => if mayWake s p then leaveDormant s p else s) s)

/-! ### Entering REST -/

/-- REST_PEND_SET (R407): the device's idle time has reached REST_T. -/
def execRestPendSet (s : State) : Host.Outcome State Fault Refusal :=
  done s <|
    if deviceIdle s = true ∧ s.pow.restT ≠ 0 ∧ s.pow.restT.toNat * 1000000 ≤ s.pow.idleNs then s.modWin fun w => { w with restPend := true }
    else s

/-- T0 with its fraction, C0, FREQ_ADJ and the state latched (R162); in LOCKED the frequency is the mean that HOLDOVER holds (R160). -/
def latchTime (counter : BitVec 64) (s : State) : State :=
  let now := s.now
  s.modTime fun t => { t with t0 := t.spine, c0 := counter, stSaved := t.st, f0 := if t.st = 3 then heldFreq now t else t.freqAdj }

/-- REST_LINE (R183, R408): with REST_PEND 1 a sweep is abandoned, T0 and C0 are latched and the save begins. -/
def execRestLine (idx : Nat) (holdoverCount : BitVec 64) (s : State) : Host.Outcome State Fault Refusal :=
  done s (startLine 0 idx 0x14 (fun _ s =>
    if s.win.restPend && s.pow.rest == .none then
      (latchTime holdoverCount (abortSweep s 3)).modPow fun p => { p with rest := .saving }
    else s) s)

/-- Ring entries discarded at a REST entry (R323). -/
def discardRings (s : State) : State :=
  let e := ringCount s.win.evtHead s.win.evtTail
  let t := ringCount s.win.trcHead s.win.trcTail
  if e = 0 ∧ t = 0 then s
  else
    let s := s.modWin fun w => { w with
      evtHead := w.evtTail, trcHead := w.trcTail, evtLost := satAdd w.evtLost e, trcLost := satAdd w.trcLost t, cLost := true }
    raise s 0x0916 (be 2 (min e 65535) ++ be 2 (min t 65535))

/-- Records waiting in the upstream buffers discarded, the credits of completions and refusals returned (R412). -/
def discardUpstream (s : State) : State :=
  let s := s.svc.cpl.foldl (fun s o => match o.credit with | some c => giveBack s o.session c | none => s) s
  s.modSvc fun b => { b with cpl := [], upw := [], sig := [], evt := [] }

/-- The TAP held in Test-Logic-Reset, as in every state but BOOT and RUN (R463). -/
def holdTap (s : State) : State := s.modTest fun t => { t with tapIr := 0x01, tapBalls := false }

/-- Every switched domain off and the sequencer stopped: lines that run are cut and count neither as missed nor as overrun
(R411, R503). -/
def switchOff (s : State) : State :=
  (holdTap (allOff s)).modSeq fun q => { q with running := [], stopped := true, firstDue := true }

/-- A number as one byte that saturates. -/
def count1 (n : Nat) : Byte := by1 (min n 255)

/-- REST_COMMIT: the commit point and the switch-off of Table 16.5 (R321, R323, R411, R412, R441). -/
def execRestCommit (saveMicros : BitVec 16) (s : State) : Host.Outcome State Fault Refusal :=
  done s <|
    if s.pow.rest ≠ .saving ∨ s.pow.dev ≠ .run then s
    else
      let gone := [count1 s.svc.cpl.length, count1 s.svc.upw.length, count1 s.svc.sig.length, count1 s.svc.evt.length]
      let s := s.modPow fun p => { p with rest := .committed, saved := true, saveUs := saveMicros }
      let s := flushCoalesced (fun _ => true) s
      let s := discardRings (discardUpstream s)
      let s := raise s 0x0A01 (gone ++ be 2 saveMicros.toNat ++ be 5 s.seq.sheet.toNat)
      let s := switchOff (s.modSvc fun b => { b with evt := [] })
      let s := s.modStore fun t => { t with ram := [], ramLen := 0 }
      let s := s.modWin fun w => { w with
        devState := 3, gulcyUp := false, coreClk := false, sheets := false, restPend := false, tj := 0, vin := 0, wdCount := 0 }
      s.modPow fun p => { p with dev := .rest }

/-! ### Waking -/

/-- A wake source is detected and enabled (Table 16.6). An address match shows in the target's stretch, lane activity in an
armed latch, the AO alarm in an event hold of 12 entries; the alarm of a thermal crossing is the row THERMAL_WARNING. -/
def wakeEnabled (s : State) (sources : BitVec 8) (code : Nat) : Bool :=
  let seen := bit sources (code - 1)
  match code with
  | 1 => seen && s.paths.toList.any fun x => x.st == .dormant && x.latch
  | 2 => seen || s.tw.stretch.isSome
  | 3 => seen && timeSource s.time == 3
  | 4 => seen
  | 5 => seen && s.svc.mode != 0
  | 6 => seen && ((upto 4).any (mstEn s) || (upto 8).any (irqEn s))
  | 7 => seen && decide (12 ≤ s.mbx.hold.length)
  | _ => false

/-- The lowest code of the sources detected in one AO clock (R413). -/
def wakeCode (s : State) (sources : BitVec 8) : Option Nat := [1, 2, 3, 4, 5, 6, 7].find? (wakeEnabled s sources)

/-- The exit of Table 16.7 up to the end of the wake tasks, spine time apart (R47, R321, R414, R445). The restore time is open
(log entry 1). -/
def wake (code : Nat) (s : State) : State :=
  let us := s.openNat
  let s := s.usedFree.modPow fun p => { p with
    dev := .run, rest := .none, saved := false, wake := by1 code, exitDue := true, restoreUs := BitVec.ofNat 16 us }
  let s := s.modWin fun w => { w with devState := 3, coreClk := true, woke := code == 2 }
  let s := releaseHold (settleDomains s)
  forSides s fun s i => s.modSide i fun x => { x with chkLock := false, chkBits := 0, chkErrs := 0 }

/-- WAKE_SOURCE_DETECTED: before the commit point the entry is abandoned, in REST the exit begins (R412 to R414). -/
def execWakeSourceDetected (sources : BitVec 8) (s : State) : Host.Outcome State Fault Refusal :=
  done s <|
    match wakeCode s sources with
    | none => s
    | some c =>
      if s.pow.rest == .saving then raise (s.modPow fun p => { p with rest := .none }) 0x0A03 [by1 c]
      else if s.pow.dev == .rest then wake c s
      else s

/-! ### Supply, heat, the cell -/

/-- BOOT, RUN and REST: the states in which the monitors and the charger work (R415, R446). -/
def alive (s : State) : Bool := s.pow.dev == .boot || s.pow.dev == .run || s.pow.dev == .rest

/-- BROWNOUT (R399): lowest VIN in mV and the dip's length in µs. -/
def execBrownout (minMv micros : BitVec 16) (s : State) : Host.Outcome State Fault Refusal :=
  done s (if alive s then raise s 0x0C10 (be 2 minMv.toNat ++ be 2 micros.toNat) else s)

/-- AO_SWITCHOVER (R398): nothing in the AO domain changes. -/
def execAoSwitchover (toVbak : Bool) (s : State) : Host.Outcome State Fault Refusal :=
  done s (if s.pow.dev == .off then s else s.modPow fun p => { p with onVbak := toVbak })

/-- THERMAL_WARNING: 115 °C crossed upward while armed, event 0x0C01 with the temperature and the sensor's telemetry channel; the
warning is disarmed. In REST it is an AO alarm, which wakes the device (R28, R413, R447). -/
def execThermalWarning (halfDegrees : Int) (sensor : Fin 5) (s : State) : Host.Outcome State Fault Refusal :=
  done s <|
    if alive s && s.pow.warnArmed && decide (230 ≤ halfDegrees) then
      let s := raise (s.modPow fun p => { p with warnArmed := false }) 0x0C01 (sbe 1 (halfDegrees / 2) ++ [by1 (sensor.val + 3)])
      if s.pow.dev == .rest then wake 7 s else s
    else s

/-- THERMAL_WARNING_CLEARED: 110 °C crossed downward, event 0x0C02; the warning is armed again (R447). -/
def execThermalWarningCleared (halfDegrees : Int) (s : State) : Host.Outcome State Fault Refusal :=
  done s <|
    if alive s && !s.pow.warnArmed && decide (halfDegrees < 220) then
      raise (s.modPow fun p => { p with warnArmed := true }) 0x0C02 (sbe 1 (halfDegrees / 2))
    else s

/-- A charger setting that waits taken at a cell check (R384). -/
def takeCharger (p : Power) : Power := { p with charger := p.chargeNext.getD p.charger, chargeNext := none }

/-- CURRENT of the charger setting in force is 0. -/
def chargerOff (p : Power) : Bool := fld p.charger 3 2 == 0

/-- CELL_CHECK (R384, R415, R416): VBAK beyond 1.0 to 3.4 V makes the cell absent, event 0x0A10; within it an absent cell is
present again, event 0x0A11. -/
def execCellCheck (vbakMv : BitVec 16) (s : State) : Host.Outcome State Fault Refusal :=
  done s <|
    if alive s = false then s
    else
      let gone := s.pow.charging == 3
      let s := s.modPow fun p => { p with vbak := vbakMv }
      if 3400 < vbakMv.toNat ∨ vbakMv.toNat < 1000 then
        if gone then s
        else raise (s.modPow fun p => { p with charging := 3, topUp := false }) 0x0A10 (be 2 vbakMv.toNat)
      else
        let s := s.modPow fun p =>
          let p := takeCharger p
          { p with charging := if chargerOff p then 0 else if gone = true ∨ p.charging = 0 then 1 else p.charging }
        if gone then raise s 0x0A11 (be 2 vbakMv.toNat) else s

/-- FLOAT in mV. -/
def floatMv (p : Power) : Nat := 3000 + 100 * fld p.charger 1 0

/-- VBAK_FLOAT_CROSSING (R415): charging ends at FLOAT; in float CURRENT is sourced again from FLOAT − 50 mV up to FLOAT. -/
def execVbakFloatCrossing (vbakMv : BitVec 16) (s : State) : Host.Outcome State Fault Refusal :=
  done s <|
    if alive s = false then s
    else s.modPow fun p =>
      if floatMv p ≤ vbakMv.toNat then
        (if p.charging = 1 ∨ p.charging = 2 then { p with charging := 2, topUp := false } else p)
      else if p.charging = 2 ∧ vbakMv.toNat + 50 < floatMv p then { p with topUp := true }
      else p

/-! ### The end of a run -/

/-- The structure a store writes, as event 0x0B05 codes it; 0 for none (Table 17.9). -/
def structureCode (t : Store) : Nat :=
  match t.job with
  | none => 0
  | some (.mould k _ _ _) => 3 + k.val
  | some (.config k _ _) => 5 + k.val
  | some (.fwErase b _ _ _) => 1 + b2n b
  | some (.fwOpen b ..) => 1 + b2n b

/-- A store whose commit record or header page is being programmed completes it on hold-up; any other is broken (R421, R435,
R436). -/
def endStore (s : State) : State :=
  match s.store.job with
  | some (.mould k image len made) =>
    if mouldSteps len < made + pageSteps then
      s.modStore fun t => { t with slots := vmod t.slots k fun _ => { valid := true, image, len }, job := none }
    else breakStore s
  | some (.config k data made) =>
    if configSteps < made + pageSteps then
      s.modStore fun t => { t with copies := vmod t.copies k fun _ => { valid := true, seq := copySeq t k, data }, job := none }
    else breakStore s
  | some (.fwOpen bank len crc _ _ made _ _ _ true) =>
    if made = 0 then breakStore s
    else s.modStore fun t => { t with banks := vmodN t.banks (b2n bank) fun _ => { valid := true, seq := bankSeq t bank, len, crc }, job := none }
  | _ => breakStore s

/-- A log page in progress completes; an erase in progress is abandoned and will start again (R421, R435, R436). -/
def endLog (s : State) : State :=
  let s := if s.store.paging.isSome then writePage s else s
  s.modStore fun t => { t with erasing := t.erasing.map fun _ => 0 }

/-- Every output released (R30): terminations, transmitters, and the open-drain SMDAT and SMCLK, on which the transaction in progress
ends. -/
def releaseOutputs (s : State) : State :=
  (forSides s fun s i => s.modSide i fun x => { x with term := false, txIdle := true }).modTw fun t => { t with
    pulsing := false, stretch := none, phase := .idle, staged := [] }

/-- The end save of R421, skipped in REST: the mark tells whether it completed. -/
def endSave (saveDone : Bool) (counter : BitVec 64) (s : State) : State :=
  if s.pow.dev == .rest then s else latchTime counter (s.modPow fun p => { p with saved := saveDone })

/-- The end record (R421). -/
def endRecord (s : State) (cause : BitVec 3) (tj : BitVec 10) (vin : BitVec 16) : EndRecord :=
  { cause, stamp := s.now, tj, vin, storing := by1 (structureCode s.store), sweep := s.sweep.st == 2 || s.sweep.st == 3 }

/-- A run ends with a cause (R26, R421): the device is HELD, or in thermal shutdown. `tj` and `vin` are the readings the end
record keeps. Nothing where no run is in progress: the record keeps the first cause (R420). -/
def endRun (cause : BitVec 3) (saveDone : Bool) (counter : BitVec 64) (tj : BitVec 10) (vin : BitVec 16) (s : State) : State :=
  if alive s = false then s
  else
    let rec' := endRecord s cause tj vin
    let s := endSave saveDone counter (endLog (endStore (releaseOutputs s)))
    let s := flushCoalesced (fun _ => true) (switchOff (s.modPow fun p => { p with ended := some rec', rest := .none, aoKept := true }))
    (s.modPow fun p => { p with dev := .held, resetDue := none }).modCpu fun _ => { running := false, revive := false }

/-- UNDERVOLTAGE_LOCKOUT (R26, R421, R422). `saveDone` tells whether the end save wrote its completion mark. -/
def execUndervoltageLockout (vinMv : BitVec 16) (saveDone : Bool) (counter : BitVec 64) (s : State) : Host.Outcome State Fault Refusal :=
  done s (endRun 1 saveDone counter s.win.tj vinMv (s.modPow fun p => { p with lockout := true }))

/-- RESET_N_ASSERTED (R419, R421). -/
def execResetNAsserted (saveDone : Bool) (counter : BitVec 64) (s : State) : Host.Outcome State Fault Refusal :=
  done s (endRun 3 saveDone counter s.win.tj s.win.vin (s.modPow fun p => { p with resetN := true }))

/-- THERMAL_SHUTDOWN at 140 °C (R26, R448). -/
def execThermalShutdown (halfDegrees : Int) (counter : BitVec 64) (s : State) : Host.Outcome State Fault Refusal :=
  done s <|
    if alive s && decide (280 ≤ halfDegrees) then
      endRun 2 true counter (BitVec.ofInt 10 halfDegrees) s.win.vin (s.modPow fun p => { p with thermal := true })
    else s

/-- DEVICE_RESET_EFFECT: at the first sheet boundary after the reply is written, or after the TX line that carries it (R391). -/
def execDeviceResetEffect (counter : BitVec 64) (s : State) : Host.Outcome State Fault Refusal :=
  done s (if s.pow.resetDue = some false then endRun 4 true counter s.win.tj s.win.vin s else s)

/-- VAO_LOST: VAO has no supply; AO memory, spine time and the AO counts are lost, and the device is OFF (R398). -/
def execVaoLost (s : State) : Host.Outcome State Fault Refusal :=
  done s <|
    let s := endRun 1 false s.time.c0 s.win.tj s.win.vin s
    let s := s.modPow fun p => { p with
      dev := .off, saved := false, aoKept := false, ended := none, onVbak := false, charging := 1, topUp := false, vbak := 0
      crossings := Vector.replicate 64 0, restT := 0, idleNs := 0, chargeNext := none, charger := 0b0100, lockout := true }
    let s := s.modMbx fun m => { m with hold := [], coal := [] }
    (s.modStore fun t => { t with staged := [], stageNs := 0, logLost := 0 }).modTime fun t => { t with spine := 0, t0 := 0, c0 := 0, f0 := 0, stSaved := 0 }

end Sys2Proof.Machine
end

