-- ==== Sys2Proof/Machine/WindowCmds.lean ====
section
/-! DEFINITION. Writes to the register window and what they do: the ring indices (R316, R318, R324), attention causes
(R312), ownership's YIELD (R324), the watchdog (R329, R331), the emergency register (R330). -/

namespace Sys2Proof.Machine

/-- A refused index write: BADIDX and event 0x0910 (R316). -/
def indexRefused (s : State) (k n : Nat) : State :=
  raise (s.modWin fun w => { w with cBadidx := true }) 0x0910 ([by1 k] ++ be 2 n)

/-- Ring entries a doorbell covers, arriving together in ring order (R318). -/
def ringArrivals (n : Nat) : List Arrival :=
  List.replicate n { issuer := .twoWire, body := none, rtag := 0, lat := 0, answered := false, disowned := false }

/-- A write of CMD_HEAD by the two-wire side (R316, R318, R324). -/
def writeCmdHead (s : State) (n : BitVec 16) : State :=
  let w := s.win
  if w.owner ≠ 0 then s.modWin fun w => { w with notOwn := satInc w.notOwn }
  else
    let have' := (w.cmdHead - w.cmdTail).toNat
    let want := (n - w.cmdTail).toNat
    if have' ≤ want ∧ want ≤ 64 then
      (s.modWin fun w => { w with cmdHead := n }).modMbx fun m => { m with arrived := m.arrived ++ ringArrivals (want - have') }
    else indexRefused s 4 n.toNat

/-- A tail may move from `t` to `n` under head `h` (R316). -/
def tailMoves (h t n : BitVec 16) : Bool := decide ((h - n).toNat ≤ (h - t).toNat)

/-- A write of a consumer tail (R316). -/
def writeTail (s : State) (r : RingSel) (n : BitVec 16) : State :=
  let w := s.win
  match r with
  | .reply => if tailMoves w.rplHead w.rplTail n then s.modWin fun w => { w with rplTail := n } else indexRefused s 5 n.toNat
  | .event => if tailMoves w.evtHead w.evtTail n then s.modWin fun w => { w with evtTail := n } else indexRefused s 6 n.toNat
  | .trace => if tailMoves w.trcHead w.trcTail n then s.modWin fun w => { w with trcTail := n } else indexRefused s 7 n.toNat

/-- ATTN_CAUSE: a 1 clears a latched cause (R311, R312). -/
def clearCauses (s : State) (v : R40) : State :=
  s.modWin fun w => { w with
    cWdog := w.cWdog && !bit v 36, cLost := w.cLost && !bit v 35, cOwn := w.cOwn && !bit v 34
    cGulcy := w.cGulcy && !bit v 33, cBadidx := w.cBadidx && !bit v 31 }

/-- OWN.YIELD, taken only while the two-wire side owns the rings (R324). -/
def writeYield (s : State) (v : R40) : State :=
  if s.win.owner = 0 then s.modWin fun w => { w with yielding := bit v 36 } else s

/-- WDOG: TIMEOUT and ARM_RESET; the count restarts (R329). -/
def writeWdog (s : State) (v : R40) : State :=
  s.modWin fun w => { w with wdTimeout := BitVec.ofNat 16 (fld v 39 24), wdArm := bit v 23, wdCount := 0 }

/-- MGT_STATUS: a 1 clears a flag, SCL_STUCK and SDA_STUCK only once their condition has ended (R302, R308). -/
def clearMgtStatus (s : State) (v : R40) : State :=
  s.modWin fun w => { w with
    sclStuck := w.sclStuck && !(bit v 35 && !s.tw.sclLow), sdaStuck := w.sdaStuck && !(bit v 34 && !s.tw.sdaLow)
    pecErr := w.pecErr && !bit v 33, partialWr := w.partialWr && !bit v 32, nacked := w.nacked && !bit v 31 }

/-- A scan line disabled at once: ENABLE clear, its driver released (R330, R265). -/
def stopScanLine (x : ScanLine) : ScanLine :=
  { x with cfg := setFld x.cfg 39 39 0, cfgNext := none, act := none, ended := none, driver := false, sendEnds := none }

/-- RELEASE_IO: the lock broken with cause host, the Veneer and every scan line disabled (R330). -/
def releaseIo (s : State) : State :=
  let s := breakLock s 2
  let s := afterBridge (applyVenCfg s (setFld s.ven.cfg 7 7 0))
  settleDomains (s.modScan fun c => { c with lines := c.lines.map stopScanLine })

/-- A write to EMERG (R330): without the key nothing but event 0x0915; with it, the actions in their order. -/
def writeEmerg (s : State) (v : R40) : State :=
  if fld v 39 32 ≠ 0x5A then raise s 0x0915 []
  else
    let s := raise s 0x0914 [by1 (fld v 31 28)]
    let s := if bit v 29 then afterBridge (breakLock s 2) else s
    let s := if bit v 28 then releaseIo s else s
    let s := if bit v 30 then setOwner s 0 true 0 3 else s
    if bit v 31 then resetGulcy s 1 else s

/-- A whole write of window register `k` (R294, R310, R311). Registers without RW, W1C or WO fields ignore it. -/
def windowWrite (s : State) (k : Nat) (v : R40) : State :=
  match k with
  | 2 => clearCauses s v
  | 3 => s.modWin fun w => { w with attnMask := pack 40 [(fld v 39 30, 30)] }
  | 4 => writeCmdHead s (BitVec.ofNat 16 (fld v 39 24))
  | 5 => writeTail s .reply (BitVec.ofNat 16 (fld v 23 8))
  | 6 => writeTail s .event (BitVec.ofNat 16 (fld v 23 8))
  | 7 => writeTail s .trace (BitVec.ofNat 16 (fld v 23 8))
  | 9 => writeYield s v
  | 10 => writeWdog s v
  | 11 => writeEmerg s v
  | 12 => s.modWin fun w => { w with mgtCfg := pack 40 [(fld v 39 37, 37)] }
  | 13 => clearMgtStatus s v
  | 19 => s.modWin fun w => { w with trcCfg := pack 40 [(fld v 39 38, 38)] }
  | 20 => s.modWin fun w => { w with scratch := v }
  | _ => s

/-- Bytes of a register delivered without covering all five: discarded, PARTIAL, event 0x0904 (R294). -/
def partialWrite (s : State) (k : Nat) : State :=
  raise (s.modWin fun w => { w with partialWr := true }) 0x0904 [by1 k]

/-- A data byte of a write with PEC staged; the 163rd byte after the address is refused and everything discarded (R304). -/
def stageByte (s : State) (b : Byte) : State :=
  if s.tw.staged.length < 162 then s.modTw fun t => { t with staged := t.staged ++ [b] }
  else
    let d := [s.tw.addr, s.tw.staged.headD 0]
    let s := s.modTw fun t => { t with staged := [], phase := .nacking }
    raise (s.modWin fun w => { w with nacked := true }) 0x0905 d

/-- Data bytes reach the window in a write segment: staged in a transaction with PEC, else applied (R294, R304). Five bytes
are one write of register `k`; fewer are a partial write. The pointer stands past them; the rest of a refused segment is NACKed
and reaches nothing (R293). -/
def windowBytes (s : State) (k : Nat) (bs : List Byte) : State :=
  if s.tw.phase == .nacking then s
  else if s.tw.pec && s.tw.phase == .winData then bs.foldl stageByte s
  else if bs.length = 5 then
    (windowWrite s k (BitVec.ofNat 40 (ofBe bs))).modTw fun t => { t with winPtr := (5 * k + 5) % 160 }
  else (partialWrite s k).modTw fun t => { t with winPtr := (t.winPtr + bs.length) % 160 }

/-- WINDOW_REGISTER_WRITE (R294). -/
def execWindowRegisterWrite (k : Fin 32) (bytes : List Byte) (s : State) : Host.Outcome State Fault Refusal :=
  done s (windowBytes s k.val bytes)

/-- CMD_HEAD_DOORBELL: a write of CMD_IDX (R316, R318, R324). -/
def execCmdHeadDoorbell (v : R40) (s : State) : Host.Outcome State Fault Refusal :=
  done s (windowBytes s 4 (imgBytes v))

/-- RING_TAIL_WRITE: a write of RPL_IDX, EVT_IDX or TRC_IDX (R316). -/
def execRingTailWrite (ring : RingSel) (v : R40) (s : State) : Host.Outcome State Fault Refusal :=
  done s (windowBytes s (match ring with | .reply => 5 | .event => 6 | .trace => 7) (imgBytes v))

/-- ATTN_CAUSE_CLEAR (R312). -/
def execAttnCauseClear (v : R40) (s : State) : Host.Outcome State Fault Refusal :=
  done s (windowBytes s 2 (imgBytes v))

/-- OWN_YIELD_WRITE (R324). -/
def execOwnYieldWrite (v : R40) (s : State) : Host.Outcome State Fault Refusal :=
  done s (windowBytes s 9 (imgBytes v))

/-- WDOG_WRITE (R329). -/
def execWdogWrite (v : R40) (s : State) : Host.Outcome State Fault Refusal :=
  done s (windowBytes s 10 (imgBytes v))

/-- EMERG_LOCK_BREAK: a write of EMERG with LOCK_BREAK set (R330). -/
def execEmergLockBreak (v : R40) (s : State) : Host.Outcome State Fault Refusal :=
  done s (windowBytes s 11 (imgBytes (setFld v 29 29 1)))

/-- EMERG_RELEASE_IO: a write of EMERG with RELEASE_IO set (R330). -/
def execEmergReleaseIo (v : R40) (s : State) : Host.Outcome State Fault Refusal :=
  done s (windowBytes s 11 (imgBytes (setFld v 28 28 1)))

/-- EMERG_RECLAIM: a write of EMERG with RECLAIM set (R330). -/
def execEmergReclaim (v : R40) (s : State) : Host.Outcome State Fault Refusal :=
  done s (windowBytes s 11 (imgBytes (setFld v 30 30 1)))

/-- EMERG_CPU_RESET: a write of EMERG with CPU_RESET set (R330, R331). -/
def execEmergCpuReset (v : R40) (s : State) : Host.Outcome State Fault Refusal :=
  done s (windowBytes s 11 (imgBytes (setFld v 31 31 1)))

/-- WATCHDOG_EXPIRED: TIMEOUT ms have been counted; WDOG and event 0x0912; the service processor is reset only where ARM_RESET permits
it (R329, R29). With TIMEOUT 0 the watchdog never expires. -/
def execWatchdogExpired (s : State) : Host.Outcome State Fault Refusal :=
  done s <|
    if s.win.wdTimeout = 0 ∨ domOn s 37 = false ∨ s.win.wdCount < s.win.wdTimeout.toNat * 1000000 then s
    else
      let s := raise (s.modWin fun w => { w with cWdog := true, wdCount := 0 }) 0x0912 [by1 (b2n s.win.wdArm)]
      if s.win.wdArm then resetGulcy s 0 else s

/-- No store is in progress but an open firmware update that waits for its next command. -/
def updateRests (t : Store) : Bool :=
  match t.job with
  | none => true
  | some (.fwOpen _ _ _ _ _ _ _ committing _ _) => !committing
  | _ => false

/-- Commands that were taken and unreplied at the reset, answered CANCELLED_PARTIAL in their order; a store they ran ends
(R331, R70, R389). -/
def answerRevived (s : State) : State :=
  let l := s.mbx.taken
  let s := s.modMbx fun m => { m with taken := [] }
  let s := if l.isEmpty && updateRests s.store then s else breakStore s
  l.foldl (fun s t => writeReply s t.req.issuer t.opcode t.req.tag t.rtag t.lat ⟨0x05, []⟩) s

/-- GULCY_RESTARTED: Gulcy runs again from its bank, answers what the reset cut, and sets GULCY_UP (R331). -/
def execGulcyRestarted (s : State) : Host.Outcome State Fault Refusal :=
  done s <|
    if s.cpu.revive then
      let s := s.modCpu fun _ => { running := true, revive := false }
      answerRevived (s.modWin fun w => { w with gulcyUp := true, cGulcy := true, wdCount := 0 })
    else s

end Sys2Proof.Machine
end

