-- ==== Sys2Proof/Machine/StartRows.lean ====
section
/-! DEFINITION. A start: reset release and the straps (R419, R420, R423 to R425), the boot ROM's candidates (R427, R428), Gulcy's
start with the reports of the last run, the configuration copy, the boot Mould and the log pages (R426, R429 to R431,
R438 to R440). -/

namespace Sys2Proof.Machine

/-! ### Reset release -/

/-- A tri-level strap as 0, 1 or 2: low, open, high (R290). -/
def strapLevel (t : TriLevel) : Nat := match t with | .low => 0 | .float => 1 | .high => 2

/-- RESET_KIND (Table 17.1): power-up where VAO had been lost, else the end record's cause. -/
def startKind (p : Power) : BitVec 3 :=
  if p.aoKept then (match p.ended with | some e => e.cause | none => 0) else 0

/-- Calibration registers of a side restored from AO memory, SEEDED 1 (R199, R424). -/
def restoredSide (x : Side) : Side :=
  { rxeq := x.rxeq, dfeA := x.dfeA, dfeB := x.dfeB, trim := setFld x.trim 20 20 1, soff := x.soff, calCfg := x.calCfg }

/-- What a start keeps of a path: the levels on its pins. -/
def startPath (x : Path) : Path := { perst := x.perst, clkreq := x.clkreq, refclk := x.refclk }

/-- The flash, and with valid AO memory the log staging (R424, R432). -/
def startStore (ao : Bool) (t : Store) : Store :=
  { banks := t.banks, slots := t.slots, copies := t.copies, eui48 := t.eui48, eui64 := t.eui64, serial := t.serial, made := t.made
    identOk := t.identOk, pinCal := t.pinCal, log := t.log, logAt := t.logAt, pseq := t.pseq, erasing := t.erasing
    staged := if ao then t.staged else [], stageNs := if ao then t.stageNs else 0, logLost := if ao then t.logLost else 0 }

/-- What R162 reloads from, with valid AO memory. -/
def startTime (ao : Bool) (t : TimeIsl) : TimeIsl :=
  if ao then { t0 := t.t0, c0 := t.c0, f0 := t.f0, stSaved := t.stSaved, freqAdj := t.freqAdj, xtalAdj := t.xtalAdj } else {}

/-- The AO domain at a start. -/
def startPower (ao : Bool) (p : Power) : Power :=
  { dev := .boot, aoKept := p.aoKept, aoValid := ao, ended := p.ended, onVbak := p.onVbak, vbak := p.vbak }

/-- Window registers at a start: the sampled straps, the kind of start, AO_INVALID (R420, R423, R425). -/
def startWindow (p : Power) (ao : Bool) (x : Straps) : Window :=
  { maddrN := BitVec.ofNat 4 (3 * strapLevel x.maddr1 + strapLevel x.maddr0), pathBoot := x.pathBoot, svcBoot := x.svcMode
    resetKind := startKind p, aoInvalid := !ao }

/-- A bank the boot ROM has not tried in this start and whose record is valid: the one with the higher sequence number (R427). -/
def candidate (s : State) : Option (Fin 2) :=
  let ok := fun (k : Fin 2) => s.store.banks[k].valid && !s.pow.tried[k]
  if ok 0 && ok 1 then (if s.store.banks[0].seq < s.store.banks[1].seq then some 1 else some 0)
  else if ok 0 then some 0
  else if ok 1 then some 1
  else none

/-- The device with no way to start stays in BOOT for the rest of the run (R428). -/
def judgeStart (s : State) : State :=
  s.modPow fun p => { p with stuck := !s.store.identOk || (candidate s).isNone }

/-- Everything a start leaves (Table 17.2), before the stored configuration. -/
def startState (x : Straps) (s : State) : State :=
  let ao := s.pow.aoKept && s.pow.saved
  { State.reset with
    win := startWindow s.pow ao x
    mbx := if ao then { hold := s.mbx.hold, evtSeq := s.mbx.evtSeq } else {}
    sides := if ao then s.sides.map restoredSide else State.reset.sides
    paths := s.paths.map startPath
    time := startTime ao s.time
    svc := { mode := ⟨x.svcMode.toNat % 4, by omega⟩ }
    ven := { seen := s.ven.seen, breq := s.ven.breq, tap := if ao then s.ven.tap else State.reset.ven.tap }
    scan := { lines := if ao then s.scan.lines.map (fun l => { cal := pack 40 [(fld l.cal 39 33, 33)] }) else State.reset.scan.lines }
    store := startStore ao s.store
    pow := startPower ao s.pow
    free := s.free
    pending := s.pending }

/-- RESET_RELEASE: the last condition of R419 ends. Straps are sampled, D37, D38 and D41 come on, and with valid AO memory the held
events enter the ring (R419 to R426). -/
def execResetRelease (straps : Straps) (s : State) : Host.Outcome State Fault Refusal :=
  done s <|
    if s.pow.dev == .held || s.pow.dev == .off then
      let s := settleDomains (judgeStart (startState straps s))
      if s.pow.aoValid then releaseHold s else s
    else s

/-! ### Banks -/

/-- The boot ROM still looks for a bank to run. -/
def booting (s : State) : Bool := s.pow.dev == .boot && !s.cpu.running && !s.pow.stuck

/-- BANK_START_FAILED: event 0x0B02 with the bank and the reason; the next candidate is tried with FALLBACK set, and with none left
the device stays in BOOT (R427, R428). -/
def execBankStartFailed (reason : Byte) (s : State) : Host.Outcome State Fault Refusal :=
  done s <|
    match booting s, candidate s with
    | true, some k =>
      let s := raise (s.modPow fun p => { p with tried := vmod p.tried k fun _ => true }) 0x0B02 [by1 k.val, reason]
      if (candidate s).isSome then s.modWin fun w => { w with fallback := true } else s.modPow fun p => { p with stuck := true }
    | _, _ => s

/-! ### Reports of the last run -/

/-- Events 0x0C20, 0x0B05 and 0x0422 of a start with valid AO memory (R183, R424, R436, R440). Which plan ran and which point it
completed last is lost with the run (log entry 1). -/
def reportEnd (s : State) : State :=
  match s.pow.aoValid, s.pow.ended with
  | true, some e =>
    let s := raise s 0x0C20 ([by1 e.cause.toNat] ++ stampBytes e.stamp ++ sbe 1 (signedOf 10 e.tj.toNat / 2) ++ be 2 e.vin.toNat)
    let s := if e.storing = 0 then s else raise s 0x0B05 [e.storing, by1 s.win.resetKind.toNat]
    if e.sweep then
      let plan := s.openNat
      let last := s.usedFree.openNat
      raise s.usedFree.usedFree 0x0422 [by1 plan, 2, by1 last]
    else s
  | _, _ => s

/-! ### The boot Mould -/

/-- A slot as a boot Mould: its Mould, or the reason it is passed over (R429). -/
def slotMould (s : State) (k : Fin 2) : Except Nat Mould :=
  if s.store.slots[k].valid = false then .error 0x20
  else
    let bs := slotBytes s k
    match loaderCheck bs bs.length with
    | some o => .error o.reason.toNat
    | none => .ok (toMould bs)

/-- A Mould put in force as the boot Mould. -/
def bootWith (s : State) (m : Mould) (source : Byte) : State := s.modSeq fun q => { q with active := some m, source := source }

/-- The boot Mould chosen, event 0x0B04 for each slot passed over (R429). -/
def chooseMould (s : State) : State :=
  match slotMould s 0 with
  | .ok m => bootWith s m 0
  | .error r0 =>
    let s := raise s 0x0B04 [0, by1 r0]
    match slotMould s 1 with
    | .ok m => bootWith s m 1
    | .error r1 => bootWith (raise s 0x0B04 [1, by1 r1]) baseMould 3

/-! ### The stored configuration -/

/-- A stored item applied as its command would; one that fails raises event 0x0B06 with its group, its number and the status (R430). -/
def item (group index : Nat) (h : Req → State → Result) (payload : List Byte) (s : State) : State :=
  let x := h { issuer := .twoWire, tag := 0, len := by1 payload.length, payload := payload } s
  match x.2 with
  | some r => if r.status = 0 then x.1 else raise s 0x0B06 ([by1 group] ++ be 2 index ++ [by1 r.status])
  | none => x.1

/-- Group 1: the two-wire settings, ATTN_MASK and WDOG. -/
def applyGroup1 (c : StoredConfig) (s : State) : State :=
  writeWdog (s.modWin fun w => { w with mgtCfg := c.mgtCfg, attnMask := c.attnMask }) c.wdog

/-- Group 2: the time settings and the PTP source address. An address never set is no item. -/
def applyGroup2 (c : StoredConfig) (s : State) : State :=
  let s := item 2 0 doTimeCfgSet (imgBytes c.timeCfg) s
  let s := (upto 5).foldl (fun s i => item 2 0 doDelaySet ([by1 i] ++ sbe 4 (vget c.delays i)) s) s
  if c.ptpIp = 0 then s else item 2 0 doPtpIpSet (be 4 c.ptpIp.toNat) s

/-- One stored session. Nothing binds one that was unbound. -/
def applySession (c : StoredConfig) (s : State) (k : SessionId) : State :=
  let x := c.sessions[k]
  let s := match x.1 with
    | some a => item 3 k.val doSessionBind ([by1 k.val] ++ be 6 a.toNat) s
    | none => s
  let s := item 3 k.val doSessionCredits ([by1 k.val] ++ x.2.1.toList.map by1) s
  let s := item 3 k.val doSessionPolicy ([by1 k.val] ++ be 2 x.2.2.1.toNat) s
  if x.1.isSome then item 3 k.val doEvtMaskSet ([by1 k.val] ++ be 2 x.2.2.2.toNat) s else s

/-- Group 3: the service-port mode and DOVE_ETYPE, then the sessions. -/
def applyGroup3 (c : StoredConfig) (s : State) : State :=
  forSessions (item 3 0 doSvcSet ([by1 c.svcMode.val] ++ be 2 c.etype.toNat) s) (applySession c)

/-- Group 4: the Veneer registers. -/
def applyGroup4 (c : StoredConfig) (s : State) : State :=
  let s := item 4 0 doVenSet (imgBytes c.venCfg) s
  let s := (List.finRange 16).foldl (fun s w => item 4 w.val doVwinSet ([by1 w.val] ++ imgBytes c.base[w] ++ imgBytes c.win[w]) s) s
  item 4 0 doVupSet (imgBytes c.up) (item 4 0 doVirqSet (imgBytes c.irq) (item 4 0 doVmstSet (imgBytes c.mst) s))

/-- A stored template, as both parts of TEMPLATE_SET write it. -/
def applyTemplate (s : State) (p : Nat × List Byte) : State := item 5 p.1 (fun _ s => setTemplate s p.1 (cleanTemplate p.2)) [] s

/-- A stored bundle with its members. -/
def applyBundle (s : State) (p : Nat × List Byte × List (BitVec 16)) : State :=
  let members := p.2.2.zipIdx.map fun m => (p.1, m.2, m.1)
  let t := item 5 p.1 doBundleSet ([by1 p.1] ++ slice p.2.1 0 16) (s.modScan fun c => { c with members := members })
  t.modScan fun c => { c with members := [] }

/-- Group 5: the scan line settings, templates, signal definitions and bundles. Match templates come before those that name
them. -/
def applyGroup5 (c : StoredConfig) (s : State) : State :=
  let s := (List.finRange 4).foldl (fun s l => item 5 l.val doScanSet ([by1 l.val] ++ imgBytes c.scanCfg[l]) s) s
  let s := (c.templates.filter fun p => tKind p.2 == 1).foldl applyTemplate s
  let s := (c.templates.filter fun p => tKind p.2 != 1).foldl applyTemplate s
  let s := c.signals.foldl (fun s p => item 5 p.1 doSignalSet (be 2 p.1 ++ slice p.2 0 16) s) s
  c.bundles.foldl applyBundle s

/-- Group 6: the timers and the charger. -/
def applyGroup6 (c : StoredConfig) (s : State) : State :=
  let s := item 6 0 doTimersSet ((c.pathT.toList.map fun t => be 2 t.toNat).flatten ++ be 3 c.restT.toNat) s
  item 6 0 doChargerSet [by1 c.charger.toNat] s

/-- A stored TXEQ value of a side and rate set, checked for its ranges. -/
def applyTxeq (p : PathId) (c : StoredConfig) (s : State) (i : SideId) : State :=
  (List.finRange 4).foldl (fun s k =>
    let v := c.txeq[i][k]
    if txeqOk v then s.modSide i fun x => { x with txeq := vmod x.txeq k fun _ => v }
    else raise s 0x0B06 ([7] ++ be 2 p.val ++ [0x01])) s

/-- A stored PATH_CFG. A group comes up from its copy as a whole: BOND is judged with the other strapped paths as the copy has
them (R93, R430, log entry 32). -/
def applyPathCfg (c : StoredConfig) (s : State) (p : PathId) : State :=
  let u := forPaths s fun u q => if q ≠ p ∧ bit s.win.pathBoot q.val = true then u.modPath q fun x => { x with cfg := c.pathCfg[q] } else u
  match (doPathSet { issuer := .twoWire, tag := 0, len := 6, payload := [by1 p.val] ++ imgBytes c.pathCfg[p] } u).2 with
  | some r =>
    if r.status = 0 then applyPathSet s p c.pathCfg[p] else raise s 0x0B06 ([7] ++ be 2 p.val ++ [by1 r.status])
  | none => s

/-- Group 7 of a strapped path, PIN_LAT apart. -/
def applyPath (c : StoredConfig) (s : State) (p : PathId) : State :=
  let s := (sidesOf p).foldl (applyTxeq p c) s
  let proto := fun (reg : Nat) (v : R40) (s : State) => item 7 p.val doProtoSet ([by1 p.val, by1 reg] ++ imgBytes v) s
  let s := proto 2 c.lineCfg[p] (proto 1 c.bpCfg[p] (proto 0 c.pcieCfg[p] s))
  applyPathCfg c s p

/-- Group 7: every strapped path, then their PIN_LAT, so that the members of a bond group meet R93 as they are set. -/
def applyGroup7 (c : StoredConfig) (s : State) : State :=
  let strapped := (List.finRange 4).filter fun p => bit s.win.pathBoot p.val
  strapped.foldl (fun s p => item 7 p.val doPinSet ([by1 p.val] ++ be 4 c.pinLat[p].toNat) s) (strapped.foldl (applyPath c) s)

/-- The configuration copy of a start: the valid one with the higher sequence number (R430). -/
def chosenCopy (t : Store) : Option (Fin 2) :=
  let a := t.copies[0]
  let b := t.copies[1]
  if a.valid && b.valid then (if a.seq < b.seq then some 1 else some 0)
  else if a.valid then some 0
  else if b.valid then some 1
  else none

/-- The stored configuration applied in the order of R430; event 0x0B03 where no copy is valid. -/
def applyConfig (s : State) : State :=
  match chosenCopy s.store with
  | none => raise s 0x0B03 [1, 1]
  | some k =>
    match s.store.copies[k].data with
    | none => s
    | some c => applyGroup7 c (applyGroup6 c (applyGroup5 c (applyGroup4 c (applyGroup3 c (applyGroup2 c (applyGroup1 c s))))))

/-! ### Gulcy starts -/

/-- Staged log pages written before the first sheet, at most so many; writing waits for an erase it needs (R438). -/
def writePages : Nat → State → State
  | 0, s => s
  | n + 1, s => if s.store.staged.isEmpty || pageBlocked s.store then s else writePages n (writePage s)

/-- AO state of event 0x0B01: 0 valid, 1 VAO lost, 2 end save incomplete (Table 17.9). -/
def aoState (p : Power) : Nat := if p.aoValid then 0 else if p.aoKept then 2 else 1

/-- The configuration copy a start reports: 0, 1 or 0xFF. -/
def copyByte (t : Store) : Byte := match chosenCopy t with | some k => by1 k.val | none => 0xFF

/-- The window once Gulcy runs from a bank: BOOT.BANK, CORE on its PLL, and ID with CONTRACT 3 and the release 3.2 (R1, R47, R311,
R427). -/
def runBank (k : Fin 2) (s : State) : State :=
  (s.modCpu fun _ => { running := true, revive := false }).modWin fun w => { w with
    bootBank := k == 1, coreClk := true, id := pack 40 [(0x1640, 24), (3, 20), (3, 16), (3, 8), (2, 0)] }

/-- BANK_STARTED (R47, R426 to R431, R438, R440). -/
def execBankStarted (s : State) : Host.Outcome State Fault Refusal :=
  done s <|
    match booting s, candidate s with
    | true, some k =>
      let s := applyConfig (chooseMould (reportEnd (runBank k s)))
      let w := s.win
      let s := raise s 0x0B01 [by1 w.resetKind.toNat, by1 (b2n w.bootBank), by1 (b2n w.fallback), by1 (aoState s.pow), copyByte s.store, s.seq.source]
      settleDomains (writePages 8 (s.modPow fun p => { p with ended := none }))
    | _, _ => s

end Sys2Proof.Machine
end

