-- ==== Sys2Proof/Machine/SheetRows.lean ====
section
/-! DEFINITION. The sequencer's own events: the end of a line (R22, R43, R54, R77) and a sheet boundary with what happens at it
(R32, R50 to R53, R71 to R74, R202, R272, R280, R284, R285, R391, R414, R441). -/

namespace Sys2Proof.Machine

/-! ### Ends of lines -/

/-- An action whose own part the line bounds, so that its end is no overrun (R77); those of VEN and SCAN lines are judged with
what they run. -/
def boundByLine (a : Nat) : Bool :=
  a == 0x11 || a == 0x21 || a == 0x30 || a == 0x40 || a == 0x41 || a == 0x43 || (decide (0x50 ≤ a) && decide (a ≤ 0x53))
    || (decide (0x60 ≤ a) && decide (a ≤ 0x63))

/-- Margin commands that waited for a sweep step on sides of a path take effect once no step holds them (R119). -/
def endSweepStep (p : PathId) (s : State) : State :=
  (sidesOf p).foldl (fun s i =>
    if sweepStep s i then s else s.modSide i fun x => match x.deferred with | some c => takeMargin c x | none => x) s

/-- What the end of a line does beside its overrun. -/
def endAction (r : RunLine) (l : Line) (s : State) : State :=
  if r.table = 5 then endVenLine s r.idx l
  else if r.table = 6 then endScanLine s r.idx l
  else match l.action with
    | 0x14 => s.modPow fun p => { p with rest := if p.rest == .saving then .none else p.rest }
    | 0x30 => s.modSvc fun b => { b with leaving := [] }
    | 0x62 => endSweepStep (Fin.ofNat 4 (r.table.val - 1)) s
    | _ => s

/-- A running line ends: its end tokens, an overrun where its own part is unfinished, the end of its action (R43, R45, R54, R77). -/
def endLine (unfinished : Bool) (s : State) (r : RunLine) : State :=
  let s := s.modSeq fun q => { q with running := q.running.erase r }
  match lineAt s r.table.val r.idx with
  | none => s
  | some l =>
    let s := elapseTo (tickStamp s (l.start + l.duration)) s
    let s := if r.tokens then
        tokensAbsent s { table := r.table.val, index := r.idx, line := l } (tickStamp s (l.start + l.duration)) else s
    if r.acts = false then s
    else
      let s := if unfinished && !boundByLine l.action then overrunLine s r.table r.idx else s
      endAction r l s

/-- LINE_END: the end token of a running line takes effect; `unfinished` tells whether its own part still runs (R54, R77). -/
def execLineEnd (table : Fin 9) (idx : Nat) (unfinished : Bool) (s : State) : Host.Outcome State Fault Refusal :=
  done s <|
    match s.seq.running.find? fun r => r.table == table && r.idx == idx with
    | some r => endLine unfinished s r
    | none => s

/-! ### Sheets -/

/-- A step of spine time applied at the boundary: event 0x0403 with its size in ns and the number of the sheet after it, and a sweep
broken off (R32, R183, R184). -/
def applyStep (s : State) : State :=
  match s.time.step with
  | none => s
  | some d =>
    let s := s.modTime fun t => { t with step := none, spine := BitVec.ofInt 112 ((t.spine.toNat : Int) + d * 2 ^ 32) }
    let s := raise s 0x0403 (sbe 8 (offsetNs d) ++ be 5 (s.seq.sheet + 1).toNat)
    match s.sweep.point with
    | some k => abortSweep (if s.sweep.st = 3 then flagPoint s k 2 else s) 1
    | none => abortSweep s 1

/-- A follower's sheet without a good mark counts one missing mark, and one of the sync chain loop does (R173, R462). -/
def judgeMark (s : State) : State :=
  s.modTime fun t => { t with
    mark := false, missed := if (timeSource t = 3 ∨ s.test.loopSync = true) ∧ t.mark = false then satInc t.missed else t.missed }

/-- A Mould put in force at tick 0 of its sheet, event 0x0510; a SCAN chain of the old Mould has ended, and a plan whose sheet
period is gone is aborted (R72, R73, R354). -/
def swapMould (s : State) (x : PendingMould) : State :=
  let s := if x.mould.sheetN = sheetN s then s else abortSweep s 5
  let s := s.modSeq fun q => { q with active := some x.mould, source := x.source, since := x.sheet, shadow := none }
  let s := s.modScan fun c => { c with lines := c.lines.map fun l => { l with act := none, ended := none, driver := false, sendEnds := none } }
  settleDomains (raise s 0x0510 (be 4 x.mould.imageId.toNat ++ be 5 x.sheet.toNat))

/-- The pending activation at a boundary: taken in its sheet if the start is a boundary of its period, cancelled where it is not or
where its sheet has passed (R72 to R74). -/
def judgeShadow (s : State) : State :=
  match s.seq.shadow with
  | none => s
  | some x =>
    if x.sheet = s.seq.sheet then
      (if isBoundary x.mould.sheetN s.seq.base.toNat then swapMould s x else dropShadow s 0x12)
    else if liesAhead x.sheet s.seq.sheet then s
    else dropShadow s 0x12

/-- Ages of measurements one sheet older, where the logic that holds them is on (R178, R202, R402). -/
def ageMeasured (s : State) : State :=
  let s' := forSides s fun s i =>
    if domOn s (i.val + 1) then s.modSide i fun x => { x with calAge := satInc x.calAge, pinAge := satInc x.pinAge } else s
  if domOn s 45 then s'.modVen fun v => { v with qAge := v.qAge.map satInc } else s'

/-- Waiting requests and scan settings have passed one more boundary (R229, R264). -/
def passBoundary (s : State) : State :=
  let s := s.modSvc fun b => { b with recs := b.recs.map fun r => if r.started then r else { r with wait := r.wait + 1 } }
  s.modScan fun c => { c with lines := c.lines.map fun x => { x with cfgNext := x.cfgNext.map fun v => (v.1, true) } }

/-- What every tick 0 does once the sheet has its number and its start: `k` boundaries have passed for the ages kept through
REST. -/
def tickZero (k : Nat) (s : State) : State :=
  passBoundary (ageCommands (ageMeasured (ageScan k (applyDefs (judgeShadow s)))))

/-- A sheet begins at boundary `b` of the active period with a number. -/
def beginSheet (b : Nat) (number : R40) (s : State) : State :=
  let base := boundaryStamp (sheetN s) b
  s.modSeq fun q => { q with
    sheet := number, base := BitVec.ofNat 80 base, second := base % 2 ^ 40 == 0, stopped := false, firstDue := false }

/-- The first sheet after BOOT takes its boundary's index for number; after REST the last number and the boundaries passed, with
event 0x0A02 (R52, R414). Bundles are evaluated for the last sheet before REST, as its values stood (R284). -/
def firstSheet (s : State) : State :=
  let n := sheetN s
  let b := boundaryAt n s.now.toNat
  let s := elapseTo (boundaryStamp n b) s
  let s := flushCoalesced (fun c => !perSecond c) s
  if s.pow.dev == .boot then
    let s := (s.modPow fun p => { p with dev := .run }).modWin fun w => { w with devState := 2, sheets := true }
    tickZero 1 (beginSheet b (BitVec.ofNat 40 b) (settleDomains s))
  else
    let k := b - boundaryAt n s.seq.base.toNat
    let s := evaluateBundles s.seq.sheet.toNat s
    let s := (s.modPow fun p => { p with slept := BitVec.ofNat 40 k, exitDue := false }).modWin fun w => { w with devState := 2, sheets := true }
    let s := beginSheet b (s.seq.sheet + BitVec.ofNat 40 k) s
    tickZero k (raise s 0x0A02 ([s.pow.wake] ++ be 2 s.pow.restoreUs.toNat ++ be 5 k))

/-- Every later sheet: the lines that still run end, a step is applied, coalesced events are written, the number advances by one,
bundles are evaluated for the sheet that has ended (R32, R50 to R52, R284, R441). -/
def nextSheet (s : State) : State :=
  let n := sheetN s
  let ended := s.seq.sheet
  let s := elapseTo (boundaryStamp n (boundaryAt n s.seq.base.toNat + 1)) s
  let s := s.seq.running.foldl (endLine false) s
  let stepped := s.time.step.isSome
  let next := boundaryAt n s.seq.base.toNat + 1
  let s := applyStep (judgeMark s)
  let b := if stepped then boundaryAt n s.now.toNat else next
  let s := elapseTo (boundaryStamp n b) s
  let s := flushCoalesced (fun c => !perSecond c) s
  let s := beginSheet b (ended + 1) s
  tickZero 1 (evaluateBundles ended.toNat s)

/-- A first sheet can begin: Gulcy runs with a boot Mould, or the device returns from REST (R426, R414). -/
def firstSheetDue (s : State) : Bool :=
  s.seq.firstDue && s.seq.active.isSome && ((s.pow.dev == .boot && s.cpu.running && !s.pow.stuck) || (s.pow.dev == .run && s.pow.exitDue))

/-- SHEET_BOUNDARY (R50). A DEVICE_RESET that is due takes the place of the next sheet; the holdover count it latches is open
(R391, log entry 1). -/
def execSheetBoundary (s : State) : Host.Outcome State Fault Refusal :=
  done s <|
    if firstSheetDue s then firstSheet s
    else if sheetsRun s = false then s
    else if s.pow.resetDue = some false then
      endRun 4 true (BitVec.ofNat 64 s.openNat) s.win.tj s.win.vin s.usedFree
    else nextSheet s

end Sys2Proof.Machine
end

