-- ==== Sys2Proof/Machine/TestRows.lean ====
section
/-! DEFINITION. PATTERN and LOOP lines (R452 to R456), pattern checkers (R457), the test access port (R463, R464). -/

namespace Sys2Proof.Machine

/-- Transmitters of a lane under test: a looped or pattern side sends, near serial idles at the balls, and the side opposite
a tested one idles unless it is tested itself (R454, Table 19.1). -/
def testTransmit (s : State) (l : LaneId) : State :=
  let n := s.sides[sideOf l 0]
  let f := s.sides[sideOf l 1]
  let idle := fun (own other : Side) =>
    if own.loopDep = 1 then true else if underTest own then false else if underTest other then true else own.txIdle
  (s.modSide (sideOf l 0) fun x => { x with txIdle := idle n f }).modSide (sideOf l 1) fun x => { x with txIdle := idle f n }

/-- One side takes a depth or a select; a value it already has changes nothing, and one that ends both takes the lane through
electrical idle (R453, R454). -/
def testSide (f : Side → Side) (s : State) (i : SideId) : State :=
  let old := s.sides[i]
  let new := f old
  if new = old then s
  else if underTest old && !underTest new then endTest s i
  else testTransmit (s.modSide i fun x => { f x with pinned := false }) (laneOf i)

/-- PATTERN_LINE (R394, R455): on a path whose TEST bit is set. -/
def execPatternLine (p : PathId) (idx : Nat) (s : State) : Host.Outcome State Fault Refusal :=
  done s (startLine (pathTable p) idx 0x64 (fun l s =>
    if s.paths[p].test then (namedSides s p l).foldl (testSide (withPattern (by1 l.operand.toNat))) s else s) s)

/-- LOOP_LINE (R394, R452). -/
def execLoopLine (p : PathId) (idx : Nat) (s : State) : Host.Outcome State Fault Refusal :=
  done s (startLine (pathTable p) idx 0x65 (fun l s =>
    if s.paths[p].test then (namedSides s p l).foldl (testSide fun x => { x with loopDep := by1 l.operand.toNat }) s else s) s)

/-- CHECKER_LOCK, event 0x0D01 (R457). -/
def execCheckerLock (side : SideId) (s : State) : Host.Outcome State Fault Refusal :=
  done s <|
    let x := s.sides[side]
    if x.patSel.toNat % 128 = 0 ∨ x.chkLock = true ∨ domOn s 48 = false then s
    else raise (s.modSide side fun x => { x with chkLock := true }) 0x0D01 [by1 side.val, x.patSel]

/-- CHECKER_LOCK_LOST, event 0x0D02; the counts are kept (R457). -/
def execCheckerLockLost (side : SideId) (s : State) : Host.Outcome State Fault Refusal :=
  done s <|
    if s.sides[side].chkLock then raise (s.modSide side fun x => { x with chkLock := false }) 0x0D02 [by1 side.val] else s

/-! ### Test access port -/

/-- The TAP is served (R463). -/
def tapServed (s : State) : Bool := s.pow.dev == .boot || s.pow.dev == .run

/-- An instruction register value loaded; `balls` where the instruction takes the balls, which it does only in RUN with all
four TEST bits set (R464). -/
def tapLoad (s : State) (ir : Nat) (balls : Bool) : State :=
  if tapServed s then
    s.modTest fun t => { t with
      tapIr := by1 ir, tapBalls := balls && s.pow.dev == .run && s.paths.toList.all fun x => x.test }
  else s

/-- TAP_BYPASS. -/
def execTapBypass (s : State) : Host.Outcome State Fault Refusal := done s (tapLoad s 0xFF false)
/-- TAP_IDCODE: selects the identification register, 0x3164_0557. -/
def execTapIdcode (s : State) : Host.Outcome State Fault Refusal := done s (tapLoad s 0x01 false)
/-- TAP_SAMPLE_PRELOAD: the boundary register then holds what it sampled or was given. -/
def execTapSamplePreload (s : State) : Host.Outcome State Fault Refusal :=
  done s (let t := tapLoad s 0x02 false
          if tapServed s then t.modTest fun x => { x with tapLoaded := true } else t)
/-- TAP_EXTEST (R464). -/
def execTapExtest (s : State) : Host.Outcome State Fault Refusal := done s (tapLoad s 0x03 true)
/-- TAP_CLAMP (R464). -/
def execTapClamp (s : State) : Host.Outcome State Fault Refusal := done s (tapLoad s 0x04 true)
/-- TAP_HIGHZ (R464). -/
def execTapHighz (s : State) : Host.Outcome State Fault Refusal := done s (tapLoad s 0x05 true)
/-- TAP_EXTEST_PULSE (R464). -/
def execTapExtestPulse (s : State) : Host.Outcome State Fault Refusal := done s (tapLoad s 0x06 true)
/-- TAP_EXTEST_TRAIN (R464). -/
def execTapExtestTrain (s : State) : Host.Outcome State Fault Refusal := done s (tapLoad s 0x07 true)

end Sys2Proof.Machine
end

