-- ==== Sys2Proof/Machine/TwoWireCmds.lean ====
section
/-! DEFINITION. The two-wire target: transactions and their pointers (R289 to R297), the wake by address match (R301),
stuck lines (R302), PEC (R303, R304), the attention pulse (R305, R306). -/

namespace Sys2Proof.Machine

/-- The window address as a 7-bit address (R290). -/
def windowAddr (s : State) : Nat := 0x40 + 2 * s.win.maddrN.toNat
/-- The mailbox address (R290). -/
def mailboxAddr (s : State) : Nat := 0x41 + 2 * s.win.maddrN.toNat
/-- An address byte names the window. -/
def toWindow (s : State) (b : Byte) : Bool := b.toNat / 2 == windowAddr s
/-- An address byte names the mailboxes. -/
def toMailbox (s : State) (b : Byte) : Bool := b.toNat / 2 == mailboxAddr s
/-- An address byte asks for a read. -/
def isRead (b : Byte) : Bool := b.toNat % 2 == 1

/-- The target is served: BOOT or RUN (R300, R403). -/
def targetServed (s : State) : Bool := s.pow.dev == .boot || s.pow.dev == .run

/-- NACKED and event 0x0905; the rest of the segment is refused (R293, R296, R304). -/
def nackByte (s : State) (pointer : Byte) : State :=
  let d := [s.tw.addr, pointer]
  let s := s.modTw fun t => { t with staged := [], phase := .nacking }
  raise (s.modWin fun w => { w with nacked := true }) 0x0905 d

/-- A mailbox byte written at the pointer: the command area only while the two-wire side owns the rings, the other areas
never (R314, R324); the pointer wraps within its 64-byte page (R297). -/
def mailboxByte (s : State) (b : Byte) : State :=
  let a := s.tw.mbxPtr.toNat
  let s :=
    if 0x1000 ≤ a then s
    else if s.win.owner ≠ 0 then s.modWin fun w => { w with notOwn := satInc w.notOwn }
    else if domOn s 37 then s.modMbx fun m => { m with mem := Mem.write m.mem a b } else s
  s.modTw fun t => { t with mbxPtr := BitVec.ofNat 15 (a / 64 * 64 + (a % 64 + 1) % 64) }

/-- Window bytes applied in order from the pointer: whole registers written, the bytes of others partial (R293, R294).
The list's length is the fuel. -/
def windowRun : Nat → State → List Byte → State
  | 0, s, _ => s
  | n + 1, s, bs =>
    if bs.isEmpty then s
    else
      let p := s.tw.winPtr
      let k := p / 5
      let m := min bs.length (5 - p % 5)
      let s := if m = 5 then windowWrite s k (BitVec.ofNat 40 (num bs 0 5)) else partialWrite s k
      windowRun n (s.modTw fun t => { t with winPtr := (p + m) % 160 }) (bs.drop m)

/-- The staged bytes of a good transaction with PEC take effect in order (R304). -/
def replay (s : State) (window : Bool) (bs : List Byte) : State :=
  if window then
    match bs with
    | [] => s
    | p :: data => windowRun data.length (s.modTw fun t => { t with winPtr := p.toNat }) data
  else
    match bs with
    | hi :: lo :: data => data.foldl mailboxByte (s.modTw fun t => { t with mbxPtr := BitVec.ofNat 15 (hi.toNat * 256 + lo.toNat) })
    | _ => s

/-- An address byte is the master code of High-speed mode, 0b0000_1xxx (Table 12.1). -/
def hsMaster (b : Byte) : Bool := b.toNat / 8 == 1

/-- The pointer of the address being read moves past the `n` bytes its segment delivered, a segment that a stuck line ended included
(R293, R297, R302). -/
def afterRead (s : State) (n : Nat) : State :=
  if s.tw.phase == .reading || s.tw.cutRead then
    s.modTw fun t =>
      let t := { t with cutRead := false }
      if toWindow s t.addr then { t with winPtr := (t.winPtr + n) % 160 }
      else { t with mbxPtr := BitVec.ofNat 15 (t.mbxPtr.toNat + n) }
  else s

/-- A transaction at the window address has completed (R305). -/
def windowDone (s : State) : State :=
  if toWindow s s.tw.addr && s.tw.phase != .idle then s.modTw fun t => { t with pulseSent := false } else s

/-- What the staged bytes of a read with PEC must be: exactly pointer and LEN, both in range (R304). -/
def pecReadOk (s : State) (b : Byte) : Bool :=
  let l := s.tw.staged
  isRead s.tw.addr == false && b.toNat / 2 == s.tw.addr.toNat / 2 &&
  (if toWindow s b then l.length == 2 && decide ((num l 0 1) < 160) && num l 1 1 != 0
   else l.length == 3 && decide (num l 0 1 < 128) && num l 2 1 != 0)

/-- A segment begins: the address byte judged, the pointers of a read with PEC taken (R289, R291, R303, R304). After a High-speed master
code the bus is ignored until a STOP (Table 12.1). -/
def beginSegment (s : State) (b : Byte) (pec : Bool) : State :=
  let start := fun (s : State) (ph : TwPhase) =>
    s.modTw fun t => { t with addr := b, phase := ph, pec := pec, staged := [] }
  if hsMaster b then start s .ignoring
  else if toWindow s b = false ∧ toMailbox s b = false then start s .nacking
  else if isRead b = false then start s (if toWindow s b then .winPtr else .mbxPtr)
  else if pec = false then start s .reading
  else if pecReadOk s b then
    let l := s.tw.staged
    start (if toWindow s b then s.modTw fun t => { t with winPtr := num l 0 1 }
           else s.modTw fun t => { t with mbxPtr := BitVec.ofNat 15 (num l 0 2) }) .reading
  else
    let p := s.tw.staged.headD 0
    start (nackByte (s.modTw fun t => { t with addr := b }) p) .nacking

/-- A START while the target is not served, after `n` bytes of a read segment: where it divides a transaction, the segment it begins is
not the device's, and what was staged is discarded (R291, R293, R304). -/
def unservedStart (n : Nat) (s : State) : State :=
  (afterRead s n).modTw fun t => if t.phase == .idle then t else { t with phase := .nacking, staged := [] }

/-- TWO_WIRE_START: a START or a repeated START with its address byte; `mid` where it falls in the middle of a byte, which begins a new
transaction. Bytes staged by a write that ends so are discarded (R291, R303, R304). -/
def execTwoWireStart (a : Addressing) (mid : Bool) (s : State) : Host.Outcome State Fault Refusal :=
  done s <|
    if s.tw.phase == .ignoring then s
    else if targetServed s = false then unservedStart a.nread s
    else
      let fresh := s.tw.phase == .idle || mid
      let pec := if fresh then bit s.win.mgtCfg 39 else s.tw.pec
      let s := afterRead s a.nread
      let s := s.modTw fun t => { t with sclLow := false, sdaLow := false, pulsing := false, staged := if fresh then [] else t.staged }
      beginSegment s a.addr pec

/-- TWO_WIRE_STOP: the transaction ends. With PEC the last byte staged is the PEC: a good one lets the others take effect,
a bad one discards them, sets PEC_ERR and raises event 0x0903 (R304). While the target is not served the transaction ends with nothing
written. -/
def execTwoWireStop (nread : Nat) (s : State) : Host.Outcome State Fault Refusal :=
  done s <|
    if targetServed s = false then (afterRead s nread).modTw fun x => { x with phase := .idle, staged := [] }
    else
      let t := windowDone (afterRead s nread)
      let staged := t.tw.staged
      let window := toWindow t t.tw.addr
      let t := t.modTw fun x => { x with phase := .idle, staged := [], sclLow := false, sdaLow := false }
      if s.tw.pec = false ∨ staged.isEmpty then t
      else
        let got := staged.getLastD 0
        let want := crc8 (s.tw.addr :: staged.dropLast)
        if got = want then replay t window staged.dropLast
        else raise (t.modWin fun w => { w with pecErr := true }) 0x0903 [s.tw.addr, got, want]

/-- WINDOW_POINTER_SET: the first byte of a write segment at the window address, 0 to 159; any other is NACKed and leaves
the pointer (R293). -/
def execWindowPointerSet (b : Byte) (s : State) : Host.Outcome State Fault Refusal :=
  done s <|
    if s.tw.phase != .winPtr then s
    else if 160 ≤ b.toNat then nackByte s b
    else if s.tw.pec then (stageByte s b).modTw fun t => { t with phase := .winData }
    else s.modTw fun t => { t with winPtr := b.toNat, phase := .winData }

/-- MAILBOX_POINTER_SET: the first two bytes of a write segment at the mailbox address; a first byte of 0x80 or above is
NACKed, a segment that ends after one leaves the pointer (R296). -/
def execMailboxPointerSet (bytes : List Byte) (s : State) : Host.Outcome State Fault Refusal :=
  done s <|
    if s.tw.phase != .mbxPtr then s
    else match bytes with
      | [] => s
      | hi :: rest =>
        if 128 ≤ hi.toNat then nackByte s hi
        else if s.tw.pec then
          (bytes.foldl stageByte s).modTw fun t => { t with phase := if rest.isEmpty then .mbxPtr else .mbxData }
        else match rest with
          | [] => s
          | lo :: _ => s.modTw fun t => { t with mbxPtr := BitVec.ofNat 15 (hi.toNat * 256 + lo.toNat), phase := .mbxData }

/-- MAILBOX_BYTE_WRITE: one data byte at the mailbox address, applied on its acknowledge, or staged with PEC (R297, R304). -/
def execMailboxByteWrite (b : Byte) (s : State) : Host.Outcome State Fault Refusal :=
  done s <|
    if s.tw.phase == .mbxData then (if s.tw.pec then stageByte s b else mailboxByte s b)
    else if s.tw.pec && s.tw.phase == .winData then stageByte s b
    else s

/-- QUICK_COMMAND: an address alone and a STOP; acknowledged, nothing changes but that no transaction is in progress, the pointer of a
read segment it ends has moved, what one before it had staged is discarded, and a transaction at the window address has completed (R291,
R293, R304, R305). -/
def execQuickCommand (a : Addressing) (s : State) : Host.Outcome State Fault Refusal :=
  done s <|
    let unheard := targetServed s = false || s.tw.phase == .ignoring
    (afterRead s a.nread).modTw fun t => { t with phase := .idle, staged := [], pulseSent := t.pulseSent && (unheard || !toWindow s a.addr) }

/-- ADDRESS_MATCH_WAKE: in REST, or during a REST entry, an address byte that matches is acknowledged, SCL is held low and the
wake level raised (R301, R39). Any other address wakes nothing. A read segment in progress ends with it (R293). -/
def execAddressMatchWake (a : Addressing) (s : State) : Host.Outcome State Fault Refusal :=
  done s <|
    if s.tw.phase != .ignoring && (s.pow.dev == .rest || s.pow.rest != .none) && (toWindow s a.addr || toMailbox s a.addr) then
      (afterRead s a.nread).modTw fun t => { t with stretch := some a.addr }
    else s

/-- SCL_RELEASE_AFTER_WAKE: the window and mailbox memory can be served; SCL is released, WOKE set, event 0x0907 raised and
the transaction goes on (R301). -/
def execSclReleaseAfterWake (s : State) : Host.Outcome State Fault Refusal :=
  done s <|
    match s.tw.stretch with
    | none => s
    | some a =>
      if s.pow.dev == .run && domOn s 37 then
        let s := s.modTw fun t => { t with stretch := none }
        let s := raise (s.modWin fun w => { w with woke := true }) 0x0907 [a]
        beginSegment s a (if s.tw.phase == .idle then bit s.win.mgtCfg 39 else s.tw.pec)
      else s

/-- A stuck line ends the transaction in progress; staged bytes are discarded. The pointer of a read segment moves when the next
transaction tells how many bytes it had delivered (R293, R302, R304; entry 147). -/
def dropTransaction (s : State) : State :=
  s.modTw fun t => { t with cutRead := t.cutRead || t.phase == .reading, phase := .idle, staged := [], pulsing := false }

/-- SCL_STUCK (R302). -/
def execSclStuck (s : State) : Host.Outcome State Fault Refusal :=
  done s <|
    let s := dropTransaction (s.modTw fun t => { t with sclLow := true })
    raise (s.modWin fun w => { w with sclStuck := true }) 0x0901 []

/-- SDA_STUCK (R302). -/
def execSdaStuck (s : State) : Host.Outcome State Fault Refusal :=
  done s <|
    let s := dropTransaction (s.modTw fun t => { t with sdaLow := true })
    raise (s.modWin fun w => { w with sdaStuck := true }) 0x0902 []

/-- ATTENTION_PULSE: with ATTN_EN, ATTN and a pulse owed, the bus idle and no REST, the device drives its pulse (R305). -/
def execAttentionPulse (s : State) : Host.Outcome State Fault Refusal :=
  done s <|
    if bit s.win.mgtCfg 38 && attn s && s.tw.owed && s.tw.phase == .idle && targetServed s then
      s.modTw fun t => { t with owed := false, pulsing := true, pulseSent := true }
    else s

/-- ATTENTION_PULSE_REPEAT: 10 ms after a pulse, ATTN still set and no transaction at the window address completed (R305). -/
def execAttentionPulseRepeat (s : State) : Host.Outcome State Fault Refusal :=
  done s <|
    if attn s && s.tw.pulseSent then s.modTw fun t => { t with owed := true, pulsing := false, pulseSent := false } else s

/-- ATTENTION_PULSE_ABORT: SMCLK falls during the pulse; SMDAT is released, a pulse is owed again, event 0x0906 (R306). -/
def execAttentionPulseAbort (s : State) : Host.Outcome State Fault Refusal :=
  done s <|
    if s.tw.pulsing then
      raise (s.modTw fun t => { t with pulsing := false, pulseSent := false, owed := true }) 0x0906 []
    else s

end Sys2Proof.Machine
end

