-- ==== Sys2Proof/Machine/Work.lean ====
section
/-! DEFINITION. WORK lines: the order of a work window (R23, R327, R328), the opcode table (R333), and the firmware bank read
back (R388). -/

namespace Sys2Proof.Machine

/-- What each opcode of Table 14.1 does; none where it is not defined (R333). -/
def handlerOf (pllLocks : Bool) (op : Nat) : Option (Req → State → Result) :=
  match op with
  | 0x0101 => some doClaim
  | 0x0102 => some doCancel
  | 0x0103 => some doIdentGet
  | 0x0104 => some doEvtMaskSet
  | 0x0105 => some (doCorePllSelect pllLocks)
  | 0x0201 => some doPathSet
  | 0x0202 => some doPathGet
  | 0x0203 => some doPinSet
  | 0x0204 => some doProtoSet
  | 0x0205 => some doLaneGet
  | 0x0206 => some doTxeqSet
  | 0x0207 => some doPolaritySet
  | 0x0208 => some doCountersGet
  | 0x0301 => some doCalGet
  | 0x0302 => some doCalSeed
  | 0x0303 => some doCalSet
  | 0x0304 => some doCalCfgSet
  | 0x0305 => some doAuxCalGet
  | 0x0306 => some doAuxCalSet
  | 0x0310 => some doSweepPlan
  | 0x0311 => some doSweepPoints
  | 0x0312 => some doSweepArm
  | 0x0313 => some doSweepAbort
  | 0x0314 => some doSweepResult
  | 0x0401 => some doTimeGet
  | 0x0402 => some doTimeCfgSet
  | 0x0403 => some doTimeSet
  | 0x0404 => some doDelaySet
  | 0x0405 => some doPtpIpSet
  | 0x0406 => some doPullSet
  | 0x0501 => some doMouldLoad
  | 0x0502 => some doMouldStore
  | 0x0503 => some doMouldActivate
  | 0x0504 => some doMouldStatus
  | 0x0601 => some doSessionBind
  | 0x0602 => some doSessionUnbind
  | 0x0603 => some doSessionCredits
  | 0x0604 => some doSessionPolicy
  | 0x0605 => some doSessionGet
  | 0x0606 => some doSvcSet
  | 0x0607 => some doBridgeCountersGet
  | 0x0701 => some doVenSet
  | 0x0702 => some doVwinSet
  | 0x0703 => some doVmstSet
  | 0x0704 => some doVirqSet
  | 0x0705 => some doVupSet
  | 0x0706 => some doVenGet
  | 0x0707 => some doShadowWrite
  | 0x0801 => some doScanSet
  | 0x0802 => some doTemplateSet
  | 0x0803 => some doSignalSet
  | 0x0804 => some doBundleSet
  | 0x0805 => some doBundleMembers
  | 0x0806 => some doSignalWrite
  | 0x0807 => some doSignalRead
  | 0x0808 => some doScanGet
  | 0x0A01 => some doTimersSet
  | 0x0A02 => some doPathWake
  | 0x0A03 => some doPowerGet
  | 0x0A04 => some doChargerSet
  | 0x0B01 => some doConfigSave
  | 0x0B02 => some doStoreGet
  | 0x0B03 => some doFwBegin
  | 0x0B04 => some doFwData
  | 0x0B05 => some doFwCommit
  | 0x0B06 => some doLogRead
  | 0x0B07 => some doDeviceReset
  | 0x0D01 => some doTestEnable
  | 0x0D02 => some doLoopSet
  | 0x0D03 => some doPatternUser
  | 0x0D04 => some doCheckerGet
  | 0x0D05 => some doTelemGet
  | _ => none

/-! ### The CANCELs first -/

/-- An arrival that is a CANCEL of its right length, not disowned and not yet applied. -/
def isCancel (p : Arrival × BitVec 16 × Req) : Bool :=
  p.2.1 == 0x0102 && p.2.2.len == 2 && !p.1.answered && !p.1.disowned

/-- The first CANCEL that waits is applied: its target's reply, then its own (R327, R328). An answered ring entry keeps its
slot until its turn. -/
def applyFirstCancel (s : State) : State :=
  match (arrivalBodies s).find? isCancel with
  | none => s
  | some p =>
    let s := s.modMbx fun m => { m with arrived := (markFirst isCancel (arrivalBodies s)).filter fun a => !a.answered || a.body.isNone }
    let x := applyCancel p.1.issuer (num p.2.2.payload 0 2) s
    oweReply x.1 { issuer := p.1.issuer, opcode := 0x0102, tag := p.2.2.tag, rtag := p.1.rtag, lat := p.1.lat
                   status := 0x00, payload := [by1 x.2] }

/-! ### The others in order of arrival -/

/-- An arrival may be taken: its issuer's side has room for its reply and owes none; one already answered only leaves. -/
def takeable (s : State) (a : Arrival) : Bool :=
  let owes := s.mbx.owed.any fun o => (o.issuer == .twoWire) == (a.issuer == .twoWire)
  !owes && (a.answered || replyRoom s a.issuer)

/-- Place of the next arrival to take: the first of its side, so that a blocked one keeps its place (R319, R327). -/
def nextArrival (s : State) : Option Nat :=
  let ix := fun (f : Arrival → Bool) => (upto s.mbx.arrived.length).find? fun i => match s.mbx.arrived[i]? with | some a => f a | none => false
  let ok := fun (o : Option Nat) => match o with
    | some i => (match s.mbx.arrived[i]? with | some a => if takeable s a then some i else none | none => none)
    | none => none
  match ok (ix fun a => a.issuer == .twoWire), ok (ix fun a => a.issuer != .twoWire) with
  | some i, some j => some (min i j)
  | some i, none => some i
  | none, o => o

/-- What a taken command answers (R324, R326, R333). -/
def execute (pllLocks : Bool) (a : Arrival) (op : BitVec 16) (r : Req) (s : State) : Result :=
  if a.disowned || disownedBy s op.toNat r.issuer then failWith s 0x06
  else match handlerOf pllLocks op.toNat with
    | some h => h r s
    | none => failWith s 0x02

/-- One command taken and executed. -/
def takeOne (pllLocks : Bool) (s : State) : State :=
  match nextArrival s with
  | none => s
  | some i =>
    match s.mbx.arrived[i]? with
    | none => s
    | some a =>
      let b := match a.body with | some b => b | none => ringEntry s s.win.cmdTail
      let s := s.modMbx fun m => { m with arrived := m.arrived.eraseIdx i }
      let s := if a.body.isNone then s.modWin fun w => { w with cmdTail := w.cmdTail + 1 } else s
      if a.answered then s else finish a.issuer b.1 b.2 a.rtag a.lat (execute pllLocks a b.1 b.2 s)

/-! ### Reading a firmware bank back -/

/-- FW_COMMIT reads the bank back once every page is programmed, 64 KiB for each 100 µs of WORK time (R388). -/
def readBackBank (ticks : Nat) (s : State) : State :=
  match s.store.job with
  | some (.fwOpen bank len crc received programmed made sum true back false) =>
    if 256 * programmed < len then s
    else
      let back := back + 65536 * (ticks * 8) / 100000
      let found : BitVec 32 := sum ^^^ 0xFFFFFFFF
      if back < len then s.modStore fun t => { t with job := some (.fwOpen bank len crc received programmed made sum true back false) }
      else if found = crc then
        s.modStore fun t => { t with job := some (.fwOpen bank len crc received programmed 0 sum true len true) }
      else replyTaken (s.modStore fun t => { t with job := none }) [0x0B05] ⟨0x07, be 4 found.toNat⟩
  | _ => s

/-- What Gulcy does in a work window (R23, R312, R327, R329). -/
def workWindow (pllLocks : Bool) (l : Line) (s : State) : State :=
  if gulcyReady s then
    let s := (gulcyTakes s).modWin fun w => { w with wdCount := 0 }
    let s := times applyFirstCancel s.mbx.arrived.length (payAll s)
    readBackBank l.duration (times (takeOne pllLocks) s.mbx.arrived.length s)
  else s

/-- WORK_LINE; empty where Gulcy does not run (R331). -/
def execWorkLine (idx : Nat) (pllLocks : Bool) (s : State) : Host.Outcome State Fault Refusal :=
  done s (startLine 0 idx 0x10 (workWindow pllLocks) s)

end Sys2Proof.Machine
end

