-- ==== Sys2Proof/Machine/Dispatch.lean ====
section
/-! DEFINITION. The effect of each command on everything but the queue: one direct call of its meaning per constructor. -/

namespace Sys2Proof.Machine

/-- The effect of a command or event. -/
def exec (i : Instr) (s : State) : Host.Outcome State Fault Refusal :=
  match i with
  | .claim r => Sys2Proof.Machine.execClaim r s
  | .cancel r => Sys2Proof.Machine.execCancel r s
  | .identGet r => Sys2Proof.Machine.execIdentGet r s
  | .evtMaskSet r => Sys2Proof.Machine.execEvtMaskSet r s
  | .corePllSelect r locks => Sys2Proof.Machine.execCorePllSelect r locks s
  | .pathSet r => Sys2Proof.Machine.execPathSet r s
  | .pathGet r => Sys2Proof.Machine.execPathGet r s
  | .pinSet r => Sys2Proof.Machine.execPinSet r s
  | .protoSet r => Sys2Proof.Machine.execProtoSet r s
  | .laneGet r => Sys2Proof.Machine.execLaneGet r s
  | .txeqSet r => Sys2Proof.Machine.execTxeqSet r s
  | .polaritySet r => Sys2Proof.Machine.execPolaritySet r s
  | .countersGet r => Sys2Proof.Machine.execCountersGet r s
  | .calGet r => Sys2Proof.Machine.execCalGet r s
  | .calSeed r => Sys2Proof.Machine.execCalSeed r s
  | .calSet r => Sys2Proof.Machine.execCalSet r s
  | .calCfgSet r => Sys2Proof.Machine.execCalCfgSet r s
  | .auxCalGet r => Sys2Proof.Machine.execAuxCalGet r s
  | .auxCalSet r => Sys2Proof.Machine.execAuxCalSet r s
  | .sweepPlan r => Sys2Proof.Machine.execSweepPlan r s
  | .sweepPoints r => Sys2Proof.Machine.execSweepPoints r s
  | .sweepArm r => Sys2Proof.Machine.execSweepArm r s
  | .sweepAbort r => Sys2Proof.Machine.execSweepAbort r s
  | .sweepResult r => Sys2Proof.Machine.execSweepResult r s
  | .timeGet r => Sys2Proof.Machine.execTimeGet r s
  | .timeCfgSet r => Sys2Proof.Machine.execTimeCfgSet r s
  | .timeSet r => Sys2Proof.Machine.execTimeSet r s
  | .delaySet r => Sys2Proof.Machine.execDelaySet r s
  | .ptpIpSet r => Sys2Proof.Machine.execPtpIpSet r s
  | .pullSet r => Sys2Proof.Machine.execPullSet r s
  | .mouldLoad r => Sys2Proof.Machine.execMouldLoad r s
  | .mouldStore r => Sys2Proof.Machine.execMouldStore r s
  | .mouldActivate r => Sys2Proof.Machine.execMouldActivate r s
  | .mouldStatus r => Sys2Proof.Machine.execMouldStatus r s
  | .sessionBind r => Sys2Proof.Machine.execSessionBind r s
  | .sessionUnbind r => Sys2Proof.Machine.execSessionUnbind r s
  | .sessionCredits r => Sys2Proof.Machine.execSessionCredits r s
  | .sessionPolicy r => Sys2Proof.Machine.execSessionPolicy r s
  | .sessionGet r => Sys2Proof.Machine.execSessionGet r s
  | .svcSet r => Sys2Proof.Machine.execSvcSet r s
  | .bridgeCountersGet r => Sys2Proof.Machine.execBridgeCountersGet r s
  | .venSet r => Sys2Proof.Machine.execVenSet r s
  | .vwinSet r => Sys2Proof.Machine.execVwinSet r s
  | .vmstSet r => Sys2Proof.Machine.execVmstSet r s
  | .virqSet r => Sys2Proof.Machine.execVirqSet r s
  | .vupSet r => Sys2Proof.Machine.execVupSet r s
  | .venGet r => Sys2Proof.Machine.execVenGet r s
  | .shadowWrite r => Sys2Proof.Machine.execShadowWrite r s
  | .scanSet r => Sys2Proof.Machine.execScanSet r s
  | .templateSet r => Sys2Proof.Machine.execTemplateSet r s
  | .signalSet r => Sys2Proof.Machine.execSignalSet r s
  | .bundleSet r => Sys2Proof.Machine.execBundleSet r s
  | .bundleMembers r => Sys2Proof.Machine.execBundleMembers r s
  | .signalWrite r => Sys2Proof.Machine.execSignalWrite r s
  | .signalRead r => Sys2Proof.Machine.execSignalRead r s
  | .scanGet r => Sys2Proof.Machine.execScanGet r s
  | .timersSet r => Sys2Proof.Machine.execTimersSet r s
  | .pathWake r => Sys2Proof.Machine.execPathWake r s
  | .powerGet r => Sys2Proof.Machine.execPowerGet r s
  | .chargerSet r => Sys2Proof.Machine.execChargerSet r s
  | .configSave r => Sys2Proof.Machine.execConfigSave r s
  | .storeGet r => Sys2Proof.Machine.execStoreGet r s
  | .fwBegin r => Sys2Proof.Machine.execFwBegin r s
  | .fwData r => Sys2Proof.Machine.execFwData r s
  | .fwCommit r => Sys2Proof.Machine.execFwCommit r s
  | .logRead r => Sys2Proof.Machine.execLogRead r s
  | .deviceReset r => Sys2Proof.Machine.execDeviceReset r s
  | .testEnable r => Sys2Proof.Machine.execTestEnable r s
  | .loopSet r => Sys2Proof.Machine.execLoopSet r s
  | .patternUser r => Sys2Proof.Machine.execPatternUser r s
  | .checkerGet r => Sys2Proof.Machine.execCheckerGet r s
  | .telemGet r => Sys2Proof.Machine.execTelemGet r s
  | .windowRegisterWrite k bytes => Sys2Proof.Machine.execWindowRegisterWrite k bytes s
  | .cmdHeadDoorbell v => Sys2Proof.Machine.execCmdHeadDoorbell v s
  | .ringTailWrite ring v => Sys2Proof.Machine.execRingTailWrite ring v s
  | .attnCauseClear v => Sys2Proof.Machine.execAttnCauseClear v s
  | .ownYieldWrite v => Sys2Proof.Machine.execOwnYieldWrite v s
  | .wdogWrite v => Sys2Proof.Machine.execWdogWrite v s
  | .emergLockBreak v => Sys2Proof.Machine.execEmergLockBreak v s
  | .emergReleaseIo v => Sys2Proof.Machine.execEmergReleaseIo v s
  | .emergReclaim v => Sys2Proof.Machine.execEmergReclaim v s
  | .emergCpuReset v => Sys2Proof.Machine.execEmergCpuReset v s
  | .windowPointerSet b => Sys2Proof.Machine.execWindowPointerSet b s
  | .mailboxPointerSet bytes => Sys2Proof.Machine.execMailboxPointerSet bytes s
  | .mailboxByteWrite b => Sys2Proof.Machine.execMailboxByteWrite b s
  | .quickCommand a => Sys2Proof.Machine.execQuickCommand a s
  | .twoWireStart a mid => Sys2Proof.Machine.execTwoWireStart a mid s
  | .twoWireStop nread => Sys2Proof.Machine.execTwoWireStop nread s
  | .addressMatchWake a => Sys2Proof.Machine.execAddressMatchWake a s
  | .sclReleaseAfterWake => Sys2Proof.Machine.execSclReleaseAfterWake s
  | .sclStuck => Sys2Proof.Machine.execSclStuck s
  | .sdaStuck => Sys2Proof.Machine.execSdaStuck s
  | .attentionPulse => Sys2Proof.Machine.execAttentionPulse s
  | .attentionPulseRepeat => Sys2Proof.Machine.execAttentionPulseRepeat s
  | .attentionPulseAbort => Sys2Proof.Machine.execAttentionPulseAbort s
  | .frameReceived fcsGood bytes => Sys2Proof.Machine.execFrameReceived fcsGood bytes s
  | .ptpMessageReceived m => Sys2Proof.Machine.execPtpMessageReceived m s
  | .delayReqDue => Sys2Proof.Machine.execDelayReqDue s
  | .sourceLost announce => Sys2Proof.Machine.execSourceLost announce s
  | .ppsInEdge stamp => Sys2Proof.Machine.execPpsInEdge stamp s
  | .chainMarkReceived stamp code => Sys2Proof.Machine.execChainMarkReceived stamp code s
  | .chainLost => Sys2Proof.Machine.execChainLost s
  | .sheetBoundary => Sys2Proof.Machine.execSheetBoundary s
  | .patienceExpired => Sys2Proof.Machine.execPatienceExpired s
  | .lineEnd table idx unfinished => Sys2Proof.Machine.execLineEnd table idx unfinished s
  | .workLine idx pllLocks => Sys2Proof.Machine.execWorkLine idx pllLocks s
  | .trimLine idx replicas txReplicas => Sys2Proof.Machine.execTrimLine idx replicas txReplicas s
  | .telemLine idx samples => Sys2Proof.Machine.execTelemLine idx samples s
  | .storeLine idx => Sys2Proof.Machine.execStoreLine idx s
  | .restLine idx holdoverCount => Sys2Proof.Machine.execRestLine idx holdoverCount s
  | .restCommit saveMicros => Sys2Proof.Machine.execRestCommit saveMicros s
  | .servoLine idx => Sys2Proof.Machine.execServoLine idx s
  | .ppsLine idx => Sys2Proof.Machine.execPpsLine idx s
  | .chainLine idx reflection => Sys2Proof.Machine.execChainLine idx reflection s
  | .txLine idx => Sys2Proof.Machine.execTxLine idx s
  | .cycleLine idx => Sys2Proof.Machine.execCycleLine idx s
  | .targetAnswer rdy flt addressPhase data earlyDiff lateDiff => Sys2Proof.Machine.execTargetAnswer rdy flt addressPhase data earlyDiff lateDiff s
  | .targetRelease sinceStart => Sys2Proof.Machine.execTargetRelease sinceStart s
  | .releaseTimeout => Sys2Proof.Machine.execReleaseTimeout s
  | .readyWhileIdle rdy flt => Sys2Proof.Machine.execReadyWhileIdle rdy flt s
  | .leaseExpired => Sys2Proof.Machine.execLeaseExpired s
  | .grantLine idx requests => Sys2Proof.Machine.execGrantLine idx requests s
  | .grantEnd g => Sys2Proof.Machine.execGrantEnd g s
  | .oldMasterCycle write addr strobes data => Sys2Proof.Machine.execOldMasterCycle write addr strobes data s
  | .activityWithoutGrant signals => Sys2Proof.Machine.execActivityWithoutGrant signals s
  | .virqChange line asserted stamp => Sys2Proof.Machine.execVirqChange line asserted stamp s
  | .vcalLine idx => Sys2Proof.Machine.execVcalLine idx s
  | .vrstLine idx => Sys2Proof.Machine.execVrstLine idx s
  | .pollLine o => Sys2Proof.Machine.execPollLine o s
  | .pollLineBusy o => Sys2Proof.Machine.execPollLineBusy o s
  | .pollUnanswered n => Sys2Proof.Machine.execPollUnanswered n s
  | .listenLine idx vIdle => Sys2Proof.Machine.execListenLine idx vIdle s
  | .sendLine o => Sys2Proof.Machine.execSendLine o s
  | .scanCollision line => Sys2Proof.Machine.execScanCollision line s
  | .scanFrameEnd line f => Sys2Proof.Machine.execScanFrameEnd line f s
  | .scalLine idx vIdle lineIdle => Sys2Proof.Machine.execScalLine idx vIdle lineIdle s
  | .scanCfgApply line => Sys2Proof.Machine.execScanCfgApply line s
  | .calLine p idx counts => Sys2Proof.Machine.execCalLine p idx counts s
  | .kerfLine p idx => Sys2Proof.Machine.execKerfLine p idx s
  | .sweepLine p idx counts => Sys2Proof.Machine.execSweepLine p idx counts s
  | .pinMeasLine p idx meas => Sys2Proof.Machine.execPinMeasLine p idx meas s
  | .patternLine p idx => Sys2Proof.Machine.execPatternLine p idx s
  | .loopLine p idx => Sys2Proof.Machine.execLoopLine p idx s
  | .dormantEnterLine p idx => Sys2Proof.Machine.execDormantEnterLine p idx s
  | .dormantExitLine p idx => Sys2Proof.Machine.execDormantExitLine p idx s
  | .measurementClose side m => Sys2Proof.Machine.execMeasurementClose side m s
  | .kerfCommit side => Sys2Proof.Machine.execKerfCommit side s
  | .noKerfTimeout side => Sys2Proof.Machine.execNoKerfTimeout side s
  | .initialCalibrationDone side c => Sys2Proof.Machine.execInitialCalibrationDone side c s
  | .receiverEiExit side => Sys2Proof.Machine.execReceiverEiExit side s
  | .receiverEiEntry side => Sys2Proof.Machine.execReceiverEiEntry side s
  | .laneLockLost side => Sys2Proof.Machine.execLaneLockLost side s
  | .bufferSlip lane dir => Sys2Proof.Machine.execBufferSlip lane dir s
  | .skpAdjustment side ui skewOver => Sys2Proof.Machine.execSkpAdjustment side ui skewOver s
  | .islandClockAbsent isl => Sys2Proof.Machine.execIslandClockAbsent isl s
  | .islandClockReturned isl => Sys2Proof.Machine.execIslandClockReturned isl s
  | .corePllLoss => Sys2Proof.Machine.execCorePllLoss s
  | .receiverDetect p found => Sys2Proof.Machine.execReceiverDetect p found s
  | .trainingSetReceived side ts => Sys2Proof.Machine.execTrainingSetReceived side ts s
  | .rateChange p rate presets => Sys2Proof.Machine.execRateChange p rate presets s
  | .eqPhaseEntry p phase presets => Sys2Proof.Machine.execEqPhaseEntry p phase presets s
  | .eqPartnerEcho side echo => Sys2Proof.Machine.execEqPartnerEcho side echo s
  | .eqEchoTimeout side => Sys2Proof.Machine.execEqEchoTimeout side s
  | .eqPhaseComplete p => Sys2Proof.Machine.execEqPhaseComplete p s
  | .coefficientRequest side cm1 c0 cp1 => Sys2Proof.Machine.execCoefficientRequest side cm1 c0 cp1 s
  | .perstAsserted p => Sys2Proof.Machine.execPerstAsserted p s
  | .perstNegated p => Sys2Proof.Machine.execPerstNegated p s
  | .l1SubstateEntry p => Sys2Proof.Machine.execL1SubstateEntry p s
  | .l1SubstateExit p => Sys2Proof.Machine.execL1SubstateExit p s
  | .refclkLost p => Sys2Proof.Machine.execRefclkLost p s
  | .marginCommand p lane receiver cmd => Sys2Proof.Machine.execMarginCommand p lane receiver cmd s
  | .l0sEntry p dir => Sys2Proof.Machine.execL0sEntry p dir s
  | .complianceEntry p rate preset => Sys2Proof.Machine.execComplianceEntry p rate preset s
  | .anComplete lane tech fec => Sys2Proof.Machine.execAnComplete lane tech fec s
  | .krCoeffUpdate side req inverted => Sys2Proof.Machine.execKrCoeffUpdate side req inverted s
  | .krStatusUpdate side st => Sys2Proof.Machine.execKrStatusUpdate side st s
  | .krUpdateTimeout side => Sys2Proof.Machine.execKrUpdateTimeout side s
  | .krRequestsFinished side => Sys2Proof.Machine.execKrRequestsFinished side s
  | .krReceiverReady lane => Sys2Proof.Machine.execKrReceiverReady lane s
  | .krRestart side dme => Sys2Proof.Machine.execKrRestart side dme s
  | .transparentAcquire side => Sys2Proof.Machine.execTransparentAcquire side s
  | .checkerLock side => Sys2Proof.Machine.execCheckerLock side s
  | .checkerLockLost side => Sys2Proof.Machine.execCheckerLockLost side s
  | .svcLinkChange link => Sys2Proof.Machine.execSvcLinkChange link s
  | .sweepPointStart => Sys2Proof.Machine.execSweepPointStart s
  | .restPendSet => Sys2Proof.Machine.execRestPendSet s
  | .wakeSourceDetected sources => Sys2Proof.Machine.execWakeSourceDetected sources s
  | .spineTimeReload counter => Sys2Proof.Machine.execSpineTimeReload counter s
  | .brownout minMv micros => Sys2Proof.Machine.execBrownout minMv micros s
  | .undervoltageLockout vinMv saveDone counter => Sys2Proof.Machine.execUndervoltageLockout vinMv saveDone counter s
  | .aoSwitchover toVbak => Sys2Proof.Machine.execAoSwitchover toVbak s
  | .resetNAsserted saveDone counter => Sys2Proof.Machine.execResetNAsserted saveDone counter s
  | .thermalShutdown halfDegrees counter => Sys2Proof.Machine.execThermalShutdown halfDegrees counter s
  | .thermalWarning halfDegrees sensor => Sys2Proof.Machine.execThermalWarning halfDegrees sensor s
  | .thermalWarningCleared halfDegrees => Sys2Proof.Machine.execThermalWarningCleared halfDegrees s
  | .resetRelease straps => Sys2Proof.Machine.execResetRelease straps s
  | .bankStarted => Sys2Proof.Machine.execBankStarted s
  | .bankStartFailed reason => Sys2Proof.Machine.execBankStartFailed reason s
  | .watchdogExpired => Sys2Proof.Machine.execWatchdogExpired s
  | .gulcyRestarted => Sys2Proof.Machine.execGulcyRestarted s
  | .deviceResetEffect counter => Sys2Proof.Machine.execDeviceResetEffect counter s
  | .cellCheck vbakMv => Sys2Proof.Machine.execCellCheck vbakMv s
  | .tapBypass => Sys2Proof.Machine.execTapBypass s
  | .tapIdcode => Sys2Proof.Machine.execTapIdcode s
  | .tapSamplePreload => Sys2Proof.Machine.execTapSamplePreload s
  | .tapExtest => Sys2Proof.Machine.execTapExtest s
  | .tapClamp => Sys2Proof.Machine.execTapClamp s
  | .tapHighz => Sys2Proof.Machine.execTapHighz s
  | .tapExtestPulse => Sys2Proof.Machine.execTapExtestPulse s
  | .tapExtestTrain => Sys2Proof.Machine.execTapExtestTrain s
  | .dormantSquelchActivity p => Sys2Proof.Machine.execDormantSquelchActivity p s
  | .oldMasterStrobeRelease => Sys2Proof.Machine.execOldMasterStrobeRelease s
  | .veneerBusIdle => Sys2Proof.Machine.execVeneerBusIdle s
  | .vbakFloatCrossing vbakMv => Sys2Proof.Machine.execVbakFloatCrossing vbakMv s
  | .vaoLost => Sys2Proof.Machine.execVaoLost s
  | .anPagesReceived side => Sys2Proof.Machine.execAnPagesReceived side s

end Sys2Proof.Machine
end

