-- ==== Sys2Proof/Safety.lean ====
section
/-! DEFINITION. What the statements about a run are written in: canonical memories, a command that Gulcy takes at once, the reply
it writes, what a command leaves alone. -/

namespace Sys2Proof.Machine

/-- The image a store in progress writes. -/
def jobImage (t : Store) : Mem := match t.job with | some (.mould _ image _ _) => image | _ => []

/-- Every memory of the state is in canonical form: mailbox memory, the upstream shadow buffer, the RAM image, the two
Mould slots, the image a store in progress writes. -/
def State.memoriesWf (s : State) : Prop :=
  Mem.wf s.mbx.mem = true ∧ Mem.wf s.ven.shadow = true ∧ Mem.wf s.store.ram = true ∧
  Mem.wf s.store.slots[0].image = true ∧ Mem.wf s.store.slots[1].image = true ∧ Mem.wf (jobImage s.store) = true

/-- Every switched domain, D1 to D50, is on exactly when its condition in Table 16.2 holds (R400). -/
def DomainsSettled (s : State) : Prop := ∀ i : Fin 50, domWanted s (i.val + 1) = domOn s (i.val + 1)

/-- Gulcy takes this command at once: a work window is open, nothing waits before it, a reply slot is free, the two-wire side owns the
rings where it is the issuer, and a session's reply finds the bridge present (R23, R44, R319, R325). The last two are invariants of the
model. -/
def Ready (s : State) (r : Req) : Prop :=
  gulcyReady s = true ∧ replyRoom s r.issuer = true ∧ s.mbx.arrived = [] ∧ s.mbx.owed = [] ∧
  (r.issuer = .twoWire → s.win.owner = 0) ∧ (r.issuer ≠ .twoWire → present s 4 = true) ∧ Mem.wf s.mbx.mem = true ∧ DomainsSettled s

/-- The state in which Gulcy executes a command it takes: a session's CTL credit used, GULCY_UP set. -/
def begun (s : State) (r : Req) : State := gulcyTakes (takeCtlCredit r.issuer s)

/-- Gulcy takes commands as soon as a WORK line runs (R23, R24, R312). -/
def gulcyAwake (s : State) : Bool := s.cpu.running && ringsOpen s && s.pow.dev == .run && s.win.sheets

/-- The address of the next reply slot (R315, R320). -/
def replySlot (s : State) : Nat := 0x1000 + s.win.rplHead.toNat % 64 * 64

/-- `t` holds the reply to a command that ended at once in `s`: in the next slot of the reply ring, or as the last CPL record of
its session (R219, R320). -/
def Replied (s t : State) (op : Nat) (r : Req) (st : Nat) (p : List Byte) : Prop :=
  let entry := replyBytes (BitVec.ofNat 16 op) r.tag st 0 p s.now
  match r.issuer with
  | .twoWire => t.win.rplHead = s.win.rplHead + 1 ∧ Mem.readAll t.mbx.mem (replySlot s) 64 = entry
  | .session k => s.svc.sessions[k].addr.isSome = true →
      (t.svc.cpl.map fun o => (o.session, o.bytes, o.credit)).getLast? =
        some (k, [0x15, 0] ++ be 2 72 ++ be 2 r.tag.toNat ++ [0, 0] ++ entry, some 3)

/-- The parts a state is made of. -/
inductive Part where
  | win | tw | mbx | sides | lanes | paths | time | seq | sweep | svc | ven | scan | store | pow | cpu | test | free | pending
  deriving DecidableEq, Repr

/-- A part of the state is the same before and after, the bookkeeping of every command and every change apart: the reply's slot
and RPL_HEAD, GULCY_UP and its cause, the watchdog's count, REST_PEND and the idle times that follow their conditions, an
attention pulse owed, a session's credits in use, which are news to it, and its CPL records. -/
def Part.same (s t : State) : Part → Prop
  | .win => { t.win with
      rplHead := s.win.rplHead, gulcyUp := s.win.gulcyUp, cGulcy := s.win.cGulcy, wdCount := s.win.wdCount
      restPend := s.win.restPend } = s.win
  | .tw => { t.tw with owed := s.tw.owed, pulseSent := s.tw.pulseSent } = s.tw
  | .mbx => { t.mbx with mem := s.mbx.mem } = s.mbx ∧
      ∀ a, a < replySlot s ∨ replySlot s + 64 ≤ a → Mem.read t.mbx.mem a = Mem.read s.mbx.mem a
  | .sides => t.sides = s.sides
  | .lanes => t.lanes = s.lanes
  | .paths => ∀ p : PathId, { t.paths[p] with idleNs := s.paths[p].idleNs } = s.paths[p]
  | .time => t.time = s.time
  | .seq => t.seq = s.seq
  | .sweep => t.sweep = s.sweep
  | .svc => { t.svc with sessions := s.svc.sessions, cpl := s.svc.cpl } = s.svc ∧
      ∀ k : SessionId, { t.svc.sessions[k] with used := s.svc.sessions[k].used, news := s.svc.sessions[k].news } = s.svc.sessions[k]
  | .ven => t.ven = s.ven
  | .scan => t.scan = s.scan
  | .store => t.store = s.store
  | .pow => { t.pow with idleNs := s.pow.idleNs } = s.pow
  | .cpu => t.cpu = s.cpu
  | .test => t.test = s.test
  | .free => t.free = s.free
  | .pending => t.pending = s.pending

/-- Every part but those named is the same before and after. -/
def Keeps (changed : List Part) (s t : State) : Prop := ∀ p : Part, p ∉ changed → p.same s t

/-- A command that Gulcy takes answers OK with a payload and changes nothing else. -/
def Answers (c : Instr) (op : Nat) (r : Req) (s : State) (payload : List Byte) : Prop :=
  ∃ t, exec c s = .next t ∧ Replied s t op r 0 payload ∧ Keeps [] s t

/-- A command that Gulcy takes answers OK with a payload, does what `P` says, and changes no part but those named. -/
def Performs (c : Instr) (op : Nat) (r : Req) (s : State) (payload : List Byte) (changed : List Part) (P : State → Prop) : Prop :=
  ∃ t, exec c s = .next t ∧ Replied s t op r 0 payload ∧ P t ∧ Keeps changed s t

/-- No record that the bridge holds can be served without a bus cycle (R220). -/
def NothingLocal (s : State) : Prop := s.svc.recs.findSome? (localServe s) = none

/-- An outcome is a next state. -/
def isNext (o : Host.Outcome State Fault Refusal) : Prop := ∃ t, o = .next t

/-! ### Events and lines -/

/-- The window, apart from REST_PEND, which follows its condition. -/
def WinIs (t : State) (w : Window) : Prop := { t.win with restPend := w.restPend } = w
/-- The window, apart from REST_PEND and what an event changes of it: EVT_HEAD, EVT_LOST, the LOST cause. -/
def WinNoted (t : State) (w : Window) : Prop :=
  { t.win with restPend := w.restPend, evtHead := w.evtHead, evtLost := w.evtLost, cLost := w.cLost } = w
/-- The two-wire target, apart from the pulse owed and the mark of a pulse sent, which follow ATTN. -/
def TwIs (t : State) (x : TwoWire) : Prop := { t.tw with owed := x.owed, pulseSent := x.pulseSent } = x
/-- The paths, apart from their idle times, which follow their conditions. -/
def PathsAre (t : State) (v : Vector Path 4) : Prop := ∀ p : PathId, { t.paths[p] with idleNs := v[p].idleNs } = v[p]
/-- The AO domain, apart from the device idle time, which follows its condition. -/
def PowIs (t : State) (x : Power) : Prop := { t.pow with idleNs := x.idleNs } = x
/-- The mailbox, apart from what an event changes of it: the event ring's bytes, SEQ, the hold, coalesced events. -/
def MbxNoted (t : State) (m : Mailbox) : Prop :=
  { t.mbx with mem := m.mem, evtSeq := m.evtSeq, hold := m.hold, coal := m.coal } = m ∧
  (Mem.wf m.mem = true → ∀ a, a < 0x2000 ∨ 0x4000 ≤ a → Mem.read t.mbx.mem a = Mem.read m.mem a)
/-- The bridge, apart from EVT records built or skipped. -/
def SvcNoted (t : State) (b : Bridge) : Prop := { t.svc with evt := b.evt, evtSkip := b.evtSkip } = b
/-- The store, apart from log entries staged or lost. -/
def StoreNoted (t : State) (x : Store) : Prop :=
  { t.store with staged := x.staged, stageNs := x.stageNs, logLost := x.logLost } = x

/-- A part of the state is the same before and after a row that raises no event. -/
def Part.kept (s t : State) : Part → Prop
  | .win => WinIs t s.win
  | .tw => TwIs t s.tw
  | .mbx => t.mbx = s.mbx
  | .paths => PathsAre t s.paths
  | .svc => t.svc = s.svc
  | .pow => PowIs t s.pow
  | p => p.same s t

/-- A part of the state is the same before and after a row that raises events. -/
def Part.noted (s t : State) : Part → Prop
  | .win => WinNoted t s.win
  | .mbx => MbxNoted t s.mbx
  | .svc => SvcNoted t s.svc
  | .store => StoreNoted t s.store
  | p => p.kept s t

/-- A row raises no event, does what `P` says and changes no part but those named. -/
def Does (c : Instr) (s : State) (changed : List Part) (P : State → Prop) : Prop :=
  ∃ t, exec c s = .next t ∧ P t ∧ ∀ p : Part, p ∉ changed → p.kept s t

/-- A row that may raise events does what `P` says and changes no part but those named. -/
def Affects (c : Instr) (s : State) (changed : List Part) (P : State → Prop) : Prop :=
  ∃ t, exec c s = .next t ∧ P t ∧ ∀ p : Part, p ∉ changed → p.noted s t

/-- The entry of an event raised in a state. -/
def entryOf (s : State) (code : Nat) (data : List Byte) : EventEntry :=
  { code := BitVec.ofNat 16 code, seq := s.mbx.evtSeq, count := 1, data, stamp := s.now }

/-- The coalesced event of a code and key holds one occurrence more than in `s`. -/
def Counted (s t : State) (code : Nat) (key : List Byte) : Prop :=
  ∃ x ∈ t.mbx.coal, x.code = BitVec.ofNat 16 code ∧ x.key = key ∧
    x.count = match s.mbx.coal.find? fun y => y.code == BitVec.ofNat 16 code && y.key == key with
      | some y => satInc y.count
      | none => 1

/-- An event raised in `s` stands in `t`: at the event ring's head, in the hold while the ring cannot be written, lost and counted
where neither has room, or among the coalesced events where its table limits it (R321, R441). -/
def Raised (s t : State) (code : Nat) (data : List Byte) : Prop :=
  match limitOf code data with
  | .none =>
    if ringsOpen s = true then
      if ringCount s.win.evtHead s.win.evtTail < 256 then
        t.win.evtHead = s.win.evtHead + 1 ∧ (Mem.wf s.mbx.mem = true →
          Mem.readAll t.mbx.mem (0x2000 + s.win.evtHead.toNat % 256 * 32) 32 = eventBytes (entryOf s code data))
      else t.win.evtLost = satInc s.win.evtLost ∧ t.win.cLost = true
    else if s.mbx.hold.length < 16 then t.mbx.hold = s.mbx.hold ++ [entryOf s code data]
    else t.win.evtLost = satInc s.win.evtLost ∧ t.win.cLost = true
  | .sheet key => Counted s t code key
  | .second key => Counted s t code key

/-- A row raises one event, does what `P` says and changes no part but those named. -/
def Reports (c : Instr) (s : State) (code : Nat) (data : List Byte) (changed : List Part) (P : State → Prop) : Prop :=
  Affects c s changed fun t => Raised s t code data ∧ P t

/-- A line of the active Mould with this action starts: it runs in the sheet in progress and not already, and once time has passed
to its start tick, in `u`, its start window has not passed, its words find every island present and nothing that would make it missed
(R22, R44, R53, R54, R75). -/
def LineBegins (s u : State) (t : Fin 9) (idx action : Nat) (l : Line) : Prop :=
  let x : Placed := { table := t.val, index := idx, line := l }
  lineNow s t.val idx = some l ∧ l.action = action ∧ s.seq.running.any (fun r => r.table == t && r.idx == idx) = false ∧
  u = elapseTo (tickStamp s l.start) s ∧ scanOff u t.val l = false ∧ lateLine u t l = false ∧
  (∀ i ∈ destinations x, present u i = true) ∧ (namedIslands x = [] ∨ ∃ i ∈ namedIslands x, present u i = true) ∧
  missCause u action = none

/-- A line that begins is noted as running and does what `P` says from the state at its start tick. -/
def Begins (c : Instr) (s u : State) (tbl : Fin 9) (idx : Nat) (changed : List Part) (P : State → Prop) : Prop :=
  ∃ t, exec c s = .next t ∧ P t ∧ t.seq.running = u.seq.running ++ [{ table := tbl, idx, tokens := true, acts := true }] ∧
    ({ t.seq with running := u.seq.running } = u.seq ∨ Part.seq ∈ changed) ∧
    ∀ p : Part, p ∉ changed → p ≠ .seq → p.noted u t

/-- A state in which a run that was in progress in `s` has ended with a cause: held, every switched domain off, every output released,
Gulcy stopped, the end record in AO memory. -/
def RunEnded (s t : State) (cause : Nat) (saveDone : Bool) (counter : BitVec 64) : Prop :=
  t.pow.dev = .held ∧ t.cpu.running = false ∧ t.pow.rest = .none ∧ t.pow.aoKept = true ∧ t.seq.stopped = true ∧ t.seq.running = [] ∧
  (t.pow.ended.map fun e => (e.cause.toNat, e.stamp)) = some (cause, s.now) ∧ (∀ i : Fin 50, domOn t (i.val + 1) = false) ∧
  (∀ i : SideId, t.sides[i].txIdle = true ∧ t.sides[i].term = false) ∧ t.test.tapIr = 1 ∧
  (s.pow.dev ≠ .rest → t.pow.saved = saveDone ∧ t.time.t0 = s.time.spine ∧ t.time.c0 = counter ∧ t.time.stSaved = s.time.st) ∧
  t.pending = s.pending

end Sys2Proof.Machine
end

