-- ==== Sys2Proof/Certificates/Slice0/Obligations.lean ====
section
/-! DEFINITION. The statements: what the commands and events do, what they leave alone, what every step keeps. -/

open Sys2Proof Sys2Proof.Machine

/-! ### The step -/

/-- A step runs the command at the front of the queue on the state with the queue's rest. -/
def Obligations.StepTakesFront : Prop :=
  ∀ (c : Instr) (rest : List Instr) (s : State), step { s with pending := c :: rest } = exec c { s with pending := rest }

/-- On an empty queue one sheet-clock tick passes: spine time advances while D41 is on (log entry 7: the model's choice).

The model stops nowhere: every step answers a next state.

Where the manual leaves it open, the statement rests on the model's choices of log entries 6 and 7. -/
def Obligations.IdleStepTicksAndEveryStepCompletes : Prop :=
  (∀ s : State, s.pending = [] → ∃ t, step s = .next t ∧ t.pending = [] ∧
     (domOn s 41 = true → t.time.spine = s.time.spine + BitVec.ofNat 112 (spineStep 8 s.time.freqAdj)) ∧
     (domOn s 41 = false → t.time.spine = s.time.spine)) ∧
  (∀ s : State, isNext (step s))

/-- What reset leaves in registers whose reset value the manual states. -/
def Obligations.ResetLeavesStatedValues : Prop :=
  State.reset.win.id = 0x1640300000 ∧ State.reset.win.attnMask = 0xDF80000000 ∧ State.reset.win.yielding = true ∧
  State.reset.win.wdTimeout = 500 ∧ State.reset.win.mgtCfg = 0x2000000000 ∧ State.reset.win.devState = 1 ∧
  (∀ i : SideId, State.reset.sides[i].trim = 0x8422000000 ∧ State.reset.sides[i].calCfg = 0x7F00404000 ∧
    ∀ k : Fin 4, State.reset.sides[i].rxeq[k] = 0x6200000000 ∧ State.reset.sides[i].txeq[k] = 0x0100040000) ∧
  (∀ l : LaneId, State.reset.lanes[l].logLane = 0xFF) ∧
  (∀ p : PathId, State.reset.paths[p].cfg = 0 ∧ State.reset.paths[p].pcieCfg = 0x113FFC0000 ∧
    State.reset.paths[p].bpCfg = 0x0800000000 ∧ State.reset.paths[p].lineCfg = 0) ∧
  State.reset.time.cfg = 0x20A6400000 ∧ State.reset.time.pull = 0x8000 ∧ State.reset.svc.etype = 0x88B5 ∧
  State.reset.ven.cfg = 0x000A020A00 ∧ State.reset.test.tapIr = 0x01 ∧ State.reset.pending = []

/-- The memories of the machine after reset are canonical.

After reset every domain follows its condition. -/
def Obligations.ResetMeetsTheInvariants : Prop :=
  (State.reset.memoriesWf) ∧
  (DomainsSettled State.reset)

/-- Every step keeps the canonical form of every memory. -/
def Obligations.StepsKeepMemoriesCanonical : Prop :=
  ∀ s t : State, s.memoriesWf → step s = .next t → t.memoriesWf

/-- Every step leaves every switched domain on exactly when its condition in Table 16.2 holds (R400, R401). -/
def Obligations.StepsKeepDomainsSettled : Prop :=
  ∀ s t : State, DomainsSettled s → step s = .next t → DomainsSettled t

/-! ### Events and gates -/

/-- An event raised stands in the ring, in the hold or among the coalesced events, or is lost and counted; nothing else changes but
EVT records of the sessions that enable its class and the staging of the log (R223, R321, R438, R441).

Where the manual leaves it open, the statement rests on the model's choices of log entries 17 and 18. -/
def Obligations.EventsAreRecorded : Prop :=
  ∀ (s : State) (code : Nat) (data : List Byte), data.length ≤ 14 →
    Raised s (raise s code data) code data ∧ (∀ p : Part, p.noted s (raise s code data)) ∧
    (limitOf code data = .none →
      (raise s code data).mbx.evtSeq = s.mbx.evtSeq + 1 ∧
      (∀ k : SessionId, domOn s 44 = true → s.svc.sessions[k].addr.isSome = true → s.svc.evt.length ≤ 12 →
        (code = 0x0608 → data.head? = some (BitVec.ofNat 8 k.val)) →
        (code ≠ 0x0608 → s.svc.sessions[k].mask.getLsbD (code / 256 - 1) = true) →
        ∃ o ∈ (raise s code data).svc.evt, o.session = k ∧
          o.bytes = [0x14, 0] ++ be 2 40 ++ [0, 0, 0, 0] ++ eventBytes (entryOf s code data)) ∧
      (logged code = true → s.store.staged.length < 56 →
        (raise s code data).store.staged = s.store.staged ++ [entryOf s code data]))

/-- A command whose LEN is not that of its row is answered BAD_LENGTH, and one of the two-wire side that does not own the rings
NOT_OWNER, with no effect; a command that Gulcy cannot take waits with those that have arrived, a session's holding its CTL credit
(R23, R325, R327, R334).

Where the manual leaves it open, the statement rests on the model's choices of log entry 13. -/
def Obligations.CommandsAreGated : Prop :=
  ∀ (s : State) (r : Req) (c : Instr) (op need : Nat), (c, op, need) ∈ [(Instr.identGet r, 0x0103, 0), (.evtMaskSet r, 0x0104, 3),
      (.pathSet r, 0x0201, 6), (.pinSet r, 0x0203, 5), (.laneGet r, 0x0205, 1), (.countersGet r, 0x0208, 3), (.calGet r, 0x0301, 2),
      (.calCfgSet r, 0x0304, 6), (.timeGet r, 0x0401, 0), (.timeSet r, 0x0403, 10), (.mouldStatus r, 0x0504, 0), (.sessionBind r, 0x0601, 7),
      (.sessionGet r, 0x0605, 1), (.scanGet r, 0x0808, 4), (.powerGet r, 0x0A03, 0), (.storeGet r, 0x0B02, 0), (.logRead r, 0x0B06, 2),
      (.testEnable r, 0x0D01, 1)] →
    (Ready s r → r.len.toNat ≠ need → ∃ t, exec c s = .next t ∧ Replied s t op r 0x01 [] ∧ Keeps [] s t) ∧
    (r.issuer = .twoWire → s.win.owner ≠ 0 → gulcyReady s = true → replyRoom s r.issuer = true → s.mbx.arrived = [] → s.mbx.owed = [] →
      Mem.wf s.mbx.mem = true → DomainsSettled s → ∃ t, exec c s = .next t ∧ Replied s t op r 0x06 [] ∧ Keeps [] s t) ∧
    (gulcyReady s = false → Does c s [.mbx, .svc] fun t =>
      (t.svc = match r.issuer with
        | .twoWire => s.svc
        | .session k => { s.svc with sessions := vmod s.svc.sessions k fun x => { x with used := vmod x.used 3 (· + 1), news := true } }) ∧
      t.mbx = { s.mbx with
      arrived := s.mbx.arrived ++ [{ issuer := r.issuer, body := some (BitVec.ofNat 16 op, r), rtag := r.tag, lat := 0, answered := false, disowned := false }] })

/-! ### Commands that read -/

/-- IDENT_GET, PATH_GET, LANE_GET, CAL_GET, AUX_CAL_GET and TIME_GET answer with what they read and change nothing else.

Where the manual leaves it open, the statement rests on the model's choices of log entry 36. -/
def Obligations.PathCalTimeReads : Prop :=
  ∀ (s : State) (r : Req), Ready s r →
    (r.len = 0 → Answers (.identGet r) 0x0103 r s
      (imgBytes s.win.id ++ be 6 s.store.eui48.toNat ++ be 8 s.store.eui64.toNat ++ s.store.serial ++ stampBytes s.store.made)) ∧
    (∀ p : PathId, r.len = 1 → num r.payload 0 1 = p.val → Answers (.pathGet r) 0x0202 r s
      (imgBytes s.paths[p].cfg ++ be 4 s.paths[p].pinLat.toNat ++ imgBytes s.paths[p].pcieCfg ++ imgBytes s.paths[p].bpCfg
        ++ imgBytes s.paths[p].lineCfg ++ imgBytes (pcieStatus s p) ++ [by1 (if pathOn s p then stCode s.paths[p].st else 3),
          by1 (groupCode s.paths[p]), by1 (if s.paths[p].formed then (leaderOf s p).val else 0xFF)])) ∧
    (∀ l : LaneId, r.len = 1 → num r.payload 0 1 = l.val → Answers (.laneGet r) 0x0205 r s
      (imgBytes (laneStatus s l) ++ imgBytes (bpStatus s.lanes[l]) ++ imgBytes (pinReport s.sides[sideOf l 0])
        ++ imgBytes (pinReport s.sides[sideOf l 1]) ++ imgBytes (txNow s (sideOf l 0)) ++ imgBytes (txNow s (sideOf l 1)))) ∧
    (∀ (i : SideId) (set : Fin 4), r.len = 2 → num r.payload 0 1 = i.val → setArg s i (num r.payload 1 1) = some set →
      Answers (.calGet r) 0x0301 r s
        (imgBytes s.sides[i].rxeq[set] ++ imgBytes s.sides[i].dfeA[set] ++ imgBytes s.sides[i].dfeB[set] ++ imgBytes s.sides[i].trim
          ++ imgBytes s.sides[i].soff ++ imgBytes (qualA s i) ++ imgBytes (qualB s.sides[i]) ++ imgBytes s.sides[i].calCfg)) ∧
    (∀ w : Fin 16, r.len = 2 → num r.payload 0 1 = 0 → num r.payload 1 1 = w.val → Answers (.auxCalGet r) 0x0305 r s
      (imgBytes s.ven.tap[w] ++ imgBytes (vqual s.ven w))) ∧
    (∀ l : Fin 4, r.len = 2 → num r.payload 0 1 = 1 → num r.payload 1 1 = l.val → Answers (.auxCalGet r) 0x0305 r s
      (imgBytes s.scan.lines[l].cal ++ [0, 0, 0, 0, 0])) ∧
    (r.len = 0 → Answers (.timeGet r) 0x0401 r s
      (imgBytes s.time.cfg ++ imgBytes (timeStatus s.time) ++ imgBytes (timeQuality s.time) ++ imgBytes (chainStatus s.time)
        ++ sbe 4 s.time.freqAdj ++ be 2 s.time.pull.toNat ++ stampBytes s.now ++ stampBytes s.time.ppsStamp))

/-- MOULD_STATUS, SESSION_GET, VEN_GET, SWEEP_RESULT, SIGNAL_READ, SCAN_GET of a line, POWER_GET, STORE_GET, LOG_READ and TELEM_GET
answer with what they read and change nothing else.

Where the manual leaves it open, the statement rests on the model's choices of log entries 44, 48 and 69. -/
def Obligations.MouldSessionStoreReads : Prop :=
  ∀ (s : State) (r : Req), Ready s r →
    (∀ m : Mould, s.seq.active = some m → s.seq.shadow = none → r.len = 0 → Answers (.mouldStatus r) 0x0504 r s
      ([s.seq.source] ++ be 4 m.imageId.toNat ++ [by1 m.sheetN] ++ imgBytes s.seq.since ++ List.replicate 11 0
        ++ slotStatus s 0 ++ slotStatus s 1 ++ be 3 s.store.ramLen ++ [by1 (storeCode s.store)])) ∧
    (∀ (m : Mould) (x : PendingMould), s.seq.active = some m → s.seq.shadow = some x → r.len = 0 →
      Answers (.mouldStatus r) 0x0504 r s
        ([s.seq.source] ++ be 4 m.imageId.toNat ++ [by1 m.sheetN] ++ imgBytes s.seq.since ++ ([1, x.source] ++ imgBytes x.sheet
          ++ be 4 x.mould.imageId.toNat) ++ slotStatus s 0 ++ slotStatus s 1 ++ be 3 s.store.ramLen ++ [by1 (storeCode s.store)])) ∧
    (∀ (k : SessionId) (m : Mould), s.seq.active = some m → r.len = 1 → num r.payload 0 1 = k.val →
      Answers (.sessionGet r) 0x0605 r s
        ([by1 (b2n s.svc.sessions[k].addr.isSome)] ++ be 6 ((s.svc.sessions[k].addr.getD 0).toNat) ++ [by1 s.svc.sessions[k].epoch.toNat]
          ++ (s.svc.sessions[k].credits.toList.map by1)
          ++ ((List.finRange 4).map fun c => by1 (available (begun s r).svc.sessions[k] c)) ++ be 2 s.svc.sessions[k].leaseMax.toNat
          ++ be 2 s.svc.sessions[k].mask.toNat ++ [by1 (2 * b2n (s.svc.holder == some k) + b2n s.svc.sessions[k].broken)]
          ++ be 3 (cycleLines m k.val) ++ be 3 (cycleLines m 0x0F))) ∧
    (∀ w : Fin 16, r.len = 1 → num r.payload 0 1 = w.val → Answers (.venGet r) 0x0706 r s
      (imgBytes s.ven.base[w] ++ imgBytes s.ven.win[w] ++ imgBytes s.ven.cfg ++ imgBytes s.ven.mst ++ imgBytes s.ven.irq
        ++ imgBytes s.ven.up)) ∧
    (∀ n : Nat, 1 ≤ n → n ≤ 4 → r.len = 4 → holdsPlan s r.payload = true → num r.payload 3 1 = n → num r.payload 2 1 + n ≤ 32 →
      num r.payload 1 1 < s.sweep.npoints → Answers (.sweepResult r) 0x0314 r s
        ([by1 s.sweep.st.val] ++
          ((upto n).map fun k => resultOf s (num r.payload 1 1) (Fin.ofNat 32 (num r.payload 2 1 + k))).flatten)) ∧
    (∀ n : Nat, 1 ≤ n → n ≤ 5 → r.len = 3 → num r.payload 2 1 = n → num r.payload 0 2 + n ≤ 512 →
      Answers (.signalRead r) 0x0807 r s (((upto n).map fun i => signalEntry s (num r.payload 0 2 + i)).flatten)) ∧
    (∀ l : Fin 4, r.len = 4 → num r.payload 0 1 = 0 → num r.payload 1 2 = l.val → num r.payload 3 1 = 0 →
      Answers (.scanGet r) 0x0808 r s (imgBytes s.scan.lines[l].cfg ++ imgBytes s.scan.lines[l].cal)) ∧
    (r.len = 0 → Answers (.powerGet r) 0x0A03 r s
      (((List.finRange 4).map fun p => by1 (if pathOn s p then stCode s.paths[p].st else 3)) ++ be 7 (domainBits s)
        ++ ((List.finRange 4).map fun p => be 2 s.paths[p].pathT.toNat).flatten ++ be 3 s.pow.restT.toNat
        ++ be 3 (min (s.pow.idleNs / 1000000) 0xFFFFFF) ++ [s.pow.wake] ++ be 2 s.pow.saveUs.toNat ++ be 2 s.pow.restoreUs.toNat
        ++ be 2 6595 ++ be 2 s.pow.vbak.toNat ++ [by1 (64 * s.pow.charging.val + (chargerNow s).toNat), 0])) ∧
    (r.len = 0 → Answers (.storeGet r) 0x0B02 r s
      (copyStatus s.store.copies[0] ++ copyStatus s.store.copies[1] ++ bankStatus s.store.banks[0] ++ bankStatus s.store.banks[1]
        ++ be 2 (logEntries s.store).length ++ [by1 (storeCode s.store)] ++ be 3 (fwReceived s.store))) ∧
    (∀ e : EventEntry, r.len = 2 → (logEntries s.store)[num r.payload 0 2]? = some e →
      Answers (.logRead r) 0x0B06 r s (be 2 (logEntries s.store).length ++ eventBytes e)) ∧
    (r.len = 0 → Answers (.telemGet r) 0x0D05 r s
      (stampBytes s.test.telemAt ++ (s.test.telem.toList.map fun v => be 2 v.toNat).flatten ++ be 2 s.test.telemHas.toNat))

/-- COUNTERS_GET, BRIDGE_COUNTERS_GET and CHECKER_GET answer with the counters and, with CLEAR, leave those counters at 0 and
no other changed. Shown for a lane side, an island, a session's first five, a scan line and a checker. -/
def Obligations.CounterReadsClear : Prop :=
  ∀ (s : State) (r : Req), Ready s r →
    (∀ i : SideId, r.len = 3 → num r.payload 0 1 = 0 → num r.payload 1 1 = i.val →
      Performs (.countersGet r) 0x0208 r s (counterBytes (sideCounters s.sides[i])) [.sides] fun t =>
        t.sides = if num r.payload 2 1 % 2 = 1 then vmod s.sides i fun x =>
          { x with slips := 0, longRuns := 0, glitches := 0, steps := 0, gates := 0, inserts := 0, deletes := 0 } else s.sides) ∧
    (∀ i : IslandId, islandWf i = true → r.len = 3 → num r.payload 0 1 = 4 → num r.payload 1 1 = i.val →
      Performs (.countersGet r) 0x0208 r s (counterBytes [s.pow.crossings[i]]) [.pow] fun t =>
        { t.pow with idleNs := s.pow.idleNs } =
          if num r.payload 2 1 % 2 = 1 then { s.pow with crossings := vmod s.pow.crossings i fun _ => 0 } else s.pow) ∧
    (∀ k : SessionId, r.len = 4 → num r.payload 0 1 = 0 → num r.payload 1 1 = k.val →
      Performs (.bridgeCountersGet r) 0x0607 r s (counterBytes (s.svc.sessions[k].counts.toList.take 5)) [.svc] fun t =>
        ∀ (j : SessionId) (n : Fin 10), t.svc.sessions[j].counts[n] =
          if j = k ∧ num r.payload 2 1 % 2 = 1 ∧ n.val < 5 then 0 else s.svc.sessions[j].counts[n]) ∧
    (∀ l : Fin 4, r.len = 4 → num r.payload 0 1 = 4 → num r.payload 1 1 = l.val →
      Performs (.bridgeCountersGet r) 0x0607 r s (counterBytes s.scan.lines[l].counts.toList) [.scan] fun t =>
        t.scan = if num r.payload 2 1 % 2 = 1 then
          { s.scan with lines := vmod s.scan.lines l fun x => { x with counts := Vector.replicate 8 0 } } else s.scan) ∧
    (∀ i : SideId, r.len = 2 → num r.payload 0 1 = i.val →
      Performs (.checkerGet r) 0x0D04 r s
        (imgBytes s.sides[i].chkBits ++ imgBytes s.sides[i].chkErrs ++ [by1 (b2n s.sides[i].chkLock), s.sides[i].patSel]) [.sides]
        fun t => t.sides =
          if num r.payload 1 1 % 2 = 1 then vmod s.sides i fun x => { x with chkBits := 0, chkErrs := 0 } else s.sides)

/-! ### Commands that set -/

/-- PIN_SET, PROTO_SET, POLARITY_SET and TXEQ_SET of a path that is not DORMANT take effect as R84, R95, R115, R153 and R344 say and
change nothing else.

PATH_SET with a value that stands puts it in force: the path takes it, no path beyond those it changes does, and a changed path
stands in IDLE with its lanes in electrical idle (R92, R343).

Where the manual leaves it open, the statement rests on the model's choices of log entries 32, 34 and 35. -/
def Obligations.PathSettingsTakeEffect : Prop :=
  (∀ (s : State) (r : Req), Ready s r →
     (∀ p : PathId, r.len = 5 → num r.payload 0 1 = p.val → pinLatOk (num r.payload 1 4) (pcRate s.paths[p].cfg) = true →
       s.paths[p].st ≠ .dormant →
       Performs (.pinSet r) 0x0203 r s [] [.paths] fun t => ∀ q : PathId, { t.paths[q] with idleNs := s.paths[q].idleNs } =
         if q ∈ groupOf s p then { s.paths[q] with pinLat := BitVec.ofNat 32 (num r.payload 1 4) } else s.paths[q]) ∧
     (∀ (p : PathId) (c : R40), r.len = 7 → num r.payload 0 1 = p.val → num r.payload 1 1 = 0 →
       c = pack 40 [(fld (img r.payload 2) 39 15, 15), (fld (img r.payload 2) 13 12, 12)] → pcieCfgOk c = true →
       s.paths[p].st ≠ .dormant →
       Performs (.protoSet r) 0x0204 r s [] [.paths] fun t => ∀ q : PathId, { t.paths[q] with idleNs := s.paths[q].idleNs } =
         if q = p then { s.paths[q] with pcieCfg := c } else s.paths[q]) ∧
     (∀ (p : PathId) (c : R40), r.len = 7 → num r.payload 0 1 = p.val → num r.payload 1 1 = 1 →
       c = pack 40 [(fld (img r.payload 2) 39 30, 30)] → fld c 39 38 ≠ 3 → s.paths[p].st ≠ .dormant →
       Performs (.protoSet r) 0x0204 r s [] [.paths] fun t => ∀ q : PathId, { t.paths[q] with idleNs := s.paths[q].idleNs } =
         if q = p then { s.paths[q] with bpCfg := c } else s.paths[q]) ∧
     (∀ p : PathId, r.len = 7 → num r.payload 0 1 = p.val → num r.payload 1 1 = 2 → s.paths[p].st ≠ .dormant →
       Performs (.protoSet r) 0x0204 r s [] [.paths] fun t => ∀ q : PathId, { t.paths[q] with idleNs := s.paths[q].idleNs } =
         if q = p then { s.paths[q] with lineCfg := pack 40 [(fld (img r.payload 2) 39 38, 38)] } else s.paths[q]) ∧
     (∀ i : SideId, r.len = 2 → num r.payload 0 1 = i.val → s.paths[pathOf i].st ≠ .dormant →
       Performs (.polaritySet r) 0x0207 r s [] [.sides] fun t => t.sides = vmod s.sides i fun x =>
         hostPolarity (pcMode s.paths[pathOf i].cfg)
           { x with rxHost := num r.payload 1 1 % 2 == 1, txPol := num r.payload 1 1 / 2 % 2 == 1 }) ∧
     (∀ (i : SideId) (set : Fin 4) (v : R40), r.len = 7 → num r.payload 0 1 = i.val → setArg s i (num r.payload 1 1) = some set →
       v = pack 40 [(fld (img r.payload 2) 33 7, 7)] → txeqOk v = true → s.paths[pathOf i].st ≠ .dormant →
       ¬(pcMode s.paths[pathOf i].cfg = 1 ∧ s.paths[pathOf i].ltssm = 6) →
       ¬(pcMode s.paths[pathOf i].cfg = 2 ∧ krTraining s.lanes[laneOf i] = true) →
       Performs (.txeqSet r) 0x0206 r s [] [.sides] fun t =>
         (∀ j : SideId, j ≠ i → t.sides[j] = s.sides[j]) ∧
         (if set = runSet s.paths[pathOf i] ∧ inData s i = true then
           t.sides[i].txeq[set] = setFld s.sides[i].txeq[set] 33 28 (fld v 33 28) ∧
           (t.sides[i].txeq[set] ≠ v → t.sides[i].txRamp = some v)
         else t.sides[i].txeq[set] = v))) ∧
  (∀ (s : State) (r : Req) (p : PathId) (c : R40), Ready s r → r.len = 6 → num r.payload 0 1 = p.val → c = img r.payload 1 →
     pathCfgOk s p c = true → s.paths[p].st ≠ .dormant → (s.paths[p].formed = true → leaderOf s p = p) →
     (∀ m ∈ bothMoulds s, ∀ q ∈ pathSetTargets s p c, pathFits m q (pcMode c) (pcRate c) = true) →
     ∃ t, exec (.pathSet r) s = .next t ∧ t.paths[p].cfg = c ∧
       Replied s t 0x0201 r 0 (imgBytes c ++ [by1 (groupCode t.paths[p])]) ∧
       (∀ q : PathId, q ∉ pathSetTargets s p c → t.paths[q].cfg = s.paths[q].cfg) ∧
       (s.paths[p].cfg ≠ c → t.paths[p].st = .idle ∧
         ∀ l ∈ lanesOf p, t.lanes[l].ei = Vector.replicate 2 true ∧ t.lanes[l].fill = Vector.replicate 2 0) ∧
       Keeps [.win, .mbx, .sides, .lanes, .paths, .svc, .store, .pow] s t)

/-- CAL_SEED, CAL_SET, CAL_CFG_SET and AUX_CAL_SET: images reach a side whole without traffic and as ramps with it, CAL_SEED marks the
side seeded, CAL_CFG reaches every side named, a delay tap or a threshold written with ADAPT 1 takes effect at once (R196, R202,
R350, R351).

SWEEP_PLAN, SWEEP_POINTS, SWEEP_ARM and SWEEP_ABORT: a plan defined, its points written, armed, and aborted with cause 4
(R352 to R354).

Where the manual leaves it open, the statement rests on the model's choices of log entries 38, 39, 40, 66 and 116. -/
def Obligations.CalenderAndSweepSettingsTakeEffect : Prop :=
  (∀ (s : State) (r : Req), Ready s r →
     (∀ (i : SideId) (set : Fin 4) (mask : Nat) (want : CalImages), r.len = 29 → num r.payload 0 1 = i.val →
       num r.payload 1 1 ≠ 0xFF → setArg s i (num r.payload 1 1) = some set → mask = num r.payload 2 1 % 32 → mask ≠ 0 →
       want = cleanImages
         { rxeq := if mask % 2 = 1 then img r.payload 4 else s.sides[i].rxeq[set]
           dfeA := if mask / 2 % 2 = 1 then img r.payload 9 else s.sides[i].dfeA[set]
           dfeB := if mask / 4 % 2 = 1 then img r.payload 14 else s.sides[i].dfeB[set]
           trim := if mask / 8 % 2 = 1 then img r.payload 19 else s.sides[i].trim
           soff := if mask / 16 % 2 = 1 then img r.payload 24 else s.sides[i].soff } (bit s.sides[i].trim 20) →
       imagesOk want = true → s.paths[pathOf i].st ≠ .dormant → writeRefused s i set mask = false →
       Performs (.calSet r) 0x0303 r s [] [.sides] fun t =>
         (∀ j : SideId, j ≠ i → t.sides[j] = s.sides[j]) ∧
         (noTraffic s i = true → t.sides[i] =
           relimit (runSet s.paths[pathOf i]) (writeWhole s.sides[i] set want (maskCorrs mask))) ∧
         (noTraffic s i = false → set = runSet s.paths[pathOf i] → t.sides[i] =
           relimit (runSet s.paths[pathOf i]) (rampTo s.sides[i] set want (maskCorrs mask)))) ∧
     (∀ (i : SideId) (set : Fin 4) (want : CalImages), r.len = 29 → num r.payload 0 1 = i.val → num r.payload 1 1 ≠ 0xFF →
       setArg s i (num r.payload 1 1) = some set → want = cleanImages (payloadImages r.payload) (bit s.sides[i].trim 20) →
       imagesOk want = true → s.paths[pathOf i].st ≠ .dormant → writeRefused s i set 31 = false →
       Performs (.calSeed r) 0x0302 r s [] [.sides] fun t =>
         bit t.sides[i].trim 20 = true ∧ (∀ j : SideId, j ≠ i → t.sides[j] = s.sides[j]) ∧
         (noTraffic s i = true → t.sides[i].rxeq = (writeWhole s.sides[i] set want (maskCorrs 31)).rxeq ∧
           t.sides[i].soff = (writeWhole s.sides[i] set want (maskCorrs 31)).soff)) ∧
     (∀ (l : List SideId) (v : R40), r.len = 6 → subjectSides (num r.payload 0 1) = some l → v = img r.payload 1 →
       4 ≤ fld v 32 28 → fld v 27 16 ≠ 0 → fld v 15 12 ≠ 0 → (∀ i ∈ l, s.paths[pathOf i].st ≠ .dormant) →
       Performs (.calCfgSet r) 0x0304 r s [] [.sides] fun t => ∀ i : SideId,
         t.sides[i] = if i ∈ l then { s.sides[i] with calCfg := pack 40 [(fld v 39 12, 12)] } else s.sides[i]) ∧
     (∀ (w : Fin 16) (v : R40), r.len = 7 → num r.payload 0 1 = 0 → num r.payload 1 1 = w.val →
       v = pack 40 [(fld (img r.payload 2) 39 3, 3)] →
       Performs (.auxCalSet r) 0x0306 r s [] [.ven] fun t =>
         (bit v 3 = true → t.ven.tap[w] = v) ∧ (bit v 3 = false → (w, v) ∈ t.ven.tapNext ∧ t.ven.tap[w] = setFld s.ven.tap[w] 3 3 0) ∧
         ∀ x : Fin 16, x ≠ w → t.ven.tap[x] = s.ven.tap[x]) ∧
     (∀ l : Fin 4, r.len = 7 → num r.payload 0 1 = 1 → num r.payload 1 1 = l.val →
       Performs (.auxCalSet r) 0x0306 r s [] [.scan] fun t =>
         t.scan = { s.scan with lines := vmod s.scan.lines l fun x => if bit (img r.payload 2) 33 then
             { x with cal := setFld (setFld x.cal 39 34 (fld (img r.payload 2) 39 34)) 33 33 1, calNext := none }
           else { x with cal := setFld x.cal 33 33 0, calNext := some (img r.payload 2) } })) ∧
  (∀ (s : State) (r : Req), Ready s r →
     (∀ masks : Vector Byte 4, r.len = 18 → 1 ≤ num r.payload 1 1 → 1 ≤ num r.payload 2 2 → num r.payload 2 2 ≤ 256 →
       num r.payload 14 4 ≠ 0 → isBoundary (sheetN s) (num r.payload 4 10) = true →
       masks = (Vector.ofFn fun p : Fin 4 => by1 (num r.payload (14 + p.val) 1)) →
       (∀ i : SideId, bit masks[pathOf i] (i.val % 8) = true → laneOn s (laneOf i) = true) → s.sweep.st ≠ 2 → s.sweep.st ≠ 3 →
       Performs (.sweepPlan r) 0x0310 r s [] [.sweep] fun t => t.sweep =
         { st := 1, plan := by1 (num r.payload 0 1), d := num r.payload 1 1, npoints := num r.payload 2 2
           s0 := BitVec.ofNat 80 (num r.payload 4 10), masks := masks }) ∧
     (∀ (k first : Nat) (ps : List (Nat × Int × Int)), 1 ≤ k → k ≤ 26 → num r.payload 2 1 = k → num r.payload 1 1 = first →
       r.len.toNat = 4 + 2 * k → ps = pointPairs first k (r.payload.drop 4) →
       (∀ x ∈ ps, -64 ≤ x.2.1 ∧ x.2.1 ≤ 64 ∧ -127 ≤ x.2.2) → first + k ≤ s.sweep.npoints → s.sweep.st = 1 →
       s.sweep.plan.toNat = num r.payload 0 1 →
       Performs (.sweepPoints r) 0x0311 r s [] [.sweep] fun t => t.sweep =
         { s.sweep with points := (s.sweep.points.filter fun q => !(ps.any fun x => x.1 == q.1)) ++ ps }) ∧
     (r.len = 1 → holdsPlan s r.payload = true → (∀ k < s.sweep.npoints, ∃ x ∈ s.sweep.points, x.1 = k) →
       boundaryStamp (sheetN s) (boundaryAt (sheetN s) s.seq.base.toNat + 2) < s.sweep.s0.toNat →
       Performs (.sweepArm r) 0x0312 r s [] [.sweep] fun t => t.sweep = { s.sweep with st := 2 }) ∧
     (r.len = 1 → holdsPlan s r.payload = true → (s.sweep.st = 2 ∨ s.sweep.st = 3) →
       Performs (.sweepAbort r) 0x0313 r s [by1 s.sweep.st.val] [.sweep, .sides, .win, .mbx, .svc, .store, .free] fun t =>
         t.sweep = { s.sweep with st := 5, point := none, moved := false, ending := none }))

/-- TIME_CFG_SET, TIME_SET, DELAY_SET, PTP_IP_SET and PULL_SET (R159, R356 to R358).

Where the manual leaves it open, the statement rests on the model's choices of log entries 44 and 112. -/
def Obligations.TimeSettingsTakeEffect : Prop :=
  ∀ (s : State) (r : Req), Ready s r →
    (∀ v : R40, r.len = 5 → v = pack 40 [(fld (img r.payload 0) 39 11, 11)] → fld (img r.payload 0) 27 20 ≠ 0 →
      Performs (.timeCfgSet r) 0x0402 r s [] [.time, .pow] fun t =>
        t.time.cfg = v ∧ t.time.spine = s.time.spine ∧ t.time.freqAdj = s.time.freqAdj ∧
        (fld v 39 38 = fld s.time.cfg 39 38 → fld v 19 12 = fld s.time.cfg 19 12 → t.time.st = s.time.st) ∧
        (fld v 39 38 ≠ fld s.time.cfg 39 38 ∨ fld v 19 12 ≠ fld s.time.cfg 19 12 →
          t.time.st = (if fld v 39 38 = 0 then 1 else 2) ∧ t.time.first = true ∧ t.time.meas = [])) ∧
    (r.len = 10 → timeSource s.time = 0 →
      Performs (.timeSet r) 0x0403 r s [] [.time] fun t => t.time =
        { s.time with step := some (signedOf 80 (num r.payload 0 10 + 2 ^ 80 - s.now.toNat))
                      st := if s.time.st = 0 then 1 else s.time.st, tscale := 3 }) ∧
    (r.len = 10 → timeSource s.time = 2 →
      Performs (.timeSet r) 0x0403 r s [] [.time] fun t => t.time =
        { s.time with step := some (signedOf 80 (num r.payload 0 10 + 2 ^ 80 - s.now.toNat) / 2 ^ 40 * 2 ^ 40)
                      st := if s.time.st = 0 then 1 else s.time.st, tscale := 3 }) ∧
    (∀ w : Fin 5, r.len = 5 → num r.payload 0 1 = w.val → delayOk w.val (signedOf 32 (num r.payload 1 4)) = true →
      Performs (.delaySet r) 0x0404 r s [] [.time] fun t => t.time =
        { s.time with delays := vmod s.time.delays w fun _ => signedOf 32 (num r.payload 1 4) }) ∧
    (r.len = 4 → ptpIpOk (num r.payload 0 4) = true →
      Performs (.ptpIpSet r) 0x0405 r s [] [.time] fun t => t.time =
        { s.time with ptpIp := BitVec.ofNat 32 (num r.payload 0 4) }) ∧
    (r.len = 2 → timeSource s.time = 0 →
      Performs (.pullSet r) 0x0406 r s [] [.time] fun t => t.time =
        { s.time with pullGoal := some (BitVec.ofNat 16 (num r.payload 0 2)) })

/-- MOULD_LOAD writes the RAM image, MOULD_STORE starts a store, MOULD_ACTIVATE fills shadow memory or withdraws what it holds
(R70, R71, R360 to R362).

Where the manual leaves it open, the statement rests on the model's choices of log entry 41. -/
def Obligations.MouldCommandsTakeEffect : Prop :=
  ∀ (s : State) (r : Req), Ready s r →
    (∀ off n : Nat, off = num r.payload 0 3 → n = num r.payload 3 1 → 1 ≤ n → n ≤ 52 → r.len.toNat = 4 + n → off + n ≤ 163840 →
      s.store.job = none →
      Performs (.mouldLoad r) 0x0501 r s [] [.store] fun t => t.store =
        { s.store with ram := Mem.writeAll s.store.ram off (slice r.payload 4 n)
                       ramLen := max (if off = 0 then 0 else s.store.ramLen) (off + n) }) ∧
    (∀ (k : Fin 2) (m : Mould), r.len = 1 → num r.payload 0 1 = k.val → s.store.job = none →
      loaderCheck (ramBytes s) s.store.ramLen = none → s.seq.active = some m → storeLines m ≠ 0 →
      ∃ t, exec (.mouldStore r) s = .next t ∧ Keeps [.store, .mbx] s t ∧
        t.store = { s.store with job := some (.mould k (s.store.ram.filter fun c => c.1 < num (ramBytes s) 12 4) (num (ramBytes s) 12 4) 0) } ∧
        t.mbx = { s.mbx with taken := s.mbx.taken ++ [{ opcode := 0x0502, req := r, rtag := r.tag, lat := 0 }] }) ∧
    (r.len = 6 → num r.payload 0 1 = 3 → s.seq.shadow = none → conflict s baseMould = none →
      liesAhead (img r.payload 1) s.seq.sheet = true → commonStart s baseMould (img r.payload 1) = true →
      Performs (.mouldActivate r) 0x0503 r s [] [.seq] fun t => t.seq =
        { s.seq with shadow := some { mould := baseMould, source := 3, sheet := img r.payload 1 } }) ∧
    (∀ bs : List Byte, r.len = 6 → num r.payload 0 1 = 2 → s.seq.shadow = none → bs = ramBytes s → loaderCheck bs bs.length = none →
      conflict s (toMould bs) = none → liesAhead (img r.payload 1) s.seq.sheet = true →
      commonStart s (toMould bs) (img r.payload 1) = true →
      Performs (.mouldActivate r) 0x0503 r s [] [.seq] fun t => t.seq =
        { s.seq with shadow := some { mould := toMould bs, source := 2, sheet := img r.payload 1 } }) ∧
    (∀ x : PendingMould, r.len = 6 → num r.payload 0 1 = 0xFF → s.seq.shadow = some x →
      Performs (.mouldActivate r) 0x0503 r s [1] [.seq, .win, .mbx, .svc, .store] fun t =>
        t.seq = { s.seq with shadow := none })

/-- CLAIM by the owner, or by anyone while YIELD is 1, moves ownership and answers with the new owner and the old; CANCEL that finds
nothing answers 0; EVT_MASK_SET keeps 13 bits of the mask; CORE_PLL_SELECT takes CORE to its PLL where that locks (R325, R328, R366
to R368).

Where the manual leaves it open, the statement rests on the model's choices of log entries 42, 43 and 50. -/
def Obligations.ManagementCommandsTakeEffect : Prop :=
  ∀ (s : State) (r : Req), Ready s r →
    (∀ new y : Nat, r.len = 2 → num r.payload 1 1 = y → y ≤ 1 →
      new = (if num r.payload 0 1 = 0xFF then issuerCode r.issuer else num r.payload 0 1) → new ≤ 4 →
      (∀ k : SessionId, new = k.val + 1 → s.svc.sessions[k].addr.isSome = true) →
      (ownsRings s r.issuer = true ∨ s.win.yielding = true) →
      Performs (.claim r) 0x0101 r s [by1 new, by1 s.win.owner.toNat] [.win, .mbx, .svc, .store] fun t =>
        t.win.owner = BitVec.ofNat 3 new ∧ (t.win.yielding = true ↔ y = 1) ∧ t.win.ownEpoch = ownerEpoch s new ∧
        (s.win.owner ≠ BitVec.ofNat 3 new → t.win.cOwn = true)) ∧
    (r.len = 2 → s.mbx.taken = [] → Answers (.cancel r) 0x0102 r s [0]) ∧
    (∀ x : Taken, r.len = 2 → s.mbx.taken = [x] → x.req.issuer = r.issuer → x.req.tag.toNat = num r.payload 0 2 →
      cancellable x.opcode.toNat = false → Answers (.cancel r) 0x0102 r s [3]) ∧
    (∀ x : Taken, r.len = 2 → s.mbx.taken = [x] → x.req.issuer = r.issuer → x.req.tag.toNat = num r.payload 0 2 →
      cancellable x.opcode.toNat = true →
      ∃ t, exec (.cancel r) s = .next t ∧ t.mbx.taken = [] ∧ t.store.job = none ∧
        Keeps [.win, .mbx, .svc, .store] s t) ∧
    (∀ k : SessionId, r.len = 3 → num r.payload 0 1 = k.val → s.svc.sessions[k].addr.isSome = true →
      Performs (.evtMaskSet r) 0x0104 r s [] [.svc] fun t => ∀ j : SessionId,
        { t.svc.sessions[j] with used := s.svc.sessions[j].used, news := s.svc.sessions[j].news } =
          if j = k then { s.svc.sessions[j] with mask := BitVec.ofNat 16 (num r.payload 1 2 % 2 ^ 13) } else s.svc.sessions[j]) ∧
    (r.len = 0 → s.win.coreClk = true → ∀ locks : Bool, Answers (.corePllSelect r locks) 0x0105 r s [1]) ∧
    (r.len = 0 → s.win.coreClk = false →
      Performs (.corePllSelect r true) 0x0105 r s [1] [.win, .mbx, .svc, .store] fun t => t.win.coreClk = true)

/-- SESSION_BIND, SESSION_UNBIND, SESSION_CREDITS, SESSION_POLICY and SVC_SET by the owner of the rings (R205, R210, R370 to
R372).

Where the manual leaves it open, the statement rests on the model's choices of log entry 22. -/
def Obligations.SessionCommandsTakeEffect : Prop :=
  ∀ (s : State) (r : Req), Ready s r → ownsRings s r.issuer = true →
    (∀ (k : SessionId) (a : Mac), r.len = 7 → num r.payload 0 1 = k.val → a = BitVec.ofNat 48 (num r.payload 1 6) → a ≠ 0 →
      bit a 40 = false →
      Performs (.sessionBind r) 0x0601 r s [] [.win, .mbx, .svc, .ven, .store] fun t =>
        t.svc.sessions[k].addr = some a ∧ ∀ j : SessionId, j ≠ k → t.svc.sessions[j].addr = s.svc.sessions[j].addr) ∧
    (∀ k : SessionId, r.len = 1 → num r.payload 0 1 = k.val →
      ∃ t, exec (.sessionUnbind r) s = .next t ∧ t.svc.sessions[k].addr = none ∧
        (∀ j : SessionId, j ≠ k → t.svc.sessions[j].addr = s.svc.sessions[j].addr) ∧
        (s.svc.sessions[k].addr.isSome = true → t.svc.sessions[k].mask = 0 ∧ t.svc.sessions[k].used = Vector.replicate 4 0) ∧
        (r.issuer ≠ .session k → Replied s t 0x0602 r 0 []) ∧ Keeps [.win, .mbx, .svc, .ven, .store] s t) ∧
    (∀ (k : SessionId) (v : Vector Nat 4), r.len = 5 → num r.payload 0 1 = k.val →
      v = (Vector.ofFn fun c : Fin 4 => num r.payload (1 + c.val) 1) → (∀ c : Fin 4, creditSum s k c v[c] ≤ classBuffer c) →
      Performs (.sessionCredits r) 0x0603 r s [] [.svc] fun t => ∀ j : SessionId,
        { t.svc.sessions[j] with used := s.svc.sessions[j].used, news := s.svc.sessions[j].news } =
          if j = k then { s.svc.sessions[j] with credits := v } else s.svc.sessions[j]) ∧
    (∀ k : SessionId, r.len = 3 → num r.payload 0 1 = k.val → num r.payload 1 2 ≠ 0 →
      Performs (.sessionPolicy r) 0x0604 r s [] [.svc] fun t => ∀ j : SessionId,
        { t.svc.sessions[j] with used := s.svc.sessions[j].used, news := s.svc.sessions[j].news } =
          if j = k then { s.svc.sessions[j] with leaseMax := BitVec.ofNat 16 (num r.payload 1 2) } else s.svc.sessions[j]) ∧
    (∀ mode : Fin 4, r.len = 3 → num r.payload 0 1 = mode.val → etypeOk (num r.payload 1 2) = true →
      (mode = s.svc.mode ∨ ∀ m ∈ bothMoulds s, svcFits m mode.val = true) →
      Performs (.svcSet r) 0x0606 r s [] [.win, .mbx, .svc, .store, .pow, .time] fun t =>
        (s.svc.leaving = [] → t.time = s.time) ∧ t.svc.mode = mode ∧ t.svc.etype = BitVec.ofNat 16 (num r.payload 1 2) ∧ (mode ≠ s.svc.mode → t.svc.link = false))

/-- VEN_SET, VWIN_SET, VMST_SET, VIRQ_SET, VUP_SET and SHADOW_WRITE: a change of VEN_CFG waits for the end of a VEN line in progress,
one of a window for the end of the line that serves it, every other takes effect at once (R245, R262, R374, R375).

Where the manual leaves it open, the statement rests on the model's choices of log entry 44. -/
def Obligations.VeneerSettingsTakeEffect : Prop :=
  ∀ (s : State) (r : Req), Ready s r →
    (∀ v : R40, r.len = 5 → v = pack 40 [(fld (img r.payload 0) 39 7, 7)] → venCfgOk v = true →
      (vclkDiv v = 0 → ∀ w : Fin 16, bit (winNow s w).2 29 = false) → (bit v 7 = false → s.svc.holder = none) →
      (venLineRuns s = true → Performs (.venSet r) 0x0701 r s [] [.ven] fun t => t.ven = { s.ven with cfgNext := some v }) ∧
      (venLineRuns s = false → Performs (.venSet r) 0x0701 r s [] [.ven, .svc, .scan, .win, .mbx, .store, .pow] fun t =>
        t.ven.cfg = v ∧ t.ven.cfgNext = none)) ∧
    (∀ (w : Fin 16) (base c : R40), r.len = 11 → num r.payload 0 1 = w.val → base = pack 40 [(fld (img r.payload 1) 39 8, 8)] →
      c = img r.payload 6 → winCfgOk base c (vclkDiv (venCfgNow s)) = true →
      (lineServes s w = true → Performs (.vwinSet r) 0x0702 r s [] [.ven] fun t =>
        t.ven.base = s.ven.base ∧ t.ven.win = s.ven.win ∧ (w, base, c) ∈ t.ven.winNext) ∧
      (lineServes s w = false → Performs (.vwinSet r) 0x0702 r s [] [.ven] fun t =>
        ∀ x : Fin 16, t.ven.base[x] = (if x = w then base else s.ven.base[x]) ∧ t.ven.win[x] = if x = w then c else s.ven.win[x])) ∧
    (r.len = 5 → (∀ m : Fin 4, mapOk (fld (img r.payload 0) (15 + 8 * m.val) (8 + 8 * m.val) / 2 % 4)
        (fld (img r.payload 0) (15 + 8 * m.val) (8 + 8 * m.val) / 8 % 4) = true) →
      Performs (.vmstSet r) 0x0703 r s [] [.ven, .pow] fun t =>
        t.ven.mst = pack 40 ((upto 4).map fun m => (fld (img r.payload 0) (15 + 8 * m) (8 + 8 * m) / 2, 9 + 8 * m))) ∧
    (r.len = 5 → Performs (.virqSet r) 0x0704 r s [] [.ven, .pow] fun t =>
      t.ven.irq = pack 40 [(fld (img r.payload 0) 39 16, 16)]) ∧
    (r.len = 5 → Performs (.vupSet r) 0x0705 r s [] [.ven] fun t =>
      t.ven = { s.ven with up := pack 40 [(fld (img r.payload 0) 39 19, 19)] }) ∧
    (∀ off n : Nat, off = num r.payload 0 2 → n = num r.payload 2 1 → 4 ≤ n → n ≤ 52 → r.len.toNat = 3 + n → off % 4 = 0 →
      n % 4 = 0 → off + n ≤ 65536 →
      Performs (.shadowWrite r) 0x0707 r s [] [.ven] fun t =>
        t.ven = { s.ven with shadow := Mem.writeAll s.ven.shadow off (slice r.payload 3 n) })

/-- SCAN_SET, TEMPLATE_SET, SIGNAL_SET, BUNDLE_SET, BUNDLE_MEMBERS and SIGNAL_WRITE: a setting waits for its line, a definition for the
sheet boundary, a written output signal holds its value at once (R264, R285, R376 to R379).

Where the manual leaves it open, the statement rests on the model's choices of log entries 44, 45 and 46. -/
def Obligations.ScanSettingsTakeEffect : Prop :=
  ∀ (s : State) (r : Req), Ready s r →
    (∀ (l : Fin 4) (c : R40), r.len = 6 → num r.payload 0 1 = l.val →
      c = pack 40 [(fld (img r.payload 1) 39 21, 21), (fld (img r.payload 1) 16 0, 0)] → scanCfgOk c = true →
      Performs (.scanSet r) 0x0801 r s [] [.scan] fun t => t.scan = { s.scan with lines := vmod s.scan.lines l fun x =>
        { x with cfgNext := if x.cfgNext.isNone && x.cfg == c then none else some (c, false) } }) ∧
    (∀ id : Nat, r.len = 34 → num r.payload 0 1 = id → id < 128 → num r.payload 1 1 = 1 →
      Performs (.templateSet r) 0x0802 r s [] [.scan] fun t =>
        t.scan = { s.scan with staged := some (id, slice r.payload 2 32) }) ∧
    (∀ (id : Nat) (b : List Byte), r.len = 34 → num r.payload 0 1 = id → id < 128 → num r.payload 1 1 = 0 → s.scan.staged = none →
      b = cleanTemplate (slice r.payload 2 32 ++ (templateNow s id).drop 32) → templateOk s b = true →
      (tKind (templateNow s id) = 0 ∨ (tKind b = tKind (templateNow s id) ∧ tLine b = tLine (templateNow s id)) ∨
        templateNamed s id = false) →
      Performs (.templateSet r) 0x0802 r s [] [.scan] fun t =>
        t.scan = { s.scan with newDefs := s.scan.newDefs ++ [.template id b] }) ∧
    (∀ (id : Nat) (b : List Byte), r.len = 18 → num r.payload 0 2 = id → id < 512 → b = cleanSignal (slice r.payload 2 16) →
      signalOk s b = true →
      Performs (.signalSet r) 0x0803 r s [] [.scan] fun t =>
        t.scan = { s.scan with newDefs := s.scan.newDefs ++ [.signal id b] }) ∧
    (∀ (id : Nat) (h : List Byte) (ms : List (BitVec 16)), r.len = 17 → num r.payload 0 1 = id → id < 64 →
      h = cleanBundle (slice r.payload 1 16) → ms = stagedMembers s id (bundleNow s id).2 → bundleOk s h ms = true →
      Performs (.bundleSet r) 0x0804 r s [] [.scan] fun t => t.scan =
        { s.scan with newDefs := s.scan.newDefs ++ [.bundle id h ms], members := s.scan.members.filter fun p => p.1 != id }) ∧
    (∀ id first k : Nat, num r.payload 0 1 = id → num r.payload 1 1 = first → num r.payload 2 1 = k → 1 ≤ k → k ≤ 26 →
      r.len.toNat = 3 + 2 * k → id < 64 → first ≤ 63 → first + k ≤ 64 →
      Performs (.bundleMembers r) 0x0805 r s [] [.scan] fun t => t.scan =
        { s.scan with members := s.scan.members ++
            (upto k).map fun i => (id, first + i, BitVec.ofNat 16 (num r.payload (3 + 2 * i) 2)) }) ∧
    (∀ n : Nat, num r.payload 0 1 = 1 → r.len = 8 → num r.payload 1 2 = n → isOutput s n = true →
      Performs (.signalWrite r) 0x0806 r s [] [.scan] fun t =>
        t.scan = { s.scan with signals := s.scan.signals.map fun x =>
          if x.id == n then { x with value := img r.payload 3, flags := x.flags ||| 0x80, age := 0 } else x })

/-- TIMERS_SET, PATH_WAKE, CHARGER_SET and DEVICE_RESET (R382 to R384, R391).

Where the manual leaves it open, the statement rests on the model's choices of log entry 98. -/
def Obligations.PowerCommandsTakeEffect : Prop :=
  ∀ (s : State) (r : Req), Ready s r →
    (r.len = 11 → (∀ p : PathId, num r.payload (2 * p.val) 2 ≤ 60000) →
      (num r.payload 8 3 = 0 ∨ (10 ≤ num r.payload 8 3 ∧ num r.payload 8 3 ≤ 600000)) →
      Performs (.timersSet r) 0x0A01 r s [] [.paths, .pow] fun t =>
        (∀ p : PathId, { t.paths[p] with idleNs := s.paths[p].idleNs } =
          { s.paths[p] with pathT := BitVec.ofNat 16 (num r.payload (2 * p.val) 2) }) ∧
        { t.pow with idleNs := s.pow.idleNs } = { s.pow with restT := BitVec.ofNat 24 (num r.payload 8 3) }) ∧
    (∀ mask : Nat, r.len = 1 → mask = num r.payload 0 1 % 16 → mask ≠ 0 →
      Performs (.pathWake r) 0x0A02 r s
        [by1 (((List.finRange 4).filter fun p => mask / 2 ^ p.val % 2 == 1 && isDormant s p).map fun p => 2 ^ p.val).sum] [.paths]
        fun t => ∀ p : PathId, { t.paths[p] with idleNs := s.paths[p].idleNs } =
          if mask / 2 ^ p.val % 2 = 1 ∧ s.paths[p].st = .dormant then { s.paths[p] with wakeReq := true } else s.paths[p]) ∧
    (r.len = 1 → num r.payload 0 1 % 4 ≠ 3 →
      Performs (.chargerSet r) 0x0A04 r s [] [.pow] fun t => { t.pow with idleNs := s.pow.idleNs } =
        { s.pow with chargeNext := some (BitVec.ofNat 4 (num r.payload 0 1 % 16)) }) ∧
    (r.len = 1 → num r.payload 0 1 = 0x5A → ownsRings s r.issuer = true →
      Performs (.deviceReset r) 0x0B07 r s [] [.pow] fun t => t.pow.resetDue = some (r.issuer != .twoWire))

/-- CONFIG_SAVE, FW_BEGIN, FW_DATA and FW_COMMIT start or go on with the store they name; the first two and the last are answered when
it has ended (R386 to R390).

Where the manual leaves it open, the statement rests on the model's choices of log entries 44 and 67. -/
def Obligations.StoreCommandsStartStores : Prop :=
  ∀ (s : State) (r : Req), Ready s r →
    (∀ m : Mould, r.len = 1 → s.store.job = none → s.seq.active = some m → storeLines m ≠ 0 →
      ∃ t, exec (.configSave r) s = .next t ∧ Keeps [.store, .mbx] s t ∧
        t.mbx.taken = s.mbx.taken ++ [{ opcode := 0x0B01, req := r, rtag := r.tag, lat := 0 }] ∧
        (∃ data, t.store = { s.store with job := some (.config (copyToWrite s.store) (some data) 0) } ∧
          data.pathCfg = (if num r.payload 0 1 % 2 = 1 then Vector.replicate 4 0 else Vector.ofFn fun p : Fin 4 => s.paths[p].cfg))) ∧
    (∀ (m : Mould) (bank len : Nat), r.len = 8 → num r.payload 0 1 = bank → bank ≤ 1 → num r.payload 1 3 = len → len % 256 = 0 →
      1 ≤ len → len ≤ 2097152 → s.store.job = none → (bank == 1) ≠ s.win.bootBank → s.seq.active = some m → storeLines m ≠ 0 →
      ownsRings s r.issuer = true →
      ∃ t, exec (.fwBegin r) s = .next t ∧ Keeps [.store, .mbx] s t ∧
        t.store = { s.store with job := some (.fwErase (bank == 1) len (BitVec.ofNat 32 (num r.payload 4 4)) 0) } ∧
        t.mbx.taken = s.mbx.taken ++ [{ opcode := 0x0B03, req := r, rtag := r.tag, lat := 0 }]) ∧
    (∀ (bank : Bool) (len received programmed made back n : Nat) (crc sum : BitVec 32), num r.payload 3 1 = n → 1 ≤ n → n ≤ 52 →
      r.len.toNat = 4 + n →
      s.store.job = some (.fwOpen bank len crc received programmed made sum false back false) → num r.payload 0 3 = received →
      received + n ≤ len → received - 256 * programmed + n ≤ 2048 → ownsRings s r.issuer = true →
      Performs (.fwData r) 0x0B04 r s [] [.store] fun t => t.store = { s.store with job := some (.fwOpen bank len crc (received + n)
        programmed made (BitVec.ofNat 32 (crc32Run sum.toNat (slice r.payload 4 n))) false back false) }) ∧
    (∀ (m : Mould) (bank : Bool) (len received programmed made back : Nat) (crc sum : BitVec 32), r.len = 1 →
      s.store.job = some (.fwOpen bank len crc received programmed made sum false back false) → num r.payload 0 1 = b2n bank →
      len ≤ received → s.seq.active = some m → storeLines m ≠ 0 → ownsRings s r.issuer = true →
      ∃ t, exec (.fwCommit r) s = .next t ∧ Keeps [.store, .mbx] s t ∧
        t.store = { s.store with job := some (.fwOpen bank len crc received programmed made sum true back false) } ∧
        t.mbx.taken = s.mbx.taken ++ [{ opcode := 0x0B05, req := r, rtag := r.tag, lat := 0 }])

/-- TEST_ENABLE sets every path's TEST bit, LOOP_SET a loop-back, PATTERN_USER a user pattern (R394, R395, R453, R458, R459).

Where the manual leaves it open, the statement rests on the model's choices of log entry 100. -/
def Obligations.TestCommandsTakeEffect : Prop :=
  ∀ (s : State) (r : Req), Ready s r →
    (r.len = 1 → Performs (.testEnable r) 0x0D01 r s [] [.win, .mbx, .sides, .lanes, .paths, .svc, .store, .pow, .test] fun t =>
      ∀ p : PathId, t.paths[p].test = (num r.payload 0 1 / 2 ^ p.val % 2 == 1) ∧
        (num r.payload 0 1 / 2 ^ p.val % 2 = 0 → ∀ i ∈ sidesOf p, t.sides[i].patSel = 0 ∧ t.sides[i].loopDep = 0)) ∧
    (∀ iface ix depth : Nat, r.len = 3 → num r.payload 0 1 = iface → num r.payload 1 1 = ix → num r.payload 2 1 = depth →
      loopOk iface ix depth = true → loopBusy s r.issuer iface ix = false →
      Performs (.loopSet r) 0x0D02 r s [] [.win, .mbx, .svc, .store, .pow, .test, .time] fun t =>
        (iface = 0 → t.test.loopSvc.val = depth) ∧ (iface = 1 → t.test.loopVen.val = depth) ∧
        (∀ l : Fin 4, iface = 2 → ix = l.val → (t.test.echo[l] = true ↔ depth = 1)) ∧
        (iface = 3 → (t.test.loopSync = true ↔ depth = 1))) ∧
    (∀ (n : Fin 4) (k : Nat), num r.payload 0 1 = n.val → num r.payload 1 1 = k → 1 ≤ k → k ≤ 8 → r.len.toNat = 2 + 5 * k →
      (∀ i : SideId, s.sides[i].patSel.toNat % 128 ≠ 0x10 + n.val) →
      Performs (.patternUser r) 0x0D03 r s [] [.test] fun t => t.test =
        { s.test with patterns := vmod s.test.patterns n fun _ => (upto k).map fun i => img r.payload (2 + 5 * i) })

/-! ### Register writes and the two-wire target -/

/-- Five bytes to ATTN_MASK, MGT_CFG, TRC_CFG, SCRATCH or MGT_STATUS write their fields, five bytes to a register without writable
fields write nothing, fewer bytes write nothing and are reported; in a transaction with PEC they are staged, and the rest of a refused
segment does nothing (R293, R294, R304, R311).

A write of CMD_HEAD or of a consumer tail by its owner moves the index where it stays within the ring, and is refused with BADIDX
and event 0x0910 where it does not; a CMD_HEAD write by a side that does not own the rings only counts (R316, R318, R324). -/
def Obligations.WindowWritesTakeEffect : Prop :=
  (∀ (s : State) (k : Fin 32) (bytes : List Byte) (v : R40),
     ((s.tw.phase ≠ .nacking ∧ (s.tw.pec = false ∨ s.tw.phase ≠ .winData)) →
       (bytes.length = 5 → v = BitVec.ofNat 40 (ofBe bytes) →
         (k = 3 → Does (.windowRegisterWrite k bytes) s [.win, .tw] fun t =>
           WinIs t { s.win with attnMask := v >>> 30 <<< 30 } ∧ TwIs t { s.tw with winPtr := 20 }) ∧
         (k = 12 → Does (.windowRegisterWrite k bytes) s [.win, .tw] fun t =>
           WinIs t { s.win with mgtCfg := v >>> 37 <<< 37 } ∧ TwIs t { s.tw with winPtr := 65 }) ∧
         (k = 13 → Does (.windowRegisterWrite k bytes) s [.win, .tw] fun t =>
           WinIs t { s.win with
             sclStuck := s.win.sclStuck && (s.tw.sclLow || !v[35]), sdaStuck := s.win.sdaStuck && (s.tw.sdaLow || !v[34])
             pecErr := s.win.pecErr && !v[33], partialWr := s.win.partialWr && !v[32], nacked := s.win.nacked && !v[31] } ∧
           TwIs t { s.tw with winPtr := 70 }) ∧
         (k = 19 → Does (.windowRegisterWrite k bytes) s [.win, .tw] fun t =>
           WinIs t { s.win with trcCfg := v >>> 38 <<< 38 } ∧ TwIs t { s.tw with winPtr := 100 }) ∧
         (k = 20 → Does (.windowRegisterWrite k bytes) s [.win, .tw] fun t =>
           WinIs t { s.win with scratch := v } ∧ TwIs t { s.tw with winPtr := 105 }) ∧
         ((k ≤ 1 ∨ k = 8 ∨ (14 ≤ k ∧ k ≤ 18) ∨ 21 ≤ k) → Does (.windowRegisterWrite k bytes) s [.tw] fun t =>
           TwIs t { s.tw with winPtr := (5 * k.val + 5) % 160 })) ∧
       (1 ≤ bytes.length → bytes.length < 5 →
         Reports (.windowRegisterWrite k bytes) s 0x0904 [BitVec.ofNat 8 k.val] [.win, .tw] fun t =>
           WinNoted t { s.win with partialWr := true } ∧
           TwIs t { s.tw with winPtr := (s.tw.winPtr + bytes.length) % 160 })) ∧
     (s.tw.pec = true → s.tw.phase = .winData → s.tw.staged.length + bytes.length ≤ 162 →
       Does (.windowRegisterWrite k bytes) s [.tw] fun t => TwIs t { s.tw with staged := s.tw.staged ++ bytes }) ∧
     (s.tw.phase = .nacking → Does (.windowRegisterWrite k bytes) s [] fun _ => True)) ∧
  (∀ (s : State) (v : R40), (s.tw.phase ≠ .nacking ∧ (s.tw.pec = false ∨ s.tw.phase ≠ .winData)) →
     (∀ (n : BitVec 16) (x : Arrival), n = v.extractLsb' 24 16 →
       x = { issuer := .twoWire, body := none, rtag := 0, lat := 0, answered := false, disowned := false } →
       (s.win.owner = 0 → (s.win.cmdHead - s.win.cmdTail).toNat ≤ (n - s.win.cmdTail).toNat → (n - s.win.cmdTail).toNat ≤ 64 →
         Does (.cmdHeadDoorbell v) s [.win, .tw, .mbx] fun t =>
           WinIs t { s.win with cmdHead := n } ∧ TwIs t { s.tw with winPtr := 25 } ∧
           t.mbx = { s.mbx with arrived := s.mbx.arrived ++ List.replicate (n - s.win.cmdHead).toNat x }) ∧
       (s.win.owner = 0 →
         ((n - s.win.cmdTail).toNat < (s.win.cmdHead - s.win.cmdTail).toNat ∨ 64 < (n - s.win.cmdTail).toNat) →
         Reports (.cmdHeadDoorbell v) s 0x0910 ([4] ++ be 2 n.toNat) [.win, .tw] fun t =>
           WinNoted t { s.win with cBadidx := true } ∧ TwIs t { s.tw with winPtr := 25 }) ∧
       (s.win.owner ≠ 0 → Does (.cmdHeadDoorbell v) s [.win, .tw] fun t =>
         WinIs t { s.win with notOwn := if s.win.notOwn = 255 then 255 else s.win.notOwn + 1 } ∧
         TwIs t { s.tw with winPtr := 25 })) ∧
     (∀ n : BitVec 16, n = v.extractLsb' 8 16 →
       ((s.win.rplHead - n).toNat ≤ (s.win.rplHead - s.win.rplTail).toNat →
         Does (.ringTailWrite .reply v) s [.win, .tw] fun t =>
           WinIs t { s.win with rplTail := n } ∧ TwIs t { s.tw with winPtr := 30 }) ∧
       ((s.win.rplHead - s.win.rplTail).toNat < (s.win.rplHead - n).toNat →
         Reports (.ringTailWrite .reply v) s 0x0910 ([5] ++ be 2 n.toNat) [.win, .tw] fun t =>
           WinNoted t { s.win with cBadidx := true } ∧ TwIs t { s.tw with winPtr := 30 }) ∧
       ((s.win.evtHead - n).toNat ≤ (s.win.evtHead - s.win.evtTail).toNat →
         Does (.ringTailWrite .event v) s [.win, .tw] fun t =>
           WinIs t { s.win with evtTail := n } ∧ TwIs t { s.tw with winPtr := 35 }) ∧
       ((s.win.evtHead - s.win.evtTail).toNat < (s.win.evtHead - n).toNat →
         Reports (.ringTailWrite .event v) s 0x0910 ([6] ++ be 2 n.toNat) [.win, .tw] fun t =>
           WinNoted t { s.win with cBadidx := true } ∧ TwIs t { s.tw with winPtr := 35 }) ∧
       ((s.win.trcHead - n).toNat ≤ (s.win.trcHead - s.win.trcTail).toNat →
         Does (.ringTailWrite .trace v) s [.win, .tw] fun t =>
           WinIs t { s.win with trcTail := n } ∧ TwIs t { s.tw with winPtr := 40 }) ∧
       ((s.win.trcHead - s.win.trcTail).toNat < (s.win.trcHead - n).toNat →
         Reports (.ringTailWrite .trace v) s 0x0910 ([7] ++ be 2 n.toNat) [.win, .tw] fun t =>
           WinNoted t { s.win with cBadidx := true } ∧ TwIs t { s.tw with winPtr := 40 })))

/-- A 1 written to ATTN_CAUSE clears a latched cause; YIELD is taken while the two-wire side owns the rings; a WDOG write takes TIMEOUT
and ARM_RESET and restarts the count; the watchdog's end sets WDOG, raises event 0x0912 and resets the service processor only where
ARM_RESET permits it; the restarted service processor runs with GULCY_UP set (R312, R324, R329, R331).

A write to EMERG with the key and one action: LOCK_BREAK breaks the bus lock, RELEASE_IO disables the Veneer and every scan line,
RECLAIM brings the rings back to the two-wire side, CPU_RESET resets the service processor; without the key only event 0x0915 (R330,
R331).

Where the manual leaves it open, the statement rests on the model's choices of log entry 21. -/
def Obligations.CausesWatchdogAndEmergencyActions : Prop :=
  (∀ (s : State) (v : R40),
     ((s.tw.phase ≠ .nacking ∧ (s.tw.pec = false ∨ s.tw.phase ≠ .winData)) →
       Does (.attnCauseClear v) s [.win, .tw] (fun t => WinIs t { s.win with
         cWdog := s.win.cWdog && !v[36], cLost := s.win.cLost && !v[35], cOwn := s.win.cOwn && !v[34]
         cGulcy := s.win.cGulcy && !v[33], cBadidx := s.win.cBadidx && !v[31] } ∧ TwIs t { s.tw with winPtr := 15 }) ∧
       Does (.ownYieldWrite v) s [.win, .tw] (fun t =>
         WinIs t { s.win with yielding := if s.win.owner = 0 then v[36] else s.win.yielding } ∧ TwIs t { s.tw with winPtr := 50 }) ∧
       Does (.wdogWrite v) s [.win, .tw] (fun t =>
         WinIs t { s.win with wdTimeout := v.extractLsb' 24 16, wdArm := v[23], wdCount := 0 } ∧ TwIs t { s.tw with winPtr := 55 })) ∧
     (s.win.wdCount < s.win.wdTimeout.toNat * 1000000 → Does .watchdogExpired s [] fun _ => True) ∧
     (s.win.wdTimeout ≠ 0 → domOn s 37 = true → s.win.wdTimeout.toNat * 1000000 ≤ s.win.wdCount → s.win.wdArm = false →
       Reports .watchdogExpired s 0x0912 [0] [.win] fun t => WinNoted t { s.win with cWdog := true, wdCount := 0 }) ∧
     (s.win.wdTimeout ≠ 0 → domOn s 37 = true → s.win.wdTimeout.toNat * 1000000 ≤ s.win.wdCount → s.win.wdArm = true →
       Affects .watchdogExpired s [.win, .cpu] fun t => t.cpu.running = false ∧ t.cpu.revive = true ∧
         WinNoted t { s.win with
           cWdog := true, wdCount := 0, gulcyUp := false, cGulcy := true
           wdResets := if s.win.wdResets = 255 then 255 else s.win.wdResets + 1 }) ∧
     (s.cpu.revive = true → s.mbx.taken = [] → Does .gulcyRestarted s [.win, .cpu, .store] fun t =>
       t.cpu = { running := true, revive := false } ∧ WinIs t { s.win with gulcyUp := true, cGulcy := true, wdCount := 0 } ∧
       (s.store.job = none → t.store = s.store))) ∧
  (∀ (s : State) (v : R40), (s.tw.phase ≠ .nacking ∧ (s.tw.pec = false ∨ s.tw.phase ≠ .winData)) →
     (v.extractLsb' 32 8 ≠ 0x5A →
       (Reports (.emergLockBreak v) s 0x0915 [] [.tw] fun t => TwIs t { s.tw with winPtr := 60 }) ∧
       (Reports (.emergReleaseIo v) s 0x0915 [] [.tw] fun t => TwIs t { s.tw with winPtr := 60 }) ∧
       (Reports (.emergReclaim v) s 0x0915 [] [.tw] fun t => TwIs t { s.tw with winPtr := 60 }) ∧
       (Reports (.emergCpuReset v) s 0x0915 [] [.tw] fun t => TwIs t { s.tw with winPtr := 60 })) ∧
     (∀ k : SessionId, v.extractLsb' 32 8 = 0x5A → v[28] = false → v[30] = false → v[31] = false → s.svc.holder = some k →
       s.svc.recs = [] → Affects (.emergLockBreak v) s [.tw, .svc, .ven] fun t =>
         t.svc.holder = none ∧ t.svc.leaseNs = 0 ∧ t.svc.sessions[k].broken = true ∧
         (s.ven.cycle = none → t.ven = { s.ven with vlck := false }) ∧ TwIs t { s.tw with winPtr := 60 }) ∧
     (v.extractLsb' 32 8 = 0x5A → v[29] = false → v[30] = false → v[31] = false → DomainsSettled s →
       Affects (.emergReleaseIo v) s [.tw, .win, .mbx, .svc, .ven, .scan, .store, .pow] fun t =>
         venOn t = false ∧ (∀ l : Fin 4, scanOn t l = false) ∧ t.svc.holder = none) ∧
     (v.extractLsb' 32 8 = 0x5A → v[28] = false → v[29] = false → v[31] = false →
       Affects (.emergReclaim v) s [.tw, .win, .mbx] fun t =>
         t.win.owner = 0 ∧ t.win.yielding = true ∧ t.win.ownEpoch = 0 ∧ (s.win.owner ≠ 0 → t.win.cOwn = true)) ∧
     (v.extractLsb' 32 8 = 0x5A → v[28] = false → v[29] = false → v[30] = false →
       Affects (.emergCpuReset v) s [.tw, .win, .cpu] fun t => t.cpu.running = false ∧ t.cpu.revive = true ∧
         WinNoted t { s.win with
           gulcyUp := false, cGulcy := true, wdResets := if s.win.wdResets = 255 then 255 else s.win.wdResets + 1 }))

/-- A transaction on the two-wire bus: its address byte decides what its bytes mean, its pointers are taken or NACKed, mailbox bytes
land where the pointer stands, its STOP ends it and applies staged bytes only with a good PEC (R291 to R297, R304, R314, R324).

Where the manual leaves it open, the statement rests on the model's choices of log entries 117, 145 and 147. -/
def Obligations.TwoWireTransactions : Prop :=
  ∀ (s : State) (addr b lo : Byte) (n : Nat),
    (∀ mid pec : Bool, targetServed s = true → s.tw.phase ≠ .ignoring →
      pec = (if s.tw.phase = .idle ∨ mid = true then s.win.mgtCfg[39] else s.tw.pec) → (addr.toNat % 2 = 0 ∨ pec = false) →
      Does (.twoWireStart ⟨addr, n⟩ mid) s [.tw] fun t => TwIs t { (afterRead s n).tw with
        sclLow := false, sdaLow := false, pulsing := false, staged := [], addr := addr, pec := pec
        phase := if addr.toNat / 8 = 1 then .ignoring
          else if addr.toNat / 2 = 0x40 + 2 * s.win.maddrN.toNat then (if addr.toNat % 2 = 1 then .reading else .winPtr)
          else if addr.toNat / 2 = 0x41 + 2 * s.win.maddrN.toNat then (if addr.toNat % 2 = 1 then .reading else .mbxPtr)
          else .nacking }) ∧
    (∀ mid : Bool, s.tw.phase = .ignoring → Does (.twoWireStart ⟨addr, n⟩ mid) s [] fun _ => True) ∧
    (s.tw.phase = .winPtr →
      (b.toNat < 160 → s.tw.pec = false → Does (.windowPointerSet b) s [.tw] fun t =>
        TwIs t { s.tw with winPtr := b.toNat, phase := .winData }) ∧
      (160 ≤ b.toNat → Reports (.windowPointerSet b) s 0x0905 [s.tw.addr, b] [.tw, .win] fun t =>
        TwIs t { s.tw with staged := [], phase := .nacking } ∧ WinNoted t { s.win with nacked := true })) ∧
    (s.tw.phase = .mbxPtr →
      (b.toNat < 128 → s.tw.pec = false → Does (.mailboxPointerSet [b, lo]) s [.tw] fun t =>
        TwIs t { s.tw with mbxPtr := BitVec.ofNat 15 (256 * b.toNat + lo.toNat), phase := .mbxData }) ∧
      (b.toNat < 128 → s.tw.pec = false → Does (.mailboxPointerSet [b]) s [] fun _ => True) ∧
      (128 ≤ b.toNat → Reports (.mailboxPointerSet [b, lo]) s 0x0905 [s.tw.addr, b] [.tw, .win] fun t =>
        TwIs t { s.tw with staged := [], phase := .nacking } ∧ WinNoted t { s.win with nacked := true })) ∧
    (∀ a next : Nat, s.tw.phase = .mbxData → s.tw.pec = false → a = s.tw.mbxPtr.toNat → next = a / 64 * 64 + (a % 64 + 1) % 64 →
      (a < 0x1000 → s.win.owner = 0 → domOn s 37 = true → Mem.wf s.mbx.mem = true →
        Does (.mailboxByteWrite b) s [.tw, .mbx] fun t => TwIs t { s.tw with mbxPtr := BitVec.ofNat 15 next } ∧
          { t.mbx with mem := s.mbx.mem } = s.mbx ∧ Mem.read t.mbx.mem a = b ∧
          ∀ x : Nat, x ≠ a → Mem.read t.mbx.mem x = Mem.read s.mbx.mem x) ∧
      (a < 0x1000 → s.win.owner ≠ 0 → Does (.mailboxByteWrite b) s [.tw, .win] fun t =>
        TwIs t { s.tw with mbxPtr := BitVec.ofNat 15 next } ∧
        WinIs t { s.win with notOwn := if s.win.notOwn = 255 then 255 else s.win.notOwn + 1 }) ∧
      (0x1000 ≤ a → Does (.mailboxByteWrite b) s [.tw] fun t => TwIs t { s.tw with mbxPtr := BitVec.ofNat 15 next })) ∧
    (targetServed s = true → s.tw.pec = false → s.tw.phase ≠ .reading → s.tw.cutRead = false → Does (.twoWireStop n) s [.tw] fun t =>
      TwIs t { s.tw with phase := .idle, staged := [], sclLow := false, sdaLow := false }) ∧
    (targetServed s = true → s.tw.pec = false → (s.tw.phase = .reading ∨ s.tw.cutRead = true) → s.tw.addr.toNat / 2 = 0x40 + 2 * s.win.maddrN.toNat →
      Does (.twoWireStop n) s [.tw] fun t =>
        TwIs t { s.tw with
          winPtr := (s.tw.winPtr + n) % 160, cutRead := false, phase := .idle, staged := [], sclLow := false, sdaLow := false }) ∧
    (∀ v : R40, targetServed s = true → s.tw.pec = true → s.tw.phase = .winData → s.tw.cutRead = false →
      s.tw.addr.toNat = 0x80 + 4 * s.win.maddrN.toNat → s.tw.staged = [100] ++ imgBytes v ++ [crc8 (s.tw.addr :: 100 :: imgBytes v)] →
      Does (.twoWireStop n) s [.tw, .win] fun t => WinIs t { s.win with scratch := v } ∧
        TwIs t { s.tw with winPtr := 105, phase := .idle, staged := [], sclLow := false, sdaLow := false }) ∧
    (∀ bs : List Byte, targetServed s = true → s.tw.pec = true → s.tw.phase = .winData → s.tw.cutRead = false → s.tw.staged = bs ++ [b] →
      b ≠ crc8 (s.tw.addr :: bs) →
      Reports (.twoWireStop n) s 0x0903 [s.tw.addr, b, crc8 (s.tw.addr :: bs)] [.tw, .win] fun t =>
        WinNoted t { s.win with pecErr := true } ∧
        TwIs t { s.tw with phase := .idle, staged := [], sclLow := false, sdaLow := false }) ∧
    (targetServed s = true → s.tw.phase ≠ .ignoring → addr.toNat / 2 = 0x40 + 2 * s.win.maddrN.toNat →
      Does (.quickCommand ⟨addr, n⟩) s [.tw] fun t =>
        t.tw = { (afterRead s n).tw with pulseSent := false, phase := .idle, staged := [] })

/-- In REST a matching address is held with SCL low until the device has left REST, which sets WOKE and raises event 0x0907; a line
stuck low ends the transaction, sets its flag and raises its event; the attention pulse is driven once, repeated while nobody answers,
and owed again where it was cut (R301, R302, R305, R306).

Where the manual leaves it open, the statement rests on the model's choices of log entries 103 and 147. -/
def Obligations.WakeStuckLinesAndPulses : Prop :=
  ∀ (s : State) (addr : Byte) (n : Nat),
    (s.pow.dev = .rest → s.tw.phase ≠ .ignoring → (addr.toNat / 2 = 0x40 + 2 * s.win.maddrN.toNat ∨ addr.toNat / 2 = 0x41 + 2 * s.win.maddrN.toNat) →
      Does (.addressMatchWake ⟨addr, n⟩) s [.tw] fun t => TwIs t { (afterRead s n).tw with stretch := some addr }) ∧
    (s.pow.dev = .rest → addr.toNat / 2 ≠ 0x40 + 2 * s.win.maddrN.toNat → addr.toNat / 2 ≠ 0x41 + 2 * s.win.maddrN.toNat →
      Does (.addressMatchWake ⟨addr, n⟩) s [] fun t => t.tw.stretch = s.tw.stretch) ∧
    (s.tw.stretch = some addr → s.pow.dev = .run → domOn s 37 = true →
      addr.toNat = 0x80 + 4 * s.win.maddrN.toNat →
      Reports .sclReleaseAfterWake s 0x0907 [addr] [.tw, .win] fun t => WinNoted t { s.win with woke := true } ∧
        TwIs t { s.tw with stretch := none, addr := addr, phase := .winPtr, pec := (if s.tw.phase = .idle then s.win.mgtCfg[39] else s.tw.pec), staged := [] }) ∧
    (Reports .sclStuck s 0x0901 [] [.tw, .win] fun t => WinNoted t { s.win with sclStuck := true } ∧
      TwIs t { s.tw with sclLow := true, cutRead := s.tw.cutRead || s.tw.phase == .reading, phase := .idle, staged := [], pulsing := false }) ∧
    (Reports .sdaStuck s 0x0902 [] [.tw, .win] fun t => WinNoted t { s.win with sdaStuck := true } ∧
      TwIs t { s.tw with sdaLow := true, cutRead := s.tw.cutRead || s.tw.phase == .reading, phase := .idle, staged := [], pulsing := false }) ∧
    (s.win.mgtCfg[38] = true → attn s = true → s.tw.owed = true → s.tw.phase = .idle → targetServed s = true →
      Does .attentionPulse s [.tw] fun t => t.tw = { s.tw with owed := false, pulsing := true, pulseSent := true }) ∧
    (attn s = true → s.tw.pulseSent = true →
      Does .attentionPulseRepeat s [.tw] fun t => t.tw = { s.tw with owed := true, pulsing := false, pulseSent := false }) ∧
    (s.tw.pulsing = true → Reports .attentionPulseAbort s 0x0906 [] [.tw] fun t =>
      t.tw = { s.tw with owed := true, pulsing := false, pulseSent := false })

/-! ### The service port and spine time -/

/-- A frame with a bad FCS, or of a length Ethernet does not allow, is dropped and counted, and every frame is lost while the link is
down; a good frame of a bound session with one NP read of an existing window advances ACK_SEQ and holds the request with its credit
(R205, R207, R208, R212, R215 to R217, R225).

Where the manual leaves it open, the statement rests on the model's choices of log entries 75 and 115. -/
def Obligations.FramesAreTaken : Prop :=
  ∀ s : State,
    (∀ (good : Bool) (b : List Byte), s.svc.link = false → Does (.frameReceived good b) s [] fun _ => True) ∧
    (∀ (good : Bool) (b : List Byte), s.svc.link = true → domOn s 44 = true → (good = false ∨ b.length < 60 ∨ 1514 < b.length) →
      Does (.frameReceived good b) s [.svc] fun t => t.svc = { s.svc with dropMac := satInc s.svc.dropMac }) ∧
    (∀ (k : SessionId) (a : Mac) (seq tag : BitVec 16) (more : List Byte) (addr : R40) (size pat n : Nat) (b : List Byte),
      s.svc.link = true → domOn s 44 = true → etypeOk s.svc.etype.toNat = true → s.svc.sessions[k].addr = some a →
      s.svc.sessions[k].known = true → s.svc.sessions[k].seqKnown = true → seq = s.svc.sessions[k].ackSeq + 1 →
      more.length = 10 → (size = 1 ∨ size = 2 ∨ size = 4) → pat < 256 → 0 < n → n ≤ 256 → n % size = 0 →
      addr.toNat / 2 ^ 32 < 16 → placeCheck s k addr size n false = none → s.svc.sessions[k].used[1] < s.svc.sessions[k].credits[1] →
      s.svc.recs = [] →
      b = be 6 s.store.eui48.toNat ++ be 6 a.toNat ++ be 2 s.svc.etype.toNat ++
        [1, BitVec.ofNat 8 (64 * k.val + s.svc.sessions[k].epoch.toNat), 1, 0] ++ be 2 seq.toNat ++ more ++
        [2, BitVec.ofNat 8 size, 0, 16] ++ be 2 tag.toNat ++ [BitVec.ofNat 8 pat, 0] ++ imgBytes addr ++ [0] ++ be 2 n ++
        List.replicate 14 0 →
      Does (.frameReceived true b) s [.svc] fun t =>
        (∃ x, t.svc.recs = [x] ∧ x.cls = .np ∧ x.session = k ∧ x.tag = tag ∧ x.patience = pat ∧ x.size = size ∧ x.addr = addr ∧
          x.count = n ∧ x.started = false ∧ x.credit = true) ∧
        t.svc.sessions[k].ackSeq = seq ∧ t.svc.sessions[k].used[1] = s.svc.sessions[k].used[1] + 1 ∧
        t.svc.sessions[k].news = true ∧ { t.svc with recs := s.svc.recs, sessions := s.svc.sessions, recNum := s.svc.recNum } = s.svc ∧
        ∀ j : SessionId, j ≠ k → t.svc.sessions[j] = s.svc.sessions[j])

/-- A lost source enters HOLDOVER with event 0x0402, whose cause is open (log entry 1); a message the PTP clock does not support is
counted, a Sync of the selected master is kept; a Delay_Req waits for the next TX line (R158, R160, R164, R236).

A SERVO line takes the mean of the offsets measured since the last one: it decides a step where it is the first or beyond
STEP_LIMIT, else it sets FREQ_ADJ within its bound; with nothing measured from a source it changes nothing (R159).

Where the manual leaves it open, the statement rests on the model's choices of log entries 1, 70 and 74. -/
def Obligations.PtpMessagesSteerTheServo : Prop :=
  (∀ s : State,
     (domOn s 41 = true → (timeSource s.time = 1 ∨ timeSource s.time = 2) → (s.time.st = 2 ∨ s.time.st = 3) →
       ∀ announce : Bool, Reports (.sourceLost announce) s 0x0402 [by1 (timeSource s.time), by1 (Config.freeNat s.free)] [.time, .free] fun t =>
         t.free = s.free + 1 ∧ t.time = { (if announce = true ∧ timeSource s.time = 1 then dropMaster s.time else s.time) with
           st := 4, freqAdj := heldFreq s.now s.time, meas := [], lockRun := 0, lockedAt := none, lockHist := [] }) ∧
     (∀ m : PtpMsg, domOn s 41 = true → s.svc.link = true → (timeSource s.time ≠ 1 ∨ ptpSupported s.time m = false) →
       Does (.ptpMessageReceived m) s [.time] fun t => t.time = { s.time with ptpIgnored := satInc s.time.ptpIgnored }) ∧
     (∀ m x : PtpMsg, domOn s 41 = true → s.svc.link = true → timeSource s.time = 1 → ptpSupported s.time m = true →
       s.time.master = some x → x.clock = m.clock → m.kind = .syncOneStep →
       Does (.ptpMessageReceived m) s [.time] fun t => t.time = { s.time with sync := some (m.seqId, m.rxStamp, some m.origin) }) ∧
     (domOn s 41 = true → timeSource s.time = 1 → s.time.master.isSome = true →
       Does .delayReqDue s [.time] fun t => t.time = { s.time with reqDue := true })) ∧
  (∀ (s u : State) (idx : Nat) (l : Line), LineBegins s u 8 idx 0x20 l →
     (u.time.meas = [] → timeSource u.time ≠ 0 → Begins (.servoLine idx) s u 8 idx [] fun _ => True) ∧
     (∀ off : Int, u.time.meas ≠ [] → off = roundDiv u.time.meas.sum u.time.meas.length →
       Begins (.servoLine idx) s u 8 idx [.time, .win, .mbx, .free] fun t =>
         t.time.meas = [] ∧ t.time.offset = offsetNs off ∧
         ((u.time.first = true ∨ ((u.time.cfg.extractLsb' 28 8).toNat ≠ 0 ∧
             (u.time.cfg.extractLsb' 28 8).toNat * 2 ^ 40 < off.natAbs * 10 ^ 6) → t.time.step = some off ∧ t.time.first = false) ∧
           (u.time.first = false → (u.time.cfg.extractLsb' 28 8).toNat = 0 →
             t.time.step = u.time.step ∧ -1000000 ≤ t.time.freqAdj ∧ t.time.freqAdj ≤ 1000000))))

/-- A follower discards and counts a chain code that fails its checks and measures a good one; after two missing marks the chain is lost
with event 0x0404; in the sync chain loop the ball is ignored (R172, R173, R459).

Where the manual leaves it open, the statement rests on the model's choices of log entries 72 and 113. -/
def Obligations.ChainMarksAreJudged : Prop :=
  ∀ s : State, domOn s 41 = true → timeSource s.time = 3 →
    (∀ (stamp : Stamp) (code : BitVec 80), domOn s 50 = true → s.test.loopSync = false → chainCodeOk code = false →
      Does (.chainMarkReceived stamp code) s [.time] fun t =>
        t.time = { s.time with chainDiscarded := satInc s.time.chainDiscarded }) ∧
    (∀ (stamp : Stamp) (code : BitVec 80), s.test.loopSync = true → Does (.chainMarkReceived stamp code) s [] fun _ => True) ∧
    (∀ (stamp : Stamp) (code : BitVec 80) (e : Nat), domOn s 50 = true → s.test.loopSync = false → chainCodeOk code = true → s.time.lost = false →
      s.sweep.point = none → code.extractLsb' 13 3 ≠ (4 : BitVec 3) →
      e = microStamp ((code.extractLsb' 40 40).toNat * 1000000 + (code.extractLsb' 20 20).toNat) →
      Does (.chainMarkReceived stamp code) s [.time] fun t => t.time = { s.time with
        mark := true, missed := 0, goodE := BitVec.ofNat 80 e
        hop := BitVec.ofNat 4 (min 15 ((code.extractLsb' 16 4).toNat + 1)), upHold := false
        meas := s.time.meas ++ [(e : Int) - (stamp.toNat : Int)], st := if s.time.st = 3 then 3 else 2 }) ∧
    (s.time.lost = false → 2 ≤ s.time.missed.toNat → s.time.st ≠ 2 → s.time.st ≠ 3 → s.sweep.point = none →
      Reports .chainLost s 0x0404 (stampBytes s.time.goodE) [.time] fun t => t.time = { s.time with lost := true }) ∧
    (s.time.lost = false → 2 ≤ s.time.missed.toNat → (s.time.st = 2 ∨ s.time.st = 3) → s.sweep.point = none →
      Affects .chainLost s [.time, .free] fun t => t.time.lost = true ∧ t.time.st = 4)

/-- The port's link comes up and goes down with event 0x060C, and a frame that its loss cuts counts as not sent; a request whose patience has run out is refused with NO_PATIENCE's status
0x16 and counted; a lease that ends breaks the lock (R205, R229, R234).

Where the manual leaves it open, the statement rests on the model's choices of log entries 7, 135 and 144. -/
def Obligations.LinkPatienceAndLease : Prop :=
  ∀ s : State,
    (∀ x : PortLink, s.test.loopSvc = 0 → domOn s 42 = true → s.svc.link = false →
      ((s.svc.mode = 1 ∧ x = .resolved 1 false) ∨ (s.svc.mode = 2 ∧ x = .resolved 3 false) ∨ (s.svc.mode = 3 ∧ x = .phy 2)) →
      Reports (.svcLinkChange x) s 0x060C [BitVec.ofNat 8 s.svc.mode.val, 1] [.svc] fun t =>
        SvcNoted t { s.svc with link := true }) ∧
    (∀ speed : Fin 3, speed ≠ 2 → s.svc.mode = 3 → s.test.loopSvc = 0 → domOn s 42 = true → s.svc.link = false →
      Reports (.svcLinkChange (.phy speed)) s 0x060C [3, 0] [] fun _ => True) ∧
    (s.svc.link = true → (∀ f ∈ s.svc.leaving, f.ends ≤ s.now.toNat) →
      Reports (.svcLinkChange .down) s 0x060C [BitVec.ofNat 8 s.svc.mode.val, 0] [.svc] fun t =>
        SvcNoted t { s.svc with link := false, leaving := [] }) ∧
    (∀ (f : Leaving) (k : SessionId), s.svc.link = true → s.svc.leaving = [f] → s.now.toNat < f.ends → f.session = some k → f.out = [] →
      Reports (.svcLinkChange .down) s 0x060C [BitVec.ofNat 8 s.svc.mode.val, 0] [.svc] fun t =>
        SvcNoted t { s.svc with
          link := false, leaving := [], sent := s.svc.sent.drop 1
          sessions := vmod s.svc.sessions k fun x => { x with upSeq := x.upSeq - 1, news := true } }) ∧
    (∀ x : Rec, s.svc.recs = [x] → x.cls ≠ .pw → x.started = false → x.patience < x.wait →
      (s.svc.cpl.filter fun o => o.refusal).length < 16 →
      Does .patienceExpired s [.svc] fun t => t.svc.recs = [] ∧
        t.svc.sessions[x.session].counts[4] = satInc s.svc.sessions[x.session].counts[4] ∧
        t.svc.cpl.map (fun o => (o.session, o.bytes, o.refusal)) =
          s.svc.cpl.map (fun o => (o.session, o.bytes, o.refusal)) ++
            [(x.session, cplBytes 0x16 x.tag 3 x.patience x.addr x.size [], true)]) ∧
    (∀ k : SessionId, s.svc.holder = some k → s.svc.leaseNs = 0 → s.svc.recs = [] → s.ven.cycle = none →
      Reports .leaseExpired s 0x0607 [BitVec.ofNat 8 k.val, 0] [.svc, .ven] fun t =>
        t.svc.holder = none ∧ t.svc.leaseNs = 0 ∧ t.svc.sessions[k].broken = true ∧ t.ven = { s.ven with vlck := false })

/-- A PPS_IN edge is stamped; as the source it is measured against the nearest whole second, and rejected with event 0x0408 where it lies
beyond 100 ms while LOCKING or LOCKED (R159, R166).

A PPS line lets PPS_OUT rise one tick after its start and fall its duration later; a CHAIN line sends its code advanced by the hop
delay and measures its reflection, and in the sync chain loop the code is its own sheet's mark (R462); the reload sets spine time to T0 and the holdover count since (R162, R163, R167, R170, R171).

Where the manual leaves it open, the statement rests on the model's choices of log entries 9, 73, 111 and 113. -/
def Obligations.PpsChainAndReload : Prop :=
  (∀ (s : State) (stamp : Stamp) (off : Int), domOn s 41 = true → domOn s 50 = true →
     (timeSource s.time ≠ 2 → Does (.ppsInEdge stamp) s [.time] fun t => t.time = { s.time with ppsStamp := stamp }) ∧
     (timeSource s.time = 2 → ((stamp.toNat : Int) - quarterNs s.time.delays[3] + off) % 2 ^ 40 = 0 → -2 ^ 39 < off → off ≤ 2 ^ 39 →
       ((s.time.st ≠ 2 ∧ s.time.st ≠ 3) ∨ 10 * off.natAbs ≤ 2 ^ 40 → Does (.ppsInEdge stamp) s [.time] fun t =>
         t.time = { s.time with
           ppsStamp := stamp, meas := s.time.meas ++ [off], st := if s.time.st = 3 then 3 else 2 }) ∧
       ((s.time.st = 2 ∨ s.time.st = 3) → 2 ^ 40 < 10 * off.natAbs →
         Reports (.ppsInEdge stamp) s 0x0408 (ns4 (offsetNs off)) [.time] fun t =>
           t.time = { s.time with ppsStamp := stamp, ppsRejected := satInc s.time.ppsRejected }))) ∧
  (∀ s : State,
     (∀ (u : State) (idx : Nat) (l : Line), LineBegins s u 8 idx 0x21 l →
       Begins (.ppsLine idx) s u 8 idx [.time] fun t => t.time = { u.time with
         ppsOut := some (BitVec.ofNat 80 (tickStamp u (l.start + 1)), BitVec.ofNat 80 (tickStamp u (l.start + 1 + l.duration))) }) ∧
     (∀ (u : State) (idx us : Nat) (l : Line) (d : BitVec 22), LineBegins s u 8 idx 0x22 l → us = chainMicros (tickStamp u l.start) →
       (d.toNat ≤ 560000 → Begins (.chainLine idx (some d)) s u 8 idx [.time] fun t =>
         t.time.chainOut = some (chainCode u us, BitVec.ofInt 80 ((microStamp us : Nat) - chainDelay u.time)) ∧
         t.time.hops = (BitVec.ofNat 22 (d.toNat / 2) :: u.time.hops).take 16 ∧
         (u.test.loopSync = true → chainCodeOk (chainCode u us) = true → t.time.mark = true ∧ t.time.missed = 0)) ∧
       (∀ r : Option (BitVec 22), u.test.loopSync = false → (r = none ∨ (r = some d ∧ 560000 < d.toNat)) →
         Begins (.chainLine idx r) s u 8 idx [.time] fun t => t.time = { u.time with
         chainOut := some (chainCode u us, BitVec.ofInt 80 ((microStamp us : Nat) - chainDelay u.time))
         hopD := 0, hops := [], noRefl := true })) ∧
     (∀ c : BitVec 64, domOn s 41 = true → s.seq.firstDue = true → s.pow.dev = .run → s.pow.exitDue = true → s.time.stSaved = 2 →
       Does (.spineTimeReload c) s [.time] fun t => t.time = { s.time with
         spine := BitVec.ofNat 112
           (((s.time.t0.toNat : Int) + ((c - s.time.c0).toNat : Int) * 2 ^ 57 * (10 ^ 12 + s.time.xtalAdj) / 10 ^ 12)).toNat
         restored := true, st := 4, freqAdj := s.time.f0, lockRun := 0, lockedAt := none, lockHist := [] }))

/-! ### Sheets and the lines of table 0 -/

/-- The first boundary after BOOT starts RUN with the boundary's index for sheet number; every later one adds one to it, and takes a
pending Mould in its sheet; a DEVICE_RESET that is due ends the run there (R50 to R52, R72, R391).

Where the manual leaves it open, the statement rests on the model's choices of log entries 5, 7 and 11. -/
def Obligations.SheetBoundariesNumberSheets : Prop :=
  ∀ (s : State) (m : Mould), s.seq.active = some m → m.sheetN ≠ 0 →
    (∀ b : Nat, s.pow.dev = .boot → s.seq.firstDue = true → s.cpu.running = true → s.pow.stuck = false → s.seq.shadow = none →
      b = boundaryAt m.sheetN s.now.toNat →
      ∃ t, exec .sheetBoundary s = .next t ∧ t.pow.dev = .run ∧ t.win.devState = 2 ∧ t.win.sheets = true ∧
        t.seq.sheet = BitVec.ofNat 40 b ∧ t.seq.base = BitVec.ofNat 80 (boundaryStamp m.sheetN b) ∧ t.seq.active = some m ∧
        t.cpu = s.cpu ∧ t.sweep = s.sweep ∧ t.pending = s.pending) ∧
    (∀ b : Nat, sheetsRun s = true → s.seq.running = [] → s.time.step = none → s.pow.resetDue ≠ some false →
      b = boundaryAt m.sheetN s.seq.base.toNat + 1 →
      (s.seq.shadow = none → ∃ t, exec .sheetBoundary s = .next t ∧ t.seq = { s.seq with
        sheet := s.seq.sheet + 1, base := BitVec.ofNat 80 (boundaryStamp m.sheetN b)
        second := boundaryStamp m.sheetN b % 2 ^ 40 == 0 } ∧ t.cpu = s.cpu ∧ t.sweep = s.sweep ∧ t.pending = s.pending) ∧
      (∀ x : PendingMould, s.seq.shadow = some x → x.sheet = s.seq.sheet + 1 → x.mould.sheetN = m.sheetN →
        isBoundary m.sheetN ((BitVec.ofNat 80 (boundaryStamp m.sheetN b) : Stamp).toNat) = true →
        ∃ t, exec .sheetBoundary s = .next t ∧ t.seq = { s.seq with
          sheet := s.seq.sheet + 1, base := BitVec.ofNat 80 (boundaryStamp m.sheetN b)
          second := boundaryStamp m.sheetN b % 2 ^ 40 == 0, active := some x.mould, source := x.source, since := x.sheet
          shadow := none } ∧ t.cpu = s.cpu ∧ t.sweep = s.sweep ∧ t.pending = s.pending)) ∧
    (sheetsRun s = true → s.pow.resetDue = some false → ∃ t, exec .sheetBoundary s = .next t ∧ t.pow.dev = .held ∧
      t.cpu.running = false ∧ (t.pow.ended.map fun e => e.cause) = some 4)

/-- A running line ends at its end tick: it runs no more, and one whose own part is unfinished counts an overrun with event 0x0502
where the line does not bound that part (R43, R54, R77). Tables 5 and 6 and the actions REST and SWEEP do more at their end; with a TX line the frames it sent have all left.

Where the manual leaves it open, the statement rests on the model's choices of log entries 7, 8 and 57. -/
def Obligations.LinesEnd : Prop :=
  ∀ (s u : State) (t : Fin 9) (idx : Nat) (unfinished : Bool) (x : RunLine) (l : Line),
    s.seq.running.find? (fun r => r.table == t && r.idx == idx) = some x → lineAt s t.val idx = some l → t ≠ 5 → t ≠ 6 →
    l.action ≠ 0x14 → l.action ≠ 0x62 → u = elapseTo (tickStamp s (l.start + l.duration)) s →
    (∀ i ∈ destinations { table := t.val, index := idx, line := l }, present u i = true) →
    (l.action = 0x30 → x.acts = true → ∃ v, exec (.lineEnd t idx unfinished) s = .next v ∧ v.svc = { u.svc with leaving := [] } ∧
      v.seq = { u.seq with running := s.seq.running.erase x } ∧ ∀ p : Part, p ≠ .seq → p ≠ .svc → p.noted u v) ∧
    (l.action ≠ 0x30 → (unfinished = false ∨ x.acts = false ∨ boundByLine l.action = true) →
      ∃ v, exec (.lineEnd t idx unfinished) s = .next v ∧ v.seq = { u.seq with running := s.seq.running.erase x } ∧
        ∀ p : Part, p ≠ .seq → p.noted u v) ∧
    (unfinished = true → x.acts = true → boundByLine l.action = false →
      ∃ v, exec (.lineEnd t idx unfinished) s = .next v ∧
        v.seq = { u.seq with
          running := s.seq.running.erase x, overruns := vmod u.seq.overruns t fun c => if c = BitVec.allOnes 40 then c else c + 1 } ∧
        Raised u v 0x0502 ([BitVec.ofNat 8 t.val] ++ be 2 idx ++ [0] ++ be 5 u.seq.sheet.toNat) ∧
        ∀ p : Part, p ≠ .seq → p.noted u v)

/-- A WORK line is empty while Gulcy cannot run it; else Gulcy is up, the watchdog's count restarts, and a command that waits is taken
and answered (R23, R312, R327, R329, R331). Shown for IDENT_GET.

A TRIM line's replicas set the targets of the trims of a side that carries data and is not gated; a TELEM line samples the channels
of its operand; a STORE line makes one step of the store in progress, whose last makes it valid, or of the log (R70, R192, R203, R386,
R396, R438).

Where the manual leaves it open, the statement rests on the model's choices of log entries 7, 8, 10, 19, 20, 68 and 89. -/
def Obligations.WorkTrimTelemAndStoreLines : Prop :=
  (∀ (s u : State) (idx : Nat) (l : Line) (locks : Bool), LineBegins s u 0 idx 0x10 l →
     (gulcyAwake u = false → Begins (.workLine idx locks) s u 0 idx [] fun _ => True) ∧
     (gulcyAwake u = true → u.mbx.arrived = [] → u.mbx.owed = [] → u.store.job = none →
       Begins (.workLine idx locks) s u 0 idx [.win] fun t => WinNoted t { u.win with
         gulcyUp := true, cGulcy := u.win.cGulcy || !u.win.gulcyUp, wdCount := 0 }) ∧
     (∀ (r : Req) (a : Arrival), gulcyAwake u = true → u.mbx.owed = [] → u.store.job = none →
       a = { issuer := r.issuer, body := some (0x0103, r), rtag := r.tag, lat := 0, answered := false, disowned := false } →
       u.mbx.arrived = [a] → replyRoom u r.issuer = true → (r.issuer = .twoWire → u.win.owner = 0) →
       (r.issuer ≠ .twoWire → present u 4 = true) → r.len = 0 → Mem.wf u.mbx.mem = true → DomainsSettled u →
       ∃ t, exec (.workLine idx locks) s = .next t ∧ t.mbx.arrived = [] ∧
         Replied u t 0x0103 r 0 (imgBytes u.win.id ++ be 6 u.store.eui48.toNat ++ be 8 u.store.eui64.toNat ++ u.store.serial
           ++ stampBytes u.store.made) ∧ t.win.gulcyUp = true ∧ ∀ p : Part, p ∉ [.win, .mbx, .svc, .seq] → p.noted u t)) ∧
  (∀ s u : State,
     (∀ (idx : Nat) (l : Line), LineBegins s u 0 idx 0x11 l →
       (Begins (.trimLine idx [] []) s u 0 idx [] fun _ => True) ∧
       (∀ (r : Replica) (z : TxReplica), z.side = r.side → trimNames l r.side = true → present u (32 + r.side.val) = true → inData u r.side = true →
         u.sides[r.side].gated = false → u.sides[r.side].targets = [] →
         (u.sides[r.side].calCfg[33] = true → Begins (.trimLine idx [r] [z]) s u 0 idx [.sides] fun t =>
           t.sides = vmod u.sides r.side fun x => { x with targets :=
             [(7, r.term), (8, r.pole), (9, r.bias), (10, z.txz)].map fun c => { corr := c.1, sub := 0, code := c.2, ramp := false } }) ∧
         (u.sides[r.side].calCfg[33] = false → Begins (.trimLine idx [r] [z]) s u 0 idx [] fun _ => True)) ∧
       (∀ (r : Replica) (z : TxReplica), z.side = r.side → (trimNames l r.side = false ∨ inData u r.side = false ∨ u.sides[r.side].gated = true) →
         Begins (.trimLine idx [r] [z]) s u 0 idx [] fun _ => True)) ∧
     (∀ (idx : Nat) (l : Line) (samples : List (BitVec 16)), LineBegins s u 0 idx 0x12 l →
       Begins (.telemLine idx samples) s u 0 idx [.test] fun t =>
         { t.test with telem := u.test.telem } =
           { u.test with telemAt := u.now, telemHas := u.test.telemHas ||| l.operand.extractLsb' 0 16 } ∧
         ∀ c : Fin 16, t.test.telem[c] = if l.operand.getLsbD c.val = true then samples.getD c.val 0 else u.test.telem[c]) ∧
     (∀ (idx : Nat) (l : Line) (k : Fin 2) (image : Mem) (len made : Nat), LineBegins s u 0 idx 0x13 l →
       u.store.job = some (.mould k image len made) →
       (made + 1 < mouldSteps len → Begins (.storeLine idx) s u 0 idx [.store] fun t =>
         t.store = { u.store with
           slots := vmod u.store.slots k fun x => { x with valid := false }, job := some (.mould k image len (made + 1)) }) ∧
       (mouldSteps len ≤ made + 1 → u.mbx.taken = [] → Begins (.storeLine idx) s u 0 idx [.store] fun t =>
         t.store = { u.store with slots := vmod u.store.slots k fun _ => { valid := true, image := image, len := len }, job := none })) ∧
     (∀ (idx : Nat) (l : Line), LineBegins s u 0 idx 0x13 l → u.store.job = none → u.store.paging = none → pageDue u.store = true →
       pageBlocked u.store = false → Begins (.storeLine idx) s u 0 idx [.store] fun t =>
         t.store = { u.store with paging := some 1 }))

/-- A REST line with REST_PEND latches T0, C0 and the clock's state and begins the save, and is empty without; the commit point ends in
REST with every switched domain off, the RAM image and what waits upstream gone (R162, R408, R411, R412).

Where the manual leaves it open, the statement rests on the model's choices of log entries 8 and 24. -/
def Obligations.RestIsEntered : Prop :=
  ∀ s : State,
    (∀ (u : State) (idx : Nat) (l : Line) (c : BitVec 64), LineBegins s u 0 idx 0x14 l →
      (u.win.restPend = false → Begins (.restLine idx c) s u 0 idx [] fun _ => True) ∧
      (u.win.restPend = true → u.pow.rest = .none → u.sweep.st ≠ 2 → u.sweep.st ≠ 3 →
        Begins (.restLine idx c) s u 0 idx [.pow, .time] fun t => PowIs t { u.pow with rest := .saving } ∧
          t.time = { u.time with
            t0 := u.time.spine, c0 := c, stSaved := u.time.st
            f0 := if u.time.st = 3 then heldFreq u.now u.time else u.time.freqAdj })) ∧
    (∀ us : BitVec 16, s.pow.rest = .saving → s.pow.dev = .run → domOn s 37 = true →
      ∃ t, exec (.restCommit us) s = .next t ∧ t.pow.dev = .rest ∧ t.pow.rest = .committed ∧ t.pow.saved = true ∧ t.pow.saveUs = us ∧
        (∀ i : Fin 50, domOn t (i.val + 1) = false) ∧ t.win.devState = 3 ∧ t.win.gulcyUp = false ∧ t.win.sheets = false ∧
        t.mbx.mem = [] ∧ t.store.ram = [] ∧ t.store.ramLen = 0 ∧ t.seq.running = [] ∧ t.seq.stopped = true ∧ t.seq.firstDue = true ∧
        t.svc.cpl = [] ∧ t.svc.upw = [] ∧ t.svc.sig = [] ∧ t.svc.evt = [] ∧ t.time.t0 = s.time.t0 ∧ t.time.c0 = s.time.c0 ∧
        t.pending = s.pending)

/-- The device enters REST only in a REST line that starts with REST_PEND 1: no other command or event begins the save that leads to
it or leaves the device in it, a REST line that starts otherwise is empty, and under a Mould without REST lines nothing begins one
(R408). -/
def Obligations.RestOnlyInRestLines : Prop :=
  (∀ (c : Instr) (s t : State), exec c s = .next t →
     (s.pow.rest ≠ .saving → t.pow.rest = .saving → ∃ idx counter l, c = .restLine idx counter ∧ lineNow s 0 idx = some l ∧
       l.action = 0x14 ∧ (elapseTo (tickStamp s l.start) s).win.restPend = true) ∧
     (s.pow.dev ≠ .rest → t.pow.dev = .rest → s.pow.rest = .saving ∧ ∃ us, c = .restCommit us) ∧
     (∀ m : Mould, s.seq.active = some m → (∀ l ∈ m.tables[(0 : Fin 9)], l.action ≠ 0x14) → s.pow.rest ≠ .saving →
       t.pow.rest ≠ .saving)) ∧
  (∀ (s u : State) (idx : Nat) (l : Line) (c : BitVec 64), LineBegins s u 0 idx 0x14 l → u.win.restPend = false →
     Begins (.restLine idx c) s u 0 idx [] fun _ => True)

/-- A TX line sends the next session's frame where it ends within the line, and sends nothing where no session wants one (R236).

Where the manual leaves it open, the statement rests on the model's choices of log entries 9 and 144. -/
def Obligations.TxLinesSendFrames : Prop :=
  ∀ (s u : State) (idx : Nat) (l : Line) (m : Mould), LineBegins s u 7 idx 0x30 l → u.test.loopSvc = 0 → u.svc.recs = [] →
    u.time.reqDue = false → u.seq.active = some m → u.svc.cpl = [] → u.svc.upw = [] → u.svc.sig = [] → u.svc.evt = [] →
    ((∀ k : SessionId, u.svc.sessions[k].news = false) → Begins (.txLine idx) s u 7 idx [.svc] fun t =>
      t.svc = { u.svc with leaving := [] }) ∧
    (∀ (k : SessionId) (a : Mac), l.target = 0 → u.svc.sessions[k].addr = some a → u.svc.sessions[k].seqKnown = true →
      u.svc.sessions[k].news = true → (∀ j : SessionId, j ≠ k → u.svc.sessions[j].news = false) →
      84 * (if u.svc.mode = 2 then 800 else 8000) ≤ (l.duration - svcWindow m.svcMode) * 8000 →
      Begins (.txLine idx) s u 7 idx [.svc] fun t =>
        t.svc = { u.svc with
          txLast := k
          leaving := [{ session := some k, out := [], ends := leftAt u l (84 * (if u.svc.mode = 2 then 800 else 8000)) }]
          sessions := vmod u.svc.sessions k fun x => { x with upSeq := x.upSeq + 1, news := false }
          sent := (be 6 a.toNat ++ be 6 u.store.eui48.toNat ++ be 2 u.svc.etype.toNat ++
            [1, BitVec.ofNat 8 (64 * k.val + u.svc.sessions[k].epoch.toNat), 0, 1] ++ be 2 u.svc.sessions[k].upSeq.toNat ++
            be 2 u.svc.sessions[k].ackSeq.toNat ++ be 4 u.svc.sessions[k].ackMap.toNat ++
            ((List.finRange 4).map fun c : Fin 4 => BitVec.ofNat 8 (u.svc.sessions[k].credits[c] - u.svc.sessions[k].used[c])) ++
            List.replicate 30 0) :: u.svc.sent })

/-- An armed sweep starts its first point at S0 with event 0x0420, goes on point by point, and is complete with event 0x0421 after the
last (R181 to R183).

Where the manual leaves it open, the statement rests on the model's choices of log entry 7. -/
def Obligations.SweepPointsAdvance : Prop :=
  ∀ s : State,
    (s.sweep.st = 2 → pointStamp s 0 ≤ s.now.toNat →
      Reports .sweepPointStart s 0x0420 ([s.sweep.plan] ++ stampBytes s.sweep.s0) [.sweep] fun t =>
        t.sweep = { s.sweep with st := 3, point := some 0, moved := false, done := 0 }) ∧
    (∀ k : Nat, s.sweep.st = 3 → s.sweep.point = some k → s.sweep.ending = none → pointStamp s (k + 1) ≤ s.now.toNat →
      (k + 1 < s.sweep.npoints → Does .sweepPointStart s [.sweep] fun t =>
        t.sweep = { s.sweep with point := some (k + 1), moved := false, done := k + 1 }) ∧
      (s.sweep.npoints ≤ k + 1 → Reports .sweepPointStart s 0x0421 [s.sweep.plan] [.sweep, .sides] fun t =>
        t.sweep = { s.sweep with st := 4, point := none, moved := false, done := k + 1 }))

/-! ### The Veneer bus -/

/-- Veneer outputs are released while the device does not drive them and stand at their idle levels while nothing happens on the bus; a
write drives its data on its lanes from the end of the address phase. A CYCLE line without a request changes nothing; one reserved for a session starts its request's first cycle on the idle bus with
address and strobe, counted for its window (R228, R239, R242, R243, R246, R247, R263). Shown for one-byte accesses.

Where the manual leaves it open, the statement rests on the model's choices of log entries 29 and 143. -/
def Obligations.CycleLinesStartCycles : Prop :=
  (∀ s : State, venDrives s = false → venPins s = pinsReleased) ∧
  (∀ s : State, venDrives s = true → s.ven.cycle = none → s.ven.grant = none → s.ven.afterGrant = false → s.ven.vrst = false →
    s.ven.holding = false → s.ven.seen = 0 → s.ven.cfg.extractLsb' 31 5 = 0 →
    venPins s = { pinsReleased with
      vale := .low, vwr := .high, vstb := List.replicate 4 .high, vlck := if s.ven.vlck then .low else .high
      vbgnt := List.replicate 4 .high, vrst := .high, vclk := if fld s.ven.cfg 39 36 = 0 then .low else .running }) ∧
  (∀ (s : State) (c : Cycle), c.write = true → c.answered = none → c.cfg[29] = false →
    fld c.cfg 19 16 + fld c.cfg 15 13 ≤ stepsOf 10 c.began s.now → ∀ v : CycleView, v = onBusNow s c →
    v.bytes = c.lanes.zip c.data ∧ v.wrLow = true) ∧
  (∀ (s u : State) (idx : Nat) (l : Line), LineBegins s u 5 idx 0x40 l →
    (u.svc.recs = [] → Begins (.cycleLine idx) s u 5 idx [] fun _ => True) ∧
    (∀ (x : Rec) (w : Fin 16) (a : Nat), u.svc.recs = [x] → x.cls = .np → x.size = 1 → x.started = false → x.chosen = false →
      x.done = 0 → x.window = none → l.target.toNat = x.session.val → w.val = x.addr.toNat / 2 ^ 32 → u.svc.holder = none → cplTaken u < 16 → busIdle u = true →
      placeCheck u x.session x.addr 1 x.count false = none →
      a = (baseAddr u.ven.base[w] + ((x.addr.toNat % 2 ^ 32) ^^^ winXor u.ven.win[w])) % 2 ^ 32 →
      Begins (.cycleLine idx) s u 5 idx [.ven, .svc] fun t =>
        (∃ c, t.ven.cycle = some c ∧ c.session = x.session ∧ c.window = w ∧ c.write = false ∧ c.addr.toNat = a ∧
          c.strobes = BitVec.ofNat 4 (2 ^ (a % winBytes u.ven.win[w])) ∧ c.bytes = 1 ∧ c.phase = .strobe ∧ c.began = u.now ∧
          c.answered = none ∧ c.cfg = u.ven.win[w]) ∧
        (∃ y, t.svc.recs = [y] ∧ y.started = true ∧ y.onBus = true ∧ y.window = some (u.ven.base[w], u.ven.win[w]) ∧ y.tag = x.tag) ∧
        { t.svc with recs := u.svc.recs } = u.svc ∧
        { t.ven with cycle := u.ven.cycle } = { u.ven with
          serving := some (idx, w.val), waiting := none, afterGrant := false
          cycles := vmod u.ven.cycles w fun c => if c = BitVec.allOnes 40 then c else c + 1 }))

/-- VRDY_N answers a read's strobe with the bytes of its lanes, VFLT_N with a fault, counted with event 0x0702; the release completes
the request with a CPL, OK or BUS_FAULT, or with none where its session has restarted; an answer that does not end is a violation of
case 3 (R247 to R249, R252, R253).

Where the manual leaves it open, the statement rests on the model's choices of log entry 28. -/
def Obligations.TargetsAnswerCycles : Prop :=
  ∀ (s : State) (c : Cycle), s.ven.cycle = some c →
    (∀ (data : BitVec 32) (ed ld : BitVec 4), c.phase = .strobe → s.test.loopVen = 0 → NothingLocal s →
      (c.write = false → Does (.targetAnswer true false false data ed ld) s [.ven] fun t => t.ven = { s.ven with
        seen := s.ven.seen ||| 0x40
        cycle := some { c with phase := .release, ok := true, got := c.lanes.map (fun i => BitVec.ofNat 8 (data.toNat / 256 ^ i)), diffs := (ed, ld), answered := some s.now } }) ∧
      (Reports (.targetAnswer false true false data ed ld) s 0x0702 ([BitVec.ofNat 8 c.window.val, BitVec.ofNat 8 c.session.val] ++
          be 4 c.addr.toNat) [.ven] fun t => t.ven = { s.ven with
        seen := s.ven.seen ||| 0x80, cycle := some { c with phase := .release, ok := false, answered := some s.now }
        faults := vmod s.ven.faults c.window fun n => if n = BitVec.allOnes 40 then n else n + 1 })) ∧
    (∀ (x : Rec) (n : Nat), s.svc.recs = [x] → x.onBus = true → x.cls = .np → x.broken = false → x.credit = true → c.phase = .release →
      s.ven.waiting = none → present s 4 = true →
      (x.stale = true → (c.ok = false ∨ x.count ≤ x.done + c.bytes) → Does (.targetRelease n) s [.ven, .svc] fun t =>
        t.ven.cycle = none ∧ t.svc.recs = [] ∧ t.svc.cpl = s.svc.cpl) ∧
      (x.stale = false → c.ok = true → x.count ≤ x.done + c.bytes → Does (.targetRelease n) s [.ven, .svc] fun t =>
        t.ven.cycle = none ∧ t.ven.seen = s.ven.seen &&& 0x1F3F ∧ t.svc.recs = [] ∧
        t.svc.cpl = s.svc.cpl ++ [{ session := x.session, credit := some 1, bytes := cplBytes 0x00 x.tag (if x.spare then 1 else 0) x.wait x.addr x.size (x.got ++ c.got) }]) ∧
      (x.stale = false → c.ok = false → Does (.targetRelease n) s [.ven, .svc] fun t =>
        t.ven.cycle = none ∧ t.svc.recs = [] ∧
        t.svc.cpl = s.svc.cpl ++ [{ session := x.session, credit := some 1, bytes := cplBytes 0x12 x.tag (if x.spare then 1 else 0) x.wait x.addr x.size x.got }]) ∧
      (Reports .releaseTimeout s 0x0703 ([BitVec.ofNat 8 c.window.val, 3] ++ be 4 c.addr.toNat) [.ven, .svc] fun t =>
        t.ven.cycle = none ∧ t.svc.recs = [] ∧ t.ven.violations = (vmod s.ven.violations c.window fun n =>
          if n = BitVec.allOnes 40 then n else n + 1)))

/-- VRDY_N or VFLT_N on an idle bus is counted with event 0x0704, a master's activity without grant with event 0x0712; the bus seen idle
again lets the outputs be driven and a waiting VRST line begin (R246, R254, R257, R259, R261).

A GRANT line grants the idle bus to a master it names that requests it, the grant ends with the outputs still released while the
master drives (R257).

The granted master's strobe is answered: a read from the upstream shadow buffer, a write held until its strobes' release builds a
UPW record with its session's next NUMBER, a page that is not VUP_CFG's refused with event 0x0710 (R221, R258, R263). Shown for lane 0
alone.

Where the manual leaves it open, the statement rests on the model's choices of log entries 9 and 77. -/
def Obligations.BusMastersAreServed : Prop :=
  ((∀ s : State, domOn s 45 = true → s.ven.grant = none → s.ven.cycle = none →
      (∀ (rdy flt : Bool) (n : Nat), (rdy || flt) = true → s.ven.seen &&& 0x3D = 0 →
        n = (if rdy then 64 else 0) + (if flt then 128 else 0) →
        Reports (.readyWhileIdle rdy flt) s 0x0704 (be 2 n) [.ven] fun t => t.ven = { s.ven with
          seen := s.ven.seen ||| BitVec.ofNat 13 n
          idleRdy := if s.ven.idleRdy = BitVec.allOnes 40 then s.ven.idleRdy else s.ven.idleRdy + 1 }) ∧
      (∀ v : BitVec 13, v &&& 0x3D ≠ 0 → s.ven.afterGrant = false →
        Reports (.activityWithoutGrant v) s 0x0712 (be 2 v.toNat) [.ven] fun t => t.ven = { s.ven with
          noGrant := if s.ven.noGrant = BitVec.allOnes 40 then s.ven.noGrant else s.ven.noGrant + 1
          seen := v &&& 0xFF, breq := v.extractLsb' 9 4 }) ∧
      (s.ven.holding = false → NothingLocal s →
        (s.ven.waiting = none → Does .veneerBusIdle s [.ven] fun t => t.ven = { s.ven with seen := 0, afterGrant := false }) ∧
        (s.ven.waiting = some .reset → Does .veneerBusIdle s [.ven] fun t => t.ven = { s.ven with
          seen := 0, afterGrant := false, waiting := none, vrst := true }))) ∧
   (∀ (s : State) (m : Fin 4),
      (∀ (v u : State) (idx : Nat) (l : Line) (requests : BitVec 4), domOn s 45 = true →
        v = { s with ven := { s.ven with breq := requests } } → LineBegins v u 5 idx 0x41 l → requests = BitVec.ofNat 4 (2 ^ m.val) →
        (l.target.getLsbD m.val = true → mstEn u m.val = true → u.svc.holder = none → u.test.loopVen = 0 → busIdle u = true →
          Begins (.grantLine idx requests) s u 5 idx [.ven] fun t => t.ven = { u.ven with
            grant := some m, grantLast := m, serving := some (idx, 16), waiting := none, afterGrant := false }) ∧
        ((l.target.getLsbD m.val = false ∨ mstEn u m.val = false ∨ u.svc.holder ≠ none) →
          Begins (.grantLine idx requests) s u 5 idx [] fun _ => True)) ∧
      (∀ (requests : BitVec 4) (vale : Bool), s.ven.grant = some m → s.ven.waiting = none →
        Does (.grantEnd ⟨requests, vale⟩) s [.ven] fun t =>
          { t.ven with afterGrant := s.ven.afterGrant } = { s.ven with
            breq := requests, grant := none, seen := s.ven.seen ||| (if vale then 1 else 0) } ∧
          (t.ven.afterGrant = false ↔ vale = false ∧ s.ven.seen &&& 0xFD = 0 ∧ s.ven.cycle = none)))) ∧
  (∀ (s : State) (m : Fin 4),
     (∀ (addr data : BitVec 32) (a : Nat), servedMaster s.ven = some m → s.ven.holding = false → s.ven.up[23] = true →
       a = (addr.toNat % 65536 / masterBytes s m.val * masterBytes s m.val) ^^^ masterXor s m.val →
       (addr.extractLsb' 16 16 = s.ven.up.extractLsb' 24 16 → Does (.oldMasterCycle false addr 1 data) s [.ven] fun t =>
         t.ven = { s.ven with
           seen := s.ven.seen &&& 0x1FFE ||| 4, holding := true, driven := [Mem.read s.ven.shadow a]
           served := vmod s.ven.served m fun n => if n = BitVec.allOnes 40 then n else n + 1 }) ∧
       (addr.extractLsb' 16 16 = s.ven.up.extractLsb' 24 16 → upwTaken s < 32 →
         Does (.oldMasterCycle true addr 1 data) s [.ven] fun t => t.ven = { s.ven with
           seen := s.ven.seen &&& 0x1FFE ||| 4, holding := true, upwDue := some (m, BitVec.ofNat 16 a, [data.extractLsb' 0 8]) }) ∧
       (∀ write : Bool, addr.extractLsb' 16 16 ≠ s.ven.up.extractLsb' 24 16 →
         Reports (.oldMasterCycle write addr 1 data) s 0x0710 ([BitVec.ofNat 8 m.val] ++ be 4 addr.toNat ++ [2]) [.ven] fun t =>
           t.ven = { s.ven with
             seen := s.ven.seen &&& 0x1FFE ||| 4, holding := true, faulting := true
             refused := vmod s.ven.refused m fun n => if n = BitVec.allOnes 40 then n else n + 1 })) ∧
     (s.ven.holding = true → s.ven.grant = some m → NothingLocal s →
       (s.ven.upwDue = none → Does .oldMasterStrobeRelease s [.ven] fun t =>
         t.ven = { s.ven with seen := s.ven.seen &&& 0x1FC3, holding := false, faulting := false, driven := [] }) ∧
       (∀ (off : BitVec 16) (b : Byte) (k : SessionId), s.ven.upwDue = some (m, off, [b]) → k = masterSession s m.val →
         s.svc.sessions[k].addr.isSome = true → present s 4 = true →
         Does .oldMasterStrobeRelease s [.ven, .svc] fun t =>
           t.ven = { s.ven with
             seen := s.ven.seen &&& 0x1FC3, holding := false, faulting := false, driven := [], upwDue := none
             delivered := vmod s.ven.delivered m fun n => if n = BitVec.allOnes 40 then n else n + 1 } ∧
           t.svc = { s.svc with
             sessions := vmod s.svc.sessions k fun x => { x with upwNum := x.upwNum + 1 }
             upw := s.svc.upw ++ [{
               session := k, credit := none
               bytes := [0x12, 1, 0, 32] ++ be 2 s.svc.sessions[k].upwNum.toNat ++ [BitVec.ofNat 8 m.val, 0] ++
                 be 5 (0x3000000000 + off.toNat) ++ [0, 0, 1] ++ stampBytes s.now ++ [0, 0, b, 0, 0, 0] }] })))

/-- A change of an interrupt line is counted and, where the line is enabled, reported to its session with the stamp of its first edge
(R260).

A VCAL line takes a waiting tap whole, else moves an adapting lane's tap one code toward its shadows' centre; a VRST line asserts
VRST_N on the idle bus and waits with event 0x0705 on a busy one (R200, R202, R246, R261).

Where the manual leaves it open, the statement rests on the model's choices of log entry 79. -/
def Obligations.InterruptsCalibrationAndResetOfTheBus : Prop :=
  (∀ (s : State) (i : Fin 8) (level : Bool) (stamp : Stamp), domOn s 45 = true → s.ven.irqLevel.getLsbD i.val ≠ level →
     (irqEn s i.val = false → Does (.virqChange i level stamp) s [.ven, .pow] fun t =>
       t.ven.irqLevel.getLsbD i.val = level ∧ { t.ven with irqLevel := s.ven.irqLevel } = { s.ven with
         irqCount := vmod s.ven.irqCount i fun n => if n = BitVec.allOnes 40 then n else n + 1 }) ∧
     (∀ k : SessionId, irqEn s i.val = true → upwTaken s < 32 → k = Fin.ofNat 4 (s.ven.irq.toNat / 2 ^ (16 + 3 * i.val)) →
       s.svc.sessions[k].addr.isSome = true → present s 4 = true →
       Does (.virqChange i level stamp) s [.ven, .pow, .svc] fun t => t.ven.irqLevel.getLsbD i.val = level ∧
         t.svc = { s.svc with
           sessions := vmod s.svc.sessions k fun x => { x with upwNum := x.upwNum + 1 }
           upw := s.svc.upw ++ [{
             session := k, credit := none
             bytes := [0x12, 0, 0, 28] ++ be 2 s.svc.sessions[k].upwNum.toNat ++ [BitVec.ofNat 8 i.val, if level then 1 else 2] ++
               be 5 0 ++ [0, 0, 0] ++ stampBytes stamp ++ [0, 0] }] })) ∧
  (∀ (s u : State) (idx : Nat) (l : Line),
     (LineBegins s u 5 idx 0x42 l →
       (∀ (w : Fin 16) (v : R40), u.ven.tapNext = [(w, v)] → (∀ x : Fin 16, x ≠ w → u.ven.tap[x][3] = false) →
         Begins (.vcalLine idx) s u 5 idx [.ven] fun t => t.ven = { u.ven with
           tap := vmod u.ven.tap w fun _ => v, tapNext := [], reads := Vector.replicate 64 0 }) ∧
       (∀ (w : Fin 16) (n : Nat), u.ven.tapNext = [] → (∀ x : Fin 16, u.ven.tap[x][3] = (x == w)) → winBytes u.ven.win[w] = 1 →
         16 ≤ vget u.ven.reads (4 * w.val) → n = (u.ven.tap[w].extractLsb' 16 6).toNat → 1 ≤ n → n ≤ 62 →
         2 ≤ vget u.ven.early (4 * w.val) + vget u.ven.late (4 * w.val) →
         Begins (.vcalLine idx) s u 5 idx [.ven, .win, .mbx] fun t =>
           (t.ven.tap[w].extractLsb' 16 6).toNat = n + 1 ∧ (∀ x : Fin 16, x ≠ w → t.ven.tap[x] = u.ven.tap[x]) ∧
           vget t.ven.early (4 * w.val) = vget u.ven.early (4 * w.val) - 1 ∧
           vget t.ven.late (4 * w.val) = vget u.ven.late (4 * w.val) - 1 ∧ t.ven.reads = Vector.replicate 64 0)) ∧
     (LineBegins s u 5 idx 0x43 l →
       (busIdle u = true → Begins (.vrstLine idx) s u 5 idx [.ven] fun t => t.ven = { u.ven with
         vrst := true, serving := some (idx, 16), waiting := none, afterGrant := false }) ∧
       (u.ven.seen &&& 0xFD ≠ 0 → Begins (.vrstLine idx) s u 5 idx [.ven] fun t =>
         Raised u t 0x0705 ([0x43] ++ be 2 (signalSet u)) ∧
         t.ven = { u.ven with serving := some (idx, 16), waiting := some .reset })))

/-! ### Scan lines -/

/-- A POLL line sends its template's request and awaits the reply; found busy it sends nothing, counts it with event 0x0805 and receives;
without an answer it counts that with event 0x0801 (R274, R288).

Where the manual leaves it open, the statement rests on the model's choices of log entries 9, 82 and 83. -/
def Obligations.PollLinesAsk : Prop :=
  ∀ (s : State) (k : Fin 4) (id : Nat),
    (∀ (u : State) (idx ends : Nat) (v : Option Int) (l : Line) (b req frame : List Byte) (wire : List Bool) (c : R40),
      LineBegins s u 6 idx 0x50 l → l.cont = false → k = Fin.ofNat 4 l.target.toNat → id = l.operand.toNat → b = templateBytes u id →
      tKind b = 2 → tLine b = k.val → c = u.scan.lines[k].cfg → req = slice b 24 (tReqLen b) → frame = sendBytes (hdlc c) b req →
      wire = frameWire c b frame → ends = u.now.toNat + bitsTime c wire.length →
      (Begins (.pollLine ⟨idx, v⟩) s u 6 idx [.scan] fun t =>
        t.scan = { u.scan with lines := vmod (measureIdle u k v).scan.lines k fun x => { x with
          act := some (.poll id (tReply b) true), ended := none, driver := true, sent := frame, wire := wire ++ turnWire c
          sendEnds := some ends, turnEnds := ends + bitsTime c (c.extractLsb' 22 4).toNat } }) ∧
      (Begins (.pollLineBusy ⟨idx, v⟩) s u 6 idx [.scan] fun t => Raised u t 0x0805 [BitVec.ofNat 8 k.val, BitVec.ofNat 8 id] ∧
        t.scan = { u.scan with lines := vmod (measureIdle u k v).scan.lines k fun x => { x with
          act := some (.listen (some (tReply b))), ended := none, counts := vmod x.counts 6 satInc } })) ∧
    (∀ (r : Nat) (v : Option Int), s.scan.lines[k].act = some (.poll id r true) →
      Reports (.pollUnanswered ⟨k, v⟩) s 0x0801 [BitVec.ofNat 8 k.val, BitVec.ofNat 8 id] [.scan] fun t =>
        t.scan = { s.scan with lines := vmod (measureIdle s k v).scan.lines k fun x => { x with
          act := some (.poll id r false), sendEnds := none, driver := false
          counts := vmod (if x.sendEnds.isSome then vmod x.counts 4 satInc else x.counts) 3 satInc } })

/-- A SEND line sends its template's frame with the output signals as they stand; with an output signal that holds no value it sends
nothing, counts it with event 0x0806 and listens; a collision ends the sending with event 0x0804 (R275, R282, R288).

A LISTEN line receives and takes the idle level of a gap; a SCAL line takes a waiting threshold whole, else steps an adapting one by
one code toward its target; a waiting SCAN_CFG is taken once a boundary has passed (R201, R202, R264, R273, R286).

Where the manual leaves it open, the statement rests on the model's choices of log entries 9, 10, 81, 82 and 83. -/
def Obligations.SendListenAndThresholdLines : Prop :=
  (∀ (s : State) (k : Fin 4) (id : Nat),
     (∀ (u : State) (idx ends : Nat) (v : Option Int) (l : Line) (b frame : List Byte) (wire : List Bool) (c : R40),
       LineBegins s u 6 idx 0x52 l → l.cont = false → k = Fin.ofNat 4 l.target.toNat → id = l.operand.toNat → b = templateBytes u id →
       tKind b = 3 → tLine b = k.val → c = u.scan.lines[k].cfg → frame = sendBytes (hdlc c) b (outputFrame u id) →
       wire = frameWire c b frame → ends = u.now.toNat + bitsTime c wire.length →
       ((∀ x ∈ outputsOf u id, x.flags[7] = true) →
         (Begins (.sendLine ⟨idx, v⟩) s u 6 idx [.scan] fun t =>
           t.scan.lines = vmod (measureIdle u k v).scan.lines k fun x => { x with
             act := some (.send id), ended := none, driver := true, sent := frame, wire := wire ++ turnWire c
             sendEnds := some ends, turnEnds := ends + bitsTime c (c.extractLsb' 22 4).toNat }) ∧
         (Begins (.pollLineBusy ⟨idx, v⟩) s u 6 idx [.scan] fun t => Raised u t 0x0805 [BitVec.ofNat 8 k.val, BitVec.ofNat 8 id] ∧
           t.scan = { u.scan with lines := vmod (measureIdle u k v).scan.lines k fun x => { x with
             act := some (.listen none), ended := none, counts := vmod x.counts 6 satInc } })) ∧
       (∀ x : Signal, (outputsOf u id).find? (fun y => y.flags[7] == false) = some x →
         Begins (.sendLine ⟨idx, v⟩) s u 6 idx [.scan] fun t =>
           Raised u t 0x0806 ([BitVec.ofNat 8 k.val, BitVec.ofNat 8 id] ++ be 2 x.id) ∧
           t.scan = { u.scan with lines := vmod (measureIdle u k v).scan.lines k fun x => { x with
             act := some (.listen none), ended := none, counts := vmod x.counts 7 satInc } })) ∧
     (∀ (r : Nat) (a : Bool) (m n : ScanMode), s.scan.lines[k].driver = true → s.test.echo[k] = false →
       ((m = .send id ∧ n = .send id) ∨ (m = .poll id r a ∧ n = .poll id r false)) → s.scan.lines[k].act = some m →
       Reports (.scanCollision k) s 0x0804 [BitVec.ofNat 8 k.val, BitVec.ofNat 8 id] [.scan] fun t =>
         t.scan = { s.scan with lines := vmod s.scan.lines k fun x => { x with
           act := some n, driver := false, sendEnds := none, counts := vmod x.counts 5 satInc } })) ∧
  (∀ (s : State) (k : Fin 4),
     (∀ (u : State) (idx : Nat) (l : Line), k = Fin.ofNat 4 l.target.toNat →
       (LineBegins s u 6 idx 0x51 l → l.cont = false →
         (Begins (.listenLine idx none) s u 6 idx [.scan] fun t =>
           t.scan = { u.scan with lines := vmod u.scan.lines k fun x => { x with act := some (.listen none), ended := none } }) ∧
         (∀ v : Int, u.test.echo[k] = false → -1024 ≤ v → v ≤ 1023 →
           Begins (.listenLine idx (some v)) s u 6 idx [.scan] fun t =>
             t.scan.lines[k].act = some (.listen none) ∧ t.scan.lines[k].haveIdle = true ∧
             (t.scan.lines[k].cal.extractLsb' 22 11).toInt = v ∧
             (t.scan.lines[k].cal.extractLsb' 0 22) = (u.scan.lines[k].cal.extractLsb' 0 22) ∧
             ∀ j : Fin 4, j ≠ k → t.scan.lines[j] = u.scan.lines[j])) ∧
       (LineBegins s u 6 idx 0x53 l →
         (∀ v : R40, u.scan.lines[k].calNext = some v → Begins (.scalLine idx none true) s u 6 idx [.scan] fun t =>
           t.scan = { u.scan with lines := vmod u.scan.lines k fun x => { x with
             cal := setFld x.cal 39 34 (fld v 39 34), calNext := none } }) ∧
         (∀ n : Nat, u.scan.lines[k].calNext = none → u.scan.lines[k].cal[33] = true → u.test.echo[k] = false →
           u.scan.lines[k].haveIdle = true → u.scan.lines[k].haveMid = true → n = (u.scan.lines[k].cal.extractLsb' 34 6).toNat →
           n ≠ threshTarget u.scan.lines[k].cal → (∀ m : Stamp, u.scan.lines[k].calMoved = some m → m.toNat + 10995117 ≤ u.now.toNat) →
           Begins (.scalLine idx none true) s u 6 idx [.scan, .win, .mbx] fun t => t.scan.lines[k].calMoved = some u.now ∧
             (t.scan.lines[k].cal.extractLsb' 34 6).toNat = (if n < threshTarget u.scan.lines[k].cal then n + 1 else n - 1) ∧
             ∀ j : Fin 4, j ≠ k → t.scan.lines[j] = u.scan.lines[j]))) ∧
     (∀ v : R40, s.scan.lines[k].cfgNext = some (v, true) → DomainsSettled s →
       Does (.scanCfgApply k) s [.scan, .pow] fun t => t.scan.lines[k].cfg = v ∧ t.scan.lines[k].cfgNext = none ∧
         ∀ j : Fin 4, j ≠ k → t.scan.lines[j].cfg = s.scan.lines[j].cfg))

/-- A frame that matches no template is counted with event 0x0803, one that fails its template's checks with event 0x0802 and its cause,
one that passes with no input signals only in its line's and its template's counts (R269, R271, R272, R288).

Where the manual leaves it open, the statement rests on the model's choices of log entries 10, 80 and 81. -/
def Obligations.ReceivedFramesAreJudged : Prop :=
  ∀ (s : State) (k : Fin 4) (f : ScanFrame) (first : Option Nat) (m : ScanMode) (cfg : R40) (b : List Byte), domOn s 47 = true →
    scanOn s k = true → m = .listen first → s.scan.lines[k].act = some m → s.scan.lines[k].driver = false →
    s.scan.lines[k].sendEnds = none → f.vIdle = none → cfg = s.scan.lines[k].cfg → b = frameOctets cfg f →
    (beginsFrame cfg m f = false → Does (.scanFrameEnd k f) s [] fun _ => True) ∧
    (beginsFrame cfg m f = true → frameTemplate s k m b = none → f.cut = false → frameAborted cfg f = false → b.length ≤ 256 →
      (hdlc cfg = false ∨ 3 ≤ b.length) →
      Reports (.scanFrameEnd k f) s 0x0803 [BitVec.ofNat 8 k.val, b.headD 0] [.scan] fun t =>
        t.scan = { s.scan with lines := vmod s.scan.lines k fun x => { x with ended := none, counts := vmod x.counts 2 satInc } }) ∧
    (∀ (id c : Nat), beginsFrame cfg m f = true → frameTemplate s k m b = some id → failCause cfg (templateBytes s id) f = c → c ≠ 0 →
      Reports (.scanFrameEnd k f) s 0x0802 [BitVec.ofNat 8 k.val, BitVec.ofNat 8 id, BitVec.ofNat 8 c] [.scan] fun t =>
        t.scan = { s.scan with
          lines := vmod s.scan.lines k fun x => { x with ended := none, counts := vmod x.counts 1 satInc }
          templates := s.scan.templates.map fun y => if y.id = id then { y with failed := satInc y.failed } else y }) ∧
    (∀ id : Nat, beginsFrame cfg m f = true → frameTemplate s k m b = some id → failCause cfg (templateBytes s id) f = 0 →
      inputsOf s id = [] → Does (.scanFrameEnd k f) s [.scan] fun t =>
        { t.scan with lines := s.scan.lines } = { s.scan with
          templates := s.scan.templates.map fun y => if y.id = id then { y with passed := satInc y.passed, age := 0 } else y } ∧
        { t.scan.lines[k] with cal := s.scan.lines[k].cal, haveMid := s.scan.lines[k].haveMid } = { s.scan.lines[k] with
          ended := none, counts := vmod s.scan.lines[k].counts 0 satInc } ∧
        (s.test.echo[k] = false → t.scan.lines[k].haveMid = true) ∧ ∀ j : Fin 4, j ≠ k → t.scan.lines[j] = s.scan.lines[j])

/-! ### Path lines, the Calender, lanes -/

/-- A CAL line adds its counts to a side in data that no sweep holds; a KERF line only runs; a SWEEP line adds its counts to the point in
progress of a side in the plan (R147, R181, R182, R186).

A PIN_MEAS line reports the latency it measured, which counts as pinned only on a pinned path at its pinned rate within 6 units of its
target, with event 0x0410 as it comes to be; a PATTERN or LOOP line on a path whose TEST bit is set puts its select or depth on the
sides it names, and is empty on any other path (R177, R178, R394, R452, R454, R455).

Where the manual leaves it open, the statement rests on the model's choices of log entries 1, 8, 10, 65, 99 and 118. -/
def Obligations.PathLinesActOnTheirSides : Prop :=
  (∀ (s u : State) (p : PathId) (idx : Nat) (l : Line) (c : SideCount),
     (LineBegins s u (pathTable p) idx 0x60 l → reaches u p l c.side = true → inData u c.side = true → sweepHolds u c.side = false →
       u.sides[c.side].margin = none → Begins (.calLine p idx [c]) s u (pathTable p) idx [.sides] fun t =>
         t.sides = vmod u.sides c.side fun x => { x with
           measUi := x.measUi + c.compared, measErr := x.measErr + c.errors, measErr1 := x.measErr1 + c.errors1 }) ∧
     (LineBegins s u (pathTable p) idx 0x60 l → (reaches u p l c.side = false ∨ inData u c.side = false ∨ sweepHolds u c.side = true) →
       Begins (.calLine p idx [c]) s u (pathTable p) idx [] fun _ => True) ∧
     (LineBegins s u (pathTable p) idx 0x61 l → Begins (.kerfLine p idx) s u (pathTable p) idx [] fun _ => True) ∧
     (∀ k : Nat, LineBegins s u (pathTable p) idx 0x62 l → l.operand = 0xFFFF → u.sweep.st = 3 → u.sweep.point = some k →
       u.sweep.moved = true → u.sweep.cells = [] → reaches u p l c.side = true →
       u.sweep.masks[pathOf c.side].getLsbD (c.side.val % 8) = true →
       Begins (.sweepLine p idx [c]) s u (pathTable p) idx [.sweep] fun t => t.sweep = { u.sweep with
         cells := [{ point := k, side := c.side, compared := BitVec.ofNat 40 (min c.compared (2 ^ 40 - 1)), errors := BitVec.ofNat 40 (min c.errors (2 ^ 40 - 1)) }] })) ∧
  (∀ (s u : State) (p : PathId) (idx : Nat) (l : Line) (i : SideId),
     (∀ (m : PinMeasure) (goal : Nat) (lat : BitVec 22), LineBegins s u (pathTable p) idx 0x63 l → m.side = i →
       lat = BitVec.ofInt 22 ((m.lat.toNat : Int) + u.store.pinCal[i]) → reaches u p l i = true →
       u.lanes[laneOf i].ei[endOf i] = false → u.lanes[laneOf i].lock[endOf i] = true →
       (pcPinned u.paths[p].cfg = false → Begins (.pinMeasLine p idx [m]) s u (pathTable p) idx [.sides] fun t =>
         t.sides = vmod u.sides i fun x => { x with pinLat := lat, pinErr := 0, pinned := false, pinValid := true, pinAge := 0 }) ∧
       (pcPinned u.paths[p].cfg = true → runRate u.paths[p] = pcRate u.paths[p].cfg →
         goal = pinTarget u.paths[p] u.lanes[laneOf i].pin → lat.toNat ≤ goal + 6 → goal ≤ lat.toNat + 6 →
         Begins (.pinMeasLine p idx [m]) s u (pathTable p) idx [.sides] fun t =>
           t.sides[i].pinned = true ∧ t.sides[i].pinLat = lat ∧ t.sides[i].pinValid = true ∧
           t.sides[i].pinErr.toInt = (lat.toNat : Int) - goal ∧ (∀ j : SideId, j ≠ i → t.sides[j] = u.sides[j]) ∧
           (u.sides[i].pinned = false → Raised u t 0x0410 ([BitVec.ofNat 8 i.val] ++ be 4 lat.toNat)))) ∧
     (LineBegins s u (pathTable p) idx 0x64 l →
       (u.paths[p].test = false → Begins (.patternLine p idx) s u (pathTable p) idx [] fun _ => True) ∧
       (∀ sel : Byte, u.paths[p].test = true → namedSides u p l = [i] → sel = l.operand.extractLsb' 0 8 → sel ≠ 0 →
         underTest u.sides[i] = false → underTest u.sides[opposite i] = false →
         Begins (.patternLine p idx) s u (pathTable p) idx [.sides] fun t =>
           t.sides[i] = { u.sides[i] with patSel := sel, chkLock := false, chkBits := 0, chkErrs := 0, pinned := false, txIdle := false } ∧
           t.sides[opposite i] = { u.sides[opposite i] with txIdle := true } ∧
           ∀ j : SideId, j ≠ i → j ≠ opposite i → t.sides[j] = u.sides[j])) ∧
     (LineBegins s u (pathTable p) idx 0x65 l →
       (u.paths[p].test = false → Begins (.loopLine p idx) s u (pathTable p) idx [] fun _ => True) ∧
       (∀ depth : Byte, u.paths[p].test = true → namedSides u p l = [i] → depth = l.operand.extractLsb' 0 8 → depth ≠ 0 →
         underTest u.sides[i] = false → underTest u.sides[opposite i] = false →
         Begins (.loopLine p idx) s u (pathTable p) idx [.sides] fun t =>
           t.sides[i] = { u.sides[i] with loopDep := depth, pinned := false, txIdle := depth == 1 } ∧
           t.sides[opposite i] = { u.sides[opposite i] with txIdle := true } ∧
           ∀ j : SideId, j ≠ i → j ≠ opposite i → t.sides[j] = u.sides[j])))

/-- A DORMANT line takes a path that has been idle for its PATH_T to DORMANT with its latch armed and its transmit domain off, and is
empty while the time falls short; the exit line brings a path whose latch is set back to IDLE; activity on an armed path sets the
latch (R98, R99, R404 to R406).

Where the manual leaves it open, the statement rests on the model's choices of log entry 33. -/
def Obligations.PathsRestAndWake : Prop :=
  ∀ (s : State) (p : PathId),
    (∀ (u : State) (idx : Nat) (l : Line), LineBegins s u (pathTable p) idx 0x66 l →
      (mayRest u p = false → Begins (.dormantEnterLine p idx) s u (pathTable p) idx [] fun _ => True) ∧
      (mayRest u p = true → u.paths[p].formed = false → DomainsSettled u →
        Begins (.dormantEnterLine p idx) s u (pathTable p) idx [.paths, .pow, .sides, .lanes] fun t =>
          t.paths[p].st = .dormant ∧ t.paths[p].armed = true ∧ t.paths[p].latch = false ∧ domOn t (33 + p.val) = false ∧
          (∀ q : PathId, q ≠ p → { t.paths[q] with idleNs := u.paths[q].idleNs } = u.paths[q]) ∧
          Raised u t 0x0104 [BitVec.ofNat 8 p.val, 1, 2])) ∧
    (∀ (u : State) (idx : Nat) (l : Line), LineBegins s u (pathTable p) idx 0x67 l →
      (mayWake u p = false → Begins (.dormantExitLine p idx) s u (pathTable p) idx [] fun _ => True) ∧
      (mayWake u p = true → u.paths[p].formed = false → DomainsSettled u →
        Begins (.dormantExitLine p idx) s u (pathTable p) idx [.paths, .pow] fun t =>
          t.paths[p].st = .idle ∧ t.paths[p].armed = false ∧ t.paths[p].latch = false ∧ t.paths[p].wakeReq = false ∧
          (∀ q : PathId, q ≠ p → { t.paths[q] with idleNs := u.paths[q].idleNs } = u.paths[q]) ∧
          Raised u t 0x0104 [BitVec.ofNat 8 p.val, 2, 1])) ∧
    (s.pow.dev = .run → s.paths[p].armed = true → Does (.dormantSquelchActivity p) s [.paths] fun t =>
      PathsAre t (vmod s.paths p fun x => { x with latch := true }))

/-- MEASUREMENT_CLOSE, KERF_COMMIT and INITIAL_CALIBRATION_DONE complete. A measurement that closes in data within a CAL line reports its
residual error and leaves what it has not closed to the next one; a high one enters the gate with event 0x0310; one of fewer than
2^12 UI, or outside CAL lines, closes nothing; one in training adapts. A kerf of a permitted line moves a ramping correction, and a
trim that may move, one code; on a FEC lane none moves in the three blocks after a step; a transmitter's ramp moves each tap one
code. Initial calibration leaves what it settled on with event 0x0301 (R84, R150, R186, R188, R191 to R193, R196, R198).

Where the manual leaves it open, the statement rests on the model's choices of log entries 1, 10, 60, 61, 114 and 133. -/
def Obligations.TheCalenderAdapts : Prop :=
  ∀ (s : State) (i : SideId), domOn s (i.val + 1) = true →
    (∀ (m : Measured) (n r : Nat), inData s i = true → calRuns s i = true → 4096 ≤ s.sides[i].measUi → domOn s 39 = true →
      present s 2 = true → n = min s.sides[i].measUi 65536 → r = residOf m.sumSq n →
      (Affects (.measurementClose i m) s [.sides, .free] fun t =>
        t.sides[i].resid = BitVec.ofNat 16 r ∧ t.sides[i].measUi = s.sides[i].measUi - n ∧
        (s.sides[i].measUi ≤ 65536 → t.sides[i].measErr = 0 ∧ t.sides[i].measErr1 = 0) ∧
        t.sides[i].calAge = 0 ∧ t.sides[i].turn = (!s.sides[i].turn) ∧ (∀ j : SideId, j ≠ i → t.sides[j] = s.sides[j])) ∧
      (pcMode s.paths[pathOf i].cfg ≠ 5 → s.sides[i].gated = false → isHigh s.sides[i] r = true →
        Reports (.measurementClose i m) s 0x0310 ([BitVec.ofNat 8 i.val] ++ be 2 r ++ be 2 s.sides[i].baseline.toNat)
          [.sides, .free] fun t => t.sides[i].gated = true ∧ t.sides[i].gates = satInc s.sides[i].gates ∧
            t.sides[i].baseline = s.sides[i].baseline ∧ t.sides[i].left = s.sides[i].left ∧ t.sides[i].right = s.sides[i].right)) ∧
    (∀ m : Measured, inData s i = true → (s.sides[i].measUi < 4096 ∨ calRuns s i = false) →
      Does (.measurementClose i m) s [] fun _ => True) ∧
    (∀ m : Measured, inData s i = false → adapting s i = true → domOn s 39 = true → present s 2 = true →
      Affects (.measurementClose i m) s [.sides, .free] fun t =>
        t.sides[i].resid = BitVec.ofNat 16 (residOf m.sumSq 65536) ∧ t.sides[i].calAge = 0 ∧ t.sides[i].adapted = true ∧
        t.sides[i].turn = (!s.sides[i].turn) ∧ t.sides[i].measUi = s.sides[i].measUi ∧ ∀ j : SideId, j ≠ i → t.sides[j] = s.sides[j]) ∧
    (∀ (set : Fin 4) (n c : Nat), inData s i = true → s.sides[opposite i].txRamp = none → s.sides[i].fecWait = 0 →
      set = runSet s.paths[pathOf i] → c ≤ 31 → fecHolds s i = false →
      (digitalLine s i = true → s.sides[i].targets = [{ corr := 1, sub := 0, code := c, ramp := true }] →
        n = (s.sides[i].rxeq[set].extractLsb' 35 5).toNat → n ≠ c →
        Affects (.kerfCommit i) s [.sides, .win, .mbx] fun t =>
          (t.sides[i].rxeq[set].extractLsb' 35 5).toNat = (if n < c then n + 1 else n - 1) ∧
          (∀ k : Nat, k < 35 → t.sides[i].rxeq[set].getLsbD k = s.sides[i].rxeq[set].getLsbD k) ∧
          t.sides[i].fecWait = (if kerfMode s i = 2 ∧ pcFec s.paths[pathOf i].cfg = true then 3 else 0) ∧
          t.sides[i].steps = satInc s.sides[i].steps ∧ ∀ j : SideId, j ≠ i → t.sides[j] = s.sides[j]) ∧
      (trimMoves s i { corr := 7, sub := 0, code := c, ramp := true } = true →
        s.sides[i].targets = [{ corr := 7, sub := 0, code := c, ramp := true }] → n = (s.sides[i].trim.extractLsb' 30 5).toNat → n ≠ c →
        Affects (.kerfCommit i) s [.sides, .win, .mbx] fun t =>
          (t.sides[i].trim.extractLsb' 30 5).toNat = (if n < c then n + 1 else n - 1) ∧
          (∀ k : Nat, k < 40 → (k < 30 ∨ 35 ≤ k) → t.sides[i].trim.getLsbD k = s.sides[i].trim.getLsbD k) ∧
          (7, 0, s.now) ∈ t.sides[i].trimAt ∧
          t.sides[i].steps = satInc s.sides[i].steps ∧ ∀ j : SideId, j ≠ i → t.sides[j] = s.sides[j])) ∧
    (inData s i = true → s.sides[opposite i].txRamp = none → s.sides[i].fecWait ≠ 0 → Does (.kerfCommit i) s [.sides] fun t =>
      t.sides = vmod s.sides i fun x => { x with fecWait := x.fecWait - 1 }) ∧
    (∀ (v : R40) (set : Fin 4), inData s i = true → s.sides[opposite i].txRamp = some v → s.sides[i].targets = [] → s.sides[i].fecWait = 0 →
      set = runSet s.paths[pathOf i] → Does (.kerfCommit i) s [.sides] fun t =>
        (∀ j : SideId, j ≠ opposite i → t.sides[j] = s.sides[j]) ∧
        ∀ f ∈ [(24, 4), (19, 5), (12, 7), (7, 5)], ∀ a b : Nat, a = (s.sides[opposite i].txeq[set].extractLsb' f.1 f.2).toNat →
          b = (v.extractLsb' f.1 f.2).toNat →
          (t.sides[opposite i].txeq[set].extractLsb' f.1 f.2).toNat = if a < b then a + 1 else if b < a then a - 1 else a) ∧
    (∀ c : InitialCal, s.sides[i].calDue = true →
      Reports (.initialCalibrationDone i c) s 0x0301 ([BitVec.ofNat 8 i.val, 0] ++ be 2 c.micros.toNat) [.sides] fun t =>
        (∀ j : SideId, j ≠ i → { t.sides[j] with txIdle := s.sides[j].txIdle } = s.sides[j]) ∧
        (∀ j : SideId, pathOf j ≠ pathOf i → t.sides[j] = s.sides[j]) ∧ t.sides[i].calDue = false ∧
        t.sides[i].trim.extractLsb' 35 5 = c.pole ∧ t.sides[i].trim.extractLsb' 30 5 = c.term ∧
        t.sides[i].trim.extractLsb' 26 4 = c.bias ∧ t.sides[i].trim.extractLsb' 21 5 = c.txz ∧
        t.sides[i].trim[20] = s.sides[i].trim[20] ∧ t.sides[i].soff = c.soff >>> 4 <<< 4)

/-- A receiver that leaves electrical idle takes its lane's PIN_LAT and turns its path ACTIVE, one that enters it empties its buffer and
idles the transmitter across; lost lock is reported with event 0x0101, a slip counted with 0x0102, an adjustment of the elastic
buffers that adjust together counted in each; a transparent lane acquires lock; NO_KERF_TIMEOUT completes on a lane that carries data,
with event 0x0214, and does nothing on any other (R86, R88, R94, R98, R102, R121, R146, R150, R154).

An island whose clock stops is absent with event 0x0A30 until it returns, CORE falls back from its PLL when that loses lock; a pattern
checker locks with event 0x0D01 and loses lock with 0x0D02, its counts kept (R36, R48, R457).

Where the manual leaves it open, the statement rests on the model's choices of log entries 50, 56 and 58. -/
def Obligations.LanesClocksAndCheckersFollow : Prop :=
  (∀ (s : State) (i : SideId), laneOn s (laneOf i) = true → domOn s (i.val + 1) = true →
     (s.lanes[laneOf i].ei[endOf i] = true → forming s.paths[pathOf i] = false → s.paths[pathOf i].st ≠ .dormant →
       Affects (.receiverEiExit i) s [.lanes, .sides, .paths, .free] fun t =>
         t.lanes[laneOf i].ei[endOf i] = false ∧ t.paths[pathOf i].st = .active ∧ t.lanes[laneOf i].pin = s.paths[pathOf i].pinLat ∧
         ∀ k : LaneId, k ≠ laneOf i → t.lanes[k] = s.lanes[k]) ∧
     (s.lanes[laneOf i].ei[endOf i] = false → neverIdle s (laneOf i) = false →
       Affects (.receiverEiEntry i) s [.lanes, .sides, .paths] fun t =>
         t.lanes[laneOf i].ei[endOf i] = true ∧ t.lanes[laneOf i].lock[endOf i] = false ∧ t.lanes[laneOf i].fill[endOf i] = 0 ∧
         t.sides[opposite i].txIdle = true ∧ ∀ k : LaneId, k ≠ laneOf i → t.lanes[k] = s.lanes[k]) ∧
     (Reports (.laneLockLost i) s 0x0101 [BitVec.ofNat 8 i.val] [.lanes, .sides] fun t =>
       t.lanes = vmod s.lanes (laneOf i) fun x => { x with lock := vmod x.lock (endOf i) fun _ => false }) ∧
     (∀ (n : Int) (far : Bool), adjustable s i = true → skpUnit s.paths[pathOf i] ≠ 0 → n ≠ 0 →
       Affects (.skpAdjustment i n far) s [.lanes, .sides, .paths, .win, .mbx, .free] fun t =>
         (∀ j : SideId, t.sides[j] = if j ∈ adjustedSides s i far then
           (if 0 < n then { s.sides[j] with inserts := satInc s.sides[j].inserts } else { s.sides[j] with deletes := satInc s.sides[j].deletes })
           else s.sides[j]) ∧
         (∀ j : SideId, if j ∈ adjustedSides s i far then 160 ≤ t.lanes[laneOf j].fill[endOf j] ∧ t.lanes[laneOf j].fill[endOf j] ≤ 480
           else t.lanes[laneOf j].fill[endOf j] = s.lanes[laneOf j].fill[endOf j]) ∧
         ∀ q : PathId, { t.paths[q] with idleNs := s.paths[q].idleNs } =
           if q = pathOf i ∧ far = true then { s.paths[q] with deskew := satInc s.paths[q].deskew } else s.paths[q]) ∧
     (pcMode s.paths[pathOf i].cfg = 5 → s.lanes[laneOf i].ei[endOf i] = false → s.lanes[laneOf i].lock[endOf i] = false →
       s.sides[i].adapted = false → Does (.transparentAcquire i) s [.lanes, .sides] fun t =>
         t.lanes = (vmod s.lanes (laneOf i) fun x => { x with lock := vmod x.lock (endOf i) fun _ => true }) ∧
         t.sides[i].calValid = false ∧ t.sides[i].left.pos = -8 ∧ t.sides[i].right.pos = 8 ∧
         ∀ j : SideId, j ≠ i → t.sides[j] = s.sides[j]) ∧
     (∀ d : Dir, i = dirSide (laneOf i) d → domOn s (33 + (pathOf i).val) = true →
       Reports (.bufferSlip (laneOf i) d) s 0x0102 [BitVec.ofNat 8 (laneOf i).val, if d = .down then 0 else 1] [.lanes, .sides, .free] fun t =>
         t.sides = (vmod s.sides i fun x => { x with slips := satInc x.slips }) ∧
         t.lanes[laneOf i].fill[endOf i] = startFill s.paths[pathOf i] s.lanes[laneOf i].pin (startPhase s)) ∧
     (inData s i = true → Reports (.noKerfTimeout i) s 0x0214 [BitVec.ofNat 8 i.val, BitVec.ofNat 8 (pcMode s.paths[pathOf i].cfg)] []
       fun _ => True) ∧
     (inData s i = false → Does (.noKerfTimeout i) s [] fun _ => True)) ∧
  (∀ s : State,
     (∀ i : IslandId, islandNumbered i.val = true → present s i.val = true →
       Reports (.islandClockAbsent i) s 0x0A30 [BitVec.ofNat 8 i.val, 1] [.pow] fun t =>
         PowIs t { s.pow with absent := vmod s.pow.absent i fun _ => true } ∧ present t i.val = false) ∧
     (∀ i : IslandId, s.pow.absent[i] = true → (i.val < 8 ∨ 12 ≤ i.val) →
       Reports (.islandClockReturned i) s 0x0A30 [BitVec.ofNat 8 i.val, 0] [.pow] fun t =>
         PowIs t { s.pow with absent := vmod s.pow.absent i fun _ => false }) ∧
     (∀ (i : IslandId) (p : PathId), s.pow.absent[i] = true → i.val = 8 + p.val →
       Reports (.islandClockReturned i) s 0x0A30 [BitVec.ofNat 8 i.val, 0] [.pow, .paths] fun t =>
         PowIs t { s.pow with absent := vmod s.pow.absent i fun _ => false } ∧ t.paths[p].refclk = true) ∧
     (s.win.coreClk = true → Reports .corePllLoss s 0x0A30 [2, 1] [.win] fun t => WinNoted t { s.win with coreClk := false }) ∧
     (∀ i : SideId, s.sides[i].patSel.toNat % 128 ≠ 0 → s.sides[i].chkLock = false → domOn s 48 = true →
       Reports (.checkerLock i) s 0x0D01 [BitVec.ofNat 8 i.val, s.sides[i].patSel] [.sides] fun t =>
         t.sides = vmod s.sides i fun x => { x with chkLock := true }) ∧
     (∀ i : SideId, s.sides[i].chkLock = true → Reports (.checkerLockLost i) s 0x0D02 [BitVec.ofNat 8 i.val] [.sides] fun t =>
       t.sides = vmod s.sides i fun x => { x with chkLock := false }))

/-! ### PCI Express -/

/-- Receiver detection sets the near terminations from the receivers found; a training set gives lock, the partner's state and the forwarded
set, and teaches the position; a rate change takes both directions through electrical idle, loads an announced preset, with event 0x0203; compliance takes its
rate and preset with event 0x020A. Shown for a path outside a bond group (R105 to R108, R113, R116, R130).

Where the manual leaves it open, the statement rests on the model's choices of log entries 9, 51, 52 and 55. -/
def Obligations.PcieTrainingIsFollowed : Prop :=
  ∀ (s : State) (p : PathId), pcieLive s p = true → s.paths[p].formed = false → pcBond s.paths[p].cfg = 0 →
    (∀ found : BitVec 4, s.paths[p].ltssm = 0 → s.paths[p].refclk = true → calibrating s p = false → Does (.receiverDetect p found) s [.paths, .sides] fun t =>
      (∀ q : PathId, q ≠ p → { t.paths[q] with idleNs := s.paths[q].idleNs } = s.paths[q]) ∧
      t.paths[p].found.toNat = found.toNat % 2 ^ pcLanes s.paths[p].cfg ∧
      (∀ l : LaneId, pathOfLane l = p → laneOn s l = true → t.sides[sideOf l 0].term = found.getLsbD (l.val % 4)) ∧
      ∀ i : SideId, (pathOf i ≠ p ∨ endOf i = 1 ∨ laneOn s (laneOf i) = false) → t.sides[i] = s.sides[i]) ∧
    (∀ (i : SideId) (ts : TrainingSet), pathOf i = p → laneOn s (laneOf i) = true → domOn s (i.val + 1) = true → ts.state ≠ 12 →
      s.lanes[laneOf i].ei[endOf i] = false → underTest s.sides[i] = false → (ts.state = 4 → eqBusy s p = false) →
      Affects (.trainingSetReceived i ts) s [.lanes, .sides, .paths] fun t =>
        t.paths[p].ltssm = ts.state ∧ t.lanes[laneOf i].lock[endOf i] = true ∧
        t.lanes[laneOf i].tsOut[endOf i] = some { forwardedSet t.paths[p] (endOf i == 0) ts with eq := eqFields t (opposite i) ts } ∧
        (s.paths[p].posDue = true → ts.isTs2 = true → ts.rate25 = true → endOf i = 0 →
          t.paths[p].position = if ts.present1 = false then 1 else if ts.present2 = false then 2 else 3) ∧
        (ts.state = 1 → t.sides[i].rxPol = ts.inverted) ∧
        (ts.state = 2 → ts.width ≠ 0 → t.paths[p].widthNow = ts.width) ∧
        (∀ q : PathId, q ≠ p → { t.paths[q] with idleNs := s.paths[q].idleNs } = s.paths[q]) ∧
        (∀ k : LaneId, pathOfLane k ≠ p → t.lanes[k] = s.lanes[k]) ∧ ∀ j : SideId, pathOf j ≠ p → t.sides[j] = s.sides[j]) ∧
    (∀ (rate : Fin 5) (presets : List (SideId × Byte)), rateKb (rate.val + 1) ≤ pcRate s.paths[p].cfg →
      Reports (.rateChange p rate presets) s 0x0203 ([BitVec.ofNat 8 p.val] ++ be 4 (rateKb (rate.val + 1))) [.lanes, .sides, .paths] fun t =>
        t.paths[p].rateNow.val = rate.val + 1 ∧ t.paths[p].ltssm = 5 ∧ (s.paths[p].st = .active → t.paths[p].st = .idle) ∧
        (∀ l : LaneId, pathOfLane l = p → laneOn s l = true → t.lanes[l].ei = Vector.replicate 2 true ∧
          t.lanes[l].lock = Vector.replicate 2 false ∧ t.sides[sideOf l 0].txIdle = true ∧ t.sides[sideOf l 1].txIdle = true) ∧
        (∀ (i : SideId) (k : Byte), presets = [(i, k)] → pathOf i = p → laneOn s (laneOf i) = true → 2 ≤ rate.val →
          t.sides[i].txeq[runSet t.paths[p]] = txWith (landRamps (runSet s.paths[p]) s.sides[i]).txeq[runSet t.paths[p]] 0
            (presetOf k.toNat).1 (presetOf k.toNat).2.1 (presetOf k.toNat).2.2) ∧
        (∀ q : PathId, q ≠ p → { t.paths[q] with idleNs := s.paths[q].idleNs } = s.paths[q]) ∧
        (∀ k : LaneId, pathOfLane k ≠ p → t.lanes[k] = s.lanes[k]) ∧ ∀ j : SideId, pathOf j ≠ p → t.sides[j] = s.sides[j]) ∧
    (∀ (rate : Fin 5) (presets : List (SideId × Byte)), pcRate s.paths[p].cfg < rateKb (rate.val + 1) →
      Does (.rateChange p rate presets) s [] fun _ => True) ∧
    (∀ (rate : Fin 5) (preset : Byte), Reports (.complianceEntry p rate preset) s 0x020A
      ([BitVec.ofNat 8 p.val] ++ be 4 (rateKb (rate.val + 1))) [.lanes, .sides, .paths] fun t =>
        t.paths[p].ltssm = 11 ∧ t.paths[p].rateNow.val = rate.val + 1 ∧
        (∀ i : SideId, pathOf i = p → laneOn s (laneOf i) = true → 2 ≤ rate.val → t.sides[i].txeq[runSet t.paths[p]] =
          txWith s.sides[i].txeq[runSet t.paths[p]] 0 (presetOf preset.toNat).1 (presetOf preset.toNat).2.1 (presetOf preset.toNat).2.2) ∧
        (∀ q : PathId, q ≠ p → { t.paths[q] with idleNs := s.paths[q].idleNs } = s.paths[q]) ∧
        (∀ k : LaneId, pathOfLane k ≠ p → t.lanes[k] = s.lanes[k]) ∧ ∀ j : SideId, pathOf j ≠ p → t.sides[j] = s.sides[j])

/-- PERST_N takes a path to Held and, negated, to Detect; CLKREQ_N moves an idle path's PLL to the internal reference and, asserted,
back to a REFCLK that runs; a lost REFCLK that the PLL runs on makes the path's islands absent. Shown for a path outside a bond group
(R36, R122 to R124, R126).

Where the manual leaves it open, the statement rests on the model's choices of log entries 25 and 50. -/
def Obligations.SidebandPinsAct : Prop :=
  ∀ (s : State) (p : PathId), s.paths[p].formed = false →
    (pcMode s.paths[p].cfg = 1 → s.paths[p].ltssm ≠ 12 → Affects (.perstAsserted p) s [.lanes, .sides, .paths] fun t =>
      t.paths[p].perst = true ∧ t.paths[p].ltssm = 12 ∧ t.paths[p].rateNow = 0 ∧ t.paths[p].eqDone = 0 ∧ t.paths[p].found = 0 ∧
      (∀ l : LaneId, pathOfLane l = p → laneOn s l = true → t.lanes[l].fill = Vector.replicate 2 0 ∧
        t.sides[sideOf l 0].term = false ∧ t.sides[sideOf l 0].txIdle = true ∧ t.sides[sideOf l 1].txIdle = true) ∧
      (s.paths[p].ltssm = 6 → Raised s t 0x0205
        ([BitVec.ofNat 8 p.val] ++ be 4 (runRate s.paths[p]) ++ [BitVec.ofNat 8 s.paths[p].eqPhase.val])) ∧
      (∀ q : PathId, q ≠ p → { t.paths[q] with idleNs := s.paths[q].idleNs } = s.paths[q]) ∧
      (∀ k : LaneId, pathOfLane k ≠ p → t.lanes[k] = s.lanes[k]) ∧ ∀ j : SideId, pathOf j ≠ p → t.sides[j] = s.sides[j]) ∧
    ((pcMode s.paths[p].cfg ≠ 1 ∨ s.paths[p].ltssm = 12) → Does (.perstAsserted p) s [.paths] fun t =>
      PathsAre t (vmod s.paths p fun x => { x with perst := true })) ∧
    (pcMode s.paths[p].cfg = 1 → s.paths[p].ltssm = 12 → Does (.perstNegated p) s [.paths] fun t =>
      PathsAre t (vmod s.paths p fun x => { x with perst := false, ltssm := 0, posDue := true })) ∧
    ((pcMode s.paths[p].cfg ≠ 1 ∨ s.paths[p].ltssm ≠ 12) → Does (.perstNegated p) s [.paths] fun t =>
      PathsAre t (vmod s.paths p fun x => { x with perst := false })) ∧
    (Does (.l1SubstateEntry p) s [.paths] fun t => PathsAre t (vmod s.paths p fun x => { x with
      clkreq := false
      pllInt := if pcMode x.cfg = 1 ∧ x.st = .idle ∧ domOn s (33 + p.val) = true then pcClk x.cfg else x.pllInt
      cmOff := x.cmOff || (pcMode x.cfg == 1 && x.st == .idle && domOn s (33 + p.val)) })) ∧
    (Does (.l1SubstateExit p) s [.paths] fun t => PathsAre t (vmod s.paths p fun x => { x with
      clkreq := true, pllInt := if pcMode x.cfg = 1 then x.pllInt && !x.refclk else x.pllInt
      cmOff := x.cmOff && pcMode x.cfg != 1 })) ∧
    (pathOn s p = true → domOn s (33 + p.val) = true → pcClk s.paths[p].cfg = true → s.paths[p].pllInt = false →
      s.paths[p].refclk = true → Affects (.refclkLost p) s [.paths, .pow] fun t =>
        PathsAre t (vmod s.paths p fun x => { x with refclk := false }) ∧
        (∀ k : Fin 64, t.pow.absent[k] = (s.pow.absent[k] || (present s k.val && (k.val == 8 + p.val ||
          (decide (32 ≤ k.val) && k.val - 32 < 32 && (k.val - 32) / 8 == p.val && laneOn s (Fin.ofNat 16 ((k.val - 32) / 2))))))) ∧
        PowIs t { s.pow with absent := t.pow.absent }) ∧
    ((pathOn s p = false ∨ domOn s (33 + p.val) = false ∨ pcClk s.paths[p].cfg = false ∨ s.paths[p].pllInt = true) →
      Does (.refclkLost p) s [.paths] fun t => PathsAre t (vmod s.paths p fun x => { x with refclk := false }))

/-- A phase entered starts the requests PCIE_CFG asks for and gives the responders the announced presets; an echo with a higher margin
is kept; requests without an echo end with event 0x0202; a phase that completes sets its bit of EQ_DONE with event 0x0201, phase 3
leads to Recovery; a request within FS 32 and LF 8 takes effect whole, any other is counted and reported once (R109 to R112).

Where the manual leaves it open, the statement rests on the model's choices of log entries 1, 53 and 148. -/
def Obligations.EqualisationRuns : Prop :=
  ∀ (s : State) (p : PathId), pcieLive s p = true → s.paths[p].formed = false →
    (∀ (phase : Bool) (presets : List Byte), 3 ≤ s.paths[p].rateNow.val → eqBusy s p = false → Does (.eqPhaseEntry p phase presets) s [.paths, .sides] fun t =>
      t.paths[p].ltssm = 6 ∧ t.paths[p].eqPhase = (if phase then 3 else 2) ∧
      (s.paths[p].ltssm ≠ 6 → t.paths[p].pcieUse = s.paths[p].pcieCfg) ∧
      (∀ l : LaneId, pathOfLane l = p → laneOn s l = true → s.lanes[l].parked = false →
        t.sides[sideOf l (if phase then 1 else 0)].reqRun = decide (fld t.paths[p].pcieUse 39 38 ≤ 1) ∧
        (fld t.paths[p].pcieUse 39 38 = 1 → t.sides[sideOf l (if phase then 1 else 0)].presets =
          [if phase then fld t.paths[p].pcieUse 33 30 else fld t.paths[p].pcieUse 37 34]) ∧
        t.sides[sideOf l (if phase then 0 else 1)].rejects = 0 ∧
        ∀ k : Byte, presets[l.val]? = some k → t.sides[sideOf l (if phase then 0 else 1)].txeq[runSet s.paths[p]] =
          txWith s.sides[sideOf l (if phase then 0 else 1)].txeq[runSet s.paths[p]] 0 (presetOf k.toNat).1 (presetOf k.toNat).2.1
            (presetOf k.toNat).2.2) ∧
      (∀ q : PathId, q ≠ p → { t.paths[q] with idleNs := s.paths[q].idleNs } = s.paths[q]) ∧
      ∀ j : SideId, pathOf j ≠ p → t.sides[j] = s.sides[j]) ∧
    (∀ (i : SideId) (e : EqFields), (requests s i = false ∨ requestNow s.sides[i] ≠ some e) → Does (.eqPartnerEcho i e) s [] fun _ => True) ∧
    (∀ (i : SideId) (e : EqFields) (m : Nat), requests s i = true → requestNow s.sides[i] = some e → m = marginOf false s.sides[i] →
      Does (.eqPartnerEcho i e) s [.sides, .free] fun t =>
      (∀ j : SideId, j ≠ i → t.sides[j] = s.sides[j]) ∧
      (∀ (k : Nat) (rest : List Nat), s.sides[i].presets = k :: rest → t.sides[i].presets = rest ∧ (rest ≠ [] → t.sides[i].reqRun = true) ∧
        (rest = [] → s.sides[i].reqSteps = 0 → t.sides[i].reqRun = false) ∧
        (fld s.paths[pathOf i].pcieUse 39 38 = 0 → t.sides[i].reqBest = match s.sides[i].reqBest with
          | some b => if b.2 < m then some (k, m) else some b
          | none => some (k, m))) ∧
      (∀ (a : Fin 4 × Byte × Byte × Byte) (b : Nat × Nat), s.sides[i].presets = [] → s.sides[i].eqAsk = some a → s.sides[i].reqBest = some b →
        t.sides[i].reqSteps = s.sides[i].reqSteps - 1 ∧ (s.sides[i].reqSteps ≤ 1 → t.sides[i].reqRun = false) ∧
        t.sides[i].reqBest = some (b.1, max b.2 m) ∧ (b.2 < m → t.sides[i].partner = some a.2) ∧
        (m ≤ b.2 → t.sides[i].partner = s.sides[i].partner))) ∧
    (∀ i : SideId, requests s i = true → Reports (.eqEchoTimeout i) s 0x0202
      ([BitVec.ofNat 8 (pathOf i).val, BitVec.ofNat 8 i.val] ++ be 4 (runRate s.paths[pathOf i]) ++
        [BitVec.ofNat 8 s.paths[pathOf i].eqPhase.val]) [.sides] fun t =>
      t.sides = vmod s.sides i fun x => { x with reqRun := false, presets := [], eqAsk := none, krAsk := none, reqTried := [] }) ∧
    (∀ (b : Nat × Nat) (v : Byte × Byte × Byte) (e : Fin 2), s.paths[p].ltssm = 6 → s.paths[p].eqPhase ≠ 0 → 3 ≤ s.paths[p].rateNow.val →
      eqBusy s p = false → e = (if s.paths[p].eqPhase = 3 then 1 else 0) → s.sides[sideOf (laneIn p 0) e].reqBest = some b →
      s.sides[sideOf (laneIn p 0) e].partner = some v →
      Reports (.eqPhaseComplete p) s 0x0201 ([BitVec.ofNat 8 p.val, BitVec.ofNat 8 e.val] ++ be 4 (runRate s.paths[p]) ++
          [BitVec.ofNat 8 s.paths[p].eqPhase.val, BitVec.ofNat 8 b.1, v.1, v.2.1, v.2.2]) [.paths, .sides, .free] fun t =>
        (∀ k : Fin 6, t.paths[p].eqDone[k] = (s.paths[p].eqDone[k] ||
          (k.val == 11 - 2 * s.paths[p].rateNow.val - (if s.paths[p].eqPhase = 3 then 1 else 0)))) ∧
        t.paths[p].ltssm = (if s.paths[p].eqPhase = 3 then 4 else 6) ∧
        (∀ l : LaneId, pathOfLane l = p → laneOn s l = true → s.lanes[l].parked = false → t.sides[sideOf l e].reqRun = false) ∧
        (∀ q : PathId, q ≠ p → { t.paths[q] with idleNs := s.paths[q].idleNs } = s.paths[q]) ∧
        ∀ j : SideId, pathOf j ≠ p → t.sides[j] = s.sides[j]) ∧
    (∀ (i : SideId) (cm1 c0 cp1 : Byte), pathOf i = p → s.paths[p].ltssm = 6 → laneOn s (laneOf i) = true →
      ((s.paths[p].eqPhase = 2 ∧ endOf i = 1) ∨ (s.paths[p].eqPhase = 3 ∧ endOf i = 0)) →
      ((cm1.toNat + c0.toNat + cp1.toNat = 32 ∧ cm1.toNat ≤ 8 ∧ cp1.toNat ≤ 12 ∧ 8 + cm1.toNat + cp1.toNat ≤ c0.toNat) →
        Does (.coefficientRequest i cm1 c0 cp1) s [.sides] fun t => t.sides = vmod s.sides i fun x => { x with
          txeq := vmod x.txeq (runSet s.paths[p]) fun r => txWith r 0 (2 * cm1.toNat) (2 * c0.toNat) (2 * cp1.toNat)
          txRamp := none, eqReject := false }) ∧
      (¬(cm1.toNat + c0.toNat + cp1.toNat = 32 ∧ cm1.toNat ≤ 8 ∧ cp1.toNat ≤ 12 ∧ 8 + cm1.toNat + cp1.toNat ≤ c0.toNat) →
        Affects (.coefficientRequest i cm1 c0 cp1) s [.sides] fun t =>
          t.sides = (vmod s.sides i fun x => { x with rejects := satInc x.rejects, eqReject := true }) ∧
          ((∀ l : LaneId, pathOfLane l = p → s.sides[sideOf l (endOf i)].rejects = 0) → Raised s t 0x0207
            ([BitVec.ofNat 8 p.val, BitVec.ofNat 8 (endOf i).val] ++ be 4 (runRate s.paths[p]) ++
              [BitVec.ofNat 8 s.paths[p].eqPhase.val, 0, 1]))))

/-- A margin command in L0 at 16.0 and 32.0 GT/s moves the first deckle sampler of the receiver it names by two codes or interpolator
steps for each step, waits with event 0x020B during a sweep step, and beyond the capabilities sets nothing and is answered so; an L0s entry passes electrical
idle on in one direction, counted, with event 0x0204 (R117 to R119, R128).

Where the manual leaves it open, the statement rests on the model's choices of log entry 54. -/
def Obligations.MarginingAndL0sActInL0 : Prop :=
  ∀ (s : State) (p : PathId), pcieLive s p = true → s.paths[p].ltssm = 3 →
    (∀ (lane : Fin 4) (r : Fin 8) (i : SideId), 4 ≤ s.paths[p].rateNow.val → laneOn s (laneIn p lane) = true →
      ((marginPosition s.paths[p] = 1 ∧ r = 2 ∧ i = sideOf (laneIn p lane) 0) ∨
        (marginPosition s.paths[p] = 1 ∧ r = 3 ∧ i = sideOf (laneIn p lane) 1) ∨
        (marginPosition s.paths[p] = 2 ∧ r = 4 ∧ i = sideOf (laneIn p lane) 0) ∨
        (marginPosition s.paths[p] = 2 ∧ r = 5 ∧ i = sideOf (laneIn p lane) 1)) →
      (∀ n : Int, sweepStep s i = false → -32 ≤ n → n ≤ 32 → Does (.marginCommand p lane r (.timing n)) s [.sides] fun t =>
        t.sides = vmod s.sides i fun x => { x with
          margin := some (.timing n), deferred := none, marginAns := some (.taken x.marginN), dkPhase := vmod x.dkPhase 0 fun _ => 2 * n }) ∧
      (∀ n : Int, sweepStep s i = false → -60 ≤ n → n ≤ 60 → Does (.marginCommand p lane r (.voltage n)) s [.sides] fun t =>
        t.sides = vmod s.sides i fun x => { x with
          margin := some (.voltage n), deferred := none, marginAns := some (.taken x.marginN), dkThr := vmod x.dkThr 0 fun _ => 2 * n }) ∧
      (∀ n : Int, (n < -32 ∨ 32 < n) → Does (.marginCommand p lane r (.timing n)) s [.sides] fun t =>
        t.sides = vmod s.sides i fun x => { x with marginAns := some .beyond }) ∧
      (∀ n : Int, (n < -60 ∨ 60 < n) → Does (.marginCommand p lane r (.voltage n)) s [.sides] fun t =>
        t.sides = vmod s.sides i fun x => { x with marginAns := some .beyond }) ∧
      (sweepStep s i = false → Does (.marginCommand p lane r .goNormal) s [.sides] fun t => t.sides[i].margin = none ∧
        ∀ j : SideId, j ≠ i → t.sides[j] = s.sides[j]) ∧
      (sweepStep s i = true → Reports (.marginCommand p lane r .goNormal) s 0x020B [BitVec.ofNat 8 p.val, BitVec.ofNat 8 i.val] [.sides] fun t =>
        t.sides = vmod s.sides i fun x => { x with deferred := some .goNormal, marginAns := some .setUp })) ∧
    (∀ d : Dir, Reports (.l0sEntry p d) s 0x0204 [BitVec.ofNat 8 p.val, if d = .down then 0 else 1] [.lanes, .sides, .paths] fun t =>
      PathsAre t (vmod s.paths p fun x => { x with l0s := satInc x.l0s }) ∧
      ∀ l : LaneId, l ∈ linkedLanes s p → t.lanes[l].ei[endOf (dirSide l d)] = true ∧ t.sides[opposite (dirSide l d)].txIdle = true)

/-! ### Backplane Ethernet -/

/-- Auto-negotiation that resolves another technology idles the lane with event 0x0212 until pages come again; the configured one takes
each receiver with signal to data, or to training in MODE 2; pages or frames after data negotiate or train again with event 0x0215
(R136 to R138, R143).

Where the manual leaves it open, the statement rests on the model's choices of log entries 37 and 56. -/
def Obligations.BackplaneLanesNegotiate : Prop :=
  ∀ (s : State) (l : LaneId), backplaneLane s l = true →
    (∀ (tech : Fin 7) (fec : Fin 3), s.lanes[l].bpCfg.getLsbD 37 = false → (s.lanes[l].seg[(0 : Fin 2)] = 1 ∨ s.lanes[l].seg[(1 : Fin 2)] = 1) →
      anWaits s l = false →
      (tech.val ≠ wantedTech s.paths[pathOfLane l].cfg →
        Reports (.anComplete l tech fec) s 0x0212 [BitVec.ofNat 8 l.val, BitVec.ofNat 8 tech.val] [.lanes, .sides] fun t =>
          t.lanes = (vmod s.lanes l fun x => { x with
            anTech := BitVec.ofNat 3 tech.val, anFec := BitVec.ofNat 2 fec.val, mismatch := true }) ∧
          t.sides[sideOf l 0] = { s.sides[sideOf l 0] with txIdle := true } ∧
          t.sides[sideOf l 1] = { s.sides[sideOf l 1] with txIdle := true } ∧
          ∀ i : SideId, laneOf i ≠ l → t.sides[i] = s.sides[i]) ∧
      (tech.val = wantedTech s.paths[pathOfLane l].cfg → (fec.val != 0) = pcFec s.paths[pathOfLane l].cfg →
        Does (.anComplete l tech fec) s [.lanes, .sides, .free] fun t =>
          t.lanes[l].anTech = BitVec.ofNat 3 tech.val ∧ t.lanes[l].anFec = BitVec.ofNat 2 fec.val ∧ t.lanes[l].mismatch = s.lanes[l].mismatch ∧
          (∀ e : Fin 2, s.lanes[l].ei[e] = true → t.lanes[l].seg[e] = s.lanes[l].seg[e]) ∧
          (∀ e : Fin 2, s.lanes[l].ei[e] = false → t.lanes[l].seg[e] =
            if pcMode s.paths[pathOfLane l].cfg = 2 ∧ s.lanes[l].bpCfg.getLsbD 36 = false then 2 else 4) ∧
          ∀ k : LaneId, pathOfLane k ≠ pathOfLane l → t.lanes[k] = s.lanes[k]) ∧
      (tech.val = wantedTech s.paths[pathOfLane l].cfg → (fec.val != 0) ≠ pcFec s.paths[pathOfLane l].cfg →
        Reports (.anComplete l tech fec) s 0x0213 [BitVec.ofNat 8 l.val, BitVec.ofNat 8 fec.val] [.lanes, .sides, .free] fun t =>
          t.lanes[l].anFec = BitVec.ofNat 2 fec.val)) ∧
    (∀ i : SideId, laneOf i = l → s.lanes[l].mismatch = false → Does (.anPagesReceived i) s [] fun _ => True) ∧
    (∀ (i : SideId) (again : Lane), laneOf i = l → oneLink s.paths[pathOfLane l].cfg = false → s.paths[pathOfLane l].bpCfg.getLsbD 37 = false →
      again = { s.lanes[l] with
        seg := Vector.ofFn fun e : Fin 2 => if s.lanes[l].ei[e] then 0 else 1
        rr := Vector.replicate 2 false, align := Vector.replicate 2 false, rrSent := false
        reqDone := Vector.replicate 2 false, bpCfg := s.paths[pathOfLane l].bpCfg, mismatch := false } →
      (s.lanes[l].mismatch = true → Does (.anPagesReceived i) s [.lanes, .sides] fun t => t.lanes = vmod s.lanes l fun _ => again) ∧
      (s.lanes[l].ei[endOf i] = false → (s.lanes[l].seg[(0 : Fin 2)] = 4 ∨ s.lanes[l].seg[(1 : Fin 2)] = 4) → underTest s.sides[i] = false →
        s.lanes[l].bpCfg.getLsbD 37 = false → Reports (.krRestart i true) s 0x0215 [BitVec.ofNat 8 i.val] [.lanes, .sides] fun t =>
          t.lanes = vmod s.lanes l fun _ => again)) ∧
    (∀ i : SideId, laneOf i = l → s.lanes[l].ei[endOf i] = false → (s.lanes[l].seg[(0 : Fin 2)] = 4 ∨ s.lanes[l].seg[(1 : Fin 2)] = 4) →
      underTest s.sides[i] = false → pcMode s.paths[pathOfLane l].cfg = 2 → s.lanes[l].bpCfg.getLsbD 36 = false →
      Reports (.krRestart i false) s 0x0215 [BitVec.ofNat 8 i.val] [.lanes, .sides] fun t =>
        (∀ e : Fin 2, if s.lanes[l].ei[e] then t.lanes[l].seg[e] = s.lanes[l].seg[e]
          else t.lanes[l].seg[e] = 2 ∧ t.lanes[l].rr[e] = false ∧ t.lanes[l].reqDone[e] = false) ∧ t.lanes[l].rrSent = false ∧
        ∀ k : LaneId, k ≠ l → t.lanes[k] = s.lanes[k])

/-- In training a coefficient update moves PRE1 or POST1 by 2/64 out of MAIN within its limits, and reports updated, minimum or maximum; a
status is kept with the partner's receiver ready; requests end with event 0x0211 without an answer and with 0x0210 when finished, and
the lane forwards once both partners are ready and both receivers finished (R139 to R142).

Where the manual leaves it open, the statement rests on the model's choices of log entries 9 and 37. -/
def Obligations.KrTrainingRuns : Prop :=
  ∀ (s : State) (i : SideId), trains s i = true →
    (∀ (pre post : Nat) (v : R40), v = s.sides[i].txeq[(0 : Fin 4)] → pre = (v.extractLsb' 19 5).toNat → post = (v.extractLsb' 7 5).toNat →
      (∀ (r : KrRequest) (pre' post' : Nat), ((r = .preDec ∧ pre + 2 ≤ 16 ∧ pre + post ≤ 38 ∧ pre' = pre + 2 ∧ post' = post) ∨
          (r = .preInc ∧ 2 ≤ pre ∧ pre' = pre - 2 ∧ post' = post) ∨
          (r = .postDec ∧ post + 2 ≤ 24 ∧ pre + post ≤ 38 ∧ pre' = pre ∧ post' = post + 2) ∨
          (r = .postInc ∧ 2 ≤ post ∧ pre' = pre ∧ post' = post - 2) ∨
          (r = .preset ∧ pre' = 0 ∧ post' = 0) ∨ (r = .init ∧ pre' = 3 ∧ post' = 18)) →
        Does (.krCoeffUpdate i r s.sides[i].rxPol) s [.lanes, .sides] fun t =>
          t.lanes = (vmod s.lanes (laneOf i) fun x => { x with lock := vmod x.lock (endOf i) fun _ => true }) ∧
          t.sides = vmod s.sides i fun x => { x with
            txeq := vmod x.txeq 0 fun r => txWith r 0 pre' (64 - pre' - post') post', txRamp := none, krReport := 1 }) ∧
      (∀ (r : KrRequest) (report : Fin 4), ((r = .preDec ∧ (16 < pre + 2 ∨ 38 < pre + post) ∧ report = 2) ∨
          (r = .preInc ∧ pre < 2 ∧ report = 3) ∨ (r = .postDec ∧ (24 < post + 2 ∨ 38 < pre + post) ∧ report = 2) ∨
          (r = .postInc ∧ post < 2 ∧ report = 3) ∨ (r = .mainInc ∧ report = 3) ∨ (r = .mainDec ∧ report = 2)) →
        Does (.krCoeffUpdate i r s.sides[i].rxPol) s [.lanes, .sides] fun t =>
          t.lanes = (vmod s.lanes (laneOf i) fun x => { x with lock := vmod x.lock (endOf i) fun _ => true }) ∧
          t.sides = vmod s.sides i fun x => { x with krReport := report })) ∧
    (∀ (r : KrRequest) (inv : Bool), inv ≠ s.sides[i].rxPol → Reports (.krCoeffUpdate i r inv) s 0x0106 [BitVec.ofNat 8 i.val] [.lanes, .sides]
      fun t => t.sides[i].rxPol = inv ∧ ∀ j : SideId, j ≠ i → t.sides[j] = s.sides[j]) ∧
    (∀ (st : KrStatus) (m : Nat), m = marginOf false s.sides[i] → Does (.krStatusUpdate i st) s [.lanes, .sides, .free] fun t =>
      t.lanes = (vmod s.lanes (laneOf i) fun x => { x with rr := vmod x.rr (endOf i) fun _ => st.partnerRdy }) ∧
      t.sides[i].reported = some (st.pre, st.main, st.post) ∧
      (s.sides[i].reqRun = false → t.sides[i] = { s.sides[i] with reported := some (st.pre, st.main, st.post) }) ∧
      (s.sides[i].reqRun = true → s.sides[i].krAsk = some .init →
        t.sides[i].reqBest = some (0, m) ∧ t.sides[i].partner = some (st.pre, st.main, st.post)) ∧
      (∀ (q : KrRequest) (b : Nat × Nat), s.sides[i].reqRun = true → s.sides[i].krAsk = some q → q ≠ .init → s.sides[i].reqBest = some b →
        t.sides[i].reqSteps = s.sides[i].reqSteps - 1 ∧ (s.sides[i].reqSteps ≤ 1 → t.sides[i].reqRun = false) ∧
        t.sides[i].reqBest = (if b.2 < m then some (0, m) else some b) ∧
        t.sides[i].partner = if b.2 < m then some (st.pre, st.main, st.post) else s.sides[i].partner) ∧
      ∀ j : SideId, j ≠ i → t.sides[j] = s.sides[j]) ∧
    (s.sides[i].reqRun = true → Reports (.krUpdateTimeout i) s 0x0211 ([BitVec.ofNat 8 i.val] ++ be 4 (runRate s.paths[pathOf i])) [.sides]
      fun t => t.sides = vmod s.sides i fun x => { x with reqRun := false, presets := [], eqAsk := none, krAsk := none, reqTried := [] }) ∧
    (s.sides[i].reqRun = false → Does (.krUpdateTimeout i) s [] fun _ => True) ∧
    (∀ (v : Byte × Byte × Byte) (b : Nat × Nat), s.lanes[laneOf i].seg[endOf i] = 2 → s.sides[i].reqRun = false → s.sides[i].partner = some v →
      s.sides[i].reqBest = some b → Reports (.krRequestsFinished i) s 0x0210
        ([BitVec.ofNat 8 i.val] ++ be 4 (runRate s.paths[pathOf i]) ++ [v.1, v.2.1, v.2.2, BitVec.ofNat 8 b.2]) [.lanes, .sides, .free] fun t =>
        t.lanes = (vmod s.lanes (laneOf i) fun x => { x with
          seg := vmod x.seg (endOf i) fun _ => 3, reqDone := vmod x.reqDone (endOf i) fun _ => true }) ∧
        t.sides = vmod s.sides i fun x => { x with reqRun := false, presets := [], eqAsk := none, krAsk := none, reqTried := [] }) ∧
    (trains s (opposite i) = true → s.lanes[laneOf i].reqDone = Vector.replicate 2 true → s.lanes[laneOf i].rr = Vector.replicate 2 true →
      Does (.krReceiverReady (laneOf i)) s [.lanes, .sides, .free] fun t =>
        t.lanes[laneOf i].seg = Vector.replicate 2 4 ∧ t.lanes[laneOf i].lock = Vector.replicate 2 true ∧ t.lanes[laneOf i].rrSent = true ∧
        (∀ k : LaneId, k ≠ laneOf i → t.lanes[k] = s.lanes[k]) ∧ ∀ j : SideId, laneOf j ≠ laneOf i → t.sides[j] = s.sides[j])

/-! ### Power, the end of a run, a start, test access -/

/-- The device's idle time sets REST_PEND; a wake source abandons a REST entry with event 0x0A03 and, in REST, the lowest enabled one takes
the device back to RUN with its code recorded (R407, R412 to R414).

Where the manual leaves it open, the statement rests on the model's choices of log entry 93. -/
def Obligations.WakesAreServed : Prop :=
  ∀ s : State,
    (deviceIdle s = true → s.pow.restT ≠ 0 → s.pow.restT.toNat * 1000000 ≤ s.pow.idleNs →
      Does .restPendSet s [] fun t => t.win.restPend = true) ∧
    (deviceIdle s = true → (s.pow.restT = 0 ∨ s.pow.idleNs < s.pow.restT.toNat * 1000000) →
      Does .restPendSet s [] fun t => t.win.restPend = s.win.restPend) ∧
    (deviceIdle s = false → Does .restPendSet s [] fun t => t.win.restPend = false) ∧
    (∀ (sources : BitVec 8) (c : Nat), 1 ≤ c → c ≤ 7 → wakeEnabled s sources c = true →
      (∀ k : Nat, 1 ≤ k → k < c → wakeEnabled s sources k = false) →
      (s.pow.rest = .saving → Reports (.wakeSourceDetected sources) s 0x0A03 [BitVec.ofNat 8 c] [.pow] fun t =>
        PowIs t { s.pow with rest := .none }) ∧
      (s.pow.rest ≠ .saving → s.pow.dev = .rest → Affects (.wakeSourceDetected sources) s
        [.win, .sides, .lanes, .paths, .mbx, .time, .ven, .scan, .test, .pow, .free] fun t =>
          t.pow.dev = .run ∧ t.pow.rest = .none ∧ t.pow.wake = BitVec.ofNat 8 c ∧ t.pow.exitDue = true ∧ t.win.devState = 3 ∧
          t.win.coreClk = true ∧ t.win.woke = (c == 2) ∧ t.mbx.hold = [] ∧ domOn t 37 = true ∧ domOn t 41 = true)) ∧
    (∀ sources : BitVec 8, (∀ k : Nat, 1 ≤ k → k ≤ 7 → wakeEnabled s sources k = false) →
      Does (.wakeSourceDetected sources) s [] fun _ => True)

/-- Supply, heat and the cell: a brownout is reported with its depth and length, the switch of the AO supply changes nothing of it, a
temperature that crosses the warning's limits is reported once and in REST wakes the device, a cell outside its limits is absent until it returns, and charging
ends at FLOAT (R384, R398, R399, R415, R416, R447).

Where the manual leaves it open, the statement rests on the model's choices of log entry 98. -/
def Obligations.SupplyHeatAndCellAreReported : Prop :=
  ∀ s : State, alive s = true →
    (∀ mv us : BitVec 16, Reports (.brownout mv us) s 0x0C10 (be 2 mv.toNat ++ be 2 us.toNat) [] fun _ => True) ∧
    (∀ b : Bool, Does (.aoSwitchover b) s [.pow] fun t => PowIs t { s.pow with onVbak := b }) ∧
    (∀ (h : Int) (k : Fin 5), s.pow.warnArmed = true → 230 ≤ h →
      (s.pow.dev ≠ .rest → Reports (.thermalWarning h k) s 0x0C01 (sbe 1 (h / 2) ++ [BitVec.ofNat 8 (k.val + 3)]) [.pow] fun t =>
        PowIs t { s.pow with warnArmed := false }) ∧
      (s.pow.dev = .rest → Affects (.thermalWarning h k) s
        [.win, .sides, .lanes, .paths, .mbx, .time, .ven, .scan, .test, .pow, .free] fun t =>
          t.pow.warnArmed = false ∧ t.pow.dev = .run ∧ t.pow.wake = 7 ∧ t.pow.exitDue = true ∧ t.win.devState = 3)) ∧
    (∀ (h : Int) (k : Fin 5), (s.pow.warnArmed = false ∨ h < 230) → Does (.thermalWarning h k) s [] fun _ => True) ∧
    (∀ h : Int, s.pow.warnArmed = false → h < 220 → Reports (.thermalWarningCleared h) s 0x0C02 (sbe 1 (h / 2)) [.pow] fun t =>
      PowIs t { s.pow with warnArmed := true }) ∧
    (∀ h : Int, (s.pow.warnArmed = true ∨ 220 ≤ h) → Does (.thermalWarningCleared h) s [] fun _ => True) ∧
    (∀ mv : BitVec 16, (3400 < mv.toNat ∨ mv.toNat < 1000) →
      (s.pow.charging ≠ 3 → Reports (.cellCheck mv) s 0x0A10 (be 2 mv.toNat) [.pow] fun t =>
        PowIs t { s.pow with vbak := mv, charging := 3, topUp := false }) ∧
      (s.pow.charging = 3 → Does (.cellCheck mv) s [.pow] fun t => PowIs t { s.pow with vbak := mv })) ∧
    (∀ mv : BitVec 16, 1000 ≤ mv.toNat → mv.toNat ≤ 3400 → s.pow.chargeNext = none →
      (s.pow.charging = 3 → Reports (.cellCheck mv) s 0x0A11 (be 2 mv.toNat) [.pow] fun t =>
        PowIs t { s.pow with vbak := mv, charging := if fld s.pow.charger 3 2 = 0 then 0 else 1 }) ∧
      (s.pow.charging ≠ 3 → Does (.cellCheck mv) s [.pow] fun t => PowIs t { s.pow with
        vbak := mv, charging := if fld s.pow.charger 3 2 = 0 then 0 else if s.pow.charging = 0 then 1 else s.pow.charging })) ∧
    (∀ mv : BitVec 16, 3000 + 100 * fld s.pow.charger 1 0 ≤ mv.toNat → (s.pow.charging = 1 ∨ s.pow.charging = 2) →
      Does (.vbakFloatCrossing mv) s [.pow] fun t => PowIs t { s.pow with charging := 2, topUp := false }) ∧
    (∀ mv : BitVec 16, mv.toNat + 50 < 3000 + 100 * fld s.pow.charger 1 0 → s.pow.charging = 2 →
      Does (.vbakFloatCrossing mv) s [.pow] fun t => PowIs t { s.pow with topUp := true })

/-- Undervoltage lockout, RESET_N, thermal shutdown and a device reset end a run with their cause; lost VAO leaves the device OFF with
spine time and the AO memory lost (R26, R30, R391, R398, R419 to R421, R448).

Where the manual leaves it open, the statement rests on the model's choices of log entries 90, 91 and 97. -/
def Obligations.RunsEndWithTheirCause : Prop :=
  ∀ (s : State) (c : BitVec 64), alive s = true →
    (∀ (mv : BitVec 16) (b : Bool), ∃ t, exec (.undervoltageLockout mv b c) s = .next t ∧ RunEnded s t 1 b c ∧ t.pow.lockout = true ∧
      (t.pow.ended.map fun e => e.vin) = some mv) ∧
    (∀ b : Bool, ∃ t, exec (.resetNAsserted b c) s = .next t ∧ RunEnded s t 3 b c ∧ t.pow.resetN = true) ∧
    (∀ h : Int, 280 ≤ h → ∃ t, exec (.thermalShutdown h c) s = .next t ∧ RunEnded s t 2 true c ∧ t.pow.thermal = true ∧
      (t.pow.ended.map fun e => e.tj) = some (BitVec.ofInt 10 h)) ∧
    (∀ h : Int, h < 280 → Does (.thermalShutdown h c) s [] fun _ => True) ∧
    (s.pow.resetDue = some false → ∃ t, exec (.deviceResetEffect c) s = .next t ∧ RunEnded s t 4 true c ∧ t.pow.resetDue = none) ∧
    (s.pow.resetDue ≠ some false → Does (.deviceResetEffect c) s [] fun _ => True) ∧
    (∃ t, exec .vaoLost s = .next t ∧ t.pow.dev = .off ∧ t.time.spine = 0 ∧ t.pow.ended = none ∧ t.pow.aoKept = false ∧
      t.mbx.hold = [] ∧ t.store.staged = [] ∧ t.pow.crossings = Vector.replicate 64 0 ∧ t.pending = s.pending)

/-- Reset release samples the straps and starts BOOT with D37, D38 and D41 on, the kind of start from the end record, and what AO memory
keeps; the boot ROM runs the valid bank with the higher sequence number, tries the other with FALLBACK set where it fails, and
stays in BOOT with none left (R290, R419, R420, R423 to R428).

Where the manual leaves it open, the statement rests on the model's choices of log entries 4, 5, 86 and 88. -/
def Obligations.StartsFollowTheStraps : Prop :=
  ∀ s : State,
    (∀ x : Straps, (s.pow.dev = .held ∨ s.pow.dev = .off) → ∃ t, exec (.resetRelease x) s = .next t ∧ t.pow.dev = .boot ∧
      t.win.maddrN.toNat = 3 * (match x.maddr1 with | .low => 0 | .float => 1 | .high => 2) +
        (match x.maddr0 with | .low => 0 | .float => 1 | .high => 2) ∧
      t.win.pathBoot = x.pathBoot ∧ t.win.svcBoot = x.svcMode ∧ t.win.aoInvalid = !(s.pow.aoKept && s.pow.saved) ∧
      t.win.resetKind = (if s.pow.aoKept then (match s.pow.ended with | some e => e.cause | none => 0) else 0) ∧
      domOn t 37 = true ∧ domOn t 38 = true ∧ domOn t 41 = true ∧ t.cpu.running = false ∧ t.seq.firstDue = true ∧
      (∀ i : SideId, s.pow.aoKept = true → s.pow.saved = true → t.sides[i].rxeq = s.sides[i].rxeq ∧ t.sides[i].dfeA = s.sides[i].dfeA ∧
        t.sides[i].trim[20] = true ∧ t.sides[i].soff = s.sides[i].soff ∧ t.sides[i].calCfg = s.sides[i].calCfg) ∧
      t.store.banks = s.store.banks ∧ t.store.slots = s.store.slots ∧ t.store.copies = s.store.copies ∧ t.pending = s.pending) ∧
    (∀ x : Straps, s.pow.dev ≠ .held → s.pow.dev ≠ .off → Does (.resetRelease x) s [] fun _ => True) ∧
    (∀ k : Fin 2, booting s = true → candidate s = some k → s.store.copies[(0 : Fin 2)].valid = false →
      s.store.copies[(1 : Fin 2)].valid = false → ∃ t, exec .bankStarted s = .next t ∧ t.cpu.running = true ∧ t.win.coreClk = true ∧
        t.win.bootBank = (k == 1) ∧ t.seq.active.isSome = true ∧ t.pow.ended = none ∧ t.pow.dev = .boot ∧ t.pending = s.pending) ∧
    (∀ (k : Fin 2) (r : Byte), booting s = true → candidate s = some k →
      (s.store.banks[1 - k].valid = true → s.pow.tried[1 - k] = false → Reports (.bankStartFailed r) s 0x0B02 [BitVec.ofNat 8 k.val, r] [.pow, .win]
        fun t => PowIs t { s.pow with tried := vmod s.pow.tried k fun _ => true } ∧ t.win.fallback = true) ∧
      ((s.store.banks[1 - k].valid = false ∨ s.pow.tried[1 - k] = true) → Reports (.bankStartFailed r) s 0x0B02 [BitVec.ofNat 8 k.val, r] [.pow]
        fun t => PowIs t { s.pow with tried := vmod s.pow.tried k (fun _ => true), stuck := true })) ∧
    (∀ k : Fin 2, s.store.banks[(0 : Fin 2)].valid = true → s.store.banks[(1 : Fin 2)].valid = true → s.pow.tried = Vector.replicate 2 false →
      s.store.banks[1 - k].seq < s.store.banks[k].seq → candidate s = some k)

/-- In BOOT and RUN the test access port loads each instruction it has; those that take the balls take them only in RUN with the TEST bits
of all four paths set, and in every other state the port stays as it is (R463, R464).

Where the manual leaves it open, the statement rests on the model's choices of log entries 12 and 96. -/
def Obligations.TestAccessLoadsInstructions : Prop :=
  ∀ s : State,
    ((s.pow.dev = .boot ∨ s.pow.dev = .run) → ∀ balls : Bool, balls = (s.pow.dev == .run && s.paths.toList.all fun x => x.test) →
      Does .tapBypass s [.test] (fun t => t.test = { s.test with tapIr := 0xFF, tapBalls := false }) ∧
      Does .tapIdcode s [.test] (fun t => t.test = { s.test with tapIr := 0x01, tapBalls := false }) ∧
      Does .tapSamplePreload s [.test] (fun t => t.test = { s.test with tapIr := 0x02, tapBalls := false, tapLoaded := true }) ∧
      Does .tapExtest s [.test] (fun t => t.test = { s.test with tapIr := 0x03, tapBalls := balls }) ∧
      Does .tapClamp s [.test] (fun t => t.test = { s.test with tapIr := 0x04, tapBalls := balls }) ∧
      Does .tapHighz s [.test] (fun t => t.test = { s.test with tapIr := 0x05, tapBalls := balls }) ∧
      Does .tapExtestPulse s [.test] (fun t => t.test = { s.test with tapIr := 0x06, tapBalls := balls }) ∧
      Does .tapExtestTrain s [.test] fun t => t.test = { s.test with tapIr := 0x07, tapBalls := balls }) ∧
    (s.pow.dev ≠ .boot → s.pow.dev ≠ .run → Does .tapExtest s [] (fun _ => True) ∧ Does .tapHighz s [] fun _ => True)
end

