-- ==== Sys2Proof/Laws/Memory.lean ====
section
/-! SUPPORT. Memories: every operation keeps the canonical form, a read gives what was last written, and a write leaves every
other address alone. -/

namespace Sys2Proof.Machine

theorem Mem.wfFrom_mono {m : Mem} {a b : Nat} (h : a ≤ b) (hw : Mem.wfFrom b m = true) : Mem.wfFrom a m = true := by
  cases m with
  | nil => rfl
  | cons c t =>
    simp only [Mem.wfFrom, Bool.and_eq_true, decide_eq_true_eq] at hw ⊢
    exact ⟨⟨by omega, hw.1.2⟩, hw.2⟩

/-- Below its first address a canonical memory reads 0. -/
theorem Mem.read_below {m : Mem} {lo a : Nat} (h : Mem.wfFrom lo m = true) (ha : a < lo) : Mem.read m a = 0 := by
  induction m generalizing lo with
  | nil => rfl
  | cons c t ih =>
    simp only [Mem.wfFrom, Bool.and_eq_true, decide_eq_true_eq] at h
    have hk : c.1 ≠ a := by omega
    simp only [Mem.read, hk, if_false]
    exact ih h.2 (by omega)

theorem Mem.write_wfFrom {m : Mem} {lo : Nat} (h : Mem.wfFrom lo m = true) (a : Nat) (ha : lo ≤ a) (b : Byte) :
    Mem.wfFrom lo (Mem.write m a b) = true := by
  induction m generalizing lo with
  | nil =>
    unfold Mem.write
    split <;> simp_all [Mem.wfFrom]
  | cons c t ih =>
    simp only [Mem.wfFrom, Bool.and_eq_true, decide_eq_true_eq] at h
    obtain ⟨⟨h1, h2⟩, h3⟩ := h
    simp only [Mem.write]
    split
    · next hlt =>
      split
      · simp only [Mem.wfFrom, Bool.and_eq_true, decide_eq_true_eq]
        exact ⟨⟨h1, h2⟩, h3⟩
      · next hb =>
        simp only [Mem.wfFrom, Bool.and_eq_true, decide_eq_true_eq]
        exact ⟨⟨ha, hb⟩, ⟨hlt, h2⟩, h3⟩
    · split
      · next hlt heq =>
        split
        · exact Mem.wfFrom_mono (by omega) h3
        · next hb =>
          subst heq
          simp only [Mem.wfFrom, Bool.and_eq_true, decide_eq_true_eq]
          exact ⟨⟨ha, hb⟩, h3⟩
      · next hlt hne =>
        simp only [Mem.wfFrom, Bool.and_eq_true, decide_eq_true_eq]
        exact ⟨⟨h1, h2⟩, ih h3 (by omega)⟩

/-- A write keeps the canonical form. -/
theorem Mem.write_wf {m : Mem} (h : Mem.wf m = true) (a : Nat) (b : Byte) : Mem.wf (Mem.write m a b) = true :=
  Mem.write_wfFrom h a (Nat.zero_le a) b

/-- A write of several bytes keeps the canonical form. -/
theorem Mem.writeAll_wf {m : Mem} (h : Mem.wf m = true) (a : Nat) (bs : List Byte) : Mem.wf (Mem.writeAll m a bs) = true := by
  induction bs generalizing m a with
  | nil => exact h
  | cons b t ih => exact ih (Mem.write_wf h a b) (a + 1)

/-- Taking entries out keeps the canonical form. -/
theorem Mem.filter_wfFrom {m : Mem} {lo : Nat} (h : Mem.wfFrom lo m = true) (p : Host.Cell → Bool) :
    Mem.wfFrom lo (m.filter p) = true := by
  induction m generalizing lo with
  | nil => exact h
  | cons c t ih =>
    simp only [Mem.wfFrom, Bool.and_eq_true, decide_eq_true_eq] at h
    rw [List.filter_cons]
    split
    · simp only [Mem.wfFrom, Bool.and_eq_true, decide_eq_true_eq]
      exact ⟨h.1, ih h.2⟩
    · exact ih (Mem.wfFrom_mono (by omega) h.2)

/-- Taking entries out keeps the canonical form. -/
theorem Mem.filter_wf {m : Mem} (h : Mem.wf m = true) (p : Host.Cell → Bool) : Mem.wf (m.filter p) = true :=
  Mem.filter_wfFrom h p

@[simp] theorem Mem.nil_wf : Mem.wf [] = true := rfl

theorem Mem.read_writeFrom {m : Mem} {lo : Nat} (h : Mem.wfFrom lo m = true) (a x : Nat) (b : Byte) :
    Mem.read (Mem.write m a b) x = if x = a then b else Mem.read m x := by
  induction m generalizing lo with
  | nil =>
    unfold Mem.write
    split
    · next hb => simp [Mem.read, hb]
    · simp only [Mem.read, eq_comm]
  | cons c t ih =>
    simp only [Mem.wfFrom, Bool.and_eq_true, decide_eq_true_eq] at h
    obtain ⟨⟨h1, h2⟩, h3⟩ := h
    simp only [Mem.write]
    split
    · next hlt =>
      split
      · next hb =>
        subst hb
        split
        · next e =>
          subst e
          have hk : c.1 ≠ x := by omega
          simp only [Mem.read, hk, if_false]
          exact Mem.read_below h3 (by omega)
        · rfl
      · simp only [Mem.read, eq_comm]
    · split
      · next hlt heq =>
        subst heq
        split
        · next hb =>
          subst hb
          split
          · next e => subst e; exact Mem.read_below h3 (by omega)
          · next e => rw [Mem.read, if_neg (fun e' => e e'.symm)]
        · simp only [Mem.read]
          by_cases e : c.1 = x
          · simp [e]
          · rw [if_neg e, if_neg (fun e' => e e'.symm), if_neg e]
      · next hlt hne =>
        simp only [Mem.read]
        rw [ih h3]
        split <;> split <;> first | rfl | simp_all

/-- A read after a write: the byte written at its address, every other address as before. -/
theorem Mem.read_write {m : Mem} (h : Mem.wf m = true) (a x : Nat) (b : Byte) :
    Mem.read (Mem.write m a b) x = if x = a then b else Mem.read m x := Mem.read_writeFrom h a x b

/-- A read after several bytes were written. -/
theorem Mem.read_writeAll {m : Mem} (h : Mem.wf m = true) (a x : Nat) (bs : List Byte) :
    Mem.read (Mem.writeAll m a bs) x = if a ≤ x then (bs[x - a]?).getD (Mem.read m x) else Mem.read m x := by
  induction bs generalizing m a with
  | nil => simp [Mem.writeAll]
  | cons b t ih =>
    rw [Mem.writeAll, ih (Mem.write_wf h a b), Mem.read_write h]
    by_cases h1 : x < a
    · rw [if_neg (show ¬ a + 1 ≤ x by omega), if_neg (show ¬ x = a by omega), if_neg (show ¬ a ≤ x by omega)]
    · by_cases h2 : x = a
      · subst h2; simp
      · have e : x - a = (x - (a + 1)) + 1 := by omega
        rw [if_pos (show a + 1 ≤ x by omega), if_pos (show a ≤ x by omega), if_neg h2, e, List.getElem?_cons_succ]

/-- Addresses outside the bytes written read as before. -/
theorem Mem.read_writeAll_other {m : Mem} (h : Mem.wf m = true) (a x : Nat) (bs : List Byte) (hx : x < a ∨ a + bs.length ≤ x) :
    Mem.read (Mem.writeAll m a bs) x = Mem.read m x := by
  rw [Mem.read_writeAll h]
  split
  · rw [List.getElem?_eq_none (by omega)]; rfl
  · rfl

/-- Bytes written read back. -/
theorem Mem.readAll_writeAll {m : Mem} (h : Mem.wf m = true) (a : Nat) (bs : List Byte) :
    Mem.readAll (Mem.writeAll m a bs) a bs.length = bs := by
  unfold Mem.readAll upto
  apply List.ext_getElem
  · simp
  · intro i h1 h2
    simp only [List.getElem_map, List.getElem_range]
    rw [Mem.read_writeAll h, if_pos (by omega), Nat.add_sub_cancel_left, List.getElem?_eq_getElem h2]
    rfl

end Sys2Proof.Machine
end

