-- ==== Sys2Proof/Laws/State.lean ====
section
/-! SUPPORT. What each update of one part of the state does to every field: one lemma per field per update. -/

namespace Sys2Proof.Machine

/-! ### Elements of a register file -/

@[simp] theorem vmod_get {α : Type} {n : Nat} (v : Vector α n) (i : Fin n) (f : α → α) :
    (vmod v i f)[i.val]'i.isLt = f (v[i.val]'i.isLt) := by
  simp [vmod]

theorem vmod_get_nat {α : Type} {n : Nat} (v : Vector α n) (i : Fin n) (f : α → α) (k : Nat) (h : k < n) :
    (vmod v i f)[k] = if i.val = k then f v[k] else v[k] := by
  simp only [vmod, Vector.getElem_set]
  split
  · next e => subst e; rfl
  · rfl

theorem vmod_get_other {α : Type} {n : Nat} (v : Vector α n) (i j : Fin n) (f : α → α) (h : i ≠ j) :
    (vmod v i f)[j.val]'j.isLt = v[j.val]'j.isLt := by
  have hv : ¬ i.val = j.val := fun e => h (Fin.ext e)
  simp [vmod_get_nat, hv]

/-! ### One part of the state replaced -/

@[simp] theorem modWin_win (s : State) (f : Window → Window) : (s.modWin f).win = f s.win := rfl
@[simp] theorem modWin_tw (s : State) (f : Window → Window) : (s.modWin f).tw = s.tw := rfl
@[simp] theorem modWin_mbx (s : State) (f : Window → Window) : (s.modWin f).mbx = s.mbx := rfl
@[simp] theorem modWin_sides (s : State) (f : Window → Window) : (s.modWin f).sides = s.sides := rfl
@[simp] theorem modWin_lanes (s : State) (f : Window → Window) : (s.modWin f).lanes = s.lanes := rfl
@[simp] theorem modWin_paths (s : State) (f : Window → Window) : (s.modWin f).paths = s.paths := rfl
@[simp] theorem modWin_time (s : State) (f : Window → Window) : (s.modWin f).time = s.time := rfl
@[simp] theorem modWin_seq (s : State) (f : Window → Window) : (s.modWin f).seq = s.seq := rfl
@[simp] theorem modWin_sweep (s : State) (f : Window → Window) : (s.modWin f).sweep = s.sweep := rfl
@[simp] theorem modWin_svc (s : State) (f : Window → Window) : (s.modWin f).svc = s.svc := rfl
@[simp] theorem modWin_ven (s : State) (f : Window → Window) : (s.modWin f).ven = s.ven := rfl
@[simp] theorem modWin_scan (s : State) (f : Window → Window) : (s.modWin f).scan = s.scan := rfl
@[simp] theorem modWin_store (s : State) (f : Window → Window) : (s.modWin f).store = s.store := rfl
@[simp] theorem modWin_pow (s : State) (f : Window → Window) : (s.modWin f).pow = s.pow := rfl
@[simp] theorem modWin_cpu (s : State) (f : Window → Window) : (s.modWin f).cpu = s.cpu := rfl
@[simp] theorem modWin_test (s : State) (f : Window → Window) : (s.modWin f).test = s.test := rfl
@[simp] theorem modWin_free (s : State) (f : Window → Window) : (s.modWin f).free = s.free := rfl
@[simp] theorem modWin_pending (s : State) (f : Window → Window) : (s.modWin f).pending = s.pending := rfl

@[simp] theorem modTw_win (s : State) (f : TwoWire → TwoWire) : (s.modTw f).win = s.win := rfl
@[simp] theorem modTw_tw (s : State) (f : TwoWire → TwoWire) : (s.modTw f).tw = f s.tw := rfl
@[simp] theorem modTw_mbx (s : State) (f : TwoWire → TwoWire) : (s.modTw f).mbx = s.mbx := rfl
@[simp] theorem modTw_sides (s : State) (f : TwoWire → TwoWire) : (s.modTw f).sides = s.sides := rfl
@[simp] theorem modTw_lanes (s : State) (f : TwoWire → TwoWire) : (s.modTw f).lanes = s.lanes := rfl
@[simp] theorem modTw_paths (s : State) (f : TwoWire → TwoWire) : (s.modTw f).paths = s.paths := rfl
@[simp] theorem modTw_time (s : State) (f : TwoWire → TwoWire) : (s.modTw f).time = s.time := rfl
@[simp] theorem modTw_seq (s : State) (f : TwoWire → TwoWire) : (s.modTw f).seq = s.seq := rfl
@[simp] theorem modTw_sweep (s : State) (f : TwoWire → TwoWire) : (s.modTw f).sweep = s.sweep := rfl
@[simp] theorem modTw_svc (s : State) (f : TwoWire → TwoWire) : (s.modTw f).svc = s.svc := rfl
@[simp] theorem modTw_ven (s : State) (f : TwoWire → TwoWire) : (s.modTw f).ven = s.ven := rfl
@[simp] theorem modTw_scan (s : State) (f : TwoWire → TwoWire) : (s.modTw f).scan = s.scan := rfl
@[simp] theorem modTw_store (s : State) (f : TwoWire → TwoWire) : (s.modTw f).store = s.store := rfl
@[simp] theorem modTw_pow (s : State) (f : TwoWire → TwoWire) : (s.modTw f).pow = s.pow := rfl
@[simp] theorem modTw_cpu (s : State) (f : TwoWire → TwoWire) : (s.modTw f).cpu = s.cpu := rfl
@[simp] theorem modTw_test (s : State) (f : TwoWire → TwoWire) : (s.modTw f).test = s.test := rfl
@[simp] theorem modTw_free (s : State) (f : TwoWire → TwoWire) : (s.modTw f).free = s.free := rfl
@[simp] theorem modTw_pending (s : State) (f : TwoWire → TwoWire) : (s.modTw f).pending = s.pending := rfl

@[simp] theorem modMbx_win (s : State) (f : Mailbox → Mailbox) : (s.modMbx f).win = s.win := rfl
@[simp] theorem modMbx_tw (s : State) (f : Mailbox → Mailbox) : (s.modMbx f).tw = s.tw := rfl
@[simp] theorem modMbx_mbx (s : State) (f : Mailbox → Mailbox) : (s.modMbx f).mbx = f s.mbx := rfl
@[simp] theorem modMbx_sides (s : State) (f : Mailbox → Mailbox) : (s.modMbx f).sides = s.sides := rfl
@[simp] theorem modMbx_lanes (s : State) (f : Mailbox → Mailbox) : (s.modMbx f).lanes = s.lanes := rfl
@[simp] theorem modMbx_paths (s : State) (f : Mailbox → Mailbox) : (s.modMbx f).paths = s.paths := rfl
@[simp] theorem modMbx_time (s : State) (f : Mailbox → Mailbox) : (s.modMbx f).time = s.time := rfl
@[simp] theorem modMbx_seq (s : State) (f : Mailbox → Mailbox) : (s.modMbx f).seq = s.seq := rfl
@[simp] theorem modMbx_sweep (s : State) (f : Mailbox → Mailbox) : (s.modMbx f).sweep = s.sweep := rfl
@[simp] theorem modMbx_svc (s : State) (f : Mailbox → Mailbox) : (s.modMbx f).svc = s.svc := rfl
@[simp] theorem modMbx_ven (s : State) (f : Mailbox → Mailbox) : (s.modMbx f).ven = s.ven := rfl
@[simp] theorem modMbx_scan (s : State) (f : Mailbox → Mailbox) : (s.modMbx f).scan = s.scan := rfl
@[simp] theorem modMbx_store (s : State) (f : Mailbox → Mailbox) : (s.modMbx f).store = s.store := rfl
@[simp] theorem modMbx_pow (s : State) (f : Mailbox → Mailbox) : (s.modMbx f).pow = s.pow := rfl
@[simp] theorem modMbx_cpu (s : State) (f : Mailbox → Mailbox) : (s.modMbx f).cpu = s.cpu := rfl
@[simp] theorem modMbx_test (s : State) (f : Mailbox → Mailbox) : (s.modMbx f).test = s.test := rfl
@[simp] theorem modMbx_free (s : State) (f : Mailbox → Mailbox) : (s.modMbx f).free = s.free := rfl
@[simp] theorem modMbx_pending (s : State) (f : Mailbox → Mailbox) : (s.modMbx f).pending = s.pending := rfl

@[simp] theorem modSide_win (s : State) (i : SideId) (f : Side → Side) : (s.modSide i f).win = s.win := rfl
@[simp] theorem modSide_tw (s : State) (i : SideId) (f : Side → Side) : (s.modSide i f).tw = s.tw := rfl
@[simp] theorem modSide_mbx (s : State) (i : SideId) (f : Side → Side) : (s.modSide i f).mbx = s.mbx := rfl
@[simp] theorem modSide_sides (s : State) (i : SideId) (f : Side → Side) : (s.modSide i f).sides = vmod s.sides i f := rfl
@[simp] theorem modSide_lanes (s : State) (i : SideId) (f : Side → Side) : (s.modSide i f).lanes = s.lanes := rfl
@[simp] theorem modSide_paths (s : State) (i : SideId) (f : Side → Side) : (s.modSide i f).paths = s.paths := rfl
@[simp] theorem modSide_time (s : State) (i : SideId) (f : Side → Side) : (s.modSide i f).time = s.time := rfl
@[simp] theorem modSide_seq (s : State) (i : SideId) (f : Side → Side) : (s.modSide i f).seq = s.seq := rfl
@[simp] theorem modSide_sweep (s : State) (i : SideId) (f : Side → Side) : (s.modSide i f).sweep = s.sweep := rfl
@[simp] theorem modSide_svc (s : State) (i : SideId) (f : Side → Side) : (s.modSide i f).svc = s.svc := rfl
@[simp] theorem modSide_ven (s : State) (i : SideId) (f : Side → Side) : (s.modSide i f).ven = s.ven := rfl
@[simp] theorem modSide_scan (s : State) (i : SideId) (f : Side → Side) : (s.modSide i f).scan = s.scan := rfl
@[simp] theorem modSide_store (s : State) (i : SideId) (f : Side → Side) : (s.modSide i f).store = s.store := rfl
@[simp] theorem modSide_pow (s : State) (i : SideId) (f : Side → Side) : (s.modSide i f).pow = s.pow := rfl
@[simp] theorem modSide_cpu (s : State) (i : SideId) (f : Side → Side) : (s.modSide i f).cpu = s.cpu := rfl
@[simp] theorem modSide_test (s : State) (i : SideId) (f : Side → Side) : (s.modSide i f).test = s.test := rfl
@[simp] theorem modSide_free (s : State) (i : SideId) (f : Side → Side) : (s.modSide i f).free = s.free := rfl
@[simp] theorem modSide_pending (s : State) (i : SideId) (f : Side → Side) : (s.modSide i f).pending = s.pending := rfl

@[simp] theorem modLane_win (s : State) (i : LaneId) (f : Lane → Lane) : (s.modLane i f).win = s.win := rfl
@[simp] theorem modLane_tw (s : State) (i : LaneId) (f : Lane → Lane) : (s.modLane i f).tw = s.tw := rfl
@[simp] theorem modLane_mbx (s : State) (i : LaneId) (f : Lane → Lane) : (s.modLane i f).mbx = s.mbx := rfl
@[simp] theorem modLane_sides (s : State) (i : LaneId) (f : Lane → Lane) : (s.modLane i f).sides = s.sides := rfl
@[simp] theorem modLane_lanes (s : State) (i : LaneId) (f : Lane → Lane) : (s.modLane i f).lanes = vmod s.lanes i f := rfl
@[simp] theorem modLane_paths (s : State) (i : LaneId) (f : Lane → Lane) : (s.modLane i f).paths = s.paths := rfl
@[simp] theorem modLane_time (s : State) (i : LaneId) (f : Lane → Lane) : (s.modLane i f).time = s.time := rfl
@[simp] theorem modLane_seq (s : State) (i : LaneId) (f : Lane → Lane) : (s.modLane i f).seq = s.seq := rfl
@[simp] theorem modLane_sweep (s : State) (i : LaneId) (f : Lane → Lane) : (s.modLane i f).sweep = s.sweep := rfl
@[simp] theorem modLane_svc (s : State) (i : LaneId) (f : Lane → Lane) : (s.modLane i f).svc = s.svc := rfl
@[simp] theorem modLane_ven (s : State) (i : LaneId) (f : Lane → Lane) : (s.modLane i f).ven = s.ven := rfl
@[simp] theorem modLane_scan (s : State) (i : LaneId) (f : Lane → Lane) : (s.modLane i f).scan = s.scan := rfl
@[simp] theorem modLane_store (s : State) (i : LaneId) (f : Lane → Lane) : (s.modLane i f).store = s.store := rfl
@[simp] theorem modLane_pow (s : State) (i : LaneId) (f : Lane → Lane) : (s.modLane i f).pow = s.pow := rfl
@[simp] theorem modLane_cpu (s : State) (i : LaneId) (f : Lane → Lane) : (s.modLane i f).cpu = s.cpu := rfl
@[simp] theorem modLane_test (s : State) (i : LaneId) (f : Lane → Lane) : (s.modLane i f).test = s.test := rfl
@[simp] theorem modLane_free (s : State) (i : LaneId) (f : Lane → Lane) : (s.modLane i f).free = s.free := rfl
@[simp] theorem modLane_pending (s : State) (i : LaneId) (f : Lane → Lane) : (s.modLane i f).pending = s.pending := rfl

@[simp] theorem modPath_win (s : State) (i : PathId) (f : Path → Path) : (s.modPath i f).win = s.win := rfl
@[simp] theorem modPath_tw (s : State) (i : PathId) (f : Path → Path) : (s.modPath i f).tw = s.tw := rfl
@[simp] theorem modPath_mbx (s : State) (i : PathId) (f : Path → Path) : (s.modPath i f).mbx = s.mbx := rfl
@[simp] theorem modPath_sides (s : State) (i : PathId) (f : Path → Path) : (s.modPath i f).sides = s.sides := rfl
@[simp] theorem modPath_lanes (s : State) (i : PathId) (f : Path → Path) : (s.modPath i f).lanes = s.lanes := rfl
@[simp] theorem modPath_paths (s : State) (i : PathId) (f : Path → Path) : (s.modPath i f).paths = vmod s.paths i f := rfl
@[simp] theorem modPath_time (s : State) (i : PathId) (f : Path → Path) : (s.modPath i f).time = s.time := rfl
@[simp] theorem modPath_seq (s : State) (i : PathId) (f : Path → Path) : (s.modPath i f).seq = s.seq := rfl
@[simp] theorem modPath_sweep (s : State) (i : PathId) (f : Path → Path) : (s.modPath i f).sweep = s.sweep := rfl
@[simp] theorem modPath_svc (s : State) (i : PathId) (f : Path → Path) : (s.modPath i f).svc = s.svc := rfl
@[simp] theorem modPath_ven (s : State) (i : PathId) (f : Path → Path) : (s.modPath i f).ven = s.ven := rfl
@[simp] theorem modPath_scan (s : State) (i : PathId) (f : Path → Path) : (s.modPath i f).scan = s.scan := rfl
@[simp] theorem modPath_store (s : State) (i : PathId) (f : Path → Path) : (s.modPath i f).store = s.store := rfl
@[simp] theorem modPath_pow (s : State) (i : PathId) (f : Path → Path) : (s.modPath i f).pow = s.pow := rfl
@[simp] theorem modPath_cpu (s : State) (i : PathId) (f : Path → Path) : (s.modPath i f).cpu = s.cpu := rfl
@[simp] theorem modPath_test (s : State) (i : PathId) (f : Path → Path) : (s.modPath i f).test = s.test := rfl
@[simp] theorem modPath_free (s : State) (i : PathId) (f : Path → Path) : (s.modPath i f).free = s.free := rfl
@[simp] theorem modPath_pending (s : State) (i : PathId) (f : Path → Path) : (s.modPath i f).pending = s.pending := rfl

@[simp] theorem modTime_win (s : State) (f : TimeIsl → TimeIsl) : (s.modTime f).win = s.win := rfl
@[simp] theorem modTime_tw (s : State) (f : TimeIsl → TimeIsl) : (s.modTime f).tw = s.tw := rfl
@[simp] theorem modTime_mbx (s : State) (f : TimeIsl → TimeIsl) : (s.modTime f).mbx = s.mbx := rfl
@[simp] theorem modTime_sides (s : State) (f : TimeIsl → TimeIsl) : (s.modTime f).sides = s.sides := rfl
@[simp] theorem modTime_lanes (s : State) (f : TimeIsl → TimeIsl) : (s.modTime f).lanes = s.lanes := rfl
@[simp] theorem modTime_paths (s : State) (f : TimeIsl → TimeIsl) : (s.modTime f).paths = s.paths := rfl
@[simp] theorem modTime_time (s : State) (f : TimeIsl → TimeIsl) : (s.modTime f).time = f s.time := rfl
@[simp] theorem modTime_seq (s : State) (f : TimeIsl → TimeIsl) : (s.modTime f).seq = s.seq := rfl
@[simp] theorem modTime_sweep (s : State) (f : TimeIsl → TimeIsl) : (s.modTime f).sweep = s.sweep := rfl
@[simp] theorem modTime_svc (s : State) (f : TimeIsl → TimeIsl) : (s.modTime f).svc = s.svc := rfl
@[simp] theorem modTime_ven (s : State) (f : TimeIsl → TimeIsl) : (s.modTime f).ven = s.ven := rfl
@[simp] theorem modTime_scan (s : State) (f : TimeIsl → TimeIsl) : (s.modTime f).scan = s.scan := rfl
@[simp] theorem modTime_store (s : State) (f : TimeIsl → TimeIsl) : (s.modTime f).store = s.store := rfl
@[simp] theorem modTime_pow (s : State) (f : TimeIsl → TimeIsl) : (s.modTime f).pow = s.pow := rfl
@[simp] theorem modTime_cpu (s : State) (f : TimeIsl → TimeIsl) : (s.modTime f).cpu = s.cpu := rfl
@[simp] theorem modTime_test (s : State) (f : TimeIsl → TimeIsl) : (s.modTime f).test = s.test := rfl
@[simp] theorem modTime_free (s : State) (f : TimeIsl → TimeIsl) : (s.modTime f).free = s.free := rfl
@[simp] theorem modTime_pending (s : State) (f : TimeIsl → TimeIsl) : (s.modTime f).pending = s.pending := rfl

@[simp] theorem modSeq_win (s : State) (f : Seqr → Seqr) : (s.modSeq f).win = s.win := rfl
@[simp] theorem modSeq_tw (s : State) (f : Seqr → Seqr) : (s.modSeq f).tw = s.tw := rfl
@[simp] theorem modSeq_mbx (s : State) (f : Seqr → Seqr) : (s.modSeq f).mbx = s.mbx := rfl
@[simp] theorem modSeq_sides (s : State) (f : Seqr → Seqr) : (s.modSeq f).sides = s.sides := rfl
@[simp] theorem modSeq_lanes (s : State) (f : Seqr → Seqr) : (s.modSeq f).lanes = s.lanes := rfl
@[simp] theorem modSeq_paths (s : State) (f : Seqr → Seqr) : (s.modSeq f).paths = s.paths := rfl
@[simp] theorem modSeq_time (s : State) (f : Seqr → Seqr) : (s.modSeq f).time = s.time := rfl
@[simp] theorem modSeq_seq (s : State) (f : Seqr → Seqr) : (s.modSeq f).seq = f s.seq := rfl
@[simp] theorem modSeq_sweep (s : State) (f : Seqr → Seqr) : (s.modSeq f).sweep = s.sweep := rfl
@[simp] theorem modSeq_svc (s : State) (f : Seqr → Seqr) : (s.modSeq f).svc = s.svc := rfl
@[simp] theorem modSeq_ven (s : State) (f : Seqr → Seqr) : (s.modSeq f).ven = s.ven := rfl
@[simp] theorem modSeq_scan (s : State) (f : Seqr → Seqr) : (s.modSeq f).scan = s.scan := rfl
@[simp] theorem modSeq_store (s : State) (f : Seqr → Seqr) : (s.modSeq f).store = s.store := rfl
@[simp] theorem modSeq_pow (s : State) (f : Seqr → Seqr) : (s.modSeq f).pow = s.pow := rfl
@[simp] theorem modSeq_cpu (s : State) (f : Seqr → Seqr) : (s.modSeq f).cpu = s.cpu := rfl
@[simp] theorem modSeq_test (s : State) (f : Seqr → Seqr) : (s.modSeq f).test = s.test := rfl
@[simp] theorem modSeq_free (s : State) (f : Seqr → Seqr) : (s.modSeq f).free = s.free := rfl
@[simp] theorem modSeq_pending (s : State) (f : Seqr → Seqr) : (s.modSeq f).pending = s.pending := rfl

@[simp] theorem modSweep_win (s : State) (f : Sweep → Sweep) : (s.modSweep f).win = s.win := rfl
@[simp] theorem modSweep_tw (s : State) (f : Sweep → Sweep) : (s.modSweep f).tw = s.tw := rfl
@[simp] theorem modSweep_mbx (s : State) (f : Sweep → Sweep) : (s.modSweep f).mbx = s.mbx := rfl
@[simp] theorem modSweep_sides (s : State) (f : Sweep → Sweep) : (s.modSweep f).sides = s.sides := rfl
@[simp] theorem modSweep_lanes (s : State) (f : Sweep → Sweep) : (s.modSweep f).lanes = s.lanes := rfl
@[simp] theorem modSweep_paths (s : State) (f : Sweep → Sweep) : (s.modSweep f).paths = s.paths := rfl
@[simp] theorem modSweep_time (s : State) (f : Sweep → Sweep) : (s.modSweep f).time = s.time := rfl
@[simp] theorem modSweep_seq (s : State) (f : Sweep → Sweep) : (s.modSweep f).seq = s.seq := rfl
@[simp] theorem modSweep_sweep (s : State) (f : Sweep → Sweep) : (s.modSweep f).sweep = f s.sweep := rfl
@[simp] theorem modSweep_svc (s : State) (f : Sweep → Sweep) : (s.modSweep f).svc = s.svc := rfl
@[simp] theorem modSweep_ven (s : State) (f : Sweep → Sweep) : (s.modSweep f).ven = s.ven := rfl
@[simp] theorem modSweep_scan (s : State) (f : Sweep → Sweep) : (s.modSweep f).scan = s.scan := rfl
@[simp] theorem modSweep_store (s : State) (f : Sweep → Sweep) : (s.modSweep f).store = s.store := rfl
@[simp] theorem modSweep_pow (s : State) (f : Sweep → Sweep) : (s.modSweep f).pow = s.pow := rfl
@[simp] theorem modSweep_cpu (s : State) (f : Sweep → Sweep) : (s.modSweep f).cpu = s.cpu := rfl
@[simp] theorem modSweep_test (s : State) (f : Sweep → Sweep) : (s.modSweep f).test = s.test := rfl
@[simp] theorem modSweep_free (s : State) (f : Sweep → Sweep) : (s.modSweep f).free = s.free := rfl
@[simp] theorem modSweep_pending (s : State) (f : Sweep → Sweep) : (s.modSweep f).pending = s.pending := rfl

@[simp] theorem modSvc_win (s : State) (f : Bridge → Bridge) : (s.modSvc f).win = s.win := rfl
@[simp] theorem modSvc_tw (s : State) (f : Bridge → Bridge) : (s.modSvc f).tw = s.tw := rfl
@[simp] theorem modSvc_mbx (s : State) (f : Bridge → Bridge) : (s.modSvc f).mbx = s.mbx := rfl
@[simp] theorem modSvc_sides (s : State) (f : Bridge → Bridge) : (s.modSvc f).sides = s.sides := rfl
@[simp] theorem modSvc_lanes (s : State) (f : Bridge → Bridge) : (s.modSvc f).lanes = s.lanes := rfl
@[simp] theorem modSvc_paths (s : State) (f : Bridge → Bridge) : (s.modSvc f).paths = s.paths := rfl
@[simp] theorem modSvc_time (s : State) (f : Bridge → Bridge) : (s.modSvc f).time = s.time := rfl
@[simp] theorem modSvc_seq (s : State) (f : Bridge → Bridge) : (s.modSvc f).seq = s.seq := rfl
@[simp] theorem modSvc_sweep (s : State) (f : Bridge → Bridge) : (s.modSvc f).sweep = s.sweep := rfl
@[simp] theorem modSvc_svc (s : State) (f : Bridge → Bridge) : (s.modSvc f).svc = f s.svc := rfl
@[simp] theorem modSvc_ven (s : State) (f : Bridge → Bridge) : (s.modSvc f).ven = s.ven := rfl
@[simp] theorem modSvc_scan (s : State) (f : Bridge → Bridge) : (s.modSvc f).scan = s.scan := rfl
@[simp] theorem modSvc_store (s : State) (f : Bridge → Bridge) : (s.modSvc f).store = s.store := rfl
@[simp] theorem modSvc_pow (s : State) (f : Bridge → Bridge) : (s.modSvc f).pow = s.pow := rfl
@[simp] theorem modSvc_cpu (s : State) (f : Bridge → Bridge) : (s.modSvc f).cpu = s.cpu := rfl
@[simp] theorem modSvc_test (s : State) (f : Bridge → Bridge) : (s.modSvc f).test = s.test := rfl
@[simp] theorem modSvc_free (s : State) (f : Bridge → Bridge) : (s.modSvc f).free = s.free := rfl
@[simp] theorem modSvc_pending (s : State) (f : Bridge → Bridge) : (s.modSvc f).pending = s.pending := rfl

@[simp] theorem modVen_win (s : State) (f : Veneer → Veneer) : (s.modVen f).win = s.win := rfl
@[simp] theorem modVen_tw (s : State) (f : Veneer → Veneer) : (s.modVen f).tw = s.tw := rfl
@[simp] theorem modVen_mbx (s : State) (f : Veneer → Veneer) : (s.modVen f).mbx = s.mbx := rfl
@[simp] theorem modVen_sides (s : State) (f : Veneer → Veneer) : (s.modVen f).sides = s.sides := rfl
@[simp] theorem modVen_lanes (s : State) (f : Veneer → Veneer) : (s.modVen f).lanes = s.lanes := rfl
@[simp] theorem modVen_paths (s : State) (f : Veneer → Veneer) : (s.modVen f).paths = s.paths := rfl
@[simp] theorem modVen_time (s : State) (f : Veneer → Veneer) : (s.modVen f).time = s.time := rfl
@[simp] theorem modVen_seq (s : State) (f : Veneer → Veneer) : (s.modVen f).seq = s.seq := rfl
@[simp] theorem modVen_sweep (s : State) (f : Veneer → Veneer) : (s.modVen f).sweep = s.sweep := rfl
@[simp] theorem modVen_svc (s : State) (f : Veneer → Veneer) : (s.modVen f).svc = s.svc := rfl
@[simp] theorem modVen_ven (s : State) (f : Veneer → Veneer) : (s.modVen f).ven = f s.ven := rfl
@[simp] theorem modVen_scan (s : State) (f : Veneer → Veneer) : (s.modVen f).scan = s.scan := rfl
@[simp] theorem modVen_store (s : State) (f : Veneer → Veneer) : (s.modVen f).store = s.store := rfl
@[simp] theorem modVen_pow (s : State) (f : Veneer → Veneer) : (s.modVen f).pow = s.pow := rfl
@[simp] theorem modVen_cpu (s : State) (f : Veneer → Veneer) : (s.modVen f).cpu = s.cpu := rfl
@[simp] theorem modVen_test (s : State) (f : Veneer → Veneer) : (s.modVen f).test = s.test := rfl
@[simp] theorem modVen_free (s : State) (f : Veneer → Veneer) : (s.modVen f).free = s.free := rfl
@[simp] theorem modVen_pending (s : State) (f : Veneer → Veneer) : (s.modVen f).pending = s.pending := rfl

@[simp] theorem modScan_win (s : State) (f : Scan → Scan) : (s.modScan f).win = s.win := rfl
@[simp] theorem modScan_tw (s : State) (f : Scan → Scan) : (s.modScan f).tw = s.tw := rfl
@[simp] theorem modScan_mbx (s : State) (f : Scan → Scan) : (s.modScan f).mbx = s.mbx := rfl
@[simp] theorem modScan_sides (s : State) (f : Scan → Scan) : (s.modScan f).sides = s.sides := rfl
@[simp] theorem modScan_lanes (s : State) (f : Scan → Scan) : (s.modScan f).lanes = s.lanes := rfl
@[simp] theorem modScan_paths (s : State) (f : Scan → Scan) : (s.modScan f).paths = s.paths := rfl
@[simp] theorem modScan_time (s : State) (f : Scan → Scan) : (s.modScan f).time = s.time := rfl
@[simp] theorem modScan_seq (s : State) (f : Scan → Scan) : (s.modScan f).seq = s.seq := rfl
@[simp] theorem modScan_sweep (s : State) (f : Scan → Scan) : (s.modScan f).sweep = s.sweep := rfl
@[simp] theorem modScan_svc (s : State) (f : Scan → Scan) : (s.modScan f).svc = s.svc := rfl
@[simp] theorem modScan_ven (s : State) (f : Scan → Scan) : (s.modScan f).ven = s.ven := rfl
@[simp] theorem modScan_scan (s : State) (f : Scan → Scan) : (s.modScan f).scan = f s.scan := rfl
@[simp] theorem modScan_store (s : State) (f : Scan → Scan) : (s.modScan f).store = s.store := rfl
@[simp] theorem modScan_pow (s : State) (f : Scan → Scan) : (s.modScan f).pow = s.pow := rfl
@[simp] theorem modScan_cpu (s : State) (f : Scan → Scan) : (s.modScan f).cpu = s.cpu := rfl
@[simp] theorem modScan_test (s : State) (f : Scan → Scan) : (s.modScan f).test = s.test := rfl
@[simp] theorem modScan_free (s : State) (f : Scan → Scan) : (s.modScan f).free = s.free := rfl
@[simp] theorem modScan_pending (s : State) (f : Scan → Scan) : (s.modScan f).pending = s.pending := rfl

@[simp] theorem modStore_win (s : State) (f : Store → Store) : (s.modStore f).win = s.win := rfl
@[simp] theorem modStore_tw (s : State) (f : Store → Store) : (s.modStore f).tw = s.tw := rfl
@[simp] theorem modStore_mbx (s : State) (f : Store → Store) : (s.modStore f).mbx = s.mbx := rfl
@[simp] theorem modStore_sides (s : State) (f : Store → Store) : (s.modStore f).sides = s.sides := rfl
@[simp] theorem modStore_lanes (s : State) (f : Store → Store) : (s.modStore f).lanes = s.lanes := rfl
@[simp] theorem modStore_paths (s : State) (f : Store → Store) : (s.modStore f).paths = s.paths := rfl
@[simp] theorem modStore_time (s : State) (f : Store → Store) : (s.modStore f).time = s.time := rfl
@[simp] theorem modStore_seq (s : State) (f : Store → Store) : (s.modStore f).seq = s.seq := rfl
@[simp] theorem modStore_sweep (s : State) (f : Store → Store) : (s.modStore f).sweep = s.sweep := rfl
@[simp] theorem modStore_svc (s : State) (f : Store → Store) : (s.modStore f).svc = s.svc := rfl
@[simp] theorem modStore_ven (s : State) (f : Store → Store) : (s.modStore f).ven = s.ven := rfl
@[simp] theorem modStore_scan (s : State) (f : Store → Store) : (s.modStore f).scan = s.scan := rfl
@[simp] theorem modStore_store (s : State) (f : Store → Store) : (s.modStore f).store = f s.store := rfl
@[simp] theorem modStore_pow (s : State) (f : Store → Store) : (s.modStore f).pow = s.pow := rfl
@[simp] theorem modStore_cpu (s : State) (f : Store → Store) : (s.modStore f).cpu = s.cpu := rfl
@[simp] theorem modStore_test (s : State) (f : Store → Store) : (s.modStore f).test = s.test := rfl
@[simp] theorem modStore_free (s : State) (f : Store → Store) : (s.modStore f).free = s.free := rfl
@[simp] theorem modStore_pending (s : State) (f : Store → Store) : (s.modStore f).pending = s.pending := rfl

@[simp] theorem modPow_win (s : State) (f : Power → Power) : (s.modPow f).win = s.win := rfl
@[simp] theorem modPow_tw (s : State) (f : Power → Power) : (s.modPow f).tw = s.tw := rfl
@[simp] theorem modPow_mbx (s : State) (f : Power → Power) : (s.modPow f).mbx = s.mbx := rfl
@[simp] theorem modPow_sides (s : State) (f : Power → Power) : (s.modPow f).sides = s.sides := rfl
@[simp] theorem modPow_lanes (s : State) (f : Power → Power) : (s.modPow f).lanes = s.lanes := rfl
@[simp] theorem modPow_paths (s : State) (f : Power → Power) : (s.modPow f).paths = s.paths := rfl
@[simp] theorem modPow_time (s : State) (f : Power → Power) : (s.modPow f).time = s.time := rfl
@[simp] theorem modPow_seq (s : State) (f : Power → Power) : (s.modPow f).seq = s.seq := rfl
@[simp] theorem modPow_sweep (s : State) (f : Power → Power) : (s.modPow f).sweep = s.sweep := rfl
@[simp] theorem modPow_svc (s : State) (f : Power → Power) : (s.modPow f).svc = s.svc := rfl
@[simp] theorem modPow_ven (s : State) (f : Power → Power) : (s.modPow f).ven = s.ven := rfl
@[simp] theorem modPow_scan (s : State) (f : Power → Power) : (s.modPow f).scan = s.scan := rfl
@[simp] theorem modPow_store (s : State) (f : Power → Power) : (s.modPow f).store = s.store := rfl
@[simp] theorem modPow_pow (s : State) (f : Power → Power) : (s.modPow f).pow = f s.pow := rfl
@[simp] theorem modPow_cpu (s : State) (f : Power → Power) : (s.modPow f).cpu = s.cpu := rfl
@[simp] theorem modPow_test (s : State) (f : Power → Power) : (s.modPow f).test = s.test := rfl
@[simp] theorem modPow_free (s : State) (f : Power → Power) : (s.modPow f).free = s.free := rfl
@[simp] theorem modPow_pending (s : State) (f : Power → Power) : (s.modPow f).pending = s.pending := rfl

@[simp] theorem modCpu_win (s : State) (f : Gulcy → Gulcy) : (s.modCpu f).win = s.win := rfl
@[simp] theorem modCpu_tw (s : State) (f : Gulcy → Gulcy) : (s.modCpu f).tw = s.tw := rfl
@[simp] theorem modCpu_mbx (s : State) (f : Gulcy → Gulcy) : (s.modCpu f).mbx = s.mbx := rfl
@[simp] theorem modCpu_sides (s : State) (f : Gulcy → Gulcy) : (s.modCpu f).sides = s.sides := rfl
@[simp] theorem modCpu_lanes (s : State) (f : Gulcy → Gulcy) : (s.modCpu f).lanes = s.lanes := rfl
@[simp] theorem modCpu_paths (s : State) (f : Gulcy → Gulcy) : (s.modCpu f).paths = s.paths := rfl
@[simp] theorem modCpu_time (s : State) (f : Gulcy → Gulcy) : (s.modCpu f).time = s.time := rfl
@[simp] theorem modCpu_seq (s : State) (f : Gulcy → Gulcy) : (s.modCpu f).seq = s.seq := rfl
@[simp] theorem modCpu_sweep (s : State) (f : Gulcy → Gulcy) : (s.modCpu f).sweep = s.sweep := rfl
@[simp] theorem modCpu_svc (s : State) (f : Gulcy → Gulcy) : (s.modCpu f).svc = s.svc := rfl
@[simp] theorem modCpu_ven (s : State) (f : Gulcy → Gulcy) : (s.modCpu f).ven = s.ven := rfl
@[simp] theorem modCpu_scan (s : State) (f : Gulcy → Gulcy) : (s.modCpu f).scan = s.scan := rfl
@[simp] theorem modCpu_store (s : State) (f : Gulcy → Gulcy) : (s.modCpu f).store = s.store := rfl
@[simp] theorem modCpu_pow (s : State) (f : Gulcy → Gulcy) : (s.modCpu f).pow = s.pow := rfl
@[simp] theorem modCpu_cpu (s : State) (f : Gulcy → Gulcy) : (s.modCpu f).cpu = f s.cpu := rfl
@[simp] theorem modCpu_test (s : State) (f : Gulcy → Gulcy) : (s.modCpu f).test = s.test := rfl
@[simp] theorem modCpu_free (s : State) (f : Gulcy → Gulcy) : (s.modCpu f).free = s.free := rfl
@[simp] theorem modCpu_pending (s : State) (f : Gulcy → Gulcy) : (s.modCpu f).pending = s.pending := rfl

@[simp] theorem modTest_win (s : State) (f : Test → Test) : (s.modTest f).win = s.win := rfl
@[simp] theorem modTest_tw (s : State) (f : Test → Test) : (s.modTest f).tw = s.tw := rfl
@[simp] theorem modTest_mbx (s : State) (f : Test → Test) : (s.modTest f).mbx = s.mbx := rfl
@[simp] theorem modTest_sides (s : State) (f : Test → Test) : (s.modTest f).sides = s.sides := rfl
@[simp] theorem modTest_lanes (s : State) (f : Test → Test) : (s.modTest f).lanes = s.lanes := rfl
@[simp] theorem modTest_paths (s : State) (f : Test → Test) : (s.modTest f).paths = s.paths := rfl
@[simp] theorem modTest_time (s : State) (f : Test → Test) : (s.modTest f).time = s.time := rfl
@[simp] theorem modTest_seq (s : State) (f : Test → Test) : (s.modTest f).seq = s.seq := rfl
@[simp] theorem modTest_sweep (s : State) (f : Test → Test) : (s.modTest f).sweep = s.sweep := rfl
@[simp] theorem modTest_svc (s : State) (f : Test → Test) : (s.modTest f).svc = s.svc := rfl
@[simp] theorem modTest_ven (s : State) (f : Test → Test) : (s.modTest f).ven = s.ven := rfl
@[simp] theorem modTest_scan (s : State) (f : Test → Test) : (s.modTest f).scan = s.scan := rfl
@[simp] theorem modTest_store (s : State) (f : Test → Test) : (s.modTest f).store = s.store := rfl
@[simp] theorem modTest_pow (s : State) (f : Test → Test) : (s.modTest f).pow = s.pow := rfl
@[simp] theorem modTest_cpu (s : State) (f : Test → Test) : (s.modTest f).cpu = s.cpu := rfl
@[simp] theorem modTest_test (s : State) (f : Test → Test) : (s.modTest f).test = f s.test := rfl
@[simp] theorem modTest_free (s : State) (f : Test → Test) : (s.modTest f).free = s.free := rfl
@[simp] theorem modTest_pending (s : State) (f : Test → Test) : (s.modTest f).pending = s.pending := rfl

@[simp] theorem modSession_win (s : State) (i : SessionId) (f : Session → Session) : (s.modSession i f).win = s.win := rfl
@[simp] theorem modSession_tw (s : State) (i : SessionId) (f : Session → Session) : (s.modSession i f).tw = s.tw := rfl
@[simp] theorem modSession_mbx (s : State) (i : SessionId) (f : Session → Session) : (s.modSession i f).mbx = s.mbx := rfl
@[simp] theorem modSession_sides (s : State) (i : SessionId) (f : Session → Session) : (s.modSession i f).sides = s.sides := rfl
@[simp] theorem modSession_lanes (s : State) (i : SessionId) (f : Session → Session) : (s.modSession i f).lanes = s.lanes := rfl
@[simp] theorem modSession_paths (s : State) (i : SessionId) (f : Session → Session) : (s.modSession i f).paths = s.paths := rfl
@[simp] theorem modSession_time (s : State) (i : SessionId) (f : Session → Session) : (s.modSession i f).time = s.time := rfl
@[simp] theorem modSession_seq (s : State) (i : SessionId) (f : Session → Session) : (s.modSession i f).seq = s.seq := rfl
@[simp] theorem modSession_sweep (s : State) (i : SessionId) (f : Session → Session) : (s.modSession i f).sweep = s.sweep := rfl
@[simp] theorem modSession_svc (s : State) (i : SessionId) (f : Session → Session) : (s.modSession i f).svc = { s.svc with sessions := vmod s.svc.sessions i f } := rfl
@[simp] theorem modSession_ven (s : State) (i : SessionId) (f : Session → Session) : (s.modSession i f).ven = s.ven := rfl
@[simp] theorem modSession_scan (s : State) (i : SessionId) (f : Session → Session) : (s.modSession i f).scan = s.scan := rfl
@[simp] theorem modSession_store (s : State) (i : SessionId) (f : Session → Session) : (s.modSession i f).store = s.store := rfl
@[simp] theorem modSession_pow (s : State) (i : SessionId) (f : Session → Session) : (s.modSession i f).pow = s.pow := rfl
@[simp] theorem modSession_cpu (s : State) (i : SessionId) (f : Session → Session) : (s.modSession i f).cpu = s.cpu := rfl
@[simp] theorem modSession_test (s : State) (i : SessionId) (f : Session → Session) : (s.modSession i f).test = s.test := rfl
@[simp] theorem modSession_free (s : State) (i : SessionId) (f : Session → Session) : (s.modSession i f).free = s.free := rfl
@[simp] theorem modSession_pending (s : State) (i : SessionId) (f : Session → Session) : (s.modSession i f).pending = s.pending := rfl

@[simp] theorem modLine_win (s : State) (i : Fin 4) (f : ScanLine → ScanLine) : (s.modLine i f).win = s.win := rfl
@[simp] theorem modLine_tw (s : State) (i : Fin 4) (f : ScanLine → ScanLine) : (s.modLine i f).tw = s.tw := rfl
@[simp] theorem modLine_mbx (s : State) (i : Fin 4) (f : ScanLine → ScanLine) : (s.modLine i f).mbx = s.mbx := rfl
@[simp] theorem modLine_sides (s : State) (i : Fin 4) (f : ScanLine → ScanLine) : (s.modLine i f).sides = s.sides := rfl
@[simp] theorem modLine_lanes (s : State) (i : Fin 4) (f : ScanLine → ScanLine) : (s.modLine i f).lanes = s.lanes := rfl
@[simp] theorem modLine_paths (s : State) (i : Fin 4) (f : ScanLine → ScanLine) : (s.modLine i f).paths = s.paths := rfl
@[simp] theorem modLine_time (s : State) (i : Fin 4) (f : ScanLine → ScanLine) : (s.modLine i f).time = s.time := rfl
@[simp] theorem modLine_seq (s : State) (i : Fin 4) (f : ScanLine → ScanLine) : (s.modLine i f).seq = s.seq := rfl
@[simp] theorem modLine_sweep (s : State) (i : Fin 4) (f : ScanLine → ScanLine) : (s.modLine i f).sweep = s.sweep := rfl
@[simp] theorem modLine_svc (s : State) (i : Fin 4) (f : ScanLine → ScanLine) : (s.modLine i f).svc = s.svc := rfl
@[simp] theorem modLine_ven (s : State) (i : Fin 4) (f : ScanLine → ScanLine) : (s.modLine i f).ven = s.ven := rfl
@[simp] theorem modLine_scan (s : State) (i : Fin 4) (f : ScanLine → ScanLine) : (s.modLine i f).scan = { s.scan with lines := vmod s.scan.lines i f } := rfl
@[simp] theorem modLine_store (s : State) (i : Fin 4) (f : ScanLine → ScanLine) : (s.modLine i f).store = s.store := rfl
@[simp] theorem modLine_pow (s : State) (i : Fin 4) (f : ScanLine → ScanLine) : (s.modLine i f).pow = s.pow := rfl
@[simp] theorem modLine_cpu (s : State) (i : Fin 4) (f : ScanLine → ScanLine) : (s.modLine i f).cpu = s.cpu := rfl
@[simp] theorem modLine_test (s : State) (i : Fin 4) (f : ScanLine → ScanLine) : (s.modLine i f).test = s.test := rfl
@[simp] theorem modLine_free (s : State) (i : Fin 4) (f : ScanLine → ScanLine) : (s.modLine i f).free = s.free := rfl
@[simp] theorem modLine_pending (s : State) (i : Fin 4) (f : ScanLine → ScanLine) : (s.modLine i f).pending = s.pending := rfl

@[simp] theorem usedFree_win (s : State) : s.usedFree.win = s.win := rfl
@[simp] theorem usedFree_tw (s : State) : s.usedFree.tw = s.tw := rfl
@[simp] theorem usedFree_mbx (s : State) : s.usedFree.mbx = s.mbx := rfl
@[simp] theorem usedFree_sides (s : State) : s.usedFree.sides = s.sides := rfl
@[simp] theorem usedFree_lanes (s : State) : s.usedFree.lanes = s.lanes := rfl
@[simp] theorem usedFree_paths (s : State) : s.usedFree.paths = s.paths := rfl
@[simp] theorem usedFree_time (s : State) : s.usedFree.time = s.time := rfl
@[simp] theorem usedFree_seq (s : State) : s.usedFree.seq = s.seq := rfl
@[simp] theorem usedFree_sweep (s : State) : s.usedFree.sweep = s.sweep := rfl
@[simp] theorem usedFree_svc (s : State) : s.usedFree.svc = s.svc := rfl
@[simp] theorem usedFree_ven (s : State) : s.usedFree.ven = s.ven := rfl
@[simp] theorem usedFree_scan (s : State) : s.usedFree.scan = s.scan := rfl
@[simp] theorem usedFree_store (s : State) : s.usedFree.store = s.store := rfl
@[simp] theorem usedFree_pow (s : State) : s.usedFree.pow = s.pow := rfl
@[simp] theorem usedFree_cpu (s : State) : s.usedFree.cpu = s.cpu := rfl
@[simp] theorem usedFree_test (s : State) : s.usedFree.test = s.test := rfl
@[simp] theorem usedFree_free (s : State) : s.usedFree.free = s.free + 1 := rfl
@[simp] theorem usedFree_pending (s : State) : s.usedFree.pending = s.pending := rfl

end Sys2Proof.Machine
end

