-- ==== Sys2Proof/Laws/Ops.lean ====
section
/-! SUPPORT. What the shared operations can do, each said once: what follows every change (`settle`), events (`raise`), domains
(`settleDomains`), replies and the command gate. -/

namespace Sys2Proof.Machine

/-! ### Folds -/

/-- A reading that no step of a fold changes. -/
theorem foldl_keeps {α β σ : Type} (g : σ → β) (f : σ → α → σ) (l : List α) (h : ∀ s a, g (f s a) = g s) (s : σ) :
    g (l.foldl f s) = g s := by
  induction l generalizing s with
  | nil => rfl
  | cons a t ih => exact (ih (f s a)).trans (h s a)

/-- A property that every step of a fold keeps. -/
theorem foldl_holds {α σ : Type} (P : σ → Prop) (f : σ → α → σ) (l : List α) (h : ∀ s a, P s → P (f s a)) (s : σ) (hs : P s) :
    P (l.foldl f s) := by
  induction l generalizing s with
  | nil => exact hs
  | cons a t ih => exact ih (f s a) (h s a hs)

/-! ### settle -/

@[simp] theorem settle_mbx (o s : State) : (settle o s).mbx = s.mbx := rfl
@[simp] theorem settle_sides (o s : State) : (settle o s).sides = s.sides := rfl
@[simp] theorem settle_lanes (o s : State) : (settle o s).lanes = s.lanes := rfl
@[simp] theorem settle_time (o s : State) : (settle o s).time = s.time := rfl
@[simp] theorem settle_seq (o s : State) : (settle o s).seq = s.seq := rfl
@[simp] theorem settle_sweep (o s : State) : (settle o s).sweep = s.sweep := rfl
@[simp] theorem settle_svc (o s : State) : (settle o s).svc = s.svc := rfl
@[simp] theorem settle_ven (o s : State) : (settle o s).ven = s.ven := rfl
@[simp] theorem settle_scan (o s : State) : (settle o s).scan = s.scan := rfl
@[simp] theorem settle_store (o s : State) : (settle o s).store = s.store := rfl
@[simp] theorem settle_cpu (o s : State) : (settle o s).cpu = s.cpu := rfl
@[simp] theorem settle_test (o s : State) : (settle o s).test = s.test := rfl
@[simp] theorem settle_free (o s : State) : (settle o s).free = s.free := rfl
@[simp] theorem settle_pending (o s : State) : (settle o s).pending = s.pending := rfl

/-- `settle` changes of the window no field but REST_PEND. -/
theorem settle_win (o s : State) : (settle o s).win = { s.win with restPend := s.win.restPend && deviceIdle s } := rfl

/-- `settle` changes of the two-wire target no field but the pulse owed and the mark of a pulse sent. -/
theorem settle_tw (o s : State) : (settle o s).tw =
    { s.tw with owed := s.tw.owed || (!attn o && attn s), pulseSent := s.tw.pulseSent && attn s } := rfl

/-- `settle` changes of the AO domain no field but the device idle time. -/
theorem settle_pow (o s : State) : (settle o s).pow = { s.pow with idleNs := if deviceIdle s then s.pow.idleNs else 0 } := rfl

/-- `settle` changes of a path no field but its idle time. -/
theorem settle_path (o s : State) (p : PathId) : (settle o s).paths[p.val] =
    { s.paths[p.val] with idleNs := if pathIdle s p then s.paths[p.val].idleNs else 0 } := by
  simp only [settle, Vector.getElem_ofFn]
  split <;> rfl

/-! ### Events -/

/-- What an event can change: the window (ring head, losses), the mailbox, the upstream event records, the log staging. -/
def EventOnly (s t : State) : Prop := ∃ w m b st, t = { s with win := w, mbx := m, svc := b, store := st }

theorem EventOnly.refl (s : State) : EventOnly s s := ⟨s.win, s.mbx, s.svc, s.store, rfl⟩

theorem EventOnly.trans {s t u : State} (h : EventOnly s t) (k : EventOnly t u) : EventOnly s u := by
  obtain ⟨w, m, b, st, rfl⟩ := h
  obtain ⟨w', m', b', st', rfl⟩ := k
  exact ⟨w', m', b', st', rfl⟩

theorem ringEvent_only (s : State) (e : EventEntry) : EventOnly s (ringEvent s e) := by
  unfold ringEvent
  split
  · exact ⟨_, _, _, _, rfl⟩
  · exact ⟨_, _, _, _, rfl⟩

theorem placeEvent_only (s : State) (e : EventEntry) : EventOnly s (placeEvent s e) := by
  unfold placeEvent
  split
  · exact ringEvent_only s e
  · split
    · exact ⟨_, _, _, _, rfl⟩
    · exact ⟨_, _, _, _, rfl⟩

theorem noteEvent_only (s : State) (c : Nat) (k d : List Byte) : EventOnly s (noteEvent s c k d) := by
  unfold noteEvent
  dsimp only
  split
  · exact ⟨_, _, _, _, rfl⟩
  · exact ⟨_, _, _, _, rfl⟩

theorem evtRecord_only (e : EventEntry) (s : State) (k : SessionId) : EventOnly s (evtRecord e s k) := by
  unfold evtRecord
  split
  · exact ⟨_, _, _, _, rfl⟩
  · exact EventOnly.trans ⟨_, _, _, _, rfl⟩ (noteEvent_only _ _ _ _)

theorem evtRecords_only (s : State) (c : Nat) (e : EventEntry) : EventOnly s (evtRecords s c e) := by
  unfold evtRecords
  split
  · exact foldl_holds (EventOnly s) _ _ (fun t k h => h.trans (evtRecord_only e t k)) s (EventOnly.refl s)
  · exact EventOnly.refl s

theorem stageLog_only (s : State) (c : Nat) (e : EventEntry) : EventOnly s (stageLog s c e) := by
  unfold stageLog
  split
  · exact EventOnly.refl s
  · split
    · exact ⟨_, _, _, _, rfl⟩
    · exact ⟨_, _, _, _, rfl⟩

theorem emit_only (s : State) (c : Nat) (n : BitVec 16) (d : List Byte) (t : Stamp) : EventOnly s (emit s c n d t) :=
  EventOnly.trans (EventOnly.trans (EventOnly.trans ⟨_, _, _, _, rfl⟩ (placeEvent_only _ _)) (evtRecords_only _ _ _)) (stageLog_only _ _ _)

/-- An event raised changes only what `EventOnly` names. -/
theorem raise_only (s : State) (c : Nat) (d : List Byte) : EventOnly s (raise s c d) := by
  unfold raise
  split
  · exact emit_only s c 1 d s.now
  · exact noteEvent_only s c _ d
  · exact noteEvent_only s c _ d

@[simp] theorem raise_tw (s : State) (c : Nat) (d : List Byte) : (raise s c d).tw = s.tw := by
  obtain ⟨w, m, b, st, h⟩ := raise_only s c d
  rw [h]
@[simp] theorem raise_sides (s : State) (c : Nat) (d : List Byte) : (raise s c d).sides = s.sides := by
  obtain ⟨w, m, b, st, h⟩ := raise_only s c d
  rw [h]
@[simp] theorem raise_lanes (s : State) (c : Nat) (d : List Byte) : (raise s c d).lanes = s.lanes := by
  obtain ⟨w, m, b, st, h⟩ := raise_only s c d
  rw [h]
@[simp] theorem raise_paths (s : State) (c : Nat) (d : List Byte) : (raise s c d).paths = s.paths := by
  obtain ⟨w, m, b, st, h⟩ := raise_only s c d
  rw [h]
@[simp] theorem raise_time (s : State) (c : Nat) (d : List Byte) : (raise s c d).time = s.time := by
  obtain ⟨w, m, b, st, h⟩ := raise_only s c d
  rw [h]
@[simp] theorem raise_seq (s : State) (c : Nat) (d : List Byte) : (raise s c d).seq = s.seq := by
  obtain ⟨w, m, b, st, h⟩ := raise_only s c d
  rw [h]
@[simp] theorem raise_sweep (s : State) (c : Nat) (d : List Byte) : (raise s c d).sweep = s.sweep := by
  obtain ⟨w, m, b, st, h⟩ := raise_only s c d
  rw [h]
@[simp] theorem raise_ven (s : State) (c : Nat) (d : List Byte) : (raise s c d).ven = s.ven := by
  obtain ⟨w, m, b, st, h⟩ := raise_only s c d
  rw [h]
@[simp] theorem raise_scan (s : State) (c : Nat) (d : List Byte) : (raise s c d).scan = s.scan := by
  obtain ⟨w, m, b, st, h⟩ := raise_only s c d
  rw [h]
@[simp] theorem raise_pow (s : State) (c : Nat) (d : List Byte) : (raise s c d).pow = s.pow := by
  obtain ⟨w, m, b, st, h⟩ := raise_only s c d
  rw [h]
@[simp] theorem raise_cpu (s : State) (c : Nat) (d : List Byte) : (raise s c d).cpu = s.cpu := by
  obtain ⟨w, m, b, st, h⟩ := raise_only s c d
  rw [h]
@[simp] theorem raise_test (s : State) (c : Nat) (d : List Byte) : (raise s c d).test = s.test := by
  obtain ⟨w, m, b, st, h⟩ := raise_only s c d
  rw [h]
@[simp] theorem raise_free (s : State) (c : Nat) (d : List Byte) : (raise s c d).free = s.free := by
  obtain ⟨w, m, b, st, h⟩ := raise_only s c d
  rw [h]
@[simp] theorem raise_pending (s : State) (c : Nat) (d : List Byte) : (raise s c d).pending = s.pending := by
  obtain ⟨w, m, b, st, h⟩ := raise_only s c d
  rw [h]

/-! ### Domains -/

/-- What switching domains can change: the domains, and the parts Table 16.4 says are lost. -/
def DomainOnly (s t : State) : Prop :=
  ∃ ds m si la pa ti ve sc te,
    t = { s with
      pow := { s.pow with domains := ds }, mbx := { s.mbx with mem := m }, sides := si, lanes := la, paths := pa, time := ti, ven := ve
      scan := sc, test := te }

theorem DomainOnly.refl (s : State) : DomainOnly s s :=
  ⟨s.pow.domains, s.mbx.mem, s.sides, s.lanes, s.paths, s.time, s.ven, s.scan, s.test, rfl⟩

theorem DomainOnly.trans {s t u : State} (h : DomainOnly s t) (k : DomainOnly t u) : DomainOnly s u := by
  obtain ⟨_, _, _, _, _, _, _, _, _, rfl⟩ := h
  obtain ⟨ds, m, si, la, pa, ti, ve, sc, te, rfl⟩ := k
  exact ⟨ds, m, si, la, pa, ti, ve, sc, te, rfl⟩

theorem domainLost_only (s : State) (d : Nat) : DomainOnly s (domainLost s d) := by
  unfold domainLost
  split
  · exact DomainOnly.refl s
  · split
    · exact ⟨_, _, _, _, _, _, _, _, _, rfl⟩
    · split
      · refine foldl_holds (DomainOnly s) _ _ (fun t l h => h.trans ⟨_, _, _, _, _, _, _, _, _, rfl⟩) _ ?_
        exact ⟨_, _, _, _, _, _, _, _, _, rfl⟩
      · split <;> exact ⟨_, _, _, _, _, _, _, _, _, rfl⟩

theorem settleDomain_only (s : State) (d : Nat) : DomainOnly s (settleDomain s d) := by
  unfold settleDomain
  split
  · exact DomainOnly.refl s
  · dsimp only
    split
    · exact ⟨_, _, _, _, _, _, _, _, _, rfl⟩
    · exact DomainOnly.trans ⟨_, _, _, _, _, _, _, _, _, rfl⟩ (domainLost_only _ _)

/-- Domains that follow their conditions change only what `DomainOnly` names. -/
theorem settleDomains_only (s : State) : DomainOnly s (settleDomains s) :=
  foldl_holds (DomainOnly s) _ _ (fun t d h => h.trans (settleDomain_only t d)) s (DomainOnly.refl s)

theorem settleDomain_of_eq {s : State} {d : Nat} (h : domWanted s d = domOn s d) : settleDomain s d = s := by
  simp [settleDomain, h]

/-- Where every domain follows its condition nothing is switched. -/
theorem settleDomains_settled {s : State} (h : DomainsSettled s) : settleDomains s = s := by
  unfold settleDomains
  have key : ∀ l : List Nat, (∀ d ∈ l, domWanted s d = domOn s d) → l.foldl settleDomain s = s := by
    intro l
    induction l with
    | nil => intro _; rfl
    | cons d t ih =>
      intro hd
      rw [List.foldl_cons, settleDomain_of_eq (hd d (by simp))]
      exact ih (fun e he => hd e (by simp [he]))
  refine key _ ?_
  intro d hd
  simp only [upto, List.mem_map, List.mem_range] at hd
  obtain ⟨i, hi, rfl⟩ := hd
  exact h ⟨i, hi⟩

@[simp] theorem settleDomains_win (s : State) : (settleDomains s).win = s.win := by
  obtain ⟨_, _, _, _, _, _, _, _, _, h⟩ := settleDomains_only s
  rw [h]
@[simp] theorem settleDomains_tw (s : State) : (settleDomains s).tw = s.tw := by
  obtain ⟨_, _, _, _, _, _, _, _, _, h⟩ := settleDomains_only s
  rw [h]
@[simp] theorem settleDomains_seq (s : State) : (settleDomains s).seq = s.seq := by
  obtain ⟨_, _, _, _, _, _, _, _, _, h⟩ := settleDomains_only s
  rw [h]
@[simp] theorem settleDomains_sweep (s : State) : (settleDomains s).sweep = s.sweep := by
  obtain ⟨_, _, _, _, _, _, _, _, _, h⟩ := settleDomains_only s
  rw [h]
@[simp] theorem settleDomains_svc (s : State) : (settleDomains s).svc = s.svc := by
  obtain ⟨_, _, _, _, _, _, _, _, _, h⟩ := settleDomains_only s
  rw [h]
@[simp] theorem settleDomains_store (s : State) : (settleDomains s).store = s.store := by
  obtain ⟨_, _, _, _, _, _, _, _, _, h⟩ := settleDomains_only s
  rw [h]
@[simp] theorem settleDomains_cpu (s : State) : (settleDomains s).cpu = s.cpu := by
  obtain ⟨_, _, _, _, _, _, _, _, _, h⟩ := settleDomains_only s
  rw [h]
@[simp] theorem settleDomains_free (s : State) : (settleDomains s).free = s.free := by
  obtain ⟨_, _, _, _, _, _, _, _, _, h⟩ := settleDomains_only s
  rw [h]
@[simp] theorem settleDomains_pending (s : State) : (settleDomains s).pending = s.pending := by
  obtain ⟨_, _, _, _, _, _, _, _, _, h⟩ := settleDomains_only s
  rw [h]

/-- Of the AO domain only the switches change. -/
theorem settleDomains_pow (s : State) : ∃ ds, (settleDomains s).pow = { s.pow with domains := ds } := by
  obtain ⟨ds, _, _, _, _, _, _, _, _, h⟩ := settleDomains_only s
  exact ⟨ds, by rw [h]⟩

theorem domainLost_mbx (s : State) (d : Nat) (h : d ≠ 37) : (domainLost s d).mbx = s.mbx := by
  unfold domainLost
  split
  · rfl
  · split
    · rfl
    · split
      · dsimp only
        rw [foldl_keeps State.mbx]
        · rfl
        · intro _ _; rfl
      · split <;> first | rfl | exact absurd rfl h

/-- While D37 is wanted, mailbox memory is not lost. -/
theorem settleDomains_mbx {s : State} (h : s.pow.dev = .boot ∨ s.pow.dev = .run) : (settleDomains s).mbx = s.mbx := by
  have step : ∀ (t : State) (d : Nat), (t.pow.dev = s.pow.dev ∧ t.mbx = s.mbx) →
      ((settleDomain t d).pow.dev = s.pow.dev ∧ (settleDomain t d).mbx = s.mbx) := by
    intro t d ⟨hd, hm⟩
    constructor
    · obtain ⟨_, _, _, _, _, _, _, _, _, e⟩ := settleDomain_only t d
      rw [e]; exact hd
    · unfold settleDomain
      split
      · exact hm
      · dsimp only
        split
        · exact hm
        · next hw =>
          rw [domainLost_mbx]
          · exact hm
          · rintro rfl
            apply hw
            show ((t.pow.dev == .run) || (t.pow.dev == .boot)) = true
            rw [hd]
            rcases h with e | e <;> simp [e]
  have := foldl_holds (fun t : State => t.pow.dev = s.pow.dev ∧ t.mbx = s.mbx) settleDomain ((upto 50).map fun i => i + 1)
    step s ⟨rfl, rfl⟩
  exact this.2

/-! ### Replies and the command gate -/

theorem be_length (n v : Nat) : (be n v).length = n := by
  induction n generalizing v with
  | zero => rfl
  | succ n ih => simp [be, ih]

theorem slice_length (bs : List Byte) (o n : Nat) : (slice bs o n).length = n := by
  simp only [slice, List.length_append, List.length_take, List.length_drop, List.length_replicate]
  omega

/-- A reply entry has 64 bytes (Table 13.6). -/
theorem replyBytes_length (op tag : BitVec 16) (st : Nat) (lat : Byte) (p : List Byte) (t : Stamp) :
    (replyBytes op tag st lat p t).length = 64 := by
  simp [replyBytes, be_length, slice_length, stampBytes]

/-- A command that Gulcy takes at once ends as its handler says, in the state `begun`. -/
theorem command_ready {s : State} {r : Req} (h : Ready s r) (op : Nat) (f : Req → State → Result) :
    command op f r s = finish r.issuer (BitVec.ofNat 16 op) r r.tag 0
      (if disownedBy (begun s r) op r.issuer then failWith (begun s r) 0x06 else f r (begun s r)) := by
  obtain ⟨h1, h2, h3, h4, _⟩ := h
  have h3' : s.mbx.arrived.isEmpty = true := by simp [h3]
  have h4' : s.mbx.owed.isEmpty = true := by simp [h4]
  unfold command begun
  cases hi : r.issuer with
  | twoWire =>
    rw [hi] at h2
    simp only [takeCtlCredit, h1, h2, h3', h4', Bool.and_self, if_true]
  | session k =>
    have h1' : gulcyReady (takeCredit s k 3) = true := h1
    have h2' : replyRoom (takeCredit s k 3) (.session k) = true := by rw [hi] at h2; exact h2
    have h3'' : (takeCredit s k 3).mbx.arrived.isEmpty = true := h3'
    have h4'' : (takeCredit s k 3).mbx.owed.isEmpty = true := h4'
    simp only [takeCtlCredit, h1', h2', h3'', h4'', Bool.and_self, if_true]

theorem takeCtlCredit_win (w : Issuer) (s : State) : (takeCtlCredit w s).win = s.win := by cases w <;> rfl

theorem begun_owner (s : State) (r : Req) : (begun s r).win.owner = s.win.owner := by
  unfold begun gulcyTakes
  split
  · rw [takeCtlCredit_win]
  · simp only [modWin_win, takeCtlCredit_win]

/-- Such a command is not refused for ownership. -/
theorem not_disowned {s : State} {r : Req} (h : Ready s r) (op : Nat) : disownedBy (begun s r) op r.issuer = false := by
  unfold disownedBy
  rw [begun_owner]
  cases hi : r.issuer with
  | twoWire => simp [h.2.2.2.2.1 hi]
  | session k => rfl

/-- A command that Gulcy takes at once, with its handler's answer. -/
theorem command_taken {s : State} {r : Req} (h : Ready s r) (op : Nat) (f : Req → State → Result) :
    command op f r s = finish r.issuer (BitVec.ofNat 16 op) r r.tag 0 (f r (begun s r)) := by
  rw [command_ready h, not_disowned h]
  rfl


end Sys2Proof.Machine
end

