-- ==== Sys2Proof/Laws/Commands.lean ====
section
/-! SUPPORT. A Gulcy command that is taken at once: its reply, and what a command that only reads leaves alone. -/

namespace Sys2Proof.Machine

/-- A credit taken for a session's command changes no more than that session's credits in use, which is news to it. -/
theorem takeCtlCredit_cases (w : Issuer) (s : State) : ∃ ss, takeCtlCredit w s = { s with svc := { s.svc with sessions := ss } } ∧
    ∀ k : SessionId, ∃ u n, ss[k.val] = { s.svc.sessions[k.val] with used := u, news := n } := by
  cases w with
  | twoWire => exact ⟨s.svc.sessions, rfl, fun k => ⟨_, _, rfl⟩⟩
  | session j =>
    refine ⟨_, rfl, fun k => ?_⟩
    rw [vmod_get_nat]
    split
    · exact ⟨_, _, rfl⟩
    · exact ⟨_, _, rfl⟩

/-- `begun` changes of the state no more than GULCY_UP with its cause, and a session's credit in use. -/
theorem begun_cases (s : State) (r : Req) : ∃ a b ss, begun s r =
    { s with win := { s.win with gulcyUp := a, cGulcy := b }, svc := { s.svc with sessions := ss } } ∧
    ∀ k : SessionId, ∃ u n, ss[k.val] = { s.svc.sessions[k.val] with used := u, news := n } := by
  obtain ⟨ss, h, hk⟩ := takeCtlCredit_cases r.issuer s
  unfold begun gulcyTakes
  rw [h]
  split
  · exact ⟨s.win.gulcyUp, s.win.cGulcy, ss, rfl, hk⟩
  · exact ⟨true, true, ss, rfl, hk⟩

/-- A condition of Table 16.2 depends on no more than these parts. -/
theorem domWanted_congr {s t : State} (h1 : t.pow.dev = s.pow.dev) (h2 : t.paths = s.paths) (h3 : t.seq.active = s.seq.active)
    (h4 : t.svc.mode = s.svc.mode) (h5 : t.ven = s.ven) (h6 : t.scan = s.scan) (h7 : t.test = s.test) (h8 : t.time.cfg = s.time.cfg)
    (d : Nat) : domWanted t d = domWanted s d := by
  have e1 : irqEn t = irqEn s := by funext i; simp only [irqEn, h5]
  have e2 : mstEn t = mstEn s := by funext i; simp only [mstEn, mstByte, h5]
  have e3 : scanOn t = scanOn s := by funext i; simp only [scanOn, h6]
  simp only [domWanted, laneOn, pathOn, venOn, timeSource, e1, e2, e3, h1, h2, h3, h4, h5, h7, h8]

theorem settled_congr {s t : State} (hs : DomainsSettled s) (h0 : t.pow.domains = s.pow.domains) (h1 : t.pow.dev = s.pow.dev)
    (h2 : t.paths = s.paths) (h3 : t.seq.active = s.seq.active) (h4 : t.svc.mode = s.svc.mode) (h5 : t.ven = s.ven)
    (h6 : t.scan = s.scan) (h7 : t.test = s.test) (h8 : t.time.cfg = s.time.cfg) : DomainsSettled t := by
  intro d
  rw [domWanted_congr h1 h2 h3 h4 h5 h6 h7 h8, hs d]
  simp only [domOn, h0]

/-- What writing a reply that its issuer's side can take changes: RPL_HEAD, the watchdog's count, mailbox memory, CPL records. -/
theorem writeReply_cases (s : State) (who : Issuer) (hp : who ≠ .twoWire → present s 4 = true) (op tag rtag : BitVec 16) (lat : Byte)
    (r : Reply) : ∃ h m c,
    writeReply s who op tag rtag lat r =
      { s with win := { s.win with wdCount := 0, rplHead := h }, mbx := { s.mbx with mem := m }, svc := { s.svc with cpl := c } } ∧
    (∀ a, Mem.wf s.mbx.mem = true → a < replySlot s ∨ replySlot s + 64 ≤ a → Mem.read m a = Mem.read s.mbx.mem a) := by
  unfold writeReply
  dsimp only
  split
  · refine ⟨_, _, _, rfl, ?_⟩
    intro a hw ha
    apply Mem.read_writeAll_other hw
    rw [replyBytes_length]
    exact ha
  · have hq : ¬ present (s.modWin fun w => { w with wdCount := 0 }) 4 = false := by
      have : present s 4 = true := hp (by simp)
      have e : present (s.modWin fun w => { w with wdCount := 0 }) 4 = present s 4 := rfl
      rw [e, this]
      decide
    rw [if_neg hq]
    split
    · exact ⟨s.win.rplHead, s.mbx.mem, s.svc.cpl, rfl, fun _ _ _ => rfl⟩
    · exact ⟨s.win.rplHead, s.mbx.mem, _, rfl, fun _ _ _ => rfl⟩

/-- A reply written at once stands where `Replied` says. -/
theorem finish_replied {s x : State} {r : Req} {op : Nat} {st : Nat} {p : List Byte} (o : State) (hw : Mem.wf x.mbx.mem = true)
    (hh : x.win.rplHead = s.win.rplHead) (ht : x.time.spine = s.time.spine) (hd : x.pow.dev = .boot ∨ x.pow.dev = .run)
    (hp : r.issuer ≠ .twoWire → present x 4 = true)
    (ha : ∀ k, r.issuer = .session k → x.svc.sessions[k.val].addr = s.svc.sessions[k.val].addr) :
    Replied s (settle o (finish r.issuer (BitVec.ofNat 16 op) r r.tag 0 (x, some ⟨st, p⟩))) op r st p := by
  have hn : x.now = s.now := by simp only [State.now, ht]
  have hm : (settleDomains (writeReply x r.issuer (BitVec.ofNat 16 op) r.tag r.tag 0 ⟨st, p⟩)).mbx =
      (writeReply x r.issuer (BitVec.ofNat 16 op) r.tag r.tag 0 ⟨st, p⟩).mbx := by
    obtain ⟨_, _, _, e, _⟩ := writeReply_cases x r.issuer hp (BitVec.ofNat 16 op) r.tag r.tag 0 ⟨st, p⟩
    apply settleDomains_mbx
    rw [e]
    exact hd
  unfold Replied
  dsimp only
  cases hi : r.issuer with
  | twoWire =>
    rw [hi] at hm
    simp only [finish, settle_win, settle_mbx, settleDomains_win, hm]
    simp only [writeReply, modWin_win, modMbx_mbx, modMbx_win, modWin_mbx, hh, true_and]
    rw [hn]
    have hl := replyBytes_length (BitVec.ofNat 16 op) r.tag st 0 p s.now
    have := Mem.readAll_writeAll hw (0x1000 + s.win.rplHead.toNat % 64 * 64) (replyBytes (BitVec.ofNat 16 op) r.tag st 0 p s.now)
    rw [hl] at this
    exact this
  | session k =>
    intro hb
    have hb' : x.svc.sessions[k.val].addr.isNone = false := by
      rw [ha k hi]
      simpa using hb
    have hq : present (x.modWin fun w => { w with wdCount := 0 }) 4 = true := hp (by rw [hi]; simp)
    simp only [finish, settle_svc, settleDomains_svc]
    simp only [writeReply, hq, Bool.true_eq_false, modWin_svc, Fin.getElem_fin, hb', Bool.false_eq_true, if_false, modSvc_svc, List.map_append,
      List.map_cons, List.map_nil, List.getLast?_append_cons, List.getLast?_singleton]
    rw [hn]

theorem writeReply_tw (s : State) (w : Issuer) (hp : w ≠ .twoWire → present s 4 = true) (op tag rtag : BitVec 16) (lat : Byte)
    (r : Reply) : (writeReply s w op tag rtag lat r).tw = s.tw := by
  obtain ⟨_, _, _, h, _⟩ := writeReply_cases s w hp op tag rtag lat r
  rw [h]
theorem writeReply_sides (s : State) (w : Issuer) (hp : w ≠ .twoWire → present s 4 = true) (op tag rtag : BitVec 16) (lat : Byte)
    (r : Reply) : (writeReply s w op tag rtag lat r).sides = s.sides := by
  obtain ⟨_, _, _, h, _⟩ := writeReply_cases s w hp op tag rtag lat r
  rw [h]
theorem writeReply_lanes (s : State) (w : Issuer) (hp : w ≠ .twoWire → present s 4 = true) (op tag rtag : BitVec 16) (lat : Byte)
    (r : Reply) : (writeReply s w op tag rtag lat r).lanes = s.lanes := by
  obtain ⟨_, _, _, h, _⟩ := writeReply_cases s w hp op tag rtag lat r
  rw [h]
theorem writeReply_paths (s : State) (w : Issuer) (hp : w ≠ .twoWire → present s 4 = true) (op tag rtag : BitVec 16) (lat : Byte)
    (r : Reply) : (writeReply s w op tag rtag lat r).paths = s.paths := by
  obtain ⟨_, _, _, h, _⟩ := writeReply_cases s w hp op tag rtag lat r
  rw [h]
theorem writeReply_time (s : State) (w : Issuer) (hp : w ≠ .twoWire → present s 4 = true) (op tag rtag : BitVec 16) (lat : Byte)
    (r : Reply) : (writeReply s w op tag rtag lat r).time = s.time := by
  obtain ⟨_, _, _, h, _⟩ := writeReply_cases s w hp op tag rtag lat r
  rw [h]
theorem writeReply_seq (s : State) (w : Issuer) (hp : w ≠ .twoWire → present s 4 = true) (op tag rtag : BitVec 16) (lat : Byte)
    (r : Reply) : (writeReply s w op tag rtag lat r).seq = s.seq := by
  obtain ⟨_, _, _, h, _⟩ := writeReply_cases s w hp op tag rtag lat r
  rw [h]
theorem writeReply_sweep (s : State) (w : Issuer) (hp : w ≠ .twoWire → present s 4 = true) (op tag rtag : BitVec 16) (lat : Byte)
    (r : Reply) : (writeReply s w op tag rtag lat r).sweep = s.sweep := by
  obtain ⟨_, _, _, h, _⟩ := writeReply_cases s w hp op tag rtag lat r
  rw [h]
theorem writeReply_ven (s : State) (w : Issuer) (hp : w ≠ .twoWire → present s 4 = true) (op tag rtag : BitVec 16) (lat : Byte)
    (r : Reply) : (writeReply s w op tag rtag lat r).ven = s.ven := by
  obtain ⟨_, _, _, h, _⟩ := writeReply_cases s w hp op tag rtag lat r
  rw [h]
theorem writeReply_scan (s : State) (w : Issuer) (hp : w ≠ .twoWire → present s 4 = true) (op tag rtag : BitVec 16) (lat : Byte)
    (r : Reply) : (writeReply s w op tag rtag lat r).scan = s.scan := by
  obtain ⟨_, _, _, h, _⟩ := writeReply_cases s w hp op tag rtag lat r
  rw [h]
theorem writeReply_store (s : State) (w : Issuer) (hp : w ≠ .twoWire → present s 4 = true) (op tag rtag : BitVec 16) (lat : Byte)
    (r : Reply) : (writeReply s w op tag rtag lat r).store = s.store := by
  obtain ⟨_, _, _, h, _⟩ := writeReply_cases s w hp op tag rtag lat r
  rw [h]
theorem writeReply_pow (s : State) (w : Issuer) (hp : w ≠ .twoWire → present s 4 = true) (op tag rtag : BitVec 16) (lat : Byte)
    (r : Reply) : (writeReply s w op tag rtag lat r).pow = s.pow := by
  obtain ⟨_, _, _, h, _⟩ := writeReply_cases s w hp op tag rtag lat r
  rw [h]
theorem writeReply_cpu (s : State) (w : Issuer) (hp : w ≠ .twoWire → present s 4 = true) (op tag rtag : BitVec 16) (lat : Byte)
    (r : Reply) : (writeReply s w op tag rtag lat r).cpu = s.cpu := by
  obtain ⟨_, _, _, h, _⟩ := writeReply_cases s w hp op tag rtag lat r
  rw [h]
theorem writeReply_test (s : State) (w : Issuer) (hp : w ≠ .twoWire → present s 4 = true) (op tag rtag : BitVec 16) (lat : Byte)
    (r : Reply) : (writeReply s w op tag rtag lat r).test = s.test := by
  obtain ⟨_, _, _, h, _⟩ := writeReply_cases s w hp op tag rtag lat r
  rw [h]
theorem writeReply_free (s : State) (w : Issuer) (hp : w ≠ .twoWire → present s 4 = true) (op tag rtag : BitVec 16) (lat : Byte)
    (r : Reply) : (writeReply s w op tag rtag lat r).free = s.free := by
  obtain ⟨_, _, _, h, _⟩ := writeReply_cases s w hp op tag rtag lat r
  rw [h]
theorem writeReply_pending (s : State) (w : Issuer) (hp : w ≠ .twoWire → present s 4 = true) (op tag rtag : BitVec 16) (lat : Byte)
    (r : Reply) : (writeReply s w op tag rtag lat r).pending = s.pending := by
  obtain ⟨_, _, _, h, _⟩ := writeReply_cases s w hp op tag rtag lat r
  rw [h]

/-- Where domains are settled a reply is all that ends a command. -/
theorem finish_settled {x : State} (hs : DomainsSettled x) (who : Issuer) (hp : who ≠ .twoWire → present x 4 = true) (op : BitVec 16) (r : Req) (rtag : BitVec 16) (lat : Byte)
    (rep : Reply) : finish who op r rtag lat (x, some rep) = writeReply x who op r.tag rtag lat rep := by
  have : DomainsSettled (writeReply x who op r.tag rtag lat rep) := by
    obtain ⟨_, _, _, e, _⟩ := writeReply_cases x who hp op r.tag rtag lat rep
    apply settled_congr hs <;> rw [e]
  simp only [finish]
  exact settleDomains_settled this

@[simp] theorem begun_tw (s : State) (r : Req) : (begun s r).tw = s.tw := by
  obtain ⟨_, _, _, h, _⟩ := begun_cases s r
  rw [h]
@[simp] theorem begun_sides (s : State) (r : Req) : (begun s r).sides = s.sides := by
  obtain ⟨_, _, _, h, _⟩ := begun_cases s r
  rw [h]
@[simp] theorem begun_lanes (s : State) (r : Req) : (begun s r).lanes = s.lanes := by
  obtain ⟨_, _, _, h, _⟩ := begun_cases s r
  rw [h]
@[simp] theorem begun_paths (s : State) (r : Req) : (begun s r).paths = s.paths := by
  obtain ⟨_, _, _, h, _⟩ := begun_cases s r
  rw [h]
@[simp] theorem begun_time (s : State) (r : Req) : (begun s r).time = s.time := by
  obtain ⟨_, _, _, h, _⟩ := begun_cases s r
  rw [h]
@[simp] theorem begun_seq (s : State) (r : Req) : (begun s r).seq = s.seq := by
  obtain ⟨_, _, _, h, _⟩ := begun_cases s r
  rw [h]
@[simp] theorem begun_sweep (s : State) (r : Req) : (begun s r).sweep = s.sweep := by
  obtain ⟨_, _, _, h, _⟩ := begun_cases s r
  rw [h]
@[simp] theorem begun_ven (s : State) (r : Req) : (begun s r).ven = s.ven := by
  obtain ⟨_, _, _, h, _⟩ := begun_cases s r
  rw [h]
@[simp] theorem begun_scan (s : State) (r : Req) : (begun s r).scan = s.scan := by
  obtain ⟨_, _, _, h, _⟩ := begun_cases s r
  rw [h]
@[simp] theorem begun_store (s : State) (r : Req) : (begun s r).store = s.store := by
  obtain ⟨_, _, _, h, _⟩ := begun_cases s r
  rw [h]
@[simp] theorem begun_pow (s : State) (r : Req) : (begun s r).pow = s.pow := by
  obtain ⟨_, _, _, h, _⟩ := begun_cases s r
  rw [h]
@[simp] theorem begun_cpu (s : State) (r : Req) : (begun s r).cpu = s.cpu := by
  obtain ⟨_, _, _, h, _⟩ := begun_cases s r
  rw [h]
@[simp] theorem begun_test (s : State) (r : Req) : (begun s r).test = s.test := by
  obtain ⟨_, _, _, h, _⟩ := begun_cases s r
  rw [h]
@[simp] theorem begun_free (s : State) (r : Req) : (begun s r).free = s.free := by
  obtain ⟨_, _, _, h, _⟩ := begun_cases s r
  rw [h]
@[simp] theorem begun_pending (s : State) (r : Req) : (begun s r).pending = s.pending := by
  obtain ⟨_, _, _, h, _⟩ := begun_cases s r
  rw [h]
@[simp] theorem begun_mbx (s : State) (r : Req) : (begun s r).mbx = s.mbx := by
  obtain ⟨_, _, _, h, _⟩ := begun_cases s r
  rw [h]

theorem begun_settled {s : State} {r : Req} (hr : Ready s r) : DomainsSettled (begun s r) := by
  obtain ⟨_, _, _, h, _⟩ := begun_cases s r
  apply settled_congr hr.2.2.2.2.2.2.2 <;> rw [h]

theorem begun_present {s : State} {r : Req} (hr : Ready s r) (h : r.issuer ≠ .twoWire) : present (begun s r) 4 = true := by
  obtain ⟨_, _, _, e, _⟩ := begun_cases s r
  rw [e]
  exact hr.2.2.2.2.2.1 h

/-- A command that only reads answers with its payload and changes nothing else. -/
theorem answers_of {c : Instr} {op : Nat} {r : Req} {s : State} {p : List Byte} {f : Req → State → Result}
    (hx : exec c s = done s (command op f r s)) (hr : Ready s r) (hf : f r (begun s r) = okWith (begun s r) p) :
    Answers c op r s p := by
  refine ⟨_, hx, ?_, ?_⟩
  all_goals rw [command_taken hr, hf]
  all_goals obtain ⟨a, b, ss, hb, hss⟩ := begun_cases s r
  · have hdev : s.pow.dev = .run := by
      have := hr.1
      simp only [gulcyReady, Bool.and_eq_true, beq_iff_eq] at this
      exact this.1.1.2
    apply finish_replied
    · rw [hb]; exact hr.2.2.2.2.2.2.1
    · rw [hb]
    · rw [hb]
    · rw [hb]; exact Or.inr hdev
    · exact begun_present hr
    · intro k _
      rw [hb]
      obtain ⟨u, n, hu⟩ := hss k
      simp only [hu]
  · have hs := hr.2.2.2.2.2.2.2
    obtain ⟨h, m, cp, e, hm⟩ := writeReply_cases (begun s r) r.issuer (begun_present hr) (BitVec.ofNat 16 op) r.tag r.tag 0 ⟨0, p⟩
    have hset : DomainsSettled (writeReply (begun s r) r.issuer (BitVec.ofNat 16 op) r.tag r.tag 0 ⟨0, p⟩) := by
      apply settled_congr hs <;> rw [e, hb]
    have hfin : finish r.issuer (BitVec.ofNat 16 op) r r.tag 0 (okWith (begun s r) p) =
        writeReply (begun s r) r.issuer (BitVec.ofNat 16 op) r.tag r.tag 0 ⟨0, p⟩ := by
      simp only [finish, okWith]
      exact settleDomains_settled hset
    rw [hfin]
    generalize hv : writeReply (begun s r) r.issuer (BitVec.ofNat 16 op) r.tag r.tag 0 ⟨0, p⟩ = v at e
    rw [hb] at e hm
    subst e
    intro q _
    cases q
    case mbx => exact ⟨rfl, fun x hx => hm x hr.2.2.2.2.2.2.1 hx⟩
    case svc =>
      refine ⟨rfl, fun k => ?_⟩
      obtain ⟨u, n, hu⟩ := hss k
      simp only [Fin.getElem_fin, settle_svc, hu]
    case paths =>
      intro k
      simp only [Fin.getElem_fin, settle_path]
    all_goals rfl

/-- A command that changes parts other than the window, the mailbox and the bridge, and no condition of a domain. -/
theorem performs_of {c : Instr} {op : Nat} {r : Req} {s x : State} {p : List Byte} {f : Req → State → Result} {changed : List Part}
    {P : State → Prop} (hx : exec c s = done s (command op f r s)) (hr : Ready s r) (hf : f r (begun s r) = okWith x p)
    (hset : DomainsSettled x) (hwin : x.win = (begun s r).win) (hmbx : x.mbx = s.mbx) (hsvc : x.svc = (begun s r).svc)
    (hspine : x.time.spine = s.time.spine) (hdev : x.pow.dev = s.pow.dev)
    (hpx : r.issuer ≠ .twoWire → present x 4 = true)
    (hP : P (settle s (writeReply x r.issuer (BitVec.ofNat 16 op) r.tag r.tag 0 ⟨0, p⟩)))
    (hk : ∀ q : Part, q ∉ changed → q ≠ .win → q ≠ .mbx → q ≠ .svc →
      q.same s (settle s (writeReply x r.issuer (BitVec.ofNat 16 op) r.tag r.tag 0 ⟨0, p⟩))) :
    Performs c op r s p changed P := by
  obtain ⟨a, b, ss, hb, hss⟩ := begun_cases s r
  have hd : s.pow.dev = .run := by
    have := hr.1
    simp only [gulcyReady, Bool.and_eq_true, beq_iff_eq] at this
    exact this.1.1.2
  have hfin := finish_settled hset r.issuer hpx (BitVec.ofNat 16 op) r r.tag 0 ⟨0, p⟩
  refine ⟨_, hx, ?_, ?_, ?_⟩
  all_goals rw [command_taken hr, hf]
  · apply finish_replied
    · rw [hmbx]; exact hr.2.2.2.2.2.2.1
    · rw [hwin, hb]
    · exact hspine
    · rw [hdev]; exact Or.inr hd
    · exact hpx
    · intro k _
      rw [hsvc, hb]
      obtain ⟨u, n, hu⟩ := hss k
      simp only [hu]
  · simp only [okWith]; rw [hfin]; exact hP
  · simp only [okWith]; rw [hfin]
    intro q hq
    by_cases h1 : q = .win
    · subst h1
      obtain ⟨h, m, cp, e, _⟩ := writeReply_cases x r.issuer hpx (BitVec.ofNat 16 op) r.tag r.tag 0 ⟨0, p⟩
      simp only [Part.same, settle_win]
      rw [e, hwin, hb]
    · by_cases h2 : q = .mbx
      · subst h2
        obtain ⟨h, m, cp, e, hm⟩ := writeReply_cases x r.issuer hpx (BitVec.ofNat 16 op) r.tag r.tag 0 ⟨0, p⟩
        rw [hmbx] at e hm
        have hslot : replySlot x = replySlot s := by simp only [replySlot]; rw [hwin, hb]
        rw [hslot] at hm
        simp only [Part.same, settle_mbx]
        rw [e]
        exact ⟨rfl, fun y hy => hm y hr.2.2.2.2.2.2.1 hy⟩
      · by_cases h3 : q = .svc
        · subst h3
          obtain ⟨h, m, cp, e, _⟩ := writeReply_cases x r.issuer hpx (BitVec.ofNat 16 op) r.tag r.tag 0 ⟨0, p⟩
          simp only [Part.same, settle_svc]
          rw [e, hsvc, hb]
          refine ⟨rfl, fun k => ?_⟩
          obtain ⟨u, n, hu⟩ := hss k
          simp only [Fin.getElem_fin, hu]
        · exact hk q hq h1 h2 h3

end Sys2Proof.Machine
end

