-- ==== Sys2Proof/Tests/Slice0.lean ====
section
/-! SUPPORT. Tests of the model, and the small states they run on: a device in RUN with one line of every action in its Mould. -/

namespace Sys2Proof.Tests
open Sys2Proof.Machine

/-- Every domain as its condition has it. -/
def settled (s : State) : State :=
  s.modPow fun p => { p with domains := Vector.ofFn fun i : Fin 50 => domWanted s (i.val + 1) }

theorem settled_wanted (s : State) (d : Nat) : domWanted (settled s) d = domWanted s d := by
  apply domWanted_congr <;>
    simp only [settled, modPow_pow, modPow_paths, modPow_seq, modPow_svc, modPow_ven, modPow_scan, modPow_test, modPow_time]

theorem settled_settled (s : State) : DomainsSettled (settled s) := by
  intro i
  rw [settled_wanted]
  simp only [domOn, settled, modPow_pow, List.headD_eq_head?_getD]
  simp

/-- A line of the test Mould: the first 25 µs of every sheet. -/
def tl (action : Nat) (target : Byte) (operand : BitVec 32) : Line :=
  { start := 0, duration := 3125, action, target, period := 0, phase := 0, second := false, cont := false, operand }

/-- The lines of a path table. -/
def pathLines : List Line :=
  [tl 0x60 0x80 0, tl 0x61 0x80 0, tl 0x62 0x80 0xFFFF, tl 0x63 0x80 0, tl 0x64 0x80 1, tl 0x65 0x80 1, tl 0x66 0x80 0, tl 0x67 0x80 0]

/-- A Mould with one line of every action. -/
def fullMould : Mould :=
  { imageId := 1, sheetN := 8, svcMode := 2, modes := Vector.replicate 4 0, rates := Vector.replicate 4 0
    tables := #v[[tl 0x10 0 0, tl 0x11 15 0, tl 0x12 0 0, tl 0x13 0 0, tl 0x14 0 0, tl 0x10 0 0], pathLines, pathLines, pathLines, pathLines,
      [tl 0x40 3 0, tl 0x41 0x0F 0, tl 0x42 2 0, tl 0x43 0 0], [tl 0x50 3 2, tl 0x51 3 0, tl 0x52 3 3, tl 0x53 3 0], [tl 0x30 0 0],
      [tl 0x20 0 0, tl 0x21 0 0, tl 0x22 0 0]] }

/-- A line of the test Mould by table and index. -/
def lineAtIdx (t i : Nat) : Line := ((vget fullMould.tables t)[i]?).getD (tl 0 0 0)

/-- A state in RUN, Gulcy at work, sheets running, a work window open. -/
def base : State :=
  { State.reset with
    pow := { State.reset.pow with dev := .run }, cpu := { State.reset.cpu with running := true }
    win := { State.reset.win with sheets := true, devState := 3 }
    seq := { State.reset.seq with
      active := some fullMould, stopped := false, firstDue := false, running := [{ table := 0, idx := 5, tokens := true, acts := true }] } }

/-- `base` changed, every domain as its condition then has it. -/
def rs (f : State → State) : State := settled (f base)

/-- `base`, settled. -/
def w : State := settled base

/-- A command of the two-wire side. -/
def rq (len : Nat) (payload : List Byte) : Req := { issuer := .twoWire, tag := 7, len := BitVec.ofNat 8 len, payload }

/-- The state at the start of a sheet's first tick. -/
def begin0 (s : State) : State := elapseTo (tickStamp s 0) s

/-- The state when the test Mould's lines end. -/
def end0 (s : State) : State := elapseTo (tickStamp s 3125) s

/-- A state with bus requests seen. -/
def asked (s : State) : State := { s with ven := { s.ven with breq := 8 } }

theorem ready_of (s : State) (r : Req) (h : (gulcyReady (settled s) && replyRoom (settled s) r.issuer &&
    (settled s).mbx.arrived.isEmpty && (settled s).mbx.owed.isEmpty && (r.issuer != .twoWire || (settled s).win.owner == 0) &&
    (r.issuer == .twoWire || present (settled s) 4) && Mem.wf (settled s).mbx.mem) = true) : Ready (settled s) r := by
  simp only [Bool.and_eq_true, Bool.or_eq_true, List.isEmpty_iff, bne_iff_ne, beq_iff_eq] at h
  obtain ⟨⟨⟨⟨⟨⟨h1, h2⟩, h3⟩, h4⟩, h5⟩, h6⟩, h7⟩ := h
  exact ⟨h1, h2, h3, h4, fun k => h5.resolve_left fun n => n k, fun n => h6.resolve_left n, h7, settled_settled s⟩

theorem line_begins {s : State} {t : Fin 9} {idx action : Nat} {l : Line} (h : lineNow s t.val idx = some l ∧ l.action = action ∧
    s.seq.running.any (fun r => r.table == t && r.idx == idx) = false ∧ l.start = 0 ∧ scanOff (begin0 s) t.val l = false ∧
    lateLine (begin0 s) t l = false ∧ (∀ i ∈ destinations { table := t.val, index := idx, line := l }, present (begin0 s) i = true) ∧
    (namedIslands { table := t.val, index := idx, line := l } = [] ∨
      ∃ i ∈ namedIslands { table := t.val, index := idx, line := l }, present (begin0 s) i = true) ∧
    missCause (begin0 s) action = none) : LineBegins s (begin0 s) t idx action l := by
  obtain ⟨h1, h2, h3, h4, h5, h6, h7, h8, h9⟩ := h
  exact ⟨h1, h2, h3, by rw [h4]; rfl, h5, h6, h7, h8, h9⟩

/-- An event entry. -/
def entry0 : EventEntry := { code := 0x0C10, seq := 0, count := 1, data := [1], stamp := 0 }

/-- A PTP message the clock supports: a one-step Sync over Ethernet. -/
def msg0 : PtpMsg :=
  { udp := false, tagged := false, kind := .syncOneStep, domain := 0, clock := 5, seqId := 1, logInterval := 0, rxStamp := 0, origin := 0
    prio1 := 0, clockClass := 0, accuracy := 0, variance := 0, prio2 := 0, grandmaster := 5, steps := 0, ptpScale := true, utcOffset := 37
    utcValid := true, leap61 := false, leap59 := false }

/-- A read of one byte that the bridge holds for session 3. -/
def rec0 (wait : Nat) (onBus : Bool) : Rec :=
  { cls := .np, session := 3, op := 2, tag := 1, patience := 0, size := 1, addr := 0x0F00000000, count := 1, lease := 0, data := []
    wait, overflow := false, started := onBus, spare := false, chosen := onBus, onBus, credit := true, done := 0, got := []
    broken := false, window := none, num := 0, stale := false }

/-- The bus cycle of `rec0`. -/
def cyc0 (phase : CyclePhase) (ok : Bool) : Cycle :=
  { session := 3, window := 15, write := false, addr := 0, strobes := 1, bytes := 1, phase, ok, lanes := [0], got := [5]
    diffs := (0, 0), lineOver := false, cfg := 0, data := [], began := 0, answered := none }

/-- The bytes of a template of kind `k` on line 3, four bytes long where it matches, two bytes where it is sent. -/
def tplBytes (k : Nat) : List Byte :=
  [BitVec.ofNat 8 k, 3, 0, 0, 0, 0, 0, 0, 0, 0, 0, 0, 0, 0, 0, 4, 0, 0, 1, 0, 0, 50, 2, 0, 0x41, 0x42] ++ List.replicate 38 0

/-- A template of kind `k`, numbered as its kind. -/
def tpl (k : Nat) : Template := { id := k, bytes := tplBytes k, passed := 0, failed := 0, age := 0 }

/-- A defined input signal. -/
def sig0 : Signal := { id := 0, bytes := [0x80, 1, 0, 0, 8] ++ List.replicate 11 0, value := 0, flags := 0, age := 0 }

/-- A defined output signal of template 3. -/
def sigOut : Signal := { id := 511, bytes := [0xC0, 3, 0, 0, 8, 0, 0, 0, 1] ++ List.replicate 7 0, value := 0, flags := 0, age := 0 }

/-- A Mould image of one WORK line, without its check. -/
def imageBody : List Byte :=
  [0x4D, 0x4F, 0x55, 0x4C, 3, 96, 0, 0, 8, 0, 0, 0, 0, 0, 0, 116, 0, 5] ++ List.replicate 39 0 ++ [1] ++ List.replicate 38 0 ++
  [0, 0, 0, 0, 0x0C, 0x35, 0x10] ++ List.replicate 9 0

/-- The image in the RAM image store. -/
def imageRam : Mem := Mem.writeAll [] 0 (imageBody ++ be 4 (crc32 imageBody))

/-- A good mark code: whole second 0, its CRC-8 in place. -/
def chainWord : BitVec 80 := BitVec.ofNat 80 (crc8 (List.replicate 9 0)).toNat

/-! ### Well-formedness: an ill-formed term for each check, and a well-formed one -/

/-- A measurement of no correction. -/
def meas0 : Measured := { sumSq := 0, transitions := 1000, targets := [] }

/-- A scan frame of some bytes, after a long idle, without parity errors on a line with PARITY 0. -/
def frame0 (b : List Byte) : ScanFrame :=
  { chars := b.map fun x => { data := BitVec.ofNat 9 x.toNat, parity := false, stop1 := true, stop2 := true }, bits := [], idle := 40
    vIdle := none, first := false, cut := false, vMark := 5000, vSpace := 100 }

theorem test_wf_command_length : Instr.wf (.claim { issuer := .twoWire, tag := 0, len := 57, payload := [] }) = false := by decide
theorem test_wf_command_payload :
    Instr.wf (.timersSet { issuer := .twoWire, tag := 0, len := 56, payload := List.replicate 57 0 }) = false := by decide +kernel
theorem test_wf_register_write_none : Instr.wf (.windowRegisterWrite 0x1E []) = false := by decide
theorem test_wf_register_write_six : Instr.wf (.windowRegisterWrite 0x1E (List.replicate 6 0)) = false := by decide
theorem test_wf_mailbox_pointer : Instr.wf (.mailboxPointerSet []) = false ∧ Instr.wf (.mailboxPointerSet [0, 0, 0]) = false := by decide
theorem test_wf_line_index :
    Instr.wf (.lineEnd 0 4096 false) = false ∧ Instr.wf (.workLine 4096 false) = false ∧ Instr.wf (.storeLine 4096) = false ∧
    Instr.wf (.servoLine 256) = false ∧ Instr.wf (.txLine 512) = false ∧ Instr.wf (.cycleLine 2048) = false ∧
    Instr.wf (.pollLine ⟨1024, none⟩) = false ∧ Instr.wf (.kerfLine 0 512) = false := by decide
theorem test_wf_telem_samples : Instr.wf (.telemLine 0 (List.replicate 17 0)) = false := by decide
theorem test_wf_scan_frame : Instr.wf (.scanFrameEnd 0 (frame0 (List.replicate 258 0))) = false ∧
    Instr.wf (.scanFrameEnd 0 { frame0 [] with bits := List.replicate 2469 true }) = false := by decide +kernel
theorem test_wf_transitions : Instr.wf (.measurementClose 0 { meas0 with transitions := 1001 }) = false := by decide
theorem test_wf_island : Instr.wf (.islandClockAbsent 7) = false ∧ Instr.wf (.islandClockReturned 12) = false := by decide
theorem test_wf_preset : Instr.wf (.eqPhaseEntry 0 2 [11]) = false ∧ Instr.wf (.complianceEntry 0 0 11) = false := by decide
theorem test_wf_good :
    Instr.wf (.measurementClose 0 meas0) = true ∧ Instr.wf (.islandClockAbsent 63) = true ∧ Instr.wf (.lineEnd 5 2047 false) = true ∧
    Instr.wf (.windowRegisterWrite 0x1E [1, 2, 3, 4, 5]) = true ∧ Instr.wf (.scanFrameEnd 0 (frame0 (List.replicate 257 0))) = true ∧
    Instr.wf (.claim { issuer := .twoWire, tag := 0, len := 56, payload := List.replicate 56 0 }) = true := by decide +kernel

/-! ### What the statements about every step suppose -/

/-- A state that meets the hypotheses of `StepsKeepMemoriesAndDomains`. -/
theorem hypotheses_steps_keep_memories_and_domains :
    ∃ s : State, s.memoriesWf ∧ DomainsSettled s ∧ ∃ t, step s = .next t :=
  ⟨w, ⟨by decide, by decide, by decide, by decide, by decide, by decide⟩, settled_settled _, _, rfl⟩

/-- Its REST line starts with REST_PEND 1. -/
def restDue : State := rs fun s => { s with win := { s.win with restPend := true } }

/-- The save of a REST entry is in progress. -/
def savingState : State := rs fun s => { s with pow := { s.pow with rest := .saving } }

set_option maxRecDepth 100000 in
/-- States and operands that meet the hypotheses of `RestOnlyInRestLines`, clause by clause. -/
theorem hypotheses_rest_only_in_rest_lines :
    (∃ (c : Instr) (s t : State), exec c s = .next t ∧ s.pow.rest ≠ .saving ∧ t.pow.rest = .saving) ∧
    (∃ (c : Instr) (s t : State), exec c s = .next t ∧ s.pow.dev ≠ .rest ∧ t.pow.dev = .rest) ∧
    (∃ (c : Instr) (s t : State) (m : Mould), exec c s = .next t ∧ s.seq.active = some m ∧
      (∀ l ∈ m.tables[(0 : Fin 9)], l.action ≠ 0x14) ∧ s.pow.rest ≠ .saving) ∧
    (∃ (s u : State) (idx : Nat) (l : Line), LineBegins s u 0 idx 0x14 l ∧ u.win.restPend = false) :=
  ⟨⟨.restLine 4 0, restDue, _, rfl, by decide, by decide +kernel⟩,
   ⟨.restCommit 0, savingState, _, rfl, by decide, by decide +kernel⟩,
   ⟨.restLine 4 0, rs fun s => { s with seq := { s.seq with active := some baseMould } }, _, baseMould, rfl, by decide +kernel,
     by decide +kernel, by decide +kernel⟩,
   ⟨w, begin0 w, 4, lineAtIdx 0 4, line_begins (by decide), by decide⟩⟩

/-! ### The spec's worked examples, one command each -/

/-- The state after some commands. -/
def go (cs : List Instr) (s : State) : State :=
  cs.foldl (fun s c => match exec c s with | .next t => t | _ => State.reset) s

/-- Two-wire PEC bytes (chapter 12). -/
theorem test_crc8 : crc8 [0x84] = 0x95 ∧ crc8 [0x84, 0x1E] = 0xB8 := by decide

/-- Neither strap pulled high: management address number 1 (chapter 12). -/
theorem test_straps : (go [.resetRelease ⟨.low, .float, 1, 2⟩] State.reset).win.maddrN = 1 := by decide +kernel

/-- The ring example's state: both rings at index 2 of CMD and RPL (chapter 13). -/
def ringState : State :=
  rs fun s => { s with
    win := { s.win with cmdHead := 0x103, cmdTail := 0x102, rplHead := 0x102, rplTail := 0x102 }
    mbx := { s.mbx with mem := Mem.writeAll [] 0x80 [0x01, 0x03, 0x00, 0x31], arrived := [] } }

/-- The WORK line answers the ring command: CMD_IDX and RPL_IDX as in the worked example (chapter 13). -/
theorem test_ring_command :
    (fun t => (windowRead t 5, Mem.readAll t.mbx.mem 0x1080 4)) (go [.cmdHeadDoorbell 0x0103000000, .workLine 0 false]
      { ringState with win := { ringState.win with cmdHead := 0x102 } }) = (0x0103010200, [0x01, 0x03, 0x00, 0x31]) := by decide +kernel

/-- Session 0 at epoch 5 (chapter 13). -/
def claimState : State :=
  rs fun s => { s with svc := { s.svc with
    mode := 2, sessions := s.svc.sessions.set 0 { addr := some 0x02574E000001, epoch := 5, known := true, seqKnown := true } } }

/-- CLAIM by session 0 at epoch 5, then EMERG RECLAIM (chapter 13). -/
theorem test_claim :
    (fun t => (ownReg t.win, ownReg (go [.emergReclaim 0x5A40000000] t).win)) (go [.claim { issuer := .session 0, tag := 0x40, len := 2, payload := [0xFF, 0] }]
      claimState) = (0x2140000000, 0x1000000000) := by decide +kernel

/-- A read command of session 0 and its cancellation, arrived in one window (chapter 13). -/
def cancelState : State :=
  rs fun s => { s with
    svc := { s.svc with
      mode := 2, link := true, sessions := s.svc.sessions.set 0 { addr := some 0x02574E000001, known := true, seqKnown := true } }
    mbx := { s.mbx with arrived :=
      [{ issuer := .session 0, body := some (0x0103, { issuer := .session 0, tag := 0x52, len := 0, payload := [] }), rtag := 0x52, lat := 0,
         answered := false, disowned := false },
       { issuer := .session 0, body := some (0x0102, { issuer := .session 0, tag := 0x53, len := 2, payload := [0, 0x52] }), rtag := 0x53, lat := 0,
         answered := false, disowned := false }] } }

/-- The cancelled command is answered CANCELLED_UNSTARTED, the CANCEL after it OK (chapter 13). -/
theorem test_cancel_in_one_window :
    (go [.workLine 0 false] cancelState).svc.cpl.map (fun o => (num o.bytes 10 2, num o.bytes 13 1)) = [(0x52, 4), (0x53, 0)] := by decide +kernel

/-- Path 0 at 16 GT/s, one receiver side's eye as in the worked example (chapter 8). -/
def burstState : State :=
  rs fun s => { s with
    paths := Vector.replicate 4 { cfg := 0x3120F42400, st := .active, ltssm := 3, rateNow := 4 }
    lanes := Vector.replicate 16 { ei := Vector.replicate 2 false, lock := Vector.replicate 2 true }
    sides := Vector.replicate 32 { resid := 800, baseline := 800, calValid := true, measUi := 5000, fresh := false }
    seq := { s.seq with running := [{ table := 1, idx := 0, tokens := true, acts := true }] } }

/-- A residual of 3200 is within the gate, 5200 is not and raises an event (chapter 8). -/
theorem test_burst_gate :
    ([6250000, 10156250].map fun e => (fun t : State => (t.sides[7].resid, t.sides[7].gated, t.win.evtHead))
      (go [.measurementClose 7 { sumSq := e, transitions := 500, targets := [] }] burstState)) = [(3200, false, 0), (5200, true, 1)] := by decide +kernel

/-- The AI-16 window's read taps at `tap`, edges where a VCAL line finds them (chapters 8 and 10). -/
def vcalState (tap : R40) (e l : Int) : State := rs fun s => { s with
  seq := { s.seq with active := some { fullMould with tables := fullMould.tables.set 5 [tl 0x42 0 0] } }
  svc := { s.svc with mode := 2, link := true }
  ven := { s.ven with
    cfg := 0x000A020A80, win := s.ven.win.set 0 0x3000234610, tap := s.ven.tap.set 0 tap
    early := Vector.replicate 64 e, late := Vector.replicate 64 l, reads := Vector.replicate 64 16 } }

/-- The AI-16 taps move from 16 to 17 and from 17 to 18, and stay where the window is centred (chapter 8). -/
theorem test_vcal_moves :
    ([(0x4104104108, (-9 : Int), (13 : Int)), (0x4104114108, -10, 12), (0x4104124108, -11, 11)].map fun x =>
      (go [.vcalLine 0] (vcalState x.1 x.2.1 x.2.2)).ven.tap[0]) = [0x4104114108, 0x4104124108, 0x4104124108] := by decide +kernel

/-- Pages of a bank erased, and of a Mould image written (chapters 14 and 15). -/
theorem test_store_steps : eraseSteps 2097152 = 307808 ∧ mouldSteps 6948 = 2040 := by decide

/-- A Mould may be activated at the boundary of a later sheet, not of the running one (chapter 14). -/
theorem test_mould_activate :
    ([0x40, 0x48].map fun b => (go [.mouldActivate { issuer := .twoWire, tag := 4, len := 6, payload := [2, 0, 0, 0, 0x9C, b] }]
      (rs fun s => { s with seq := { s.seq with sheet := 0x9C40 }, store := { s.store with ram := imageRam, ramLen := 116 } })).seq.shadow.isSome)
      = [false, true] := by decide +kernel

/-- A path of two transparent lanes at 2.5 Gb/s, not running (chapter 14). -/
def offState : State :=
  rs fun s => { s with seq := { s.seq with active := some { fullMould with modes := #v[1, 5, 0, 0], rates := #v[2500000, 3125000, 0, 0] } } }

/-- PROTO_SET, PATH_SET and PIN_SET of P1L0 take their values (chapter 14). -/
theorem test_bring_up :
    (fun t : State => (t.paths[1].lineCfg, t.paths[1].cfg)) (go [.protoSet { issuer := .twoWire, tag := 1, len := 7, payload := [1, 2, 0x80, 0, 0, 0, 0] },
      .pathSet { issuer := .twoWire, tag := 2, len := 6, payload := [1, 0xA1, 0x20, 0x2F, 0xAF, 8] }] offState) = (0x8000000000, 0xA1202FAF08) := by decide +kernel

/-- The AI-16 bridge of the worked example, its CYCLE line reserved for session 0 (chapter 9). -/
def aiState : State := rs fun s => { s with
  svc := { s.svc with
    mode := 2, link := true
    sessions := s.svc.sessions.set 0 { addr := some 0x02574E000001, epoch := 5, known := true, seqKnown := true, ackSeq := 0x130 } }
  ven := { s.ven with cfg := 0x000A020A80, base := s.ven.base.set 0 0x0000A00000, win := s.ven.win.set 0 0x3000234610 }
  seq := { s.seq with active := some { fullMould with tables := (fullMould.tables.set 5 [tl 0x40 0 0, tl 0x40 0x0F 0]).set 7 [tl 0x30 0 0] } } }

/-- The frame of the worked example: a write of 0x04 at 0x100 and a read of 0x104 (chapter 9). -/
def aiFrame : List Byte :=
  be 6 aiState.store.eui48.toNat ++
  [0x02, 0x57, 0x4E, 0, 0, 1, 0x88, 0xB5, 1, 5, 2, 0, 1, 0x31, 0, 0, 0, 0, 0, 0, 0, 0, 0, 0,
   1, 1, 0, 0x14, 0, 0x21, 0, 0, 0, 0, 0, 1, 0, 0, 0, 1, 4, 0, 0, 0,
   2, 1, 0, 0x10, 0, 0x22, 3, 0, 0, 0, 0, 1, 4, 0, 0, 1]

/-- Both records are accepted: PW credits 8 to 7, NP credits 4 to 3 (chapter 9). -/
theorem test_frame_records :
    (fun t : State => (t.svc.recs.map fun r => (r.tag, r.addr, r.count, r.patience), available t.svc.sessions[0] 0, available t.svc.sessions[0] 1))
      (go [.frameReceived true aiFrame] aiState) = ([(0x21, 0x100, 1, 0), (0x22, 0x104, 1, 3)], 7, 3) := by decide +kernel

/-- The session-0 line runs the write at 0xA100 (chapters 9 and 10). -/
theorem test_cycle_line :
    (go [.frameReceived true aiFrame, .cycleLine 0] aiState).ven.cycle.map (fun c => (c.addr, c.strobes, c.write)) = some (0xA100, 1, true) := by decide +kernel

/-- Bytes of a list of 64 set. -/
def tb (l : List (Nat × Byte)) : List Byte := l.foldl (fun b p => b.set p.1 p.2) (List.replicate 64 0)

/-- The SC-4's poll running on line 2, its templates and signals as in the worked example (chapter 11). -/
def scState : State := rs fun s => { s with
  svc := { s.svc with mode := 2, link := true, sessions := s.svc.sessions.set 0 { addr := some 0x02574E000001 } }
  seq := { s.seq with sheet := 0x4E2A }
  scan := { s.scan with
    lines := s.scan.lines.set 2 { cfg := 0x908C4009C4, act := some (.poll 2 3 true) }
    templates := [{ id := 2, bytes := tb [(0, 2), (1, 2), (18, 3), (21, 4), (22, 1), (24, 0x92)], passed := 0, failed := 0, age := 0 },
      { id := 3, bytes := tb [(0, 1), (1, 2), (15, 2)], passed := 0, failed := 0, age := 5 }]
    signals := [{ id := 40, bytes := [0xB0, 3, 0, 4, 0x0C, 0, 0, 2, 0x8F, 0x5C, 0x29, 0, 0, 1, 0x40, 0], value := 0, flags := 0, age := 9 },
      { id := 41, bytes := [0x80, 3, 0, 0, 1, 0, 1, 0, 0, 0, 0, 0, 0, 0, 0, 0], value := 0, flags := 0, age := 9 }] } }

/-- The answer 0x82 0x47 gives signal 40 the value 0x3B852 and signal 41 the value 1 (chapter 11). -/
theorem test_poll_answer :
    ((go [.scanFrameEnd 2 (frame0 [0x82, 0x47])] scState).scan.signals.map fun x => (x.value, x.flags))
      = [(0x3B852, 0x80), (0x10000, 0x80)] := by decide +kernel

end Sys2Proof.Tests
end

