-- ==== Sys2Proof/Tests/Hypotheses.lean ====
section
/-! SUPPORT. For every statement with hypotheses, states and operands that meet them together, clause by clause. -/

namespace Sys2Proof.Tests
open Sys2Proof.Machine

set_option maxRecDepth 100000 in
/-- States and operands that meet the hypotheses of `IdleStepTicksAndEveryStepCompletes`, clause by clause. -/
theorem hypotheses_idle_step_ticks_and_every_step_completes :
    (∃ (s : State), s.pending = []) :=
  ⟨w, by decide⟩

set_option maxRecDepth 100000 in
/-- States and operands that meet the hypotheses of `EventsAreRecorded`, clause by clause. -/
theorem hypotheses_events_are_recorded :
    (∃ (data : List Byte), data.length ≤ 14) ∧
    (∃ (code : Nat) (data : List Byte), data.length ≤ 14 ∧ limitOf code data = .none) ∧
    (∃ (s : State) (code : Nat) (data : List Byte) (k : SessionId), data.length ≤ 14 ∧ limitOf code data = .none ∧ domOn s 44 = true ∧ s.svc.sessions[k].addr.isSome = true ∧ s.svc.evt.length ≤ 12 ∧ (code = 0x0608 → data.head? = some (BitVec.ofNat 8 k.val)) ∧ (code ≠ 0x0608 → s.svc.sessions[k].mask.getLsbD (code / 256 - 1) = true)) ∧
    (∃ (s : State) (code : Nat) (data : List Byte), data.length ≤ 14 ∧ limitOf code data = .none ∧ logged code = true ∧ s.store.staged.length < 56) :=
  ⟨⟨[], by decide⟩,
   ⟨0x0901, [], by decide⟩,
   ⟨(rs fun s => { s with svc := { s.svc with mode := 2, sessions := Vector.replicate 4 { addr := some 0x021122334455, mask := 0xFFFF } } }), 0x0901, [], 3, by decide⟩,
   ⟨w, 0x0C10, List.replicate 14 0, by decide⟩⟩

set_option maxRecDepth 100000 in
/-- States and operands that meet the hypotheses of `CommandsAreGated`, clause by clause. -/
theorem hypotheses_commands_are_gated :
    (∃ (s : State) (r : Req) (c : Instr) (op : Nat) (need : Nat), (c, op, need) ∈ [(Instr.identGet r, 0x0103, 0), (.evtMaskSet r, 0x0104, 3), (.pathSet r, 0x0201, 6), (.pinSet r, 0x0203, 5), (.laneGet r, 0x0205, 1), (.countersGet r, 0x0208, 3), (.calGet r, 0x0301, 2), (.calCfgSet r, 0x0304, 6), (.timeGet r, 0x0401, 0), (.timeSet r, 0x0403, 10), (.mouldStatus r, 0x0504, 0), (.sessionBind r, 0x0601, 7), (.sessionGet r, 0x0605, 1), (.scanGet r, 0x0808, 4), (.powerGet r, 0x0A03, 0), (.storeGet r, 0x0B02, 0), (.logRead r, 0x0B06, 2), (.testEnable r, 0x0D01, 1)] ∧ Ready s r ∧ r.len.toNat ≠ need) ∧
    (∃ (s : State) (r : Req) (c : Instr) (op : Nat) (need : Nat), (c, op, need) ∈ [(Instr.identGet r, 0x0103, 0), (.evtMaskSet r, 0x0104, 3), (.pathSet r, 0x0201, 6), (.pinSet r, 0x0203, 5), (.laneGet r, 0x0205, 1), (.countersGet r, 0x0208, 3), (.calGet r, 0x0301, 2), (.calCfgSet r, 0x0304, 6), (.timeGet r, 0x0401, 0), (.timeSet r, 0x0403, 10), (.mouldStatus r, 0x0504, 0), (.sessionBind r, 0x0601, 7), (.sessionGet r, 0x0605, 1), (.scanGet r, 0x0808, 4), (.powerGet r, 0x0A03, 0), (.storeGet r, 0x0B02, 0), (.logRead r, 0x0B06, 2), (.testEnable r, 0x0D01, 1)] ∧ r.issuer = .twoWire ∧ s.win.owner ≠ 0 ∧ gulcyReady s = true ∧ replyRoom s r.issuer = true ∧ s.mbx.arrived = [] ∧ s.mbx.owed = [] ∧ Mem.wf s.mbx.mem = true ∧ DomainsSettled s) ∧
    (∃ (s : State) (r : Req) (c : Instr) (op : Nat) (need : Nat), (c, op, need) ∈ [(Instr.identGet r, 0x0103, 0), (.evtMaskSet r, 0x0104, 3), (.pathSet r, 0x0201, 6), (.pinSet r, 0x0203, 5), (.laneGet r, 0x0205, 1), (.countersGet r, 0x0208, 3), (.calGet r, 0x0301, 2), (.calCfgSet r, 0x0304, 6), (.timeGet r, 0x0401, 0), (.timeSet r, 0x0403, 10), (.mouldStatus r, 0x0504, 0), (.sessionBind r, 0x0601, 7), (.sessionGet r, 0x0605, 1), (.scanGet r, 0x0808, 4), (.powerGet r, 0x0A03, 0), (.storeGet r, 0x0B02, 0), (.logRead r, 0x0B06, 2), (.testEnable r, 0x0D01, 1)] ∧ gulcyReady s = false) :=
  ⟨⟨w, (rq 2 []), .evtMaskSet (rq 2 []), 0x0104, 3, by decide, ready_of _ _ (by decide), by decide⟩,
   ⟨(rs fun s => { s with win := { s.win with owner := 1 } }), (rq 1 []), .testEnable (rq 1 []), 0x0D01, 1, by decide, by decide, by decide, by decide, by decide, by decide, by decide, by decide, settled_settled _⟩,
   ⟨(rs fun s => { s with cpu := { s.cpu with running := false } }), (rq 0 []), .identGet (rq 0 []), 0x0103, 0, by decide⟩⟩

set_option maxRecDepth 100000 in
/-- States and operands that meet the hypotheses of `PathCalTimeReads`, clause by clause. -/
theorem hypotheses_path_cal_time_reads :
    (∃ (s : State) (r : Req), Ready s r ∧ r.len = 0) ∧
    (∃ (s : State) (r : Req) (p : PathId), Ready s r ∧ r.len = 1 ∧ num r.payload 0 1 = p.val) ∧
    (∃ (s : State) (r : Req) (l : LaneId), Ready s r ∧ r.len = 1 ∧ num r.payload 0 1 = l.val) ∧
    (∃ (s : State) (r : Req) (i : SideId) (set : Fin 4), Ready s r ∧ r.len = 2 ∧ num r.payload 0 1 = i.val ∧ setArg s i (num r.payload 1 1) = some set) ∧
    (∃ (s : State) (r : Req) (w : Fin 16), Ready s r ∧ r.len = 2 ∧ num r.payload 0 1 = 0 ∧ num r.payload 1 1 = w.val) ∧
    (∃ (s : State) (r : Req) (l : Fin 4), Ready s r ∧ r.len = 2 ∧ num r.payload 0 1 = 1 ∧ num r.payload 1 1 = l.val) :=
  ⟨⟨w, (rq 0 ([])), ready_of _ _ (by decide), by decide⟩,
   ⟨w, (rq 1 ([3])), 3, ready_of _ _ (by decide), by decide⟩,
   ⟨w, (rq 1 ([15])), 15, ready_of _ _ (by decide), by decide⟩,
   ⟨w, (rq 2 ([31] ++ List.replicate 1 0)), 31, 0, ready_of _ _ (by decide), by decide⟩,
   ⟨w, (rq 2 ([0, 15])), 15, ready_of _ _ (by decide), by decide⟩,
   ⟨w, (rq 2 ([1, 3])), 3, ready_of _ _ (by decide), by decide⟩⟩

set_option maxRecDepth 100000 in
/-- States and operands that meet the hypotheses of `MouldSessionStoreReads`, clause by clause. -/
theorem hypotheses_mould_session_store_reads :
    (∃ (s : State) (r : Req) (m : Mould), Ready s r ∧ s.seq.active = some m ∧ s.seq.shadow = none ∧ r.len = 0) ∧
    (∃ (s : State) (r : Req) (m : Mould) (x : PendingMould), Ready s r ∧ s.seq.active = some m ∧ s.seq.shadow = some x ∧ r.len = 0) ∧
    (∃ (s : State) (r : Req) (k : SessionId) (m : Mould), Ready s r ∧ s.seq.active = some m ∧ r.len = 1 ∧ num r.payload 0 1 = k.val) ∧
    (∃ (s : State) (r : Req) (w : Fin 16), Ready s r ∧ r.len = 1 ∧ num r.payload 0 1 = w.val) ∧
    (∃ (s : State) (r : Req) (n : Nat), Ready s r ∧ 1 ≤ n ∧ n ≤ 4 ∧ r.len = 4 ∧ holdsPlan s r.payload = true ∧ num r.payload 3 1 = n ∧ num r.payload 2 1 + n ≤ 32 ∧ num r.payload 1 1 < s.sweep.npoints) ∧
    (∃ (s : State) (r : Req) (n : Nat), Ready s r ∧ 1 ≤ n ∧ n ≤ 5 ∧ r.len = 3 ∧ num r.payload 2 1 = n ∧ num r.payload 0 2 + n ≤ 512) ∧
    (∃ (s : State) (r : Req) (l : Fin 4), Ready s r ∧ r.len = 4 ∧ num r.payload 0 1 = 0 ∧ num r.payload 1 2 = l.val ∧ num r.payload 3 1 = 0) ∧
    (∃ (s : State) (r : Req), Ready s r ∧ r.len = 0) ∧
    (∃ (s : State) (r : Req) (e : EventEntry), Ready s r ∧ r.len = 2 ∧ (logEntries s.store)[num r.payload 0 2]? = some e) :=
  ⟨⟨w, (rq 0 ([])), fullMould, ready_of _ _ (by decide), rfl, by decide⟩,
   ⟨(rs fun s => { s with seq := { s.seq with shadow := some { mould := baseMould, source := 3, sheet := 2 } } }), (rq 0 ([])), fullMould, { mould := baseMould, source := 3, sheet := 2 }, ready_of _ _ (by decide), rfl, rfl, by decide⟩,
   ⟨w, (rq 1 ([3])), 3, fullMould, ready_of _ _ (by decide), rfl, by decide⟩,
   ⟨w, (rq 1 ([15])), 15, ready_of _ _ (by decide), by decide⟩,
   ⟨(rs fun s => { s with sweep := { s.sweep with st := 1, plan := 7, npoints := 3 } }), (rq 4 ([7, 2, 28, 4])), 4, ready_of _ _ (by decide), by decide⟩,
   ⟨w, (rq 3 ([1, 251, 5])), 5, ready_of _ _ (by decide), by decide⟩,
   ⟨w, (rq 4 ([0, 0, 3] ++ List.replicate 1 0)), 3, ready_of _ _ (by decide), by decide⟩,
   ⟨w, (rq 0 ([])), ready_of _ _ (by decide), by decide⟩,
   ⟨(rs fun s => { s with store := { s.store with log := [{ place := 0, entries := [entry0] }] } }), (rq 2 (List.replicate 2 0)), entry0, ready_of _ _ (by decide), by decide⟩⟩

set_option maxRecDepth 100000 in
/-- States and operands that meet the hypotheses of `CounterReadsClear`, clause by clause. -/
theorem hypotheses_counter_reads_clear :
    (∃ (s : State) (r : Req) (i : SideId), Ready s r ∧ r.len = 3 ∧ num r.payload 0 1 = 0 ∧ num r.payload 1 1 = i.val) ∧
    (∃ (s : State) (r : Req) (i : IslandId), Ready s r ∧ islandWf i = true ∧ r.len = 3 ∧ num r.payload 0 1 = 4 ∧ num r.payload 1 1 = i.val) ∧
    (∃ (s : State) (r : Req) (k : SessionId), Ready s r ∧ r.len = 4 ∧ num r.payload 0 1 = 0 ∧ num r.payload 1 1 = k.val) ∧
    (∃ (s : State) (r : Req) (l : Fin 4), Ready s r ∧ r.len = 4 ∧ num r.payload 0 1 = 4 ∧ num r.payload 1 1 = l.val) ∧
    (∃ (s : State) (r : Req) (i : SideId), Ready s r ∧ r.len = 2 ∧ num r.payload 0 1 = i.val) :=
  ⟨⟨w, (rq 3 ([0, 31] ++ List.replicate 1 0)), 31, ready_of _ _ (by decide), by decide⟩,
   ⟨w, (rq 3 ([4, 63] ++ List.replicate 1 0)), 63, ready_of _ _ (by decide), by decide⟩,
   ⟨w, (rq 4 ([0, 3] ++ List.replicate 2 0)), 3, ready_of _ _ (by decide), by decide⟩,
   ⟨w, (rq 4 ([4, 3] ++ List.replicate 2 0)), 3, ready_of _ _ (by decide), by decide⟩,
   ⟨w, (rq 2 ([31] ++ List.replicate 1 0)), 31, ready_of _ _ (by decide), by decide⟩⟩

set_option maxRecDepth 100000 in
/-- States and operands that meet the hypotheses of `PathSettingsTakeEffect`, clause by clause. -/
theorem hypotheses_path_settings_take_effect :
    (∃ (s : State) (r : Req) (p : PathId), Ready s r ∧ r.len = 5 ∧ num r.payload 0 1 = p.val ∧ pinLatOk (num r.payload 1 4) (pcRate s.paths[p].cfg) = true ∧ s.paths[p].st ≠ .dormant) ∧
    (∃ (s : State) (r : Req) (p : PathId) (c : R40), Ready s r ∧ r.len = 7 ∧ num r.payload 0 1 = p.val ∧ num r.payload 1 1 = 0 ∧ c = pack 40 [(fld (img r.payload 2) 39 15, 15), (fld (img r.payload 2) 13 12, 12)] ∧ pcieCfgOk c = true ∧ s.paths[p].st ≠ .dormant) ∧
    (∃ (s : State) (r : Req) (p : PathId) (c : R40), Ready s r ∧ r.len = 7 ∧ num r.payload 0 1 = p.val ∧ num r.payload 1 1 = 1 ∧ c = pack 40 [(fld (img r.payload 2) 39 30, 30)] ∧ fld c 39 38 ≠ 3 ∧ s.paths[p].st ≠ .dormant) ∧
    (∃ (s : State) (r : Req) (p : PathId), Ready s r ∧ r.len = 7 ∧ num r.payload 0 1 = p.val ∧ num r.payload 1 1 = 2 ∧ s.paths[p].st ≠ .dormant) ∧
    (∃ (s : State) (r : Req) (i : SideId), Ready s r ∧ r.len = 2 ∧ num r.payload 0 1 = i.val ∧ s.paths[pathOf i].st ≠ .dormant) ∧
    (∃ (s : State) (r : Req) (i : SideId) (set : Fin 4) (v : R40), Ready s r ∧ r.len = 7 ∧ num r.payload 0 1 = i.val ∧ setArg s i (num r.payload 1 1) = some set ∧ v = pack 40 [(fld (img r.payload 2) 33 7, 7)] ∧ txeqOk v = true ∧ s.paths[pathOf i].st ≠ .dormant ∧ ¬(pcMode s.paths[pathOf i].cfg = 1 ∧ s.paths[pathOf i].ltssm = 6) ∧ ¬(pcMode s.paths[pathOf i].cfg = 2 ∧ krTraining s.lanes[laneOf i] = true)) ∧
    (∃ (s : State) (r : Req) (p : PathId) (c : R40), Ready s r ∧ r.len = 6 ∧ num r.payload 0 1 = p.val ∧ c = img r.payload 1 ∧ pathCfgOk s p c = true ∧ s.paths[p].st ≠ .dormant ∧ (s.paths[p].formed = true → leaderOf s p = p) ∧ (∀ m ∈ bothMoulds s, ∀ q ∈ pathSetTargets s p c, pathFits m q (pcMode c) (pcRate c) = true)) :=
  ⟨⟨(rs fun s => { s with paths := Vector.replicate 4 { cfg := 0xb1000f4240 } }), (rq 5 ([3] ++ List.replicate 4 0)), 3, ready_of _ _ (by decide), by decide⟩,
   ⟨w, (rq 7 ([3, 0, 17, 63, 252] ++ List.replicate 2 0)), 3, 0x113FFC0000, ready_of _ _ (by decide), by decide, by decide, by decide, rfl, by decide⟩,
   ⟨w, (rq 7 ([3, 1, 8] ++ List.replicate 4 0)), 3, 0x0800000000, ready_of _ _ (by decide), by decide, by decide, by decide, rfl, by decide⟩,
   ⟨w, (rq 7 ([3, 2] ++ List.replicate 5 0)), 3, ready_of _ _ (by decide), by decide⟩,
   ⟨w, (rq 2 ([31] ++ List.replicate 1 0)), 31, ready_of _ _ (by decide), by decide⟩,
   ⟨w, (rq 7 ([31, 0, 1, 0, 4] ++ List.replicate 2 0)), 31, 0, 0x0100040000, ready_of _ _ (by decide), by decide, by decide, by decide, rfl, by decide⟩,
   ⟨(rs fun s => { s with seq := { s.seq with active := some { baseMould with tables := vmod baseMould.tables 0 fun _ => List.replicate 6 (tl 0x10 0 0) } } }), (rq 6 ([3, 177, 32, 15, 66, 64])), 3, 0xb1200f4240, ready_of _ _ (by decide), by decide, by decide, rfl, by decide⟩⟩

set_option maxRecDepth 100000 in
/-- States and operands that meet the hypotheses of `CalenderAndSweepSettingsTakeEffect`, clause by clause. -/
theorem hypotheses_calender_and_sweep_settings_take_effect :
    (∃ (s : State) (r : Req) (i : SideId) (set : Fin 4) (mask : Nat) (want : CalImages), Ready s r ∧ r.len = 29 ∧ num r.payload 0 1 = i.val ∧ num r.payload 1 1 ≠ 0xFF ∧ setArg s i (num r.payload 1 1) = some set ∧ mask = num r.payload 2 1 % 32 ∧ mask ≠ 0 ∧ want = cleanImages { rxeq := if mask % 2 = 1 then img r.payload 4 else s.sides[i].rxeq[set], dfeA := if mask / 2 % 2 = 1 then img r.payload 9 else s.sides[i].dfeA[set], dfeB := if mask / 4 % 2 = 1 then img r.payload 14 else s.sides[i].dfeB[set], trim := if mask / 8 % 2 = 1 then img r.payload 19 else s.sides[i].trim, soff := if mask / 16 % 2 = 1 then img r.payload 24 else s.sides[i].soff } (bit s.sides[i].trim 20) ∧ imagesOk want = true ∧ s.paths[pathOf i].st ≠ .dormant ∧ writeRefused s i set mask = false) ∧
    (∃ (s : State) (r : Req) (i : SideId) (set : Fin 4) (want : CalImages), Ready s r ∧ r.len = 29 ∧ num r.payload 0 1 = i.val ∧ num r.payload 1 1 ≠ 0xFF ∧ setArg s i (num r.payload 1 1) = some set ∧ want = cleanImages (payloadImages r.payload) (bit s.sides[i].trim 20) ∧ imagesOk want = true ∧ s.paths[pathOf i].st ≠ .dormant ∧ writeRefused s i set 31 = false) ∧
    (∃ (s : State) (r : Req) (l : List SideId) (v : R40), Ready s r ∧ r.len = 6 ∧ subjectSides (num r.payload 0 1) = some l ∧ v = img r.payload 1 ∧ 4 ≤ fld v 32 28 ∧ fld v 27 16 ≠ 0 ∧ fld v 15 12 ≠ 0 ∧ (∀ i ∈ l, s.paths[pathOf i].st ≠ .dormant)) ∧
    (∃ (s : State) (r : Req) (w : Fin 16) (v : R40), Ready s r ∧ r.len = 7 ∧ num r.payload 0 1 = 0 ∧ num r.payload 1 1 = w.val ∧ v = pack 40 [(fld (img r.payload 2) 39 3, 3)]) ∧
    (∃ (s : State) (r : Req) (l : Fin 4), Ready s r ∧ r.len = 7 ∧ num r.payload 0 1 = 1 ∧ num r.payload 1 1 = l.val) ∧
    (∃ (s : State) (r : Req) (masks : Vector Byte 4), Ready s r ∧ r.len = 18 ∧ 1 ≤ num r.payload 1 1 ∧ 1 ≤ num r.payload 2 2 ∧ num r.payload 2 2 ≤ 256 ∧ num r.payload 14 4 ≠ 0 ∧ isBoundary (sheetN s) (num r.payload 4 10) = true ∧ masks = (Vector.ofFn fun p : Fin 4 => by1 (num r.payload (14 + p.val) 1)) ∧ (∀ i : SideId, bit masks[pathOf i] (i.val % 8) = true → laneOn s (laneOf i) = true) ∧ s.sweep.st ≠ 2 ∧ s.sweep.st ≠ 3) ∧
    (∃ (s : State) (r : Req) (k : Nat) (first : Nat) (ps : List (Nat × Int × Int)), Ready s r ∧ 1 ≤ k ∧ k ≤ 26 ∧ num r.payload 2 1 = k ∧ num r.payload 1 1 = first ∧ r.len.toNat = 4 + 2 * k ∧ ps = pointPairs first k (r.payload.drop 4) ∧ (∀ x ∈ ps, -64 ≤ x.2.1 ∧ x.2.1 ≤ 64 ∧ -127 ≤ x.2.2) ∧ first + k ≤ s.sweep.npoints ∧ s.sweep.st = 1 ∧ s.sweep.plan.toNat = num r.payload 0 1) ∧
    (∃ (s : State) (r : Req), Ready s r ∧ r.len = 1 ∧ holdsPlan s r.payload = true ∧ (∀ k < s.sweep.npoints, ∃ x ∈ s.sweep.points, x.1 = k) ∧ boundaryStamp (sheetN s) (boundaryAt (sheetN s) s.seq.base.toNat + 2) < s.sweep.s0.toNat) ∧
    (∃ (s : State) (r : Req), Ready s r ∧ r.len = 1 ∧ holdsPlan s r.payload = true ∧ (s.sweep.st = 2 ∨ s.sweep.st = 3)) :=
  ⟨⟨w, (rq 29 ([31, 0, 8, 0, 0, 0, 0, 0, 0, 0, 0, 0, 0, 0, 0, 0, 0, 0, 0, 132, 34] ++ List.replicate 8 0)), 31, 0, 8, { rxeq := 0x6200000000, dfeA := 0, dfeB := 0, trim := 0x8422000000, soff := 0 }, ready_of _ _ (by decide), by decide, by decide, by decide, by decide, rfl, by decide⟩,
   ⟨w, (rq 29 ([31, 0, 0, 0, 98, 0, 0, 0, 0, 0, 0, 0, 0, 0, 0, 0, 0, 0, 0, 132, 34] ++ List.replicate 8 0)), 31, 0, { rxeq := 0x6200000000, dfeA := 0, dfeB := 0, trim := 0x8422000000, soff := 0 }, ready_of _ _ (by decide), by decide⟩,
   ⟨w, (rq 6 ([255, 127, 0, 64, 64] ++ List.replicate 1 0)), List.finRange 32, 0x7F00404000, ready_of _ _ (by decide), by decide, by decide, rfl, by decide⟩,
   ⟨w, (rq 7 ([0, 15, 65, 4, 16, 65, 8])), 15, 0x4104104108, ready_of _ _ (by decide), by decide, by decide, by decide, rfl⟩,
   ⟨w, (rq 7 ([1, 3] ++ List.replicate 5 0)), 3, ready_of _ _ (by decide), by decide⟩,
   ⟨(rs fun s => { s with paths := Vector.replicate 4 { cfg := 0xb1000f4240 } }), (rq 18 ([7, 1, 1, 0, 0, 0, 0, 0, 0, 0, 0, 0, 0, 0, 0, 0, 0, 1])), #v[0, 0, 0, 1], ready_of _ _ (by decide), by decide⟩,
   ⟨(rs fun s => { s with sweep := { s.sweep with st := 1, plan := 7, npoints := 256 } }), (rq 56 ([7, 230, 26] ++ List.replicate 53 0)), 26, 230, pointPairs 230 26 (List.replicate 52 0), ready_of _ _ (by decide), by decide⟩,
   ⟨(rs fun s => { s with sweep := { s.sweep with st := 1, plan := 7, npoints := 1, points := [(0, 0, 0)], s0 := BitVec.allOnes 80 } }), (rq 1 ([7])), ready_of _ _ (by decide), by decide⟩,
   ⟨(rs fun s => { s with sweep := { s.sweep with st := 3, plan := 7 } }), (rq 1 ([7])), ready_of _ _ (by decide), by decide⟩⟩

set_option maxRecDepth 100000 in
/-- States and operands that meet the hypotheses of `TimeSettingsTakeEffect`, clause by clause. -/
theorem hypotheses_time_settings_take_effect :
    (∃ (s : State) (r : Req) (v : R40), Ready s r ∧ r.len = 5 ∧ v = pack 40 [(fld (img r.payload 0) 39 11, 11)] ∧ fld (img r.payload 0) 27 20 ≠ 0) ∧
    (∃ (s : State) (r : Req), Ready s r ∧ r.len = 10 ∧ timeSource s.time = 0) ∧
    (∃ (s : State) (r : Req), Ready s r ∧ r.len = 10 ∧ timeSource s.time = 2) ∧
    (∃ (s : State) (r : Req) (w : Fin 5), Ready s r ∧ r.len = 5 ∧ num r.payload 0 1 = w.val ∧ delayOk w.val (signedOf 32 (num r.payload 1 4)) = true) ∧
    (∃ (s : State) (r : Req), Ready s r ∧ r.len = 4 ∧ ptpIpOk (num r.payload 0 4) = true) ∧
    (∃ (s : State) (r : Req), Ready s r ∧ r.len = 2 ∧ timeSource s.time = 0) :=
  ⟨⟨w, (rq 5 ([32, 166, 64] ++ List.replicate 2 0)), 0x20A6400000, ready_of _ _ (by decide), by decide, rfl, by decide⟩,
   ⟨w, (rq 10 (List.replicate 10 0)), ready_of _ _ (by decide), by decide⟩,
   ⟨(rs fun s => { s with time := { s.time with cfg := 0xA0A6400000 } }), (rq 10 (List.replicate 10 0)), ready_of _ _ (by decide), by decide⟩,
   ⟨w, (rq 5 ([4, 0, 0, 15, 160])), 4, ready_of _ _ (by decide), by decide⟩,
   ⟨w, (rq 4 ([192, 0, 2, 1])), ready_of _ _ (by decide), by decide⟩,
   ⟨w, (rq 2 (List.replicate 2 0)), ready_of _ _ (by decide), by decide⟩⟩

set_option maxRecDepth 100000 in
/-- States and operands that meet the hypotheses of `MouldCommandsTakeEffect`, clause by clause. -/
theorem hypotheses_mould_commands_take_effect :
    (∃ (s : State) (r : Req) (off : Nat) (n : Nat), Ready s r ∧ off = num r.payload 0 3 ∧ n = num r.payload 3 1 ∧ 1 ≤ n ∧ n ≤ 52 ∧ r.len.toNat = 4 + n ∧ off + n ≤ 163840 ∧ s.store.job = none) ∧
    (∃ (s : State) (r : Req) (k : Fin 2) (m : Mould), Ready s r ∧ r.len = 1 ∧ num r.payload 0 1 = k.val ∧ s.store.job = none ∧ loaderCheck (ramBytes s) s.store.ramLen = none ∧ s.seq.active = some m ∧ storeLines m ≠ 0) ∧
    (∃ (s : State) (r : Req), Ready s r ∧ r.len = 6 ∧ num r.payload 0 1 = 3 ∧ s.seq.shadow = none ∧ conflict s baseMould = none ∧ liesAhead (img r.payload 1) s.seq.sheet = true ∧ commonStart s baseMould (img r.payload 1) = true) ∧
    (∃ (s : State) (r : Req) (bs : List Byte), Ready s r ∧ r.len = 6 ∧ num r.payload 0 1 = 2 ∧ s.seq.shadow = none ∧ bs = ramBytes s ∧ loaderCheck bs bs.length = none ∧ conflict s (toMould bs) = none ∧ liesAhead (img r.payload 1) s.seq.sheet = true ∧ commonStart s (toMould bs) (img r.payload 1) = true) ∧
    (∃ (s : State) (r : Req) (x : PendingMould), Ready s r ∧ r.len = 6 ∧ num r.payload 0 1 = 0xFF ∧ s.seq.shadow = some x) :=
  ⟨⟨w, (rq 56 ([2, 127, 204, 52] ++ List.replicate 52 0)), 163788, 52, ready_of _ _ (by decide), by decide⟩,
   ⟨(rs fun s => { s with store := { s.store with ram := imageRam, ramLen := 116 } }), (rq 1 ([1])), 1, fullMould, ready_of _ _ (by decide), by decide, by decide, by decide, by decide, rfl, by decide⟩,
   ⟨w, (rq 6 ([3, 0, 0, 0, 0, 1])), ready_of _ _ (by decide), by decide⟩,
   ⟨(rs fun s => { s with store := { s.store with ram := imageRam, ramLen := 116 } }), (rq 6 ([2, 0, 0, 0, 0, 1])), (ramBytes (rs fun s => { s with store := { s.store with ram := imageRam, ramLen := 116 } })), ready_of _ _ (by decide), by decide, by decide, by decide, rfl, by decide⟩,
   ⟨(rs fun s => { s with seq := { s.seq with shadow := some { mould := baseMould, source := 3, sheet := 2 } } }), (rq 6 ([255] ++ List.replicate 5 0)), { mould := baseMould, source := 3, sheet := 2 }, ready_of _ _ (by decide), by decide, by decide, rfl⟩⟩

set_option maxRecDepth 100000 in
/-- States and operands that meet the hypotheses of `ManagementCommandsTakeEffect`, clause by clause. -/
theorem hypotheses_management_commands_take_effect :
    (∃ (s : State) (r : Req) (new : Nat) (y : Nat), Ready s r ∧ r.len = 2 ∧ num r.payload 1 1 = y ∧ y ≤ 1 ∧ new = (if num r.payload 0 1 = 0xFF then issuerCode r.issuer else num r.payload 0 1) ∧ new ≤ 4 ∧ (∀ k : SessionId, new = k.val + 1 → s.svc.sessions[k].addr.isSome = true) ∧ (ownsRings s r.issuer = true ∨ s.win.yielding = true)) ∧
    (∃ (s : State) (r : Req), Ready s r ∧ r.len = 2 ∧ s.mbx.taken = []) ∧
    (∃ (s : State) (r : Req) (x : Taken), Ready s r ∧ r.len = 2 ∧ s.mbx.taken = [x] ∧ x.req.issuer = r.issuer ∧ x.req.tag.toNat = num r.payload 0 2 ∧ cancellable x.opcode.toNat = false) ∧
    (∃ (s : State) (r : Req) (x : Taken), Ready s r ∧ r.len = 2 ∧ s.mbx.taken = [x] ∧ x.req.issuer = r.issuer ∧ x.req.tag.toNat = num r.payload 0 2 ∧ cancellable x.opcode.toNat = true) ∧
    (∃ (s : State) (r : Req) (k : SessionId), Ready s r ∧ r.len = 3 ∧ num r.payload 0 1 = k.val ∧ s.svc.sessions[k].addr.isSome = true) ∧
    (∃ (s : State) (r : Req), Ready s r ∧ r.len = 0 ∧ s.win.coreClk = true) ∧
    (∃ (s : State) (r : Req), Ready s r ∧ r.len = 0 ∧ s.win.coreClk = false) :=
  ⟨⟨(rs fun s => { s with svc := { s.svc with sessions := Vector.replicate 4 { addr := some 0x021122334455 } } }), (rq 2 ([4, 1])), 4, 1, ready_of _ _ (by decide), by decide⟩,
   ⟨w, (rq 2 (List.replicate 2 0)), ready_of _ _ (by decide), by decide⟩,
   ⟨(rs fun s => { s with mbx := { s.mbx with taken := [{ opcode := 0x0501, req := rq 0 [], rtag := 7, lat := 0 }] } }), (rq 2 ([0, 7])), { opcode := 0x0501, req := rq 0 [], rtag := 7, lat := 0 }, ready_of _ _ (by decide), by decide⟩,
   ⟨(rs fun s => { s with mbx := { s.mbx with taken := [{ opcode := 0x0B03, req := rq 0 [], rtag := 7, lat := 0 }] } }), (rq 2 ([0, 7])), { opcode := 0x0B03, req := rq 0 [], rtag := 7, lat := 0 }, ready_of _ _ (by decide), by decide⟩,
   ⟨(rs fun s => { s with svc := { s.svc with sessions := Vector.replicate 4 { addr := some 0x021122334455 } } }), (rq 3 ([3] ++ List.replicate 2 0)), 3, ready_of _ _ (by decide), by decide⟩,
   ⟨(rs fun s => { s with win := { s.win with coreClk := true } }), (rq 0 ([])), ready_of _ _ (by decide), by decide⟩,
   ⟨w, (rq 0 ([])), ready_of _ _ (by decide), by decide⟩⟩

set_option maxRecDepth 100000 in
/-- States and operands that meet the hypotheses of `SessionCommandsTakeEffect`, clause by clause. -/
theorem hypotheses_session_commands_take_effect :
    (∃ (s : State) (r : Req) (k : SessionId) (a : Mac), Ready s r ∧ ownsRings s r.issuer = true ∧ r.len = 7 ∧ num r.payload 0 1 = k.val ∧ a = BitVec.ofNat 48 (num r.payload 1 6) ∧ a ≠ 0 ∧ bit a 40 = false) ∧
    (∃ (s : State) (r : Req) (k : SessionId), Ready s r ∧ ownsRings s r.issuer = true ∧ r.len = 1 ∧ num r.payload 0 1 = k.val) ∧
    (∃ (s : State) (r : Req) (k : SessionId) (v : Vector Nat 4), Ready s r ∧ ownsRings s r.issuer = true ∧ r.len = 5 ∧ num r.payload 0 1 = k.val ∧ v = (Vector.ofFn fun c : Fin 4 => num r.payload (1 + c.val) 1) ∧ (∀ c : Fin 4, creditSum s k c v[c] ≤ classBuffer c)) ∧
    (∃ (s : State) (r : Req) (k : SessionId), Ready s r ∧ ownsRings s r.issuer = true ∧ r.len = 3 ∧ num r.payload 0 1 = k.val ∧ num r.payload 1 2 ≠ 0) ∧
    (∃ (s : State) (r : Req) (mode : Fin 4), Ready s r ∧ ownsRings s r.issuer = true ∧ r.len = 3 ∧ num r.payload 0 1 = mode.val ∧ etypeOk (num r.payload 1 2) = true ∧ (mode = s.svc.mode ∨ ∀ m ∈ bothMoulds s, svcFits m mode.val = true)) :=
  ⟨⟨w, (rq 7 ([3, 2, 17, 34, 51, 68, 85])), 3, 0x021122334455, ready_of _ _ (by decide), by decide, by decide, by decide, rfl, by decide⟩,
   ⟨w, (rq 1 ([3])), 3, ready_of _ _ (by decide), by decide⟩,
   ⟨w, (rq 5 ([3, 8] ++ List.replicate 3 0)), 3, #v[8, 0, 0, 0], ready_of _ _ (by decide), by decide, by decide, by decide, rfl, by decide⟩,
   ⟨w, (rq 3 ([3, 0, 1])), 3, ready_of _ _ (by decide), by decide⟩,
   ⟨w, (rq 3 ([0, 136, 181])), 0, ready_of _ _ (by decide), by decide⟩⟩

set_option maxRecDepth 100000 in
/-- States and operands that meet the hypotheses of `VeneerSettingsTakeEffect`, clause by clause. -/
theorem hypotheses_veneer_settings_take_effect :
    (∃ (s : State) (r : Req) (v : R40), Ready s r ∧ r.len = 5 ∧ v = pack 40 [(fld (img r.payload 0) 39 7, 7)] ∧ venCfgOk v = true ∧ (vclkDiv v = 0 → ∀ w : Fin 16, bit (winNow s w).2 29 = false) ∧ (bit v 7 = false → s.svc.holder = none) ∧ venLineRuns s = true) ∧
    (∃ (s : State) (r : Req) (v : R40), Ready s r ∧ r.len = 5 ∧ v = pack 40 [(fld (img r.payload 0) 39 7, 7)] ∧ venCfgOk v = true ∧ (vclkDiv v = 0 → ∀ w : Fin 16, bit (winNow s w).2 29 = false) ∧ (bit v 7 = false → s.svc.holder = none) ∧ venLineRuns s = false) ∧
    (∃ (s : State) (r : Req) (w : Fin 16) (base : R40) (c : R40), Ready s r ∧ r.len = 11 ∧ num r.payload 0 1 = w.val ∧ base = pack 40 [(fld (img r.payload 1) 39 8, 8)] ∧ c = img r.payload 6 ∧ winCfgOk base c (vclkDiv (venCfgNow s)) = true ∧ lineServes s w = true) ∧
    (∃ (s : State) (r : Req) (w : Fin 16) (base : R40) (c : R40), Ready s r ∧ r.len = 11 ∧ num r.payload 0 1 = w.val ∧ base = pack 40 [(fld (img r.payload 1) 39 8, 8)] ∧ c = img r.payload 6 ∧ winCfgOk base c (vclkDiv (venCfgNow s)) = true ∧ lineServes s w = false) ∧
    (∃ (s : State) (r : Req), Ready s r ∧ r.len = 5 ∧ (∀ m : Fin 4, mapOk (fld (img r.payload 0) (15 + 8 * m.val) (8 + 8 * m.val) / 2 % 4) (fld (img r.payload 0) (15 + 8 * m.val) (8 + 8 * m.val) / 8 % 4) = true)) ∧
    (∃ (s : State) (r : Req), Ready s r ∧ r.len = 5) ∧
    (∃ (s : State) (r : Req) (off : Nat) (n : Nat), Ready s r ∧ off = num r.payload 0 2 ∧ n = num r.payload 2 1 ∧ 4 ≤ n ∧ n ≤ 52 ∧ r.len.toNat = 3 + n ∧ off % 4 = 0 ∧ n % 4 = 0 ∧ off + n ≤ 65536) :=
  ⟨⟨(rs fun s => { s with seq := { s.seq with running := [{ table := 0, idx := 5, tokens := true, acts := true }, { table := 5, idx := 0, tokens := true, acts := true }] } }), (rq 5 ([0, 10, 2, 10, 128])), 0xa020a80, ready_of _ _ (by decide), by decide, rfl, by decide⟩,
   ⟨w, (rq 5 ([0, 10, 2, 10, 128])), 0xa020a80, ready_of _ _ (by decide), by decide, rfl, by decide⟩,
   ⟨(rs fun s => { s with ven := { s.ven with serving := some (0, 15) } }), (rq 11 ([15, 0, 0, 0, 0, 0, 0, 0, 3, 70] ++ List.replicate 1 0)), 15, 0, 0x34600, ready_of _ _ (by decide), by decide, by decide, by decide, rfl, by decide⟩,
   ⟨w, (rq 11 ([15, 0, 0, 0, 0, 0, 0, 0, 3, 70] ++ List.replicate 1 0)), 15, 0, 0x34600, ready_of _ _ (by decide), by decide, by decide, by decide, rfl, by decide⟩,
   ⟨w, (rq 5 (List.replicate 5 0)), ready_of _ _ (by decide), by decide⟩,
   ⟨w, (rq 5 (List.replicate 5 0)), ready_of _ _ (by decide), by decide⟩,
   ⟨w, (rq 55 ([255, 204, 52] ++ List.replicate 52 0)), 65484, 52, ready_of _ _ (by decide), by decide⟩⟩

set_option maxRecDepth 100000 in
/-- States and operands that meet the hypotheses of `ScanSettingsTakeEffect`, clause by clause. -/
theorem hypotheses_scan_settings_take_effect :
    (∃ (s : State) (r : Req) (l : Fin 4) (c : R40), Ready s r ∧ r.len = 6 ∧ num r.payload 0 1 = l.val ∧ c = pack 40 [(fld (img r.payload 1) 39 21, 21), (fld (img r.payload 1) 16 0, 0)] ∧ scanCfgOk c = true) ∧
    (∃ (s : State) (r : Req) (id : Nat), Ready s r ∧ r.len = 34 ∧ num r.payload 0 1 = id ∧ id < 128 ∧ num r.payload 1 1 = 1) ∧
    (∃ (s : State) (r : Req) (id : Nat) (b : List Byte), Ready s r ∧ r.len = 34 ∧ num r.payload 0 1 = id ∧ id < 128 ∧ num r.payload 1 1 = 0 ∧ s.scan.staged = none ∧ b = cleanTemplate (slice r.payload 2 32 ++ (templateNow s id).drop 32) ∧ templateOk s b = true ∧ (tKind (templateNow s id) = 0 ∨ (tKind b = tKind (templateNow s id) ∧ tLine b = tLine (templateNow s id)) ∨ templateNamed s id = false)) ∧
    (∃ (s : State) (r : Req) (id : Nat) (b : List Byte), Ready s r ∧ r.len = 18 ∧ num r.payload 0 2 = id ∧ id < 512 ∧ b = cleanSignal (slice r.payload 2 16) ∧ signalOk s b = true) ∧
    (∃ (s : State) (r : Req) (id : Nat) (h : List Byte) (ms : List (BitVec 16)), Ready s r ∧ r.len = 17 ∧ num r.payload 0 1 = id ∧ id < 64 ∧ h = cleanBundle (slice r.payload 1 16) ∧ ms = stagedMembers s id (bundleNow s id).2 ∧ bundleOk s h ms = true) ∧
    (∃ (s : State) (r : Req) (id : Nat) (first : Nat) (k : Nat), Ready s r ∧ num r.payload 0 1 = id ∧ num r.payload 1 1 = first ∧ num r.payload 2 1 = k ∧ 1 ≤ k ∧ k ≤ 26 ∧ r.len.toNat = 3 + 2 * k ∧ id < 64 ∧ first ≤ 63 ∧ first + k ≤ 64) ∧
    (∃ (s : State) (r : Req) (n : Nat), Ready s r ∧ num r.payload 0 1 = 1 ∧ r.len = 8 ∧ num r.payload 1 2 = n ∧ isOutput s n = true) :=
  ⟨⟨w, (rq 6 ([3, 16, 12, 64, 39, 16])), 3, 0x100C402710, ready_of _ _ (by decide), by decide, by decide, rfl, by decide⟩,
   ⟨w, (rq 34 ([127, 1] ++ List.replicate 32 0)), 127, ready_of _ _ (by decide), by decide⟩,
   ⟨w, (rq 34 ([127] ++ List.replicate 33 0)), 127, List.replicate 64 0, ready_of _ _ (by decide), by decide, by decide, by decide, by decide, by decide, rfl, by decide⟩,
   ⟨w, (rq 18 ([1, 255] ++ List.replicate 16 0)), 511, List.replicate 16 0, ready_of _ _ (by decide), by decide, by decide, by decide, rfl, by decide⟩,
   ⟨(rs fun s => { s with scan := { s.scan with signals := [sig0] } }), (rq 17 ([63, 64, 1] ++ List.replicate 14 0)), 63, [0x40, 1] ++ List.replicate 14 0, List.replicate 64 0, ready_of _ _ (by decide), by decide, by decide, by decide, rfl, rfl, by decide⟩,
   ⟨w, (rq 55 ([63, 38, 26] ++ List.replicate 52 0)), 63, 38, 26, ready_of _ _ (by decide), by decide⟩,
   ⟨(rs fun s => { s with scan := { s.scan with signals := [sigOut] } }), (rq 8 ([1, 1, 255] ++ List.replicate 5 0)), 511, ready_of _ _ (by decide), by decide⟩⟩

set_option maxRecDepth 100000 in
/-- States and operands that meet the hypotheses of `PowerCommandsTakeEffect`, clause by clause. -/
theorem hypotheses_power_commands_take_effect :
    (∃ (s : State) (r : Req), Ready s r ∧ r.len = 11 ∧ (∀ p : PathId, num r.payload (2 * p.val) 2 ≤ 60000) ∧ (num r.payload 8 3 = 0 ∨ (10 ≤ num r.payload 8 3 ∧ num r.payload 8 3 ≤ 600000))) ∧
    (∃ (s : State) (r : Req) (mask : Nat), Ready s r ∧ r.len = 1 ∧ mask = num r.payload 0 1 % 16 ∧ mask ≠ 0) ∧
    (∃ (s : State) (r : Req), Ready s r ∧ r.len = 1 ∧ num r.payload 0 1 % 4 ≠ 3) ∧
    (∃ (s : State) (r : Req), Ready s r ∧ r.len = 1 ∧ num r.payload 0 1 = 0x5A ∧ ownsRings s r.issuer = true) :=
  ⟨⟨w, (rq 11 ([234, 96, 234, 96, 234, 96, 234, 96, 9, 39, 192])), ready_of _ _ (by decide), by decide⟩,
   ⟨w, (rq 1 ([15])), 15, ready_of _ _ (by decide), by decide, rfl, by decide⟩,
   ⟨w, (rq 1 ([2])), ready_of _ _ (by decide), by decide⟩,
   ⟨w, (rq 1 ([90])), ready_of _ _ (by decide), by decide⟩⟩

set_option maxRecDepth 100000 in
/-- States and operands that meet the hypotheses of `StoreCommandsStartStores`, clause by clause. -/
theorem hypotheses_store_commands_start_stores :
    (∃ (s : State) (r : Req) (m : Mould), Ready s r ∧ r.len = 1 ∧ s.store.job = none ∧ s.seq.active = some m ∧ storeLines m ≠ 0) ∧
    (∃ (s : State) (r : Req) (m : Mould) (bank : Nat) (len : Nat), Ready s r ∧ r.len = 8 ∧ num r.payload 0 1 = bank ∧ bank ≤ 1 ∧ num r.payload 1 3 = len ∧ len % 256 = 0 ∧ 1 ≤ len ∧ len ≤ 2097152 ∧ s.store.job = none ∧ (bank == 1) ≠ s.win.bootBank ∧ s.seq.active = some m ∧ storeLines m ≠ 0 ∧ ownsRings s r.issuer = true) ∧
    (∃ (s : State) (r : Req) (bank : Bool) (len : Nat) (received : Nat) (programmed : Nat) (made : Nat) (back : Nat) (n : Nat) (crc : BitVec 32) (sum : BitVec 32), Ready s r ∧ num r.payload 3 1 = n ∧ 1 ≤ n ∧ n ≤ 52 ∧ r.len.toNat = 4 + n ∧ s.store.job = some (.fwOpen bank len crc received programmed made sum false back false) ∧ num r.payload 0 3 = received ∧ received + n ≤ len ∧ received - 256 * programmed + n ≤ 2048 ∧ ownsRings s r.issuer = true) ∧
    (∃ (s : State) (r : Req) (m : Mould) (bank : Bool) (len : Nat) (received : Nat) (programmed : Nat) (made : Nat) (back : Nat) (crc : BitVec 32) (sum : BitVec 32), Ready s r ∧ r.len = 1 ∧ s.store.job = some (.fwOpen bank len crc received programmed made sum false back false) ∧ num r.payload 0 1 = b2n bank ∧ len ≤ received ∧ s.seq.active = some m ∧ storeLines m ≠ 0 ∧ ownsRings s r.issuer = true) :=
  ⟨⟨w, (rq 1 (List.replicate 1 0)), fullMould, ready_of _ _ (by decide), by decide, by decide, rfl, by decide⟩,
   ⟨w, (rq 8 ([1, 32] ++ List.replicate 6 0)), fullMould, 1, 2097152, ready_of _ _ (by decide), by decide, by decide, by decide, by decide, by decide, by decide, by decide, by decide, by decide, rfl, by decide⟩,
   ⟨(rs fun s => { s with store := { s.store with job := some (.fwOpen true 4096 5 0 0 0 0 false 0 false) } }), (rq 56 ([0, 0, 0, 52] ++ List.replicate 52 0)), true, 4096, 0, 0, 0, 0, 52, 5, 0, ready_of _ _ (by decide), by decide⟩,
   ⟨(rs fun s => { s with store := { s.store with job := some (.fwOpen true 4096 5 4096 0 0 0 false 0 false) } }), (rq 1 ([1])), fullMould, true, 4096, 4096, 0, 0, 0, 5, 0, ready_of _ _ (by decide), by decide, by decide, by decide, by decide, rfl, by decide⟩⟩

set_option maxRecDepth 100000 in
/-- States and operands that meet the hypotheses of `TestCommandsTakeEffect`, clause by clause. -/
theorem hypotheses_test_commands_take_effect :
    (∃ (s : State) (r : Req), Ready s r ∧ r.len = 1) ∧
    (∃ (s : State) (r : Req) (iface : Nat) (ix : Nat) (depth : Nat), Ready s r ∧ r.len = 3 ∧ num r.payload 0 1 = iface ∧ num r.payload 1 1 = ix ∧ num r.payload 2 1 = depth ∧ loopOk iface ix depth = true ∧ loopBusy s r.issuer iface ix = false) ∧
    (∃ (s : State) (r : Req) (n : Fin 4) (k : Nat), Ready s r ∧ num r.payload 0 1 = n.val ∧ num r.payload 1 1 = k ∧ 1 ≤ k ∧ k ≤ 8 ∧ r.len.toNat = 2 + 5 * k ∧ (∀ i : SideId, s.sides[i].patSel.toNat % 128 ≠ 0x10 + n.val)) :=
  ⟨⟨w, (rq 1 (List.replicate 1 0)), ready_of _ _ (by decide), by decide⟩,
   ⟨w, (rq 3 ([2, 3, 1])), 2, 3, 1, ready_of _ _ (by decide), by decide⟩,
   ⟨w, (rq 42 ([3, 8] ++ List.replicate 40 0)), 3, 8, ready_of _ _ (by decide), by decide⟩⟩

set_option maxRecDepth 100000 in
/-- States and operands that meet the hypotheses of `WindowWritesTakeEffect`, clause by clause. -/
theorem hypotheses_window_writes_take_effect :
    (∃ (s : State) (k : Fin 32) (bytes : List Byte) (v : R40), (s.tw.phase ≠ .nacking ∧ (s.tw.pec = false ∨ s.tw.phase ≠ .winData)) ∧ bytes.length = 5 ∧ v = BitVec.ofNat 40 (ofBe bytes) ∧ k = 3) ∧
    (∃ (s : State) (k : Fin 32) (bytes : List Byte) (v : R40), (s.tw.phase ≠ .nacking ∧ (s.tw.pec = false ∨ s.tw.phase ≠ .winData)) ∧ bytes.length = 5 ∧ v = BitVec.ofNat 40 (ofBe bytes) ∧ k = 12) ∧
    (∃ (s : State) (k : Fin 32) (bytes : List Byte) (v : R40), (s.tw.phase ≠ .nacking ∧ (s.tw.pec = false ∨ s.tw.phase ≠ .winData)) ∧ bytes.length = 5 ∧ v = BitVec.ofNat 40 (ofBe bytes) ∧ k = 13) ∧
    (∃ (s : State) (k : Fin 32) (bytes : List Byte) (v : R40), (s.tw.phase ≠ .nacking ∧ (s.tw.pec = false ∨ s.tw.phase ≠ .winData)) ∧ bytes.length = 5 ∧ v = BitVec.ofNat 40 (ofBe bytes) ∧ k = 19) ∧
    (∃ (s : State) (k : Fin 32) (bytes : List Byte) (v : R40), (s.tw.phase ≠ .nacking ∧ (s.tw.pec = false ∨ s.tw.phase ≠ .winData)) ∧ bytes.length = 5 ∧ v = BitVec.ofNat 40 (ofBe bytes) ∧ k = 20) ∧
    (∃ (s : State) (k : Fin 32) (bytes : List Byte) (v : R40), (s.tw.phase ≠ .nacking ∧ (s.tw.pec = false ∨ s.tw.phase ≠ .winData)) ∧ bytes.length = 5 ∧ v = BitVec.ofNat 40 (ofBe bytes) ∧ (k ≤ 1 ∨ k = 8 ∨ (14 ≤ k ∧ k ≤ 18) ∨ 21 ≤ k)) ∧
    (∃ (s : State) (bytes : List Byte), (s.tw.phase ≠ .nacking ∧ (s.tw.pec = false ∨ s.tw.phase ≠ .winData)) ∧ 1 ≤ bytes.length ∧ bytes.length < 5) ∧
    (∃ (s : State) (bytes : List Byte), s.tw.pec = true ∧ s.tw.phase = .winData ∧ s.tw.staged.length + bytes.length ≤ 162) ∧
    (∃ (s : State), s.tw.phase = .nacking) ∧
    (∃ (s : State) (v : R40) (n : BitVec 16) (x : Arrival), (s.tw.phase ≠ .nacking ∧ (s.tw.pec = false ∨ s.tw.phase ≠ .winData)) ∧ n = v.extractLsb' 24 16 ∧ x = { issuer := .twoWire, body := none, rtag := 0, lat := 0, answered := false, disowned := false } ∧ s.win.owner = 0 ∧ (s.win.cmdHead - s.win.cmdTail).toNat ≤ (n - s.win.cmdTail).toNat ∧ (n - s.win.cmdTail).toNat ≤ 64) ∧
    (∃ (s : State) (v : R40) (n : BitVec 16) (x : Arrival), (s.tw.phase ≠ .nacking ∧ (s.tw.pec = false ∨ s.tw.phase ≠ .winData)) ∧ n = v.extractLsb' 24 16 ∧ x = { issuer := .twoWire, body := none, rtag := 0, lat := 0, answered := false, disowned := false } ∧ s.win.owner = 0 ∧ ((n - s.win.cmdTail).toNat < (s.win.cmdHead - s.win.cmdTail).toNat ∨ 64 < (n - s.win.cmdTail).toNat)) ∧
    (∃ (s : State) (v : R40) (n : BitVec 16) (x : Arrival), (s.tw.phase ≠ .nacking ∧ (s.tw.pec = false ∨ s.tw.phase ≠ .winData)) ∧ n = v.extractLsb' 24 16 ∧ x = { issuer := .twoWire, body := none, rtag := 0, lat := 0, answered := false, disowned := false } ∧ s.win.owner ≠ 0) ∧
    (∃ (s : State) (v : R40) (n : BitVec 16), (s.tw.phase ≠ .nacking ∧ (s.tw.pec = false ∨ s.tw.phase ≠ .winData)) ∧ n = v.extractLsb' 8 16 ∧ (s.win.rplHead - n).toNat ≤ (s.win.rplHead - s.win.rplTail).toNat) ∧
    (∃ (s : State) (v : R40) (n : BitVec 16), (s.tw.phase ≠ .nacking ∧ (s.tw.pec = false ∨ s.tw.phase ≠ .winData)) ∧ n = v.extractLsb' 8 16 ∧ (s.win.rplHead - s.win.rplTail).toNat < (s.win.rplHead - n).toNat) ∧
    (∃ (s : State) (v : R40) (n : BitVec 16), (s.tw.phase ≠ .nacking ∧ (s.tw.pec = false ∨ s.tw.phase ≠ .winData)) ∧ n = v.extractLsb' 8 16 ∧ (s.win.evtHead - n).toNat ≤ (s.win.evtHead - s.win.evtTail).toNat) ∧
    (∃ (s : State) (v : R40) (n : BitVec 16), (s.tw.phase ≠ .nacking ∧ (s.tw.pec = false ∨ s.tw.phase ≠ .winData)) ∧ n = v.extractLsb' 8 16 ∧ (s.win.evtHead - s.win.evtTail).toNat < (s.win.evtHead - n).toNat) ∧
    (∃ (s : State) (v : R40) (n : BitVec 16), (s.tw.phase ≠ .nacking ∧ (s.tw.pec = false ∨ s.tw.phase ≠ .winData)) ∧ n = v.extractLsb' 8 16 ∧ (s.win.trcHead - n).toNat ≤ (s.win.trcHead - s.win.trcTail).toNat) ∧
    (∃ (s : State) (v : R40) (n : BitVec 16), (s.tw.phase ≠ .nacking ∧ (s.tw.pec = false ∨ s.tw.phase ≠ .winData)) ∧ n = v.extractLsb' 8 16 ∧ (s.win.trcHead - s.win.trcTail).toNat < (s.win.trcHead - n).toNat) :=
  ⟨⟨w, 3, [0, 0, 0, 0, 0], 0, by decide, by decide, rfl, by decide⟩,
   ⟨w, 12, [0, 0, 0, 0, 0], 0, by decide, by decide, rfl, by decide⟩,
   ⟨w, 13, [0, 0, 0, 0, 0], 0, by decide, by decide, rfl, by decide⟩,
   ⟨w, 19, [0, 0, 0, 0, 0], 0, by decide, by decide, rfl, by decide⟩,
   ⟨w, 20, [0, 0, 0, 0, 0], 0, by decide, by decide, rfl, by decide⟩,
   ⟨w, 31, [0, 0, 0, 0, 0], 0, by decide, by decide, rfl, by decide⟩,
   ⟨w, [1, 2, 3, 4], by decide⟩,
   ⟨(rs fun s => { s with tw := { s.tw with pec := true, phase := .winData, staged := List.replicate 161 0 } }), [1], by decide⟩,
   ⟨(rs fun s => { s with tw := { s.tw with phase := .nacking } }), by decide⟩,
   ⟨w, 0x40000000, 64, { issuer := .twoWire, body := none, rtag := 0, lat := 0, answered := false, disowned := false }, by decide, by decide, rfl, by decide⟩,
   ⟨w, 0x41000000, 65, { issuer := .twoWire, body := none, rtag := 0, lat := 0, answered := false, disowned := false }, by decide, by decide, rfl, by decide⟩,
   ⟨(rs fun s => { s with win := { s.win with owner := 4 } }), 0, 0, { issuer := .twoWire, body := none, rtag := 0, lat := 0, answered := false, disowned := false }, by decide, by decide, rfl, by decide⟩,
   ⟨(rs fun s => { s with win := { s.win with rplHead := 2 } }), 0x200, 2, by decide⟩,
   ⟨(rs fun s => { s with win := { s.win with rplHead := 2 } }), 0x300, 3, by decide⟩,
   ⟨(rs fun s => { s with win := { s.win with evtHead := 2 } }), 0, 0, by decide⟩,
   ⟨(rs fun s => { s with win := { s.win with evtHead := 2 } }), 0xffff00, 65535, by decide⟩,
   ⟨(rs fun s => { s with win := { s.win with trcHead := 1024 } }), 0, 0, by decide⟩,
   ⟨w, 0x100, 1, by decide⟩⟩

set_option maxRecDepth 100000 in
/-- States and operands that meet the hypotheses of `CausesWatchdogAndEmergencyActions`, clause by clause. -/
theorem hypotheses_causes_watchdog_and_emergency_actions :
    (∃ (s : State), (s.tw.phase ≠ .nacking ∧ (s.tw.pec = false ∨ s.tw.phase ≠ .winData))) ∧
    (∃ (s : State), s.win.wdCount < s.win.wdTimeout.toNat * 1000000) ∧
    (∃ (s : State), s.win.wdTimeout ≠ 0 ∧ domOn s 37 = true ∧ s.win.wdTimeout.toNat * 1000000 ≤ s.win.wdCount ∧ s.win.wdArm = false) ∧
    (∃ (s : State), s.win.wdTimeout ≠ 0 ∧ domOn s 37 = true ∧ s.win.wdTimeout.toNat * 1000000 ≤ s.win.wdCount ∧ s.win.wdArm = true) ∧
    (∃ (s : State), s.cpu.revive = true ∧ s.mbx.taken = []) ∧
    (∃ (s : State) (v : R40), (s.tw.phase ≠ .nacking ∧ (s.tw.pec = false ∨ s.tw.phase ≠ .winData)) ∧ v.extractLsb' 32 8 ≠ 0x5A) ∧
    (∃ (s : State) (v : R40) (k : SessionId), (s.tw.phase ≠ .nacking ∧ (s.tw.pec = false ∨ s.tw.phase ≠ .winData)) ∧ v.extractLsb' 32 8 = 0x5A ∧ v[28] = false ∧ v[30] = false ∧ v[31] = false ∧ s.svc.holder = some k ∧ s.svc.recs = []) ∧
    (∃ (s : State) (v : R40), (s.tw.phase ≠ .nacking ∧ (s.tw.pec = false ∨ s.tw.phase ≠ .winData)) ∧ v.extractLsb' 32 8 = 0x5A ∧ v[29] = false ∧ v[30] = false ∧ v[31] = false ∧ DomainsSettled s) ∧
    (∃ (s : State) (v : R40), (s.tw.phase ≠ .nacking ∧ (s.tw.pec = false ∨ s.tw.phase ≠ .winData)) ∧ v.extractLsb' 32 8 = 0x5A ∧ v[28] = false ∧ v[29] = false ∧ v[31] = false) ∧
    (∃ (s : State) (v : R40), (s.tw.phase ≠ .nacking ∧ (s.tw.pec = false ∨ s.tw.phase ≠ .winData)) ∧ v.extractLsb' 32 8 = 0x5A ∧ v[28] = false ∧ v[29] = false ∧ v[30] = false) :=
  ⟨⟨w, by decide⟩,
   ⟨w, by decide⟩,
   ⟨(rs fun s => { s with win := { s.win with wdCount := 500000000 } }), by decide⟩,
   ⟨(rs fun s => { s with win := { s.win with wdCount := 500000000, wdArm := true } }), by decide⟩,
   ⟨(rs fun s => { s with cpu := { s.cpu with revive := true } }), by decide⟩,
   ⟨w, 0, by decide⟩,
   ⟨(rs fun s => { s with svc := { s.svc with holder := some 3 } }), 0x5a20000000, 3, by decide⟩,
   ⟨w, 0x5a10000000, by decide, by decide, by decide, by decide, by decide, settled_settled _⟩,
   ⟨w, 0x5a40000000, by decide⟩,
   ⟨w, 0x5a80000000, by decide⟩⟩

set_option maxRecDepth 100000 in
/-- States and operands that meet the hypotheses of `TwoWireTransactions`, clause by clause. -/
theorem hypotheses_two_wire_transactions :
    (∃ (s : State) (addr : Byte) (mid : Bool) (pec : Bool), targetServed s = true ∧ s.tw.phase ≠ .ignoring ∧ (pec = (if s.tw.phase = .idle ∨ mid = true then s.win.mgtCfg[39] else s.tw.pec)) ∧ (addr.toNat % 2 = 0 ∨ pec = false)) ∧
    (∃ (s : State), s.tw.phase = .ignoring) ∧
    (∃ (s : State) (b : Byte), s.tw.phase = .winPtr ∧ b.toNat < 160 ∧ s.tw.pec = false) ∧
    (∃ (s : State) (b : Byte), s.tw.phase = .winPtr ∧ 160 ≤ b.toNat) ∧
    (∃ (s : State) (b : Byte), s.tw.phase = .mbxPtr ∧ b.toNat < 128 ∧ s.tw.pec = false) ∧
    (∃ (s : State) (b : Byte), s.tw.phase = .mbxPtr ∧ 128 ≤ b.toNat) ∧
    (∃ (s : State) (a : Nat) (next : Nat), s.tw.phase = .mbxData ∧ s.tw.pec = false ∧ a = s.tw.mbxPtr.toNat ∧ next = a / 64 * 64 + (a % 64 + 1) % 64 ∧ a < 0x1000 ∧ s.win.owner = 0 ∧ domOn s 37 = true ∧ Mem.wf s.mbx.mem = true) ∧
    (∃ (s : State) (a : Nat) (next : Nat), s.tw.phase = .mbxData ∧ s.tw.pec = false ∧ a = s.tw.mbxPtr.toNat ∧ next = a / 64 * 64 + (a % 64 + 1) % 64 ∧ a < 0x1000 ∧ s.win.owner ≠ 0) ∧
    (∃ (s : State) (a : Nat) (next : Nat), s.tw.phase = .mbxData ∧ s.tw.pec = false ∧ a = s.tw.mbxPtr.toNat ∧ next = a / 64 * 64 + (a % 64 + 1) % 64 ∧ 0x1000 ≤ a) ∧
    (∃ (s : State), targetServed s = true ∧ s.tw.pec = false ∧ s.tw.phase ≠ .reading ∧ s.tw.cutRead = false) ∧
    (∃ (s : State), targetServed s = true ∧ s.tw.pec = false ∧ (s.tw.phase = .reading ∨ s.tw.cutRead = true) ∧ s.tw.addr.toNat / 2 = 0x40 + 2 * s.win.maddrN.toNat) ∧
    (∃ (s : State) (v : R40), targetServed s = true ∧ s.tw.pec = true ∧ s.tw.phase = .winData ∧ s.tw.cutRead = false ∧ s.tw.addr.toNat = 0x80 + 4 * s.win.maddrN.toNat ∧ s.tw.staged = [100] ++ imgBytes v ++ [crc8 (s.tw.addr :: 100 :: imgBytes v)]) ∧
    (∃ (s : State) (b : Byte) (bs : List Byte), targetServed s = true ∧ s.tw.pec = true ∧ s.tw.phase = .winData ∧ s.tw.cutRead = false ∧ s.tw.staged = bs ++ [b] ∧ b ≠ crc8 (s.tw.addr :: bs)) ∧
    (∃ (s : State) (addr : Byte), targetServed s = true ∧ s.tw.phase ≠ .ignoring ∧ addr.toNat / 2 = 0x40 + 2 * s.win.maddrN.toNat) :=
  ⟨⟨w, 0x80, false, false, by decide⟩,
   ⟨(rs fun s => { s with tw := { s.tw with phase := .ignoring } }), by decide⟩,
   ⟨(rs fun s => { s with tw := { s.tw with phase := .winPtr } }), 159, by decide⟩,
   ⟨(rs fun s => { s with tw := { s.tw with phase := .winPtr } }), 160, by decide⟩,
   ⟨(rs fun s => { s with tw := { s.tw with phase := .mbxPtr } }), 127, by decide⟩,
   ⟨(rs fun s => { s with tw := { s.tw with phase := .mbxPtr } }), 128, by decide⟩,
   ⟨(rs fun s => { s with tw := { s.tw with phase := .mbxData, mbxPtr := 0xFFF } }), 0xFFF, 0xFC0, by decide, by decide, rfl, by decide⟩,
   ⟨(rs fun s => { s with win := { s.win with owner := 1 }, tw := { s.tw with phase := .mbxData, mbxPtr := 0xFFF } }), 0xFFF, 0xFC0, by decide, by decide, rfl, by decide⟩,
   ⟨(rs fun s => { s with tw := { s.tw with phase := .mbxData, mbxPtr := 0x1000 } }), 0x1000, 0x1001, by decide, by decide, rfl, by decide⟩,
   ⟨w, by decide⟩,
   ⟨(rs fun s => { s with tw := { s.tw with phase := .reading, addr := 0x81 } }), by decide⟩,
   ⟨(rs fun s => { s with tw := { s.tw with phase := .winData, addr := 0x80, pec := true, staged := [100, 0, 0, 0, 0, 1, crc8 [0x80, 100, 0, 0, 0, 0, 1]] } }), 1, by decide⟩,
   ⟨(rs fun s => { s with tw := { s.tw with phase := .winData, addr := 0x80, pec := true, staged := [100, 0] } }), 0, [100], by decide⟩,
   ⟨w, 0x81, by decide⟩⟩

set_option maxRecDepth 100000 in
/-- States and operands that meet the hypotheses of `WakeStuckLinesAndPulses`, clause by clause. -/
theorem hypotheses_wake_stuck_lines_and_pulses :
    (∃ (s : State) (addr : Byte), s.pow.dev = .rest ∧ s.tw.phase ≠ .ignoring ∧ (addr.toNat / 2 = 0x40 + 2 * s.win.maddrN.toNat ∨ addr.toNat / 2 = 0x41 + 2 * s.win.maddrN.toNat)) ∧
    (∃ (s : State) (addr : Byte), s.pow.dev = .rest ∧ addr.toNat / 2 ≠ 0x40 + 2 * s.win.maddrN.toNat ∧ addr.toNat / 2 ≠ 0x41 + 2 * s.win.maddrN.toNat) ∧
    (∃ (s : State) (addr : Byte), s.tw.stretch = some addr ∧ s.pow.dev = .run ∧ domOn s 37 = true ∧ addr.toNat = 0x80 + 4 * s.win.maddrN.toNat) ∧
    (∃ (s : State), s.win.mgtCfg[38] = true ∧ attn s = true ∧ s.tw.owed = true ∧ s.tw.phase = .idle ∧ targetServed s = true) ∧
    (∃ (s : State), attn s = true ∧ s.tw.pulseSent = true) ∧
    (∃ (s : State), s.tw.pulsing = true) :=
  ⟨⟨(rs fun s => { s with pow := { s.pow with dev := .rest } }), 0x83, by decide⟩,
   ⟨(rs fun s => { s with pow := { s.pow with dev := .rest } }), 0x84, by decide⟩,
   ⟨(rs fun s => { s with tw := { s.tw with stretch := some 0x80 } }), 0x80, by decide⟩,
   ⟨(rs fun s => { s with win := { s.win with mgtCfg := 0x6000000000, cWdog := true }, tw := { s.tw with owed := true } }), by decide⟩,
   ⟨(rs fun s => { s with win := { s.win with cWdog := true }, tw := { s.tw with pulseSent := true } }), by decide⟩,
   ⟨(rs fun s => { s with tw := { s.tw with pulsing := true } }), by decide⟩⟩

set_option maxRecDepth 100000 in
/-- States and operands that meet the hypotheses of `FramesAreTaken`, clause by clause. -/
theorem hypotheses_frames_are_taken :
    (∃ (s : State), s.svc.link = false) ∧
    (∃ (s : State) (good : Bool) (b : List Byte), s.svc.link = true ∧ domOn s 44 = true ∧ (good = false ∨ b.length < 60 ∨ 1514 < b.length)) ∧
    (∃ (s : State) (k : SessionId) (a : Mac) (seq : BitVec 16) (tag : BitVec 16) (more : List Byte) (addr : R40) (size : Nat) (pat : Nat) (n : Nat) (b : List Byte), s.svc.link = true ∧ domOn s 44 = true ∧ etypeOk s.svc.etype.toNat = true ∧ s.svc.sessions[k].addr = some a ∧ s.svc.sessions[k].known = true ∧ s.svc.sessions[k].seqKnown = true ∧ seq = s.svc.sessions[k].ackSeq + 1 ∧ more.length = 10 ∧ (size = 1 ∨ size = 2 ∨ size = 4) ∧ pat < 256 ∧ 0 < n ∧ n ≤ 256 ∧ n % size = 0 ∧ addr.toNat / 2 ^ 32 < 16 ∧ placeCheck s k addr size n false = none ∧ s.svc.sessions[k].used[1] < s.svc.sessions[k].credits[1] ∧ s.svc.recs = [] ∧ b = be 6 s.store.eui48.toNat ++ be 6 a.toNat ++ be 2 s.svc.etype.toNat ++ [1, BitVec.ofNat 8 (64 * k.val + s.svc.sessions[k].epoch.toNat), 1, 0] ++ be 2 seq.toNat ++ more ++ [2, BitVec.ofNat 8 size, 0, 16] ++ be 2 tag.toNat ++ [BitVec.ofNat 8 pat, 0] ++ imgBytes addr ++ [0] ++ be 2 n ++ List.replicate 14 0) :=
  ⟨⟨w, by decide⟩,
   ⟨(rs fun s => { s with svc := { s.svc with mode := 2, link := true } }), true, List.replicate 1515 0, by decide⟩,
   ⟨(rs fun s => { s with svc := { s.svc with mode := 2, link := true, sessions := Vector.replicate 4 { addr := some 0x021122334455, known := true, seqKnown := true } }, ven := { s.ven with cfg := 0x000A020A80, win := Vector.replicate 16 0x320aa34600 } }), 3, 0x021122334455, 1, 0, List.replicate 10 0, 0x0F00000000, 4, 255, 256, be 6 0x020000000001 ++ be 6 0x021122334455 ++ [0x88, 0xB5, 1, 192, 1, 0, 0, 1] ++ List.replicate 10 0 ++ [2, 4, 0, 16, 0, 0, 255, 0] ++ [15, 0, 0, 0, 0, 0, 1, 0] ++ List.replicate 14 0, by decide⟩⟩

set_option maxRecDepth 100000 in
/-- States and operands that meet the hypotheses of `PtpMessagesSteerTheServo`, clause by clause. -/
theorem hypotheses_ptp_messages_steer_the_servo :
    (∃ (s : State), domOn s 41 = true ∧ (timeSource s.time = 1 ∨ timeSource s.time = 2) ∧ (s.time.st = 2 ∨ s.time.st = 3)) ∧
    (∃ (s : State) (m : PtpMsg), domOn s 41 = true ∧ s.svc.link = true ∧ (timeSource s.time ≠ 1 ∨ ptpSupported s.time m = false)) ∧
    (∃ (s : State) (m : PtpMsg) (x : PtpMsg), domOn s 41 = true ∧ s.svc.link = true ∧ timeSource s.time = 1 ∧ ptpSupported s.time m = true ∧ s.time.master = some x ∧ x.clock = m.clock ∧ m.kind = .syncOneStep) ∧
    (∃ (s : State), domOn s 41 = true ∧ timeSource s.time = 1 ∧ s.time.master.isSome = true) ∧
    (∃ (s : State) (u : State) (idx : Nat) (l : Line), LineBegins s u 8 idx 0x20 l ∧ u.time.meas = [] ∧ timeSource u.time ≠ 0) ∧
    (∃ (s : State) (u : State) (idx : Nat) (l : Line) (off : Int), LineBegins s u 8 idx 0x20 l ∧ u.time.meas ≠ [] ∧ off = roundDiv u.time.meas.sum u.time.meas.length) :=
  ⟨⟨(rs fun s => { s with time := { s.time with cfg := 0xA0A6400000, st := 3 } }), by decide⟩,
   ⟨(rs fun s => { s with svc := { s.svc with mode := 2, link := true } }), msg0, by decide⟩,
   ⟨(rs fun s => { s with svc := { s.svc with mode := 2, link := true }, time := { s.time with cfg := 0x60A6400000, master := some msg0 } }), msg0, msg0, by decide, by decide, by decide, by decide, rfl, by decide⟩,
   ⟨(rs fun s => { s with time := { s.time with cfg := 0x60A6400000, master := some msg0 } }), by decide⟩,
   ⟨(rs fun s => { s with time := { s.time with cfg := 0x60A6400000 } }), (begin0 ((rs fun s => { s with time := { s.time with cfg := 0x60A6400000 } }))), 0, (lineAtIdx 8 0), line_begins (by decide), by decide⟩,
   ⟨(rs fun s => { s with time := { s.time with meas := [3, 4] } }), (begin0 ((rs fun s => { s with time := { s.time with meas := [3, 4] } }))), 0, (lineAtIdx 8 0), 4, line_begins (by decide), by decide⟩⟩

set_option maxRecDepth 100000 in
/-- States and operands that meet the hypotheses of `ChainMarksAreJudged`, clause by clause. -/
theorem hypotheses_chain_marks_are_judged :
    (∃ (s : State) (code : BitVec 80), domOn s 41 = true ∧ timeSource s.time = 3 ∧ domOn s 50 = true ∧ s.test.loopSync = false ∧ chainCodeOk code = false) ∧
    (∃ (s : State), domOn s 41 = true ∧ timeSource s.time = 3 ∧ s.test.loopSync = true) ∧
    (∃ (s : State) (code : BitVec 80) (e : Nat), domOn s 41 = true ∧ timeSource s.time = 3 ∧ domOn s 50 = true ∧ s.test.loopSync = false ∧ chainCodeOk code = true ∧ s.time.lost = false ∧ s.sweep.point = none ∧ code.extractLsb' 13 3 ≠ (4 : BitVec 3) ∧ e = microStamp ((code.extractLsb' 40 40).toNat * 1000000 + (code.extractLsb' 20 20).toNat)) ∧
    (∃ (s : State), domOn s 41 = true ∧ timeSource s.time = 3 ∧ s.time.lost = false ∧ 2 ≤ s.time.missed.toNat ∧ s.time.st ≠ 2 ∧ s.time.st ≠ 3 ∧ s.sweep.point = none) ∧
    (∃ (s : State), domOn s 41 = true ∧ timeSource s.time = 3 ∧ s.time.lost = false ∧ 2 ≤ s.time.missed.toNat ∧ (s.time.st = 2 ∨ s.time.st = 3) ∧ s.sweep.point = none) :=
  ⟨⟨(rs fun s => { s with time := { s.time with cfg := 0xE0A6400000 } }), 1, by decide⟩,
   ⟨(rs fun s => { s with time := { s.time with cfg := 0xE0A6400000 }, test := { s.test with loopSync := true } }), by decide⟩,
   ⟨(rs fun s => { s with time := { s.time with cfg := 0xE0A6400000 } }), chainWord, 0, by decide, by decide, by decide, by decide, by decide, by decide, by decide, by decide, rfl⟩,
   ⟨(rs fun s => { s with time := { s.time with cfg := 0xE0A6400000, missed := 2 } }), by decide⟩,
   ⟨(rs fun s => { s with time := { s.time with cfg := 0xE0A6400000, missed := 2, st := 2 } }), by decide⟩⟩

set_option maxRecDepth 100000 in
/-- States and operands that meet the hypotheses of `LinkPatienceAndLease`, clause by clause. -/
theorem hypotheses_link_patience_and_lease :
    (∃ (s : State) (x : PortLink), s.test.loopSvc = 0 ∧ domOn s 42 = true ∧ s.svc.link = false ∧ ((s.svc.mode = 1 ∧ x = .resolved 1 false) ∨ (s.svc.mode = 2 ∧ x = .resolved 3 false) ∨ (s.svc.mode = 3 ∧ x = .phy 2))) ∧
    (∃ (s : State) (speed : Fin 3), speed ≠ 2 ∧ s.svc.mode = 3 ∧ s.test.loopSvc = 0 ∧ domOn s 42 = true ∧ s.svc.link = false) ∧
    (∃ (s : State), s.svc.link = true ∧ (∀ f ∈ s.svc.leaving, f.ends ≤ s.now.toNat)) ∧
    (∃ (s : State) (f : Leaving) (k : SessionId), s.svc.link = true ∧ s.svc.leaving = [f] ∧ s.now.toNat < f.ends ∧ f.session = some k ∧ f.out = []) ∧
    (∃ (s : State) (x : Rec), s.svc.recs = [x] ∧ x.cls ≠ .pw ∧ x.started = false ∧ x.patience < x.wait ∧ (s.svc.cpl.filter fun o => o.refusal).length < 16) ∧
    (∃ (s : State) (k : SessionId), s.svc.holder = some k ∧ s.svc.leaseNs = 0 ∧ s.svc.recs = [] ∧ s.ven.cycle = none) :=
  ⟨⟨(rs fun s => { s with svc := { s.svc with mode := 3 } }), .phy 2, by decide⟩,
   ⟨(rs fun s => { s with svc := { s.svc with mode := 3 } }), 1, by decide⟩,
   ⟨(rs fun s => { s with svc := { s.svc with mode := 2, link := true } }), by decide⟩,
   ⟨(rs fun s => { s with svc := { s.svc with mode := 2, link := true, leaving := [{ session := some 3, out := [], ends := 1 }] } }), { session := some 3, out := [], ends := 1 }, 3, by decide⟩,
   ⟨(rs fun s => { s with svc := { s.svc with recs := [rec0 1 false] } }), rec0 1 false, by decide⟩,
   ⟨(rs fun s => { s with svc := { s.svc with holder := some 3 } }), 3, by decide⟩⟩

set_option maxRecDepth 100000 in
/-- States and operands that meet the hypotheses of `PpsChainAndReload`, clause by clause. -/
theorem hypotheses_pps_chain_and_reload :
    (∃ (s : State), domOn s 41 = true ∧ domOn s 50 = true ∧ timeSource s.time ≠ 2) ∧
    (∃ (s : State) (stamp : Stamp) (off : Int), domOn s 41 = true ∧ domOn s 50 = true ∧ timeSource s.time = 2 ∧ ((stamp.toNat : Int) - quarterNs s.time.delays[3] + off) % 2 ^ 40 = 0 ∧ -2 ^ 39 < off ∧ off ≤ 2 ^ 39 ∧ ((s.time.st ≠ 2 ∧ s.time.st ≠ 3) ∨ 10 * off.natAbs ≤ 2 ^ 40)) ∧
    (∃ (s : State) (stamp : Stamp) (off : Int), domOn s 41 = true ∧ domOn s 50 = true ∧ timeSource s.time = 2 ∧ ((stamp.toNat : Int) - quarterNs s.time.delays[3] + off) % 2 ^ 40 = 0 ∧ -2 ^ 39 < off ∧ off ≤ 2 ^ 39 ∧ (s.time.st = 2 ∨ s.time.st = 3) ∧ 2 ^ 40 < 10 * off.natAbs) ∧
    (∃ (s : State) (u : State) (idx : Nat) (l : Line), LineBegins s u 8 idx 0x21 l) ∧
    (∃ (s : State) (u : State) (idx : Nat) (us : Nat) (l : Line) (d : BitVec 22), LineBegins s u 8 idx 0x22 l ∧ us = chainMicros (tickStamp u l.start) ∧ d.toNat ≤ 560000) ∧
    (∃ (s : State) (u : State) (idx : Nat) (us : Nat) (l : Line) (d : BitVec 22) (r : Option (BitVec 22)), LineBegins s u 8 idx 0x22 l ∧ us = chainMicros (tickStamp u l.start) ∧ u.test.loopSync = false ∧ (r = none ∨ (r = some d ∧ 560000 < d.toNat))) ∧
    (∃ (s : State), domOn s 41 = true ∧ s.seq.firstDue = true ∧ s.pow.dev = .run ∧ s.pow.exitDue = true ∧ s.time.stSaved = 2) :=
  ⟨⟨w, by decide⟩,
   ⟨(rs fun s => { s with time := { s.time with cfg := 0xA0A6400000 } }), 549755813888, 549755813888, by decide⟩,
   ⟨(rs fun s => { s with time := { s.time with cfg := 0xA0A6400000, st := 3 } }), 549755813888, 549755813888, by decide⟩,
   ⟨w, begin0 w, 1, (lineAtIdx 8 1), line_begins (by decide)⟩,
   ⟨w, begin0 w, 2, _, (lineAtIdx 8 2), 560000, line_begins (by decide), rfl, by decide⟩,
   ⟨w, begin0 w, 2, _, (lineAtIdx 8 2), 0, none, line_begins (by decide), rfl, by decide⟩,
   ⟨(rs fun s => { s with seq := { s.seq with firstDue := true }, pow := { s.pow with exitDue := true }, time := { s.time with stSaved := 2 } }), by decide⟩⟩

set_option maxRecDepth 100000 in
/-- States and operands that meet the hypotheses of `SheetBoundariesNumberSheets`, clause by clause. -/
theorem hypotheses_sheet_boundaries_number_sheets :
    (∃ (s : State) (m : Mould) (b : Nat), s.seq.active = some m ∧ m.sheetN ≠ 0 ∧ s.pow.dev = .boot ∧ s.seq.firstDue = true ∧ s.cpu.running = true ∧ s.pow.stuck = false ∧ s.seq.shadow = none ∧ b = boundaryAt m.sheetN s.now.toNat) ∧
    (∃ (s : State) (m : Mould) (b : Nat), s.seq.active = some m ∧ m.sheetN ≠ 0 ∧ sheetsRun s = true ∧ s.seq.running = [] ∧ s.time.step = none ∧ s.pow.resetDue ≠ some false ∧ b = boundaryAt m.sheetN s.seq.base.toNat + 1 ∧ s.seq.shadow = none) ∧
    (∃ (s : State) (m : Mould) (b : Nat) (x : PendingMould), s.seq.active = some m ∧ m.sheetN ≠ 0 ∧ sheetsRun s = true ∧ s.seq.running = [] ∧ s.time.step = none ∧ s.pow.resetDue ≠ some false ∧ b = boundaryAt m.sheetN s.seq.base.toNat + 1 ∧ s.seq.shadow = some x ∧ x.sheet = s.seq.sheet + 1 ∧ x.mould.sheetN = m.sheetN ∧ isBoundary m.sheetN ((BitVec.ofNat 80 (boundaryStamp m.sheetN b) : Stamp).toNat) = true) ∧
    (∃ (s : State) (m : Mould), s.seq.active = some m ∧ m.sheetN ≠ 0 ∧ sheetsRun s = true ∧ s.pow.resetDue = some false) :=
  ⟨⟨(rs fun s => { s with pow := { s.pow with dev := .boot }, seq := { s.seq with firstDue := true } }), fullMould, 0, rfl, by decide, by decide, by decide, by decide, by decide, by decide, rfl⟩,
   ⟨(rs fun s => { s with seq := { s.seq with running := [] } }), fullMould, 1, rfl, by decide, by decide, by decide, by decide, by decide, rfl, by decide⟩,
   ⟨(rs fun s => { s with seq := { s.seq with running := [], shadow := some { mould := fullMould, source := 0, sheet := 1 } } }), fullMould, 1, { mould := fullMould, source := 0, sheet := 1 }, rfl, by decide, by decide, by decide, by decide, by decide, rfl, by decide⟩,
   ⟨(rs fun s => { s with pow := { s.pow with resetDue := some false } }), fullMould, rfl, by decide⟩⟩

set_option maxRecDepth 100000 in
/-- States and operands that meet the hypotheses of `LinesEnd`, clause by clause. -/
theorem hypotheses_lines_end :
    (∃ (s : State) (u : State) (t : Fin 9) (idx : Nat) (x : RunLine) (l : Line), s.seq.running.find? (fun r => r.table == t && r.idx == idx) = some x ∧ lineAt s t.val idx = some l ∧ t ≠ 5 ∧ t ≠ 6 ∧ l.action ≠ 0x14 ∧ l.action ≠ 0x62 ∧ u = elapseTo (tickStamp s (l.start + l.duration)) s ∧ (∀ i ∈ destinations { table := t.val, index := idx, line := l }, present u i = true) ∧ l.action = 0x30 ∧ x.acts = true) ∧
    (∃ (s : State) (u : State) (t : Fin 9) (idx : Nat) (unfinished : Bool) (x : RunLine) (l : Line), s.seq.running.find? (fun r => r.table == t && r.idx == idx) = some x ∧ lineAt s t.val idx = some l ∧ t ≠ 5 ∧ t ≠ 6 ∧ l.action ≠ 0x14 ∧ l.action ≠ 0x62 ∧ u = elapseTo (tickStamp s (l.start + l.duration)) s ∧ (∀ i ∈ destinations { table := t.val, index := idx, line := l }, present u i = true) ∧ l.action ≠ 0x30 ∧ (unfinished = false ∨ x.acts = false ∨ boundByLine l.action = true)) ∧
    (∃ (s : State) (u : State) (t : Fin 9) (idx : Nat) (unfinished : Bool) (x : RunLine) (l : Line), s.seq.running.find? (fun r => r.table == t && r.idx == idx) = some x ∧ lineAt s t.val idx = some l ∧ t ≠ 5 ∧ t ≠ 6 ∧ l.action ≠ 0x14 ∧ l.action ≠ 0x62 ∧ u = elapseTo (tickStamp s (l.start + l.duration)) s ∧ (∀ i ∈ destinations { table := t.val, index := idx, line := l }, present u i = true) ∧ unfinished = true ∧ x.acts = true ∧ boundByLine l.action = false) :=
  ⟨⟨(rs fun s => { s with seq := { s.seq with running := [{ table := 0, idx := 5, tokens := true, acts := true }, { table := 7, idx := 0, tokens := true, acts := true }] }, svc := { s.svc with mode := 2, link := true } }), end0 (rs fun s => { s with seq := { s.seq with running := [{ table := 0, idx := 5, tokens := true, acts := true }, { table := 7, idx := 0, tokens := true, acts := true }] }, svc := { s.svc with mode := 2, link := true } }), 7, 0, { table := 7, idx := 0, tokens := true, acts := true }, (lineAtIdx 7 0), rfl, by decide, by decide, by decide, by decide, by decide, rfl, by decide⟩,
   ⟨(rs fun s => { s with seq := { s.seq with running := [{ table := 0, idx := 5, tokens := true, acts := true }, { table := 0, idx := 0, tokens := true, acts := true }] } }), end0 (rs fun s => { s with seq := { s.seq with running := [{ table := 0, idx := 5, tokens := true, acts := true }, { table := 0, idx := 0, tokens := true, acts := true }] } }), 0, 0, false, { table := 0, idx := 0, tokens := true, acts := true }, (lineAtIdx 0 0), rfl, by decide, by decide, by decide, by decide, by decide, rfl, by decide⟩,
   ⟨(rs fun s => { s with seq := { s.seq with running := [{ table := 0, idx := 5, tokens := true, acts := true }, { table := 8, idx := 0, tokens := true, acts := true }] } }), end0 (rs fun s => { s with seq := { s.seq with running := [{ table := 0, idx := 5, tokens := true, acts := true }, { table := 8, idx := 0, tokens := true, acts := true }] } }), 8, 0, true, { table := 8, idx := 0, tokens := true, acts := true }, (lineAtIdx 8 0), rfl, by decide, by decide, by decide, by decide, by decide, rfl, by decide⟩⟩

set_option maxRecDepth 100000 in
/-- States and operands that meet the hypotheses of `WorkTrimTelemAndStoreLines`, clause by clause. -/
theorem hypotheses_work_trim_telem_and_store_lines :
    (∃ (s : State) (u : State) (idx : Nat) (l : Line), LineBegins s u 0 idx 0x10 l ∧ gulcyAwake u = false) ∧
    (∃ (s : State) (u : State) (idx : Nat) (l : Line), LineBegins s u 0 idx 0x10 l ∧ gulcyAwake u = true ∧ u.mbx.arrived = [] ∧ u.mbx.owed = [] ∧ u.store.job = none) ∧
    (∃ (s : State) (u : State) (idx : Nat) (l : Line) (r : Req) (a : Arrival), LineBegins s u 0 idx 0x10 l ∧ gulcyAwake u = true ∧ u.mbx.owed = [] ∧ u.store.job = none ∧ a = { issuer := r.issuer, body := some (0x0103, r), rtag := r.tag, lat := 0, answered := false, disowned := false } ∧ u.mbx.arrived = [a] ∧ replyRoom u r.issuer = true ∧ (r.issuer = .twoWire → u.win.owner = 0) ∧ (r.issuer ≠ .twoWire → present u 4 = true) ∧ r.len = 0 ∧ Mem.wf u.mbx.mem = true ∧ DomainsSettled u) ∧
    (∃ (s : State) (u : State) (idx : Nat) (l : Line), LineBegins s u 0 idx 0x11 l) ∧
    (∃ (s : State) (u : State) (idx : Nat) (l : Line) (r : Replica) (z : TxReplica), LineBegins s u 0 idx 0x11 l ∧ z.side = r.side ∧ trimNames l r.side = true ∧ present u (32 + r.side.val) = true ∧ inData u r.side = true ∧ u.sides[r.side].gated = false ∧ u.sides[r.side].targets = [] ∧ u.sides[r.side].calCfg[33] = true) ∧
    (∃ (s : State) (u : State) (idx : Nat) (l : Line) (r : Replica) (z : TxReplica), LineBegins s u 0 idx 0x11 l ∧ z.side = r.side ∧ trimNames l r.side = true ∧ present u (32 + r.side.val) = true ∧ inData u r.side = true ∧ u.sides[r.side].gated = false ∧ u.sides[r.side].targets = [] ∧ u.sides[r.side].calCfg[33] = false) ∧
    (∃ (s : State) (u : State) (idx : Nat) (l : Line) (r : Replica) (z : TxReplica), LineBegins s u 0 idx 0x11 l ∧ z.side = r.side ∧ (trimNames l r.side = false ∨ inData u r.side = false ∨ u.sides[r.side].gated = true)) ∧
    (∃ (s : State) (u : State) (idx : Nat) (l : Line), LineBegins s u 0 idx 0x12 l) ∧
    (∃ (s : State) (u : State) (idx : Nat) (l : Line) (k : Fin 2) (image : Mem) (len : Nat) (made : Nat), LineBegins s u 0 idx 0x13 l ∧ u.store.job = some (.mould k image len made) ∧ made + 1 < mouldSteps len) ∧
    (∃ (s : State) (u : State) (idx : Nat) (l : Line) (k : Fin 2) (image : Mem) (len : Nat) (made : Nat), LineBegins s u 0 idx 0x13 l ∧ u.store.job = some (.mould k image len made) ∧ mouldSteps len ≤ made + 1 ∧ u.mbx.taken = []) ∧
    (∃ (s : State) (u : State) (idx : Nat) (l : Line), LineBegins s u 0 idx 0x13 l ∧ u.store.job = none ∧ u.store.paging = none ∧ pageDue u.store = true ∧ pageBlocked u.store = false) :=
  ⟨⟨(rs fun s => { s with cpu := { s.cpu with running := false } }), (begin0 ((rs fun s => { s with cpu := { s.cpu with running := false } }))), 0, (lineAtIdx 0 0), line_begins (by decide), by decide⟩,
   ⟨w, begin0 w, 0, (lineAtIdx 0 0), line_begins (by decide), by decide⟩,
   ⟨(rs fun s => { s with mbx := { s.mbx with arrived := [{ issuer := .twoWire, body := some (0x0103, rq 0 []), rtag := 7, lat := 0, answered := false, disowned := false }] } }), (begin0 ((rs fun s => { s with mbx := { s.mbx with arrived := [{ issuer := .twoWire, body := some (0x0103, rq 0 []), rtag := 7, lat := 0, answered := false, disowned := false }] } }))), 0, (lineAtIdx 0 0), rq 0 [], { issuer := .twoWire, body := some (0x0103, rq 0 []), rtag := 7, lat := 0, answered := false, disowned := false }, line_begins (by decide), by decide, by decide, by decide, rfl, by decide, by decide, by decide, by decide, by decide, by decide, settled_settled _⟩,
   ⟨(rs fun s => { s with paths := Vector.replicate 4 { cfg := 0x3101e84800, st := .active, ltssm := 3, rateNow := 5, position := 1 }, lanes := Vector.replicate 16 { ei := Vector.replicate 2 false, lock := Vector.replicate 2 true }, sides := Vector.replicate 32 { term := true } }), (begin0 ((rs fun s => { s with paths := Vector.replicate 4 { cfg := 0x3101e84800, st := .active, ltssm := 3, rateNow := 5, position := 1 }, lanes := Vector.replicate 16 { ei := Vector.replicate 2 false, lock := Vector.replicate 2 true }, sides := Vector.replicate 32 { term := true } }))), 1, (lineAtIdx 0 1), line_begins (by decide)⟩,
   ⟨(rs fun s => { s with paths := Vector.replicate 4 { cfg := 0x3101e84800, st := .active, ltssm := 3, rateNow := 5, position := 1 }, lanes := Vector.replicate 16 { ei := Vector.replicate 2 false, lock := Vector.replicate 2 true }, sides := Vector.replicate 32 { term := true } }), (begin0 ((rs fun s => { s with paths := Vector.replicate 4 { cfg := 0x3101e84800, st := .active, ltssm := 3, rateNow := 5, position := 1 }, lanes := Vector.replicate 16 { ei := Vector.replicate 2 false, lock := Vector.replicate 2 true }, sides := Vector.replicate 32 { term := true } }))), 1, (lineAtIdx 0 1), { side := 31, pole := 10, term := 11, bias := 3 }, { side := 31, txz := 9 }, line_begins (by decide), by decide⟩,
   ⟨(rs fun s => { s with paths := Vector.replicate 4 { cfg := 0x3101e84800, st := .active, ltssm := 3, rateNow := 5, position := 1 }, lanes := Vector.replicate 16 { ei := Vector.replicate 2 false, lock := Vector.replicate 2 true }, sides := Vector.replicate 32 { term := true, calCfg := 0x7D00404000 } }), (begin0 ((rs fun s => { s with paths := Vector.replicate 4 { cfg := 0x3101e84800, st := .active, ltssm := 3, rateNow := 5, position := 1 }, lanes := Vector.replicate 16 { ei := Vector.replicate 2 false, lock := Vector.replicate 2 true }, sides := Vector.replicate 32 { term := true, calCfg := 0x7D00404000 } }))), 1, (lineAtIdx 0 1), { side := 31, pole := 10, term := 11, bias := 3 }, { side := 31, txz := 9 }, line_begins (by decide), by decide⟩,
   ⟨(rs fun s => { s with paths := Vector.replicate 4 { cfg := 0x3101e84800, st := .active }, lanes := Vector.replicate 16 { ei := Vector.replicate 2 false, lock := Vector.replicate 2 true }, sides := Vector.replicate 32 { term := true } }), (begin0 ((rs fun s => { s with paths := Vector.replicate 4 { cfg := 0x3101e84800, st := .active }, lanes := Vector.replicate 16 { ei := Vector.replicate 2 false, lock := Vector.replicate 2 true }, sides := Vector.replicate 32 { term := true } }))), 1, (lineAtIdx 0 1), { side := 31, pole := 10, term := 11, bias := 3 }, { side := 31, txz := 9 }, line_begins (by decide), by decide⟩,
   ⟨w, begin0 w, 2, (lineAtIdx 0 2), line_begins (by decide)⟩,
   ⟨(rs fun s => { s with store := { s.store with job := some (.mould 1 [] 5000 0) } }), (begin0 ((rs fun s => { s with store := { s.store with job := some (.mould 1 [] 5000 0) } }))), 3, (lineAtIdx 0 3), 1, [], 5000, 0, line_begins (by decide), by decide⟩,
   ⟨(rs fun s => { s with store := { s.store with job := some (.mould 1 [] 0 615) } }), (begin0 ((rs fun s => { s with store := { s.store with job := some (.mould 1 [] 0 615) } }))), 3, (lineAtIdx 0 3), 1, [], 0, 615, line_begins (by decide), by decide⟩,
   ⟨(rs fun s => { s with store := { s.store with staged := List.replicate 7 entry0 } }), (begin0 ((rs fun s => { s with store := { s.store with staged := List.replicate 7 entry0 } }))), 3, (lineAtIdx 0 3), line_begins (by decide), by decide⟩⟩

set_option maxRecDepth 100000 in
/-- States and operands that meet the hypotheses of `RestIsEntered`, clause by clause. -/
theorem hypotheses_rest_is_entered :
    (∃ (s : State) (u : State) (idx : Nat) (l : Line), LineBegins s u 0 idx 0x14 l ∧ u.win.restPend = false) ∧
    (∃ (s : State) (u : State) (idx : Nat) (l : Line), LineBegins s u 0 idx 0x14 l ∧ u.win.restPend = true ∧ u.pow.rest = .none ∧ u.sweep.st ≠ 2 ∧ u.sweep.st ≠ 3) ∧
    (∃ (s : State), s.pow.rest = .saving ∧ s.pow.dev = .run ∧ domOn s 37 = true) :=
  ⟨⟨w, begin0 w, 4, (lineAtIdx 0 4), line_begins (by decide), by decide⟩,
   ⟨(rs fun s => { s with win := { s.win with restPend := true } }), (begin0 ((rs fun s => { s with win := { s.win with restPend := true } }))), 4, (lineAtIdx 0 4), line_begins (by decide), by decide⟩,
   ⟨(rs fun s => { s with pow := { s.pow with rest := .saving } }), by decide⟩⟩

set_option maxRecDepth 100000 in
/-- States and operands that meet the hypotheses of `TxLinesSendFrames`, clause by clause. -/
theorem hypotheses_tx_lines_send_frames :
    (∃ (s : State) (u : State) (idx : Nat) (l : Line) (m : Mould), LineBegins s u 7 idx 0x30 l ∧ u.test.loopSvc = 0 ∧ u.svc.recs = [] ∧ u.time.reqDue = false ∧ u.seq.active = some m ∧ u.svc.cpl = [] ∧ u.svc.upw = [] ∧ u.svc.sig = [] ∧ u.svc.evt = [] ∧ (∀ k : SessionId, u.svc.sessions[k].news = false)) ∧
    (∃ (s : State) (u : State) (idx : Nat) (l : Line) (m : Mould) (k : SessionId) (a : Mac), LineBegins s u 7 idx 0x30 l ∧ u.test.loopSvc = 0 ∧ u.svc.recs = [] ∧ u.time.reqDue = false ∧ u.seq.active = some m ∧ u.svc.cpl = [] ∧ u.svc.upw = [] ∧ u.svc.sig = [] ∧ u.svc.evt = [] ∧ l.target = 0 ∧ u.svc.sessions[k].addr = some a ∧ u.svc.sessions[k].seqKnown = true ∧ u.svc.sessions[k].news = true ∧ (∀ j : SessionId, j ≠ k → u.svc.sessions[j].news = false) ∧ 84 * (if u.svc.mode = 2 then 800 else 8000) ≤ (l.duration - svcWindow m.svcMode) * 8000) :=
  ⟨⟨(rs fun s => { s with svc := { s.svc with mode := 2, link := true } }), (begin0 ((rs fun s => { s with svc := { s.svc with mode := 2, link := true } }))), 0, (lineAtIdx 7 0), fullMould, line_begins (by decide), by decide, by decide, by decide, rfl, by decide⟩,
   ⟨(rs fun s => { s with svc := { s.svc with mode := 2, link := true, sessions := #v[{}, {}, {}, { addr := some 0x021122334455, seqKnown := true, news := true }] } }), (begin0 ((rs fun s => { s with svc := { s.svc with mode := 2, link := true, sessions := #v[{}, {}, {}, { addr := some 0x021122334455, seqKnown := true, news := true }] } }))), 0, (lineAtIdx 7 0), fullMould, 3, 0x021122334455, line_begins (by decide), by decide, by decide, by decide, rfl, by decide⟩⟩

set_option maxRecDepth 100000 in
/-- States and operands that meet the hypotheses of `SweepPointsAdvance`, clause by clause. -/
theorem hypotheses_sweep_points_advance :
    (∃ (s : State), s.sweep.st = 2 ∧ pointStamp s 0 ≤ s.now.toNat) ∧
    (∃ (s : State) (k : Nat), s.sweep.st = 3 ∧ s.sweep.point = some k ∧ s.sweep.ending = none ∧ pointStamp s (k + 1) ≤ s.now.toNat ∧ k + 1 < s.sweep.npoints) ∧
    (∃ (s : State) (k : Nat), s.sweep.st = 3 ∧ s.sweep.point = some k ∧ s.sweep.ending = none ∧ pointStamp s (k + 1) ≤ s.now.toNat ∧ s.sweep.npoints ≤ k + 1) :=
  ⟨⟨(rs fun s => { s with sweep := { s.sweep with st := 2 } }), by decide⟩,
   ⟨(rs fun s => { s with sweep := { s.sweep with st := 3, point := some 0, npoints := 2 } }), 0, by decide⟩,
   ⟨(rs fun s => { s with sweep := { s.sweep with st := 3, point := some 0, npoints := 1 } }), 0, by decide⟩⟩

set_option maxRecDepth 100000 in
/-- States and operands that meet the hypotheses of `CycleLinesStartCycles`, clause by clause. -/
theorem hypotheses_cycle_lines_start_cycles :
    (∃ (s : State), venDrives s = false) ∧
    (∃ (s : State), venDrives s = true ∧ s.ven.cycle = none ∧ s.ven.grant = none ∧ s.ven.afterGrant = false ∧ s.ven.vrst = false ∧ s.ven.holding = false ∧ s.ven.seen = 0 ∧ s.ven.cfg.extractLsb' 31 5 = 0) ∧
    (∃ (s : State) (c : Cycle) (v : CycleView), c.write = true ∧ c.answered = none ∧ c.cfg[29] = false ∧ fld c.cfg 19 16 + fld c.cfg 15 13 ≤ stepsOf 10 c.began s.now ∧ v = onBusNow s c) ∧
    (∃ (s : State) (u : State) (idx : Nat) (l : Line), LineBegins s u 5 idx 0x40 l ∧ u.svc.recs = []) ∧
    (∃ (s : State) (u : State) (idx : Nat) (l : Line) (x : Rec) (w : Fin 16) (a : Nat), LineBegins s u 5 idx 0x40 l ∧ u.svc.recs = [x] ∧ x.cls = .np ∧ x.size = 1 ∧ x.started = false ∧ x.chosen = false ∧ x.done = 0 ∧ x.window = none ∧ l.target.toNat = x.session.val ∧ w.val = x.addr.toNat / 2 ^ 32 ∧ u.svc.holder = none ∧ cplTaken u < 16 ∧ busIdle u = true ∧ placeCheck u x.session x.addr 1 x.count false = none ∧ a = (baseAddr u.ven.base[w] + ((x.addr.toNat % 2 ^ 32) ^^^ winXor u.ven.win[w])) % 2 ^ 32) :=
  ⟨⟨w, by decide⟩,
   ⟨(rs fun s => { s with ven := { s.ven with cfg := 0x000A020A80 } }), by decide⟩,
   ⟨w, { cyc0 .strobe false with write := true }, _, by decide, by decide, by decide, by decide, rfl⟩,
   ⟨(rs fun s => { s with svc := { s.svc with mode := 2, link := true }, ven := { s.ven with cfg := 0x000A020A80 } }), (begin0 ((rs fun s => { s with svc := { s.svc with mode := 2, link := true }, ven := { s.ven with cfg := 0x000A020A80 } }))), 0, (lineAtIdx 5 0), line_begins (by decide), by decide⟩,
   ⟨(rs fun s => { s with svc := { s.svc with mode := 2, link := true, recs := [rec0 0 false] }, ven := { s.ven with cfg := 0x000A020A80, win := Vector.replicate 16 0x320aa34600 } }), (begin0 ((rs fun s => { s with svc := { s.svc with mode := 2, link := true, recs := [rec0 0 false] }, ven := { s.ven with cfg := 0x000A020A80, win := Vector.replicate 16 0x320aa34600 } }))), 0, (lineAtIdx 5 0), rec0 0 false, 15, _, line_begins (by decide), by decide, by decide, by decide, by decide, by decide, by decide, by decide, by decide, by decide, by decide, by decide, by decide, by decide, rfl⟩⟩

set_option maxRecDepth 100000 in
/-- States and operands that meet the hypotheses of `TargetsAnswerCycles`, clause by clause. -/
theorem hypotheses_targets_answer_cycles :
    (∃ (s : State) (c : Cycle), s.ven.cycle = some c ∧ c.phase = .strobe ∧ s.test.loopVen = 0 ∧ NothingLocal s ∧ c.write = false) ∧
    (∃ (s : State) (c : Cycle), s.ven.cycle = some c ∧ c.phase = .strobe ∧ s.test.loopVen = 0 ∧ NothingLocal s) ∧
    (∃ (s : State) (c : Cycle) (x : Rec), s.ven.cycle = some c ∧ s.svc.recs = [x] ∧ x.onBus = true ∧ x.cls = .np ∧ x.broken = false ∧ x.credit = true ∧ c.phase = .release ∧ s.ven.waiting = none ∧ present s 4 = true ∧ x.stale = true ∧ (c.ok = false ∨ x.count ≤ x.done + c.bytes)) ∧
    (∃ (s : State) (c : Cycle) (x : Rec), s.ven.cycle = some c ∧ s.svc.recs = [x] ∧ x.onBus = true ∧ x.cls = .np ∧ x.broken = false ∧ x.credit = true ∧ c.phase = .release ∧ s.ven.waiting = none ∧ present s 4 = true ∧ x.stale = false ∧ c.ok = true ∧ x.count ≤ x.done + c.bytes) ∧
    (∃ (s : State) (c : Cycle) (x : Rec), s.ven.cycle = some c ∧ s.svc.recs = [x] ∧ x.onBus = true ∧ x.cls = .np ∧ x.broken = false ∧ x.credit = true ∧ c.phase = .release ∧ s.ven.waiting = none ∧ present s 4 = true ∧ x.stale = false ∧ c.ok = false) ∧
    (∃ (s : State) (c : Cycle) (x : Rec), s.ven.cycle = some c ∧ s.svc.recs = [x] ∧ x.onBus = true ∧ x.cls = .np ∧ x.broken = false ∧ x.credit = true ∧ c.phase = .release ∧ s.ven.waiting = none ∧ present s 4 = true) :=
  ⟨⟨(rs fun s => { s with ven := { s.ven with cfg := 0x000A020A80, cycle := some (cyc0 .strobe true) }, svc := { s.svc with mode := 2, link := true } }), cyc0 .strobe true, by decide, by decide, by decide, by unfold NothingLocal; decide, by decide⟩,
   ⟨(rs fun s => { s with ven := { s.ven with cfg := 0x000A020A80, cycle := some (cyc0 .strobe true) }, svc := { s.svc with mode := 2, link := true } }), cyc0 .strobe true, by decide, by decide, by decide, by unfold NothingLocal; decide⟩,
   ⟨(rs fun s => { s with ven := { s.ven with cfg := 0x000A020A80, cycle := some (cyc0 .release true) }, svc := { s.svc with mode := 2, link := true, recs := [{ rec0 0 true with stale := true }] } }), cyc0 .release true, { rec0 0 true with stale := true }, by decide⟩,
   ⟨(rs fun s => { s with ven := { s.ven with cfg := 0x000A020A80, cycle := some (cyc0 .release true) }, svc := { s.svc with mode := 2, link := true, recs := [rec0 0 true] } }), cyc0 .release true, rec0 0 true, by decide⟩,
   ⟨(rs fun s => { s with ven := { s.ven with cfg := 0x000A020A80, cycle := some (cyc0 .release false) }, svc := { s.svc with mode := 2, link := true, recs := [rec0 0 true] } }), cyc0 .release false, rec0 0 true, by decide⟩,
   ⟨(rs fun s => { s with ven := { s.ven with cfg := 0x000A020A80, cycle := some (cyc0 .release true) }, svc := { s.svc with mode := 2, link := true, recs := [rec0 0 true] } }), cyc0 .release true, rec0 0 true, by decide⟩⟩

set_option maxRecDepth 100000 in
/-- States and operands that meet the hypotheses of `BusMastersAreServed`, clause by clause. -/
theorem hypotheses_bus_masters_are_served :
    (∃ (s : State) (rdy : Bool) (flt : Bool) (n : Nat), domOn s 45 = true ∧ s.ven.grant = none ∧ s.ven.cycle = none ∧ (rdy || flt) = true ∧ s.ven.seen &&& 0x3D = 0 ∧ n = (if rdy then 64 else 0) + (if flt then 128 else 0)) ∧
    (∃ (s : State) (v : BitVec 13), domOn s 45 = true ∧ s.ven.grant = none ∧ s.ven.cycle = none ∧ v &&& 0x3D ≠ 0 ∧ s.ven.afterGrant = false) ∧
    (∃ (s : State), domOn s 45 = true ∧ s.ven.grant = none ∧ s.ven.cycle = none ∧ s.ven.holding = false ∧ NothingLocal s ∧ s.ven.waiting = none) ∧
    (∃ (s : State), domOn s 45 = true ∧ s.ven.grant = none ∧ s.ven.cycle = none ∧ s.ven.holding = false ∧ NothingLocal s ∧ s.ven.waiting = some .reset) ∧
    (∃ (s : State) (m : Fin 4) (v : State) (u : State) (idx : Nat) (l : Line) (requests : BitVec 4), domOn s 45 = true ∧ v = { s with ven := { s.ven with breq := requests } } ∧ LineBegins v u 5 idx 0x41 l ∧ requests = BitVec.ofNat 4 (2 ^ m.val) ∧ l.target.getLsbD m.val = true ∧ mstEn u m.val = true ∧ u.svc.holder = none ∧ u.test.loopVen = 0 ∧ busIdle u = true) ∧
    (∃ (s : State) (m : Fin 4) (v : State) (u : State) (idx : Nat) (l : Line) (requests : BitVec 4), domOn s 45 = true ∧ v = { s with ven := { s.ven with breq := requests } } ∧ LineBegins v u 5 idx 0x41 l ∧ requests = BitVec.ofNat 4 (2 ^ m.val) ∧ (l.target.getLsbD m.val = false ∨ mstEn u m.val = false ∨ u.svc.holder ≠ none)) ∧
    (∃ (s : State) (m : Fin 4), s.ven.grant = some m ∧ s.ven.waiting = none) ∧
    (∃ (s : State) (m : Fin 4) (addr : BitVec 32) (a : Nat), servedMaster s.ven = some m ∧ s.ven.holding = false ∧ s.ven.up[23] = true ∧ a = (addr.toNat % 65536 / masterBytes s m.val * masterBytes s m.val) ^^^ masterXor s m.val ∧ addr.extractLsb' 16 16 = s.ven.up.extractLsb' 24 16) ∧
    (∃ (s : State) (m : Fin 4) (addr : BitVec 32) (a : Nat), servedMaster s.ven = some m ∧ s.ven.holding = false ∧ s.ven.up[23] = true ∧ a = (addr.toNat % 65536 / masterBytes s m.val * masterBytes s m.val) ^^^ masterXor s m.val ∧ addr.extractLsb' 16 16 = s.ven.up.extractLsb' 24 16 ∧ upwTaken s < 32) ∧
    (∃ (s : State) (m : Fin 4) (addr : BitVec 32) (a : Nat), servedMaster s.ven = some m ∧ s.ven.holding = false ∧ s.ven.up[23] = true ∧ a = (addr.toNat % 65536 / masterBytes s m.val * masterBytes s m.val) ^^^ masterXor s m.val ∧ addr.extractLsb' 16 16 ≠ s.ven.up.extractLsb' 24 16) ∧
    (∃ (s : State) (m : Fin 4), s.ven.holding = true ∧ s.ven.grant = some m ∧ NothingLocal s ∧ s.ven.upwDue = none) ∧
    (∃ (s : State) (m : Fin 4) (off : BitVec 16) (b : Byte) (k : SessionId), s.ven.holding = true ∧ s.ven.grant = some m ∧ NothingLocal s ∧ s.ven.upwDue = some (m, off, [b]) ∧ k = masterSession s m.val ∧ s.svc.sessions[k].addr.isSome = true ∧ present s 4 = true) :=
  ⟨⟨(rs fun s => { s with svc := { s.svc with mode := 2, link := true, sessions := Vector.replicate 4 { addr := some 0x021122334455 } }, ven := { s.ven with cfg := 0x000A020A80, mst := 0xC0C0C0C000 } }), true, true, 192, by decide⟩,
   ⟨(rs fun s => { s with svc := { s.svc with mode := 2, link := true, sessions := Vector.replicate 4 { addr := some 0x021122334455 } }, ven := { s.ven with cfg := 0x000A020A80, mst := 0xC0C0C0C000 } }), 1, by decide⟩,
   ⟨(rs fun s => { s with svc := { s.svc with mode := 2, link := true, sessions := Vector.replicate 4 { addr := some 0x021122334455 } }, ven := { s.ven with cfg := 0x000A020A80, mst := 0xC0C0C0C000 } }), by decide, by decide, by decide, by decide, by unfold NothingLocal; decide, by decide⟩,
   ⟨(rs fun s => { s with svc := { s.svc with mode := 2, link := true, sessions := Vector.replicate 4 { addr := some 0x021122334455 } }, ven := { s.ven with cfg := 0x000A020A80, mst := 0xC0C0C0C000, waiting := some .reset } }), by decide, by decide, by decide, by decide, by unfold NothingLocal; decide, by decide⟩,
   ⟨(rs fun s => { s with svc := { s.svc with mode := 2, link := true, sessions := Vector.replicate 4 { addr := some 0x021122334455 } }, ven := { s.ven with cfg := 0x000A020A80, mst := 0xC0C0C0C000 } }), 3, (asked (rs fun s => { s with svc := { s.svc with mode := 2, link := true, sessions := Vector.replicate 4 { addr := some 0x021122334455 } }, ven := { s.ven with cfg := 0x000A020A80, mst := 0xC0C0C0C000 } })), (begin0 ((asked (rs fun s => { s with svc := { s.svc with mode := 2, link := true, sessions := Vector.replicate 4 { addr := some 0x021122334455 } }, ven := { s.ven with cfg := 0x000A020A80, mst := 0xC0C0C0C000 } })))), 1, (lineAtIdx 5 1), 8, by decide, rfl, line_begins (by decide), by decide⟩,
   ⟨(rs fun s => { s with svc := { s.svc with mode := 2, link := true }, ven := { s.ven with cfg := 0x000A020A80 } }), 3, (asked (rs fun s => { s with svc := { s.svc with mode := 2, link := true }, ven := { s.ven with cfg := 0x000A020A80 } })), (begin0 ((asked (rs fun s => { s with svc := { s.svc with mode := 2, link := true }, ven := { s.ven with cfg := 0x000A020A80 } })))), 1, (lineAtIdx 5 1), 8, by decide, rfl, line_begins (by decide), by decide⟩,
   ⟨(rs fun s => { s with svc := { s.svc with mode := 2, link := true, sessions := Vector.replicate 4 { addr := some 0x021122334455 } }, ven := { s.ven with cfg := 0x000A020A80, mst := 0xC0C0C0C000, grant := some 3 } }), 3, by decide⟩,
   ⟨(rs fun s => { s with svc := { s.svc with mode := 2, link := true, sessions := Vector.replicate 4 { addr := some 0x021122334455 } }, ven := { s.ven with cfg := 0x000A020A80, mst := 0xC0C0C0C000, grant := some 3, up := 0x0000800000 } }), 3, 0xFFFF, _, by decide, by decide, by decide, rfl, by decide⟩,
   ⟨(rs fun s => { s with svc := { s.svc with mode := 2, link := true, sessions := Vector.replicate 4 { addr := some 0x021122334455 } }, ven := { s.ven with cfg := 0x000A020A80, mst := 0xC0C0C0C000, grant := some 3, up := 0x0000800000 } }), 3, 0xFFFF, _, by decide, by decide, by decide, rfl, by decide⟩,
   ⟨(rs fun s => { s with svc := { s.svc with mode := 2, link := true, sessions := Vector.replicate 4 { addr := some 0x021122334455 } }, ven := { s.ven with cfg := 0x000A020A80, mst := 0xC0C0C0C000, grant := some 3, up := 0x0000800000 } }), 3, 0xFFFFFFFF, _, by decide, by decide, by decide, rfl, by decide⟩,
   ⟨(rs fun s => { s with svc := { s.svc with mode := 2, link := true, sessions := Vector.replicate 4 { addr := some 0x021122334455 } }, ven := { s.ven with cfg := 0x000A020A80, mst := 0xC0C0C0C000, grant := some 3, holding := true } }), 3, by decide, by decide, by unfold NothingLocal; decide, by decide⟩,
   ⟨(rs fun s => { s with svc := { s.svc with mode := 2, link := true, sessions := Vector.replicate 4 { addr := some 0x021122334455 } }, ven := { s.ven with cfg := 0x000A020A80, mst := 0xC0C0C0C000, grant := some 3, holding := true, upwDue := some (3, 0, [5]) } }), 3, 0, 5, 2, by decide, by decide, by unfold NothingLocal; decide, by decide⟩⟩

set_option maxRecDepth 100000 in
/-- States and operands that meet the hypotheses of `InterruptsCalibrationAndResetOfTheBus`, clause by clause. -/
theorem hypotheses_interrupts_calibration_and_reset_of_the_bus :
    (∃ (s : State) (i : Fin 8) (level : Bool), domOn s 45 = true ∧ s.ven.irqLevel.getLsbD i.val ≠ level ∧ irqEn s i.val = false) ∧
    (∃ (s : State) (i : Fin 8) (level : Bool) (k : SessionId), domOn s 45 = true ∧ s.ven.irqLevel.getLsbD i.val ≠ level ∧ irqEn s i.val = true ∧ upwTaken s < 32 ∧ k = Fin.ofNat 4 (s.ven.irq.toNat / 2 ^ (16 + 3 * i.val)) ∧ s.svc.sessions[k].addr.isSome = true ∧ present s 4 = true) ∧
    (∃ (s : State) (u : State) (idx : Nat) (l : Line) (w : Fin 16) (v : R40), LineBegins s u 5 idx 0x42 l ∧ u.ven.tapNext = [(w, v)] ∧ (∀ x : Fin 16, x ≠ w → u.ven.tap[x][3] = false)) ∧
    (∃ (s : State) (u : State) (idx : Nat) (l : Line) (w : Fin 16) (n : Nat), LineBegins s u 5 idx 0x42 l ∧ u.ven.tapNext = [] ∧ (∀ x : Fin 16, u.ven.tap[x][3] = (x == w)) ∧ winBytes u.ven.win[w] = 1 ∧ 16 ≤ vget u.ven.reads (4 * w.val) ∧ n = (u.ven.tap[w].extractLsb' 16 6).toNat ∧ 1 ≤ n ∧ n ≤ 62 ∧ 2 ≤ vget u.ven.early (4 * w.val) + vget u.ven.late (4 * w.val)) ∧
    (∃ (s : State) (u : State) (idx : Nat) (l : Line), LineBegins s u 5 idx 0x43 l ∧ busIdle u = true) ∧
    (∃ (s : State) (u : State) (idx : Nat) (l : Line), LineBegins s u 5 idx 0x43 l ∧ u.ven.seen &&& 0xFD ≠ 0) :=
  ⟨⟨(rs fun s => { s with svc := { s.svc with mode := 2, link := true, sessions := Vector.replicate 4 { addr := some 0x021122334455 } }, ven := { s.ven with cfg := 0x000A020A80 } }), 7, true, by decide⟩,
   ⟨(rs fun s => { s with svc := { s.svc with mode := 2, link := true, sessions := Vector.replicate 4 { addr := some 0x021122334455 } }, ven := { s.ven with cfg := 0x000A020A80, irq := 0xFFFFFFFFFF } }), 7, true, 3, by decide⟩,
   ⟨(rs fun s => { s with svc := { s.svc with mode := 2, link := true, sessions := Vector.replicate 4 { addr := some 0x021122334455 } }, ven := { s.ven with cfg := 0x000A020A80, tap := Vector.replicate 16 0, tapNext := [(15, 5)] } }), (begin0 ((rs fun s => { s with svc := { s.svc with mode := 2, link := true, sessions := Vector.replicate 4 { addr := some 0x021122334455 } }, ven := { s.ven with cfg := 0x000A020A80, tap := Vector.replicate 16 0, tapNext := [(15, 5)] } }))), 2, (lineAtIdx 5 2), 15, 5, line_begins (by decide), by decide⟩,
   ⟨(rs fun s => { s with svc := { s.svc with mode := 2, link := true, sessions := Vector.replicate 4 { addr := some 0x021122334455 } }, ven := { s.ven with cfg := 0x000A020A80, tap := (Vector.replicate 16 0x4104104100).set 15 0x4104204108, reads := Vector.replicate 64 16, early := Vector.replicate 64 2 } }), (begin0 ((rs fun s => { s with svc := { s.svc with mode := 2, link := true, sessions := Vector.replicate 4 { addr := some 0x021122334455 } }, ven := { s.ven with cfg := 0x000A020A80, tap := (Vector.replicate 16 0x4104104100).set 15 0x4104204108, reads := Vector.replicate 64 16, early := Vector.replicate 64 2 } }))), 2, (lineAtIdx 5 2), 15, 32, line_begins (by decide), by decide⟩,
   ⟨(rs fun s => { s with svc := { s.svc with mode := 2, link := true, sessions := Vector.replicate 4 { addr := some 0x021122334455 } }, ven := { s.ven with cfg := 0x000A020A80 } }), (begin0 ((rs fun s => { s with svc := { s.svc with mode := 2, link := true, sessions := Vector.replicate 4 { addr := some 0x021122334455 } }, ven := { s.ven with cfg := 0x000A020A80 } }))), 3, (lineAtIdx 5 3), line_begins (by decide), by decide⟩,
   ⟨(rs fun s => { s with svc := { s.svc with mode := 2, link := true, sessions := Vector.replicate 4 { addr := some 0x021122334455 } }, ven := { s.ven with cfg := 0x000A020A80, seen := 1 } }), (begin0 ((rs fun s => { s with svc := { s.svc with mode := 2, link := true, sessions := Vector.replicate 4 { addr := some 0x021122334455 } }, ven := { s.ven with cfg := 0x000A020A80, seen := 1 } }))), 3, (lineAtIdx 5 3), line_begins (by decide), by decide⟩⟩

set_option maxRecDepth 100000 in
/-- States and operands that meet the hypotheses of `PollLinesAsk`, clause by clause. -/
theorem hypotheses_poll_lines_ask :
    (∃ (s : State) (k : Fin 4) (id : Nat) (u : State) (idx : Nat) (ends : Nat) (l : Line) (b : List Byte) (req : List Byte) (frame : List Byte) (wire : List Bool) (c : R40), LineBegins s u 6 idx 0x50 l ∧ l.cont = false ∧ k = Fin.ofNat 4 l.target.toNat ∧ id = l.operand.toNat ∧ b = templateBytes u id ∧ tKind b = 2 ∧ tLine b = k.val ∧ c = u.scan.lines[k].cfg ∧ req = slice b 24 (tReqLen b) ∧ frame = sendBytes (hdlc c) b req ∧ wire = frameWire c b frame ∧ ends = u.now.toNat + bitsTime c wire.length) ∧
    (∃ (s : State) (k : Fin 4) (id : Nat) (r : Nat), s.scan.lines[k].act = some (.poll id r true)) :=
  ⟨⟨(rs fun s => { s with scan := { s.scan with lines := Vector.replicate 4 { cfg := 0x900C402710 }, templates := [tpl 1, tpl 2, tpl 3] } }), 3, 2, (begin0 ((rs fun s => { s with scan := { s.scan with lines := Vector.replicate 4 { cfg := 0x900C402710 }, templates := [tpl 1, tpl 2, tpl 3] } }))), 0, _, (lineAtIdx 6 0), (tpl 2).bytes, _, _, _, 0x900C402710, line_begins (by decide), by decide, by decide, by decide, rfl, by decide, by decide, rfl, rfl, rfl, rfl, rfl⟩,
   ⟨(rs fun s => { s with scan := { s.scan with lines := Vector.replicate 4 { cfg := 0x900C402710, act := some (.poll 2 0 true) }, templates := [tpl 1, tpl 2, tpl 3] } }), 3, 2, 0, by decide⟩⟩

set_option maxRecDepth 100000 in
/-- States and operands that meet the hypotheses of `SendListenAndThresholdLines`, clause by clause. -/
theorem hypotheses_send_listen_and_threshold_lines :
    (∃ (s : State) (k : Fin 4) (id : Nat) (u : State) (idx : Nat) (ends : Nat) (l : Line) (b : List Byte) (frame : List Byte) (wire : List Bool) (c : R40), LineBegins s u 6 idx 0x52 l ∧ l.cont = false ∧ k = Fin.ofNat 4 l.target.toNat ∧ id = l.operand.toNat ∧ b = templateBytes u id ∧ tKind b = 3 ∧ tLine b = k.val ∧ c = u.scan.lines[k].cfg ∧ frame = sendBytes (hdlc c) b (outputFrame u id) ∧ wire = frameWire c b frame ∧ ends = u.now.toNat + bitsTime c wire.length ∧ (∀ x ∈ outputsOf u id, x.flags[7] = true)) ∧
    (∃ (s : State) (k : Fin 4) (id : Nat) (u : State) (idx : Nat) (ends : Nat) (l : Line) (b : List Byte) (frame : List Byte) (wire : List Bool) (c : R40) (x : Signal), LineBegins s u 6 idx 0x52 l ∧ l.cont = false ∧ k = Fin.ofNat 4 l.target.toNat ∧ id = l.operand.toNat ∧ b = templateBytes u id ∧ tKind b = 3 ∧ tLine b = k.val ∧ c = u.scan.lines[k].cfg ∧ frame = sendBytes (hdlc c) b (outputFrame u id) ∧ wire = frameWire c b frame ∧ ends = u.now.toNat + bitsTime c wire.length ∧ (outputsOf u id).find? (fun y => y.flags[7] == false) = some x) ∧
    (∃ (s : State) (k : Fin 4) (id : Nat) (r : Nat) (a : Bool) (m : ScanMode) (n : ScanMode), s.scan.lines[k].driver = true ∧ s.test.echo[k] = false ∧ ((m = .send id ∧ n = .send id) ∨ (m = .poll id r a ∧ n = .poll id r false)) ∧ s.scan.lines[k].act = some m) ∧
    (∃ (s : State) (k : Fin 4) (u : State) (idx : Nat) (l : Line), k = Fin.ofNat 4 l.target.toNat ∧ LineBegins s u 6 idx 0x51 l ∧ l.cont = false) ∧
    (∃ (s : State) (k : Fin 4) (u : State) (idx : Nat) (l : Line) (v : Int), k = Fin.ofNat 4 l.target.toNat ∧ LineBegins s u 6 idx 0x51 l ∧ l.cont = false ∧ u.test.echo[k] = false ∧ -1024 ≤ v ∧ v ≤ 1023) ∧
    (∃ (s : State) (k : Fin 4) (u : State) (idx : Nat) (l : Line) (v : R40), k = Fin.ofNat 4 l.target.toNat ∧ LineBegins s u 6 idx 0x53 l ∧ u.scan.lines[k].calNext = some v) ∧
    (∃ (s : State) (k : Fin 4) (u : State) (idx : Nat) (l : Line) (n : Nat), k = Fin.ofNat 4 l.target.toNat ∧ LineBegins s u 6 idx 0x53 l ∧ u.scan.lines[k].calNext = none ∧ u.scan.lines[k].cal[33] = true ∧ u.test.echo[k] = false ∧ u.scan.lines[k].haveIdle = true ∧ u.scan.lines[k].haveMid = true ∧ n = (u.scan.lines[k].cal.extractLsb' 34 6).toNat ∧ n ≠ threshTarget u.scan.lines[k].cal ∧ (∀ m : Stamp, u.scan.lines[k].calMoved = some m → m.toNat + 10995117 ≤ u.now.toNat)) ∧
    (∃ (s : State) (k : Fin 4) (v : R40), s.scan.lines[k].cfgNext = some (v, true) ∧ DomainsSettled s) :=
  ⟨⟨(rs fun s => { s with scan := { s.scan with lines := Vector.replicate 4 { cfg := 0x900C402710 }, templates := [tpl 1, tpl 2, tpl 3], signals := [{ sigOut with flags := 0x80 }] } }), 3, 3, (begin0 ((rs fun s => { s with scan := { s.scan with lines := Vector.replicate 4 { cfg := 0x900C402710 }, templates := [tpl 1, tpl 2, tpl 3], signals := [{ sigOut with flags := 0x80 }] } }))), 2, _, (lineAtIdx 6 2), (tpl 3).bytes, _, _, 0x900C402710, line_begins (by decide), by decide, by decide, by decide, rfl, by decide, by decide, rfl, rfl, rfl, rfl, by decide⟩,
   ⟨(rs fun s => { s with scan := { s.scan with lines := Vector.replicate 4 { cfg := 0x900C402710 }, templates := [tpl 1, tpl 2, tpl 3], signals := [sigOut] } }), 3, 3, (begin0 ((rs fun s => { s with scan := { s.scan with lines := Vector.replicate 4 { cfg := 0x900C402710 }, templates := [tpl 1, tpl 2, tpl 3], signals := [sigOut] } }))), 2, _, (lineAtIdx 6 2), (tpl 3).bytes, _, _, 0x900C402710, sigOut, line_begins (by decide), by decide, by decide, by decide, rfl, by decide, by decide, rfl, rfl, rfl, rfl, rfl⟩,
   ⟨(rs fun s => { s with scan := { s.scan with lines := Vector.replicate 4 { cfg := 0x900C402710, act := some (.send 3), driver := true }, templates := [tpl 1, tpl 2, tpl 3] } }), 3, 3, 0, false, .send 3, .send 3, by decide⟩,
   ⟨(rs fun s => { s with scan := { s.scan with lines := Vector.replicate 4 { cfg := 0x900C402710 }, templates := [tpl 1, tpl 2, tpl 3] } }), 3, (begin0 ((rs fun s => { s with scan := { s.scan with lines := Vector.replicate 4 { cfg := 0x900C402710 }, templates := [tpl 1, tpl 2, tpl 3] } }))), 1, (lineAtIdx 6 1), by decide, line_begins (by decide), by decide⟩,
   ⟨(rs fun s => { s with scan := { s.scan with lines := Vector.replicate 4 { cfg := 0x900C402710 }, templates := [tpl 1, tpl 2, tpl 3] } }), 3, (begin0 ((rs fun s => { s with scan := { s.scan with lines := Vector.replicate 4 { cfg := 0x900C402710 }, templates := [tpl 1, tpl 2, tpl 3] } }))), 1, (lineAtIdx 6 1), 1023, by decide, line_begins (by decide), by decide⟩,
   ⟨(rs fun s => { s with scan := { s.scan with lines := Vector.replicate 4 { cfg := 0x900C402710, calNext := some 0x5E00000000 }, templates := [tpl 1, tpl 2, tpl 3] } }), 3, (begin0 ((rs fun s => { s with scan := { s.scan with lines := Vector.replicate 4 { cfg := 0x900C402710, calNext := some 0x5E00000000 }, templates := [tpl 1, tpl 2, tpl 3] } }))), 3, (lineAtIdx 6 3), 0x5E00000000, by decide, line_begins (by decide), by decide⟩,
   ⟨(rs fun s => { s with scan := { s.scan with lines := Vector.replicate 4 { cfg := 0x900C402710, cal := 0x6200000000, haveIdle := true, haveMid := true }, templates := [tpl 1, tpl 2, tpl 3] } }), 3, (begin0 ((rs fun s => { s with scan := { s.scan with lines := Vector.replicate 4 { cfg := 0x900C402710, cal := 0x6200000000, haveIdle := true, haveMid := true }, templates := [tpl 1, tpl 2, tpl 3] } }))), 3, (lineAtIdx 6 3), 24, by decide, line_begins (by decide), by decide, by decide, by decide, by decide, by decide, by decide, by decide, fun _ h => nomatch (h : none = some _)⟩,
   ⟨(rs fun s => { s with scan := { s.scan with lines := Vector.replicate 4 { cfgNext := some (0x100C402710, true) } } }), 3, 0x100C402710, by decide, settled_settled _⟩⟩

set_option maxRecDepth 100000 in
/-- States and operands that meet the hypotheses of `ReceivedFramesAreJudged`, clause by clause. -/
theorem hypotheses_received_frames_are_judged :
    (∃ (s : State) (k : Fin 4) (f : ScanFrame) (first : Option Nat) (m : ScanMode) (cfg : R40) (b : List Byte), domOn s 47 = true ∧ scanOn s k = true ∧ m = .listen first ∧ s.scan.lines[k].act = some m ∧ s.scan.lines[k].driver = false ∧ s.scan.lines[k].sendEnds = none ∧ f.vIdle = none ∧ cfg = s.scan.lines[k].cfg ∧ b = frameOctets cfg f ∧ beginsFrame cfg m f = false) ∧
    (∃ (s : State) (k : Fin 4) (f : ScanFrame) (first : Option Nat) (m : ScanMode) (cfg : R40) (b : List Byte), domOn s 47 = true ∧ scanOn s k = true ∧ m = .listen first ∧ s.scan.lines[k].act = some m ∧ s.scan.lines[k].driver = false ∧ s.scan.lines[k].sendEnds = none ∧ f.vIdle = none ∧ cfg = s.scan.lines[k].cfg ∧ b = frameOctets cfg f ∧ beginsFrame cfg m f = true ∧ frameTemplate s k m b = none ∧ f.cut = false ∧ frameAborted cfg f = false ∧ b.length ≤ 256 ∧ (hdlc cfg = false ∨ 3 ≤ b.length)) ∧
    (∃ (s : State) (k : Fin 4) (f : ScanFrame) (first : Option Nat) (m : ScanMode) (cfg : R40) (b : List Byte) (id : Nat) (c : Nat), domOn s 47 = true ∧ scanOn s k = true ∧ m = .listen first ∧ s.scan.lines[k].act = some m ∧ s.scan.lines[k].driver = false ∧ s.scan.lines[k].sendEnds = none ∧ f.vIdle = none ∧ cfg = s.scan.lines[k].cfg ∧ b = frameOctets cfg f ∧ beginsFrame cfg m f = true ∧ frameTemplate s k m b = some id ∧ failCause cfg (templateBytes s id) f = c ∧ c ≠ 0) ∧
    (∃ (s : State) (k : Fin 4) (f : ScanFrame) (first : Option Nat) (m : ScanMode) (cfg : R40) (b : List Byte) (id : Nat), domOn s 47 = true ∧ scanOn s k = true ∧ m = .listen first ∧ s.scan.lines[k].act = some m ∧ s.scan.lines[k].driver = false ∧ s.scan.lines[k].sendEnds = none ∧ f.vIdle = none ∧ cfg = s.scan.lines[k].cfg ∧ b = frameOctets cfg f ∧ beginsFrame cfg m f = true ∧ frameTemplate s k m b = some id ∧ failCause cfg (templateBytes s id) f = 0 ∧ inputsOf s id = []) :=
  ⟨⟨(rs fun s => { s with scan := { s.scan with lines := Vector.replicate 4 { cfg := 0x900C402710, act := some (.listen none) } } }), 3, { frame0 [1, 2] with idle := 0 }, none, .listen none, 0x900C402710, [1, 2], by decide, by decide, rfl, by decide, by decide, by decide, by decide, rfl, rfl, by decide⟩,
   ⟨(rs fun s => { s with scan := { s.scan with lines := Vector.replicate 4 { cfg := 0x900C402710, act := some (.listen none) } } }), 3, (frame0 (List.replicate 256 0)), none, .listen none, 0x900C402710, List.replicate 256 0, by decide, by decide, rfl, by decide, by decide, by decide, by decide, rfl, rfl, by decide⟩,
   ⟨(rs fun s => { s with scan := { s.scan with lines := Vector.replicate 4 { cfg := 0x900C402710, act := some (.listen none) }, templates := [tpl 1, tpl 2, tpl 3] } }), 3, { chars := [1, 2, 3, 4].map fun x => { data := x, parity := false, stop1 := false, stop2 := true }, bits := [], idle := 40, vIdle := none, first := false, cut := false, vMark := 0, vSpace := 0 }, none, .listen none, 0x900C402710, [1, 2, 3, 4], 1, 1, by decide, by decide, rfl, by decide, by decide, by decide, by decide, rfl, rfl, by decide⟩,
   ⟨(rs fun s => { s with scan := { s.scan with lines := Vector.replicate 4 { cfg := 0x900C402710, act := some (.listen none) }, templates := [tpl 1, tpl 2, tpl 3] } }), 3, (frame0 [1, 2, 3, 4]), none, .listen none, 0x900C402710, [1, 2, 3, 4], 1, by decide, by decide, rfl, by decide, by decide, by decide, by decide, rfl, rfl, by decide⟩⟩

set_option maxRecDepth 100000 in
/-- States and operands that meet the hypotheses of `PathLinesActOnTheirSides`, clause by clause. -/
theorem hypotheses_path_lines_act_on_their_sides :
    (∃ (s : State) (u : State) (p : PathId) (idx : Nat) (l : Line) (c : SideCount), LineBegins s u (pathTable p) idx 0x60 l ∧ reaches u p l c.side = true ∧ inData u c.side = true ∧ sweepHolds u c.side = false ∧ u.sides[c.side].margin = none) ∧
    (∃ (s : State) (u : State) (p : PathId) (idx : Nat) (l : Line) (c : SideCount), LineBegins s u (pathTable p) idx 0x60 l ∧ (reaches u p l c.side = false ∨ inData u c.side = false ∨ sweepHolds u c.side = true)) ∧
    (∃ (s : State) (u : State) (p : PathId) (idx : Nat) (l : Line), LineBegins s u (pathTable p) idx 0x61 l) ∧
    (∃ (s : State) (u : State) (p : PathId) (idx : Nat) (l : Line) (c : SideCount) (k : Nat), LineBegins s u (pathTable p) idx 0x62 l ∧ l.operand = 0xFFFF ∧ u.sweep.st = 3 ∧ u.sweep.point = some k ∧ u.sweep.moved = true ∧ u.sweep.cells = [] ∧ reaches u p l c.side = true ∧ u.sweep.masks[pathOf c.side].getLsbD (c.side.val % 8) = true) ∧
    (∃ (s : State) (u : State) (p : PathId) (idx : Nat) (l : Line) (i : SideId) (m : PinMeasure) (lat : BitVec 22), LineBegins s u (pathTable p) idx 0x63 l ∧ m.side = i ∧ lat = BitVec.ofInt 22 ((m.lat.toNat : Int) + u.store.pinCal[i]) ∧ reaches u p l i = true ∧ u.lanes[laneOf i].ei[endOf i] = false ∧ u.lanes[laneOf i].lock[endOf i] = true ∧ pcPinned u.paths[p].cfg = false) ∧
    (∃ (s : State) (u : State) (p : PathId) (idx : Nat) (l : Line) (i : SideId) (m : PinMeasure) (goal : Nat) (lat : BitVec 22), LineBegins s u (pathTable p) idx 0x63 l ∧ m.side = i ∧ lat = BitVec.ofInt 22 ((m.lat.toNat : Int) + u.store.pinCal[i]) ∧ reaches u p l i = true ∧ u.lanes[laneOf i].ei[endOf i] = false ∧ u.lanes[laneOf i].lock[endOf i] = true ∧ pcPinned u.paths[p].cfg = true ∧ runRate u.paths[p] = pcRate u.paths[p].cfg ∧ goal = pinTarget u.paths[p] u.lanes[laneOf i].pin ∧ lat.toNat ≤ goal + 6 ∧ goal ≤ lat.toNat + 6) ∧
    (∃ (s : State) (u : State) (p : PathId) (idx : Nat) (l : Line), LineBegins s u (pathTable p) idx 0x64 l ∧ u.paths[p].test = false) ∧
    (∃ (s : State) (u : State) (p : PathId) (idx : Nat) (l : Line) (i : SideId) (sel : Byte), LineBegins s u (pathTable p) idx 0x64 l ∧ u.paths[p].test = true ∧ namedSides u p l = [i] ∧ sel = l.operand.extractLsb' 0 8 ∧ sel ≠ 0 ∧ underTest u.sides[i] = false ∧ underTest u.sides[opposite i] = false) ∧
    (∃ (s : State) (u : State) (p : PathId) (idx : Nat) (l : Line), LineBegins s u (pathTable p) idx 0x65 l ∧ u.paths[p].test = false) ∧
    (∃ (s : State) (u : State) (p : PathId) (idx : Nat) (l : Line) (i : SideId) (depth : Byte), LineBegins s u (pathTable p) idx 0x65 l ∧ u.paths[p].test = true ∧ namedSides u p l = [i] ∧ depth = l.operand.extractLsb' 0 8 ∧ depth ≠ 0 ∧ underTest u.sides[i] = false ∧ underTest u.sides[opposite i] = false) :=
  ⟨⟨(rs fun s => { s with paths := Vector.replicate 4 { cfg := 0x3101e84800, st := .active, ltssm := 3, rateNow := 5, position := 1 }, lanes := Vector.replicate 16 { ei := Vector.replicate 2 false, lock := Vector.replicate 2 true }, sides := Vector.replicate 32 { term := true } }), (begin0 ((rs fun s => { s with paths := Vector.replicate 4 { cfg := 0x3101e84800, st := .active, ltssm := 3, rateNow := 5, position := 1 }, lanes := Vector.replicate 16 { ei := Vector.replicate 2 false, lock := Vector.replicate 2 true }, sides := Vector.replicate 32 { term := true } }))), 3, 0, (lineAtIdx 4 0), { side := 31, compared := 5, errors := 1, errors1 := 0 }, line_begins (by decide), by decide⟩,
   ⟨(rs fun s => { s with paths := Vector.replicate 4 { cfg := 0x3101e84800, st := .active }, lanes := Vector.replicate 16 { ei := Vector.replicate 2 false, lock := Vector.replicate 2 true }, sides := Vector.replicate 32 { term := true } }), (begin0 ((rs fun s => { s with paths := Vector.replicate 4 { cfg := 0x3101e84800, st := .active }, lanes := Vector.replicate 16 { ei := Vector.replicate 2 false, lock := Vector.replicate 2 true }, sides := Vector.replicate 32 { term := true } }))), 3, 0, (lineAtIdx 4 0), { side := 31, compared := 5, errors := 1, errors1 := 0 }, line_begins (by decide), by decide⟩,
   ⟨(rs fun s => { s with paths := Vector.replicate 4 { cfg := 0xb1200f4240, st := .active }, lanes := Vector.replicate 16 { ei := Vector.replicate 2 false, lock := Vector.replicate 2 true }, sides := Vector.replicate 32 { term := true } }), (begin0 ((rs fun s => { s with paths := Vector.replicate 4 { cfg := 0xb1200f4240, st := .active }, lanes := Vector.replicate 16 { ei := Vector.replicate 2 false, lock := Vector.replicate 2 true }, sides := Vector.replicate 32 { term := true } }))), 3, 1, (lineAtIdx 4 1), line_begins (by decide)⟩,
   ⟨(rs fun s => { s with paths := Vector.replicate 4 { cfg := 0x3101e84800, st := .active, ltssm := 3, rateNow := 5, position := 1 }, lanes := Vector.replicate 16 { ei := Vector.replicate 2 false, lock := Vector.replicate 2 true }, sides := Vector.replicate 32 { term := true }, sweep := { s.sweep with st := 3, point := some 0, moved := true, npoints := 1, masks := Vector.replicate 4 0xFF } }), (begin0 ((rs fun s => { s with paths := Vector.replicate 4 { cfg := 0x3101e84800, st := .active, ltssm := 3, rateNow := 5, position := 1 }, lanes := Vector.replicate 16 { ei := Vector.replicate 2 false, lock := Vector.replicate 2 true }, sides := Vector.replicate 32 { term := true }, sweep := { s.sweep with st := 3, point := some 0, moved := true, npoints := 1, masks := Vector.replicate 4 0xFF } }))), 3, 2, (lineAtIdx 4 2), { side := 31, compared := 5, errors := 1, errors1 := 0 }, 0, line_begins (by decide), by decide⟩,
   ⟨(rs fun s => { s with paths := Vector.replicate 4 { cfg := 0x3101e84800, st := .active, ltssm := 3, rateNow := 5, position := 1 }, lanes := Vector.replicate 16 { ei := Vector.replicate 2 false, lock := Vector.replicate 2 true }, sides := Vector.replicate 32 { term := true } }), (begin0 ((rs fun s => { s with paths := Vector.replicate 4 { cfg := 0x3101e84800, st := .active, ltssm := 3, rateNow := 5, position := 1 }, lanes := Vector.replicate 16 { ei := Vector.replicate 2 false, lock := Vector.replicate 2 true }, sides := Vector.replicate 32 { term := true } }))), 3, 3, (lineAtIdx 4 3), 31, { side := 31, lat := 0, steps := 0, stepSize := 0 }, 0, line_begins (by decide), by decide, rfl, by decide⟩,
   ⟨(rs fun s => { s with paths := Vector.replicate 4 { cfg := 0xb1200f4240, st := .active, rateNow := 0 }, lanes := Vector.replicate 16 { ei := Vector.replicate 2 false, lock := Vector.replicate 2 true, pin := 50000 }, sides := Vector.replicate 32 { term := true } }), (begin0 ((rs fun s => { s with paths := Vector.replicate 4 { cfg := 0xb1200f4240, st := .active, rateNow := 0 }, lanes := Vector.replicate 16 { ei := Vector.replicate 2 false, lock := Vector.replicate 2 true, pin := 50000 }, sides := Vector.replicate 32 { term := true } }))), 3, 3, (lineAtIdx 4 3), 31, { side := 31, lat := 50006, steps := 0, stepSize := 0 }, _, 50006, line_begins (by decide), by decide, rfl, by decide, by decide, by decide, by decide, by decide, rfl, by decide⟩,
   ⟨(rs fun s => { s with paths := Vector.replicate 4 { cfg := 0xb1200f4240, st := .active }, lanes := Vector.replicate 16 { ei := Vector.replicate 2 false, lock := Vector.replicate 2 true }, sides := Vector.replicate 32 { term := true } }), (begin0 ((rs fun s => { s with paths := Vector.replicate 4 { cfg := 0xb1200f4240, st := .active }, lanes := Vector.replicate 16 { ei := Vector.replicate 2 false, lock := Vector.replicate 2 true }, sides := Vector.replicate 32 { term := true } }))), 3, 4, (lineAtIdx 4 4), line_begins (by decide), by decide⟩,
   ⟨(rs fun s => { s with paths := Vector.replicate 4 { cfg := 0x3101e84800, st := .active, test := true }, lanes := Vector.replicate 16 { ei := Vector.replicate 2 false, lock := Vector.replicate 2 true }, sides := Vector.replicate 32 { term := true } }), (begin0 ((rs fun s => { s with paths := Vector.replicate 4 { cfg := 0x3101e84800, st := .active, test := true }, lanes := Vector.replicate 16 { ei := Vector.replicate 2 false, lock := Vector.replicate 2 true }, sides := Vector.replicate 32 { term := true } }))), 3, 4, (lineAtIdx 4 4), 31, 1, line_begins (by decide), by decide⟩,
   ⟨(rs fun s => { s with paths := Vector.replicate 4 { cfg := 0xb1200f4240, st := .active }, lanes := Vector.replicate 16 { ei := Vector.replicate 2 false, lock := Vector.replicate 2 true }, sides := Vector.replicate 32 { term := true } }), (begin0 ((rs fun s => { s with paths := Vector.replicate 4 { cfg := 0xb1200f4240, st := .active }, lanes := Vector.replicate 16 { ei := Vector.replicate 2 false, lock := Vector.replicate 2 true }, sides := Vector.replicate 32 { term := true } }))), 3, 5, (lineAtIdx 4 5), line_begins (by decide), by decide⟩,
   ⟨(rs fun s => { s with paths := Vector.replicate 4 { cfg := 0x3101e84800, st := .active, test := true }, lanes := Vector.replicate 16 { ei := Vector.replicate 2 false, lock := Vector.replicate 2 true }, sides := Vector.replicate 32 { term := true } }), (begin0 ((rs fun s => { s with paths := Vector.replicate 4 { cfg := 0x3101e84800, st := .active, test := true }, lanes := Vector.replicate 16 { ei := Vector.replicate 2 false, lock := Vector.replicate 2 true }, sides := Vector.replicate 32 { term := true } }))), 3, 5, (lineAtIdx 4 5), 31, 1, line_begins (by decide), by decide⟩⟩

set_option maxRecDepth 100000 in
/-- States and operands that meet the hypotheses of `PathsRestAndWake`, clause by clause. -/
theorem hypotheses_paths_rest_and_wake :
    (∃ (s : State) (p : PathId) (u : State) (idx : Nat) (l : Line), LineBegins s u (pathTable p) idx 0x66 l ∧ mayRest u p = false) ∧
    (∃ (s : State) (p : PathId) (u : State) (idx : Nat) (l : Line), LineBegins s u (pathTable p) idx 0x66 l ∧ mayRest u p = true ∧ u.paths[p].formed = false ∧ DomainsSettled u) ∧
    (∃ (s : State) (p : PathId) (u : State) (idx : Nat) (l : Line), LineBegins s u (pathTable p) idx 0x67 l ∧ mayWake u p = false) ∧
    (∃ (s : State) (p : PathId) (u : State) (idx : Nat) (l : Line), LineBegins s u (pathTable p) idx 0x67 l ∧ mayWake u p = true ∧ u.paths[p].formed = false ∧ DomainsSettled u) ∧
    (∃ (s : State) (p : PathId), s.pow.dev = .run ∧ s.paths[p].armed = true) :=
  ⟨⟨w, 3, begin0 w, 6, (lineAtIdx 4 6), line_begins (by decide), by decide⟩,
   ⟨(rs fun s => { s with paths := Vector.replicate 4 { cfg := 0xb1200f4240, st := .idle, idleNs := 100000000000, pathT := 1 } }), 3, (begin0 ((rs fun s => { s with paths := Vector.replicate 4 { cfg := 0xb1200f4240, st := .idle, idleNs := 100000000000, pathT := 1 } }))), 6, (lineAtIdx 4 6), line_begins (by decide), by decide, by decide, settled_settled _⟩,
   ⟨w, 3, begin0 w, 7, (lineAtIdx 4 7), line_begins (by decide), by decide⟩,
   ⟨(rs fun s => { s with paths := Vector.replicate 4 { cfg := 0xb1200f4240, st := .dormant, wakeReq := true } }), 3, (begin0 ((rs fun s => { s with paths := Vector.replicate 4 { cfg := 0xb1200f4240, st := .dormant, wakeReq := true } }))), 7, (lineAtIdx 4 7), line_begins (by decide), by decide, by decide, settled_settled _⟩,
   ⟨(rs fun s => { s with paths := Vector.replicate 4 { armed := true } }), 3, by decide⟩⟩

set_option maxRecDepth 100000 in
/-- States and operands that meet the hypotheses of `TheCalenderAdapts`, clause by clause. -/
theorem hypotheses_the_calender_adapts :
    (∃ (s : State) (i : SideId) (m : Measured) (n : Nat) (r : Nat), domOn s (i.val + 1) = true ∧ inData s i = true ∧ calRuns s i = true ∧ 4096 ≤ s.sides[i].measUi ∧ domOn s 39 = true ∧ present s 2 = true ∧ n = min s.sides[i].measUi 65536 ∧ r = residOf m.sumSq n) ∧
    (∃ (s : State) (i : SideId) (m : Measured) (n : Nat) (r : Nat), domOn s (i.val + 1) = true ∧ inData s i = true ∧ calRuns s i = true ∧ 4096 ≤ s.sides[i].measUi ∧ domOn s 39 = true ∧ present s 2 = true ∧ n = min s.sides[i].measUi 65536 ∧ r = residOf m.sumSq n ∧ pcMode s.paths[pathOf i].cfg ≠ 5 ∧ s.sides[i].gated = false ∧ isHigh s.sides[i] r = true) ∧
    (∃ (s : State) (i : SideId), domOn s (i.val + 1) = true ∧ inData s i = true ∧ (s.sides[i].measUi < 4096 ∨ calRuns s i = false)) ∧
    (∃ (s : State) (i : SideId), domOn s (i.val + 1) = true ∧ inData s i = false ∧ adapting s i = true ∧ domOn s 39 = true ∧ present s 2 = true) ∧
    (∃ (s : State) (i : SideId) (set : Fin 4) (n : Nat) (c : Nat), domOn s (i.val + 1) = true ∧ inData s i = true ∧ s.sides[opposite i].txRamp = none ∧ s.sides[i].fecWait = 0 ∧ set = runSet s.paths[pathOf i] ∧ c ≤ 31 ∧ fecHolds s i = false ∧ digitalLine s i = true ∧ s.sides[i].targets = [{ corr := 1, sub := 0, code := c, ramp := true }] ∧ n = (s.sides[i].rxeq[set].extractLsb' 35 5).toNat ∧ n ≠ c) ∧
    (∃ (s : State) (i : SideId) (set : Fin 4) (n : Nat) (c : Nat), domOn s (i.val + 1) = true ∧ inData s i = true ∧ s.sides[opposite i].txRamp = none ∧ s.sides[i].fecWait = 0 ∧ set = runSet s.paths[pathOf i] ∧ c ≤ 31 ∧ fecHolds s i = false ∧ trimMoves s i { corr := 7, sub := 0, code := c, ramp := true } = true ∧ s.sides[i].targets = [{ corr := 7, sub := 0, code := c, ramp := true }] ∧ n = (s.sides[i].trim.extractLsb' 30 5).toNat ∧ n ≠ c) ∧
    (∃ (s : State) (i : SideId), domOn s (i.val + 1) = true ∧ inData s i = true ∧ s.sides[opposite i].txRamp = none ∧ s.sides[i].fecWait ≠ 0) ∧
    (∃ (s : State) (i : SideId) (v : R40) (set : Fin 4), domOn s (i.val + 1) = true ∧ inData s i = true ∧ s.sides[opposite i].txRamp = some v ∧ s.sides[i].targets = [] ∧ s.sides[i].fecWait = 0 ∧ set = runSet s.paths[pathOf i]) ∧
    (∃ (s : State) (i : SideId), domOn s (i.val + 1) = true ∧ s.sides[i].calDue = true) :=
  ⟨⟨(rs fun s => { s with paths := Vector.replicate 4 { cfg := 0x3101e84800, st := .active, ltssm := 3, rateNow := 5, position := 1 }, lanes := Vector.replicate 16 { ei := Vector.replicate 2 false, lock := Vector.replicate 2 true }, sides := Vector.replicate 32 { measUi := 65537 }, seq := { s.seq with running := [{ table := 0, idx := 5, tokens := true, acts := true }, { table := 4, idx := 0, tokens := true, acts := true }] } }), 31, meas0, 65536, 0, by decide⟩,
   ⟨(rs fun s => { s with paths := Vector.replicate 4 { cfg := 0x3101e84800, st := .active, ltssm := 3, rateNow := 5, position := 1 }, lanes := Vector.replicate 16 { ei := Vector.replicate 2 false, lock := Vector.replicate 2 true }, sides := Vector.replicate 32 { measUi := 4096, calValid := true, fresh := false }, seq := { s.seq with running := [{ table := 0, idx := 5, tokens := true, acts := true }, { table := 4, idx := 0, tokens := true, acts := true }] } }), 31, { sumSq := 4096 * 25600, transitions := 500, targets := [] }, 4096, 65535, by decide⟩,
   ⟨(rs fun s => { s with paths := Vector.replicate 4 { cfg := 0x3101e84800, st := .active, ltssm := 3, rateNow := 5, position := 1 }, lanes := Vector.replicate 16 { ei := Vector.replicate 2 false, lock := Vector.replicate 2 true }, sides := Vector.replicate 32 { measUi := 4095 }, seq := { s.seq with running := [{ table := 0, idx := 5, tokens := true, acts := true }, { table := 4, idx := 0, tokens := true, acts := true }] } }), 31, by decide⟩,
   ⟨(rs fun s => { s with paths := Vector.replicate 4 { cfg := 0x3101e84800, st := .active, ltssm := 6, rateNow := 5, position := 1 }, lanes := Vector.replicate 16 { ei := Vector.replicate 2 false, lock := Vector.replicate 2 true }, sides := Vector.replicate 32 { term := true } }), 31, by decide⟩,
   ⟨(rs fun s => { s with paths := Vector.replicate 4 { cfg := 0x3101e84800, st := .active, ltssm := 3, rateNow := 5, position := 1 }, lanes := Vector.replicate 16 { ei := Vector.replicate 2 false, lock := Vector.replicate 2 true }, sides := Vector.replicate 32 { term := true, targets := [{ corr := 1, sub := 0, code := 31, ramp := true }] }, seq := { s.seq with running := [{ table := 0, idx := 5, tokens := true, acts := true }, { table := 4, idx := 0, tokens := true, acts := true }] } }), 31, _, 12, 31, by decide, by decide, by decide, by decide, rfl, by decide⟩,
   ⟨(rs fun s => { s with paths := Vector.replicate 4 { cfg := 0x3101e84800, st := .active, ltssm := 3, rateNow := 5, position := 1 }, lanes := Vector.replicate 16 { ei := Vector.replicate 2 false, lock := Vector.replicate 2 true }, sides := Vector.replicate 32 { term := true, targets := [{ corr := 7, sub := 0, code := 31, ramp := true }] }, seq := { s.seq with running := [{ table := 0, idx := 5, tokens := true, acts := true }, { table := 0, idx := 1, tokens := true, acts := true }] } }), 31, _, 16, 31, by decide, by decide, by decide, by decide, rfl, by decide⟩,
   ⟨(rs fun s => { s with paths := Vector.replicate 4 { cfg := 0x3101e84800, st := .active, ltssm := 3, rateNow := 5, position := 1 }, lanes := Vector.replicate 16 { ei := Vector.replicate 2 false, lock := Vector.replicate 2 true }, sides := Vector.replicate 32 { term := true, fecWait := 3 }, seq := { s.seq with running := [{ table := 0, idx := 5, tokens := true, acts := true }, { table := 4, idx := 0, tokens := true, acts := true }] } }), 31, by decide⟩,
   ⟨(rs fun s => { s with paths := Vector.replicate 4 { cfg := 0x3101e84800, st := .active, ltssm := 3, rateNow := 5, position := 1 }, lanes := Vector.replicate 16 { ei := Vector.replicate 2 false, lock := Vector.replicate 2 true }, sides := Vector.replicate 32 { term := true, txRamp := some 0x0100040000 }, seq := { s.seq with running := [{ table := 0, idx := 5, tokens := true, acts := true }, { table := 4, idx := 0, tokens := true, acts := true }] } }), 31, 0x0100040000, _, by decide, by decide, by decide, by decide, by decide, rfl⟩,
   ⟨(rs fun s => { s with paths := Vector.replicate 4 { cfg := 0x3101e84800, st := .active, ltssm := 3, rateNow := 5, position := 1 }, lanes := Vector.replicate 16 { ei := Vector.replicate 2 false, lock := Vector.replicate 2 true }, sides := Vector.replicate 32 { calDue := true } }), 31, by decide⟩⟩

set_option maxRecDepth 100000 in
/-- States and operands that meet the hypotheses of `LanesClocksAndCheckersFollow`, clause by clause. -/
theorem hypotheses_lanes_clocks_and_checkers_follow :
    (∃ (s : State) (i : SideId), laneOn s (laneOf i) = true ∧ domOn s (i.val + 1) = true ∧ s.lanes[laneOf i].ei[endOf i] = true ∧ forming s.paths[pathOf i] = false ∧ s.paths[pathOf i].st ≠ .dormant) ∧
    (∃ (s : State) (i : SideId), laneOn s (laneOf i) = true ∧ domOn s (i.val + 1) = true ∧ s.lanes[laneOf i].ei[endOf i] = false ∧ neverIdle s (laneOf i) = false) ∧
    (∃ (s : State) (i : SideId), laneOn s (laneOf i) = true ∧ domOn s (i.val + 1) = true) ∧
    (∃ (s : State) (i : SideId) (n : Int), laneOn s (laneOf i) = true ∧ domOn s (i.val + 1) = true ∧ adjustable s i = true ∧ skpUnit s.paths[pathOf i] ≠ 0 ∧ n ≠ 0) ∧
    (∃ (s : State) (i : SideId), laneOn s (laneOf i) = true ∧ domOn s (i.val + 1) = true ∧ pcMode s.paths[pathOf i].cfg = 5 ∧ s.lanes[laneOf i].ei[endOf i] = false ∧ s.lanes[laneOf i].lock[endOf i] = false ∧ s.sides[i].adapted = false) ∧
    (∃ (s : State) (i : SideId) (d : Dir), laneOn s (laneOf i) = true ∧ domOn s (i.val + 1) = true ∧ i = dirSide (laneOf i) d ∧ domOn s (33 + (pathOf i).val) = true) ∧
    (∃ (s : State) (i : SideId), laneOn s (laneOf i) = true ∧ domOn s (i.val + 1) = true ∧ inData s i = true) ∧
    (∃ (s : State) (i : SideId), laneOn s (laneOf i) = true ∧ domOn s (i.val + 1) = true ∧ inData s i = false) ∧
    (∃ (s : State) (i : IslandId), islandNumbered i.val = true ∧ present s i.val = true) ∧
    (∃ (s : State) (i : IslandId), s.pow.absent[i] = true ∧ (i.val < 8 ∨ 12 ≤ i.val)) ∧
    (∃ (s : State) (i : IslandId) (p : PathId), s.pow.absent[i] = true ∧ i.val = 8 + p.val) ∧
    (∃ (s : State), s.win.coreClk = true) ∧
    (∃ (s : State) (i : SideId), s.sides[i].patSel.toNat % 128 ≠ 0 ∧ s.sides[i].chkLock = false ∧ domOn s 48 = true) ∧
    (∃ (s : State) (i : SideId), s.sides[i].chkLock = true) :=
  ⟨⟨(rs fun s => { s with paths := Vector.replicate 4 { cfg := 0xb1200f4240 } }), 31, by decide⟩,
   ⟨(rs fun s => { s with paths := Vector.replicate 4 { cfg := 0xb1200f4240, st := .active }, lanes := Vector.replicate 16 { ei := Vector.replicate 2 false, lock := Vector.replicate 2 true }, sides := Vector.replicate 32 { term := true } }), 31, by decide⟩,
   ⟨(rs fun s => { s with paths := Vector.replicate 4 { cfg := 0xb1200f4240, st := .active }, lanes := Vector.replicate 16 { ei := Vector.replicate 2 false, lock := Vector.replicate 2 true }, sides := Vector.replicate 32 { term := true } }), 31, by decide⟩,
   ⟨(rs fun s => { s with paths := Vector.replicate 4 { cfg := 0x3101e84800, st := .active, ltssm := 3, rateNow := 5, position := 1 }, lanes := Vector.replicate 16 { ei := Vector.replicate 2 false, lock := Vector.replicate 2 true }, sides := Vector.replicate 32 { term := true } }), 31, 1, by decide⟩,
   ⟨(rs fun s => { s with paths := Vector.replicate 4 { cfg := 0xb1200f4240, st := .active }, lanes := Vector.replicate 16 { ei := Vector.replicate 2 false } }), 31, by decide⟩,
   ⟨(rs fun s => { s with paths := Vector.replicate 4 { cfg := 0xb1200f4240, st := .active }, lanes := Vector.replicate 16 { ei := Vector.replicate 2 false, lock := Vector.replicate 2 true }, sides := Vector.replicate 32 { term := true } }), 31, .up, by decide⟩,
   ⟨(rs fun s => { s with paths := Vector.replicate 4 { cfg := 0x3101e84800, st := .active, ltssm := 3, rateNow := 5, position := 1 }, lanes := Vector.replicate 16 { ei := Vector.replicate 2 false, lock := Vector.replicate 2 true }, sides := Vector.replicate 32 { term := true } }), 31, by decide⟩,
   ⟨(rs fun s => { s with paths := Vector.replicate 4 { cfg := 0x3101e84800, st := .active }, lanes := Vector.replicate 16 { ei := Vector.replicate 2 false, lock := Vector.replicate 2 true }, sides := Vector.replicate 32 { term := true } }), 31, by decide⟩,
   ⟨(rs fun s => { s with paths := Vector.replicate 4 { cfg := 0xb1200f4240, st := .active } }), 8, by decide⟩,
   ⟨(rs fun s => { s with pow := { s.pow with absent := Vector.replicate 64 true } }), 63, by decide⟩,
   ⟨(rs fun s => { s with pow := { s.pow with absent := Vector.replicate 64 true } }), 11, 3, by decide⟩,
   ⟨(rs fun s => { s with win := { s.win with coreClk := true } }), by decide⟩,
   ⟨(rs fun s => { s with paths := Vector.replicate 4 { cfg := 0xb1200f4240, test := true }, sides := Vector.replicate 32 { patSel := 1 } }), 31, by decide⟩,
   ⟨(rs fun s => { s with sides := Vector.replicate 32 { chkLock := true } }), 31, by decide⟩⟩

set_option maxRecDepth 100000 in
/-- States and operands that meet the hypotheses of `PcieTrainingIsFollowed`, clause by clause. -/
theorem hypotheses_pcie_training_is_followed :
    (∃ (s : State) (p : PathId), pcieLive s p = true ∧ s.paths[p].formed = false ∧ pcBond s.paths[p].cfg = 0 ∧ s.paths[p].ltssm = 0 ∧ s.paths[p].refclk = true ∧ calibrating s p = false) ∧
    (∃ (s : State) (p : PathId) (i : SideId) (ts : TrainingSet), pcieLive s p = true ∧ s.paths[p].formed = false ∧ pcBond s.paths[p].cfg = 0 ∧ pathOf i = p ∧ laneOn s (laneOf i) = true ∧ domOn s (i.val + 1) = true ∧ ts.state ≠ 12 ∧ s.lanes[laneOf i].ei[endOf i] = false ∧ underTest s.sides[i] = false ∧ (ts.state = 4 → eqBusy s p = false)) ∧
    (∃ (s : State) (p : PathId) (rate : Fin 5), pcieLive s p = true ∧ s.paths[p].formed = false ∧ pcBond s.paths[p].cfg = 0 ∧ rateKb (rate.val + 1) ≤ pcRate s.paths[p].cfg) ∧
    (∃ (s : State) (p : PathId) (rate : Fin 5), pcieLive s p = true ∧ s.paths[p].formed = false ∧ pcBond s.paths[p].cfg = 0 ∧ pcRate s.paths[p].cfg < rateKb (rate.val + 1)) ∧
    (∃ (s : State) (p : PathId), pcieLive s p = true ∧ s.paths[p].formed = false ∧ pcBond s.paths[p].cfg = 0) :=
  ⟨⟨(rs fun s => { s with paths := Vector.replicate 4 { cfg := 0x3101e84800, st := .active }, lanes := Vector.replicate 16 { ei := Vector.replicate 2 false, lock := Vector.replicate 2 true }, sides := Vector.replicate 32 { term := true } }), 3, by decide⟩,
   ⟨(rs fun s => { s with paths := Vector.replicate 4 { cfg := 0x3101e84800, st := .active, ltssm := 1 }, lanes := Vector.replicate 16 { ei := Vector.replicate 2 false, lock := Vector.replicate 2 true }, sides := Vector.replicate 32 { term := true } }), 3, 31, { isTs2 := false, state := 1, rates := 31, present1 := false, present2 := false, inverted := false, laneNumber := 0, width := 4, rate25 := false, deemph6 := false, eq := none }, by decide⟩,
   ⟨(rs fun s => { s with paths := Vector.replicate 4 { cfg := 0x3101e84800, st := .active }, lanes := Vector.replicate 16 { ei := Vector.replicate 2 false, lock := Vector.replicate 2 true }, sides := Vector.replicate 32 { term := true } }), 3, 4, by decide⟩,
   ⟨(rs fun s => { s with paths := Vector.replicate 4 { cfg := 0x3100f42400, st := .active }, lanes := Vector.replicate 16 { ei := Vector.replicate 2 false, lock := Vector.replicate 2 true }, sides := Vector.replicate 32 { term := true } }), 3, 4, by decide⟩,
   ⟨(rs fun s => { s with paths := Vector.replicate 4 { cfg := 0x3101e84800, st := .active }, lanes := Vector.replicate 16 { ei := Vector.replicate 2 false, lock := Vector.replicate 2 true }, sides := Vector.replicate 32 { term := true } }), 3, by decide⟩⟩

set_option maxRecDepth 100000 in
/-- States and operands that meet the hypotheses of `SidebandPinsAct`, clause by clause. -/
theorem hypotheses_sideband_pins_act :
    (∃ (s : State) (p : PathId), s.paths[p].formed = false ∧ pcMode s.paths[p].cfg = 1 ∧ s.paths[p].ltssm ≠ 12) ∧
    (∃ (s : State) (p : PathId), s.paths[p].formed = false ∧ (pcMode s.paths[p].cfg ≠ 1 ∨ s.paths[p].ltssm = 12)) ∧
    (∃ (s : State) (p : PathId), s.paths[p].formed = false ∧ pcMode s.paths[p].cfg = 1 ∧ s.paths[p].ltssm = 12) ∧
    (∃ (s : State) (p : PathId), s.paths[p].formed = false ∧ (pcMode s.paths[p].cfg ≠ 1 ∨ s.paths[p].ltssm ≠ 12)) ∧
    (∃ (s : State) (p : PathId), s.paths[p].formed = false) ∧
    (∃ (s : State) (p : PathId), s.paths[p].formed = false ∧ pathOn s p = true ∧ domOn s (33 + p.val) = true ∧ pcClk s.paths[p].cfg = true ∧ s.paths[p].pllInt = false ∧ s.paths[p].refclk = true) ∧
    (∃ (s : State) (p : PathId), s.paths[p].formed = false ∧ (pathOn s p = false ∨ domOn s (33 + p.val) = false ∨ pcClk s.paths[p].cfg = false ∨ s.paths[p].pllInt = true)) :=
  ⟨⟨(rs fun s => { s with paths := Vector.replicate 4 { cfg := 0x3101e84800, st := .active }, lanes := Vector.replicate 16 { ei := Vector.replicate 2 false, lock := Vector.replicate 2 true }, sides := Vector.replicate 32 { term := true } }), 3, by decide⟩,
   ⟨w, 3, by decide⟩,
   ⟨(rs fun s => { s with paths := Vector.replicate 4 { cfg := 0x3101e84800, ltssm := 12 } }), 3, by decide⟩,
   ⟨w, 3, by decide⟩,
   ⟨w, 3, by decide⟩,
   ⟨(rs fun s => { s with paths := Vector.replicate 4 { cfg := 0x3101e84800, st := .active }, lanes := Vector.replicate 16 { ei := Vector.replicate 2 false, lock := Vector.replicate 2 true }, sides := Vector.replicate 32 { term := true } }), 3, by decide⟩,
   ⟨w, 3, by decide⟩⟩

set_option maxRecDepth 100000 in
/-- States and operands that meet the hypotheses of `EqualisationRuns`, clause by clause. -/
theorem hypotheses_equalisation_runs :
    (∃ (s : State) (p : PathId), pcieLive s p = true ∧ s.paths[p].formed = false ∧ 3 ≤ s.paths[p].rateNow.val ∧ eqBusy s p = false) ∧
    (∃ (s : State) (p : PathId) (i : SideId) (e : EqFields), pcieLive s p = true ∧ s.paths[p].formed = false ∧ (requests s i = false ∨ requestNow s.sides[i] ≠ some e)) ∧
    (∃ (s : State) (p : PathId) (i : SideId) (e : EqFields) (m : Nat), pcieLive s p = true ∧ s.paths[p].formed = false ∧ requests s i = true ∧ requestNow s.sides[i] = some e ∧ m = marginOf false s.sides[i]) ∧
    (∃ (s : State) (p : PathId) (i : SideId), pcieLive s p = true ∧ s.paths[p].formed = false ∧ requests s i = true) ∧
    (∃ (s : State) (p : PathId) (b : Nat × Nat) (v : Byte × Byte × Byte) (e : Fin 2), pcieLive s p = true ∧ s.paths[p].formed = false ∧ s.paths[p].ltssm = 6 ∧ s.paths[p].eqPhase ≠ 0 ∧ 3 ≤ s.paths[p].rateNow.val ∧ eqBusy s p = false ∧ e = (if s.paths[p].eqPhase = 3 then 1 else 0) ∧ s.sides[sideOf (laneIn p 0) e].reqBest = some b ∧ s.sides[sideOf (laneIn p 0) e].partner = some v) ∧
    (∃ (s : State) (p : PathId) (i : SideId) (cm1 : Byte) (c0 : Byte) (cp1 : Byte), pcieLive s p = true ∧ s.paths[p].formed = false ∧ pathOf i = p ∧ s.paths[p].ltssm = 6 ∧ laneOn s (laneOf i) = true ∧ ((s.paths[p].eqPhase = 2 ∧ endOf i = 1) ∨ (s.paths[p].eqPhase = 3 ∧ endOf i = 0)) ∧ (cm1.toNat + c0.toNat + cp1.toNat = 32 ∧ cm1.toNat ≤ 8 ∧ cp1.toNat ≤ 12 ∧ 8 + cm1.toNat + cp1.toNat ≤ c0.toNat)) ∧
    (∃ (s : State) (p : PathId) (i : SideId) (cm1 : Byte) (c0 : Byte) (cp1 : Byte), pcieLive s p = true ∧ s.paths[p].formed = false ∧ pathOf i = p ∧ s.paths[p].ltssm = 6 ∧ laneOn s (laneOf i) = true ∧ ((s.paths[p].eqPhase = 2 ∧ endOf i = 1) ∨ (s.paths[p].eqPhase = 3 ∧ endOf i = 0)) ∧ ¬(cm1.toNat + c0.toNat + cp1.toNat = 32 ∧ cm1.toNat ≤ 8 ∧ cp1.toNat ≤ 12 ∧ 8 + cm1.toNat + cp1.toNat ≤ c0.toNat)) :=
  ⟨⟨(rs fun s => { s with paths := Vector.replicate 4 { cfg := 0x3101e84800, st := .active, rateNow := 3 }, lanes := Vector.replicate 16 { ei := Vector.replicate 2 false, lock := Vector.replicate 2 true }, sides := Vector.replicate 32 { term := true } }), 3, by decide⟩,
   ⟨(rs fun s => { s with paths := Vector.replicate 4 { cfg := 0x3101e84800, st := .active, ltssm := 6, rateNow := 5, eqPhase := 3 }, lanes := Vector.replicate 16 { ei := Vector.replicate 2 false, lock := Vector.replicate 2 true }, sides := Vector.replicate 32 { term := true, reqRun := true, presets := [4, 6] } }), 3, 31, .preset 5, by decide⟩,
   ⟨(rs fun s => { s with paths := Vector.replicate 4 { cfg := 0x3101e84800, st := .active, ltssm := 6, rateNow := 5, eqPhase := 3 }, lanes := Vector.replicate 16 { ei := Vector.replicate 2 false, lock := Vector.replicate 2 true }, sides := Vector.replicate 32 { term := true, reqRun := true, presets := [4, 6] } }), 3, 31, .preset 4, _, by decide, by decide, by decide, by decide, rfl⟩,
   ⟨(rs fun s => { s with paths := Vector.replicate 4 { cfg := 0x3101e84800, st := .active, ltssm := 6, rateNow := 5, eqPhase := 3 }, lanes := Vector.replicate 16 { ei := Vector.replicate 2 false, lock := Vector.replicate 2 true }, sides := Vector.replicate 32 { reqRun := true, presets := [4] } }), 3, 31, by decide⟩,
   ⟨(rs fun s => { s with paths := Vector.replicate 4 { cfg := 0x3101e84800, st := .active, ltssm := 6, rateNow := 5, eqPhase := 3 }, lanes := Vector.replicate 16 { ei := Vector.replicate 2 false, lock := Vector.replicate 2 true }, sides := Vector.replicate 32 { reqBest := some (4, 9), partner := some (1, 2, 3) } }), 3, (4, 9), (1, 2, 3), 1, by decide, by decide, by decide, by decide, by decide, by decide, rfl, by decide⟩,
   ⟨(rs fun s => { s with paths := Vector.replicate 4 { cfg := 0x3101e84800, st := .active, ltssm := 6, rateNow := 5, eqPhase := 3 }, lanes := Vector.replicate 16 { ei := Vector.replicate 2 false, lock := Vector.replicate 2 true }, sides := Vector.replicate 32 { term := true } }), 3, 30, 0, 20, 12, by decide⟩,
   ⟨(rs fun s => { s with paths := Vector.replicate 4 { cfg := 0x3101e84800, st := .active, ltssm := 6, rateNow := 5, eqPhase := 2 }, lanes := Vector.replicate 16 { ei := Vector.replicate 2 false, lock := Vector.replicate 2 true }, sides := Vector.replicate 32 { term := true } }), 3, 31, 0, 19, 13, by decide⟩⟩

set_option maxRecDepth 100000 in
/-- States and operands that meet the hypotheses of `MarginingAndL0sActInL0`, clause by clause. -/
theorem hypotheses_margining_and_l0s_act_in_l0 :
    (∃ (s : State) (p : PathId) (lane : Fin 4) (r : Fin 8) (i : SideId) (n : Int), pcieLive s p = true ∧ s.paths[p].ltssm = 3 ∧ 4 ≤ s.paths[p].rateNow.val ∧ laneOn s (laneIn p lane) = true ∧ ((marginPosition s.paths[p] = 1 ∧ r = 2 ∧ i = sideOf (laneIn p lane) 0) ∨ (marginPosition s.paths[p] = 1 ∧ r = 3 ∧ i = sideOf (laneIn p lane) 1) ∨ (marginPosition s.paths[p] = 2 ∧ r = 4 ∧ i = sideOf (laneIn p lane) 0) ∨ (marginPosition s.paths[p] = 2 ∧ r = 5 ∧ i = sideOf (laneIn p lane) 1)) ∧ sweepStep s i = false ∧ -32 ≤ n ∧ n ≤ 32) ∧
    (∃ (s : State) (p : PathId) (lane : Fin 4) (r : Fin 8) (i : SideId) (n : Int), pcieLive s p = true ∧ s.paths[p].ltssm = 3 ∧ 4 ≤ s.paths[p].rateNow.val ∧ laneOn s (laneIn p lane) = true ∧ ((marginPosition s.paths[p] = 1 ∧ r = 2 ∧ i = sideOf (laneIn p lane) 0) ∨ (marginPosition s.paths[p] = 1 ∧ r = 3 ∧ i = sideOf (laneIn p lane) 1) ∨ (marginPosition s.paths[p] = 2 ∧ r = 4 ∧ i = sideOf (laneIn p lane) 0) ∨ (marginPosition s.paths[p] = 2 ∧ r = 5 ∧ i = sideOf (laneIn p lane) 1)) ∧ sweepStep s i = false ∧ -60 ≤ n ∧ n ≤ 60) ∧
    (∃ (s : State) (p : PathId) (lane : Fin 4) (r : Fin 8) (i : SideId) (n : Int), pcieLive s p = true ∧ s.paths[p].ltssm = 3 ∧ 4 ≤ s.paths[p].rateNow.val ∧ laneOn s (laneIn p lane) = true ∧ ((marginPosition s.paths[p] = 1 ∧ r = 2 ∧ i = sideOf (laneIn p lane) 0) ∨ (marginPosition s.paths[p] = 1 ∧ r = 3 ∧ i = sideOf (laneIn p lane) 1) ∨ (marginPosition s.paths[p] = 2 ∧ r = 4 ∧ i = sideOf (laneIn p lane) 0) ∨ (marginPosition s.paths[p] = 2 ∧ r = 5 ∧ i = sideOf (laneIn p lane) 1)) ∧ (n < -32 ∨ 32 < n)) ∧
    (∃ (s : State) (p : PathId) (lane : Fin 4) (r : Fin 8) (i : SideId) (n : Int), pcieLive s p = true ∧ s.paths[p].ltssm = 3 ∧ 4 ≤ s.paths[p].rateNow.val ∧ laneOn s (laneIn p lane) = true ∧ ((marginPosition s.paths[p] = 1 ∧ r = 2 ∧ i = sideOf (laneIn p lane) 0) ∨ (marginPosition s.paths[p] = 1 ∧ r = 3 ∧ i = sideOf (laneIn p lane) 1) ∨ (marginPosition s.paths[p] = 2 ∧ r = 4 ∧ i = sideOf (laneIn p lane) 0) ∨ (marginPosition s.paths[p] = 2 ∧ r = 5 ∧ i = sideOf (laneIn p lane) 1)) ∧ (n < -60 ∨ 60 < n)) ∧
    (∃ (s : State) (p : PathId) (lane : Fin 4) (r : Fin 8) (i : SideId), pcieLive s p = true ∧ s.paths[p].ltssm = 3 ∧ 4 ≤ s.paths[p].rateNow.val ∧ laneOn s (laneIn p lane) = true ∧ ((marginPosition s.paths[p] = 1 ∧ r = 2 ∧ i = sideOf (laneIn p lane) 0) ∨ (marginPosition s.paths[p] = 1 ∧ r = 3 ∧ i = sideOf (laneIn p lane) 1) ∨ (marginPosition s.paths[p] = 2 ∧ r = 4 ∧ i = sideOf (laneIn p lane) 0) ∨ (marginPosition s.paths[p] = 2 ∧ r = 5 ∧ i = sideOf (laneIn p lane) 1)) ∧ sweepStep s i = false) ∧
    (∃ (s : State) (p : PathId) (lane : Fin 4) (r : Fin 8) (i : SideId), pcieLive s p = true ∧ s.paths[p].ltssm = 3 ∧ 4 ≤ s.paths[p].rateNow.val ∧ laneOn s (laneIn p lane) = true ∧ ((marginPosition s.paths[p] = 1 ∧ r = 2 ∧ i = sideOf (laneIn p lane) 0) ∨ (marginPosition s.paths[p] = 1 ∧ r = 3 ∧ i = sideOf (laneIn p lane) 1) ∨ (marginPosition s.paths[p] = 2 ∧ r = 4 ∧ i = sideOf (laneIn p lane) 0) ∨ (marginPosition s.paths[p] = 2 ∧ r = 5 ∧ i = sideOf (laneIn p lane) 1)) ∧ sweepStep s i = true) ∧
    (∃ (s : State) (p : PathId), pcieLive s p = true ∧ s.paths[p].ltssm = 3) :=
  ⟨⟨(rs fun s => { s with paths := Vector.replicate 4 { cfg := 0x3101e84800, st := .active, ltssm := 3, rateNow := 5, position := 1 }, lanes := Vector.replicate 16 { ei := Vector.replicate 2 false, lock := Vector.replicate 2 true }, sides := Vector.replicate 32 { term := true } }), 3, 3, 3, 31, 32, by decide⟩,
   ⟨(rs fun s => { s with paths := Vector.replicate 4 { cfg := 0x3101e84800, st := .active, ltssm := 3, rateNow := 5, position := 1 }, lanes := Vector.replicate 16 { ei := Vector.replicate 2 false, lock := Vector.replicate 2 true }, sides := Vector.replicate 32 { term := true } }), 3, 3, 3, 31, -60, by decide⟩,
   ⟨(rs fun s => { s with paths := Vector.replicate 4 { cfg := 0x3101e84800, st := .active, ltssm := 3, rateNow := 5, position := 1 }, lanes := Vector.replicate 16 { ei := Vector.replicate 2 false, lock := Vector.replicate 2 true }, sides := Vector.replicate 32 { term := true } }), 3, 3, 3, 31, 33, by decide⟩,
   ⟨(rs fun s => { s with paths := Vector.replicate 4 { cfg := 0x3101e84800, st := .active, ltssm := 3, rateNow := 5, position := 1 }, lanes := Vector.replicate 16 { ei := Vector.replicate 2 false, lock := Vector.replicate 2 true }, sides := Vector.replicate 32 { term := true } }), 3, 3, 3, 31, -61, by decide⟩,
   ⟨(rs fun s => { s with paths := Vector.replicate 4 { cfg := 0x3101e84800, st := .active, ltssm := 3, rateNow := 5, position := 1 }, lanes := Vector.replicate 16 { ei := Vector.replicate 2 false, lock := Vector.replicate 2 true }, sides := Vector.replicate 32 { term := true } }), 3, 3, 3, 31, by decide⟩,
   ⟨(rs fun s => { s with paths := Vector.replicate 4 { cfg := 0x3101e84800, st := .active, ltssm := 3, rateNow := 5, position := 1 }, lanes := Vector.replicate 16 { ei := Vector.replicate 2 false, lock := Vector.replicate 2 true }, sides := Vector.replicate 32 { term := true }, seq := { s.seq with running := [{ table := 4, idx := 2, tokens := true, acts := true }] } }), 3, 3, 3, 31, by decide⟩,
   ⟨(rs fun s => { s with paths := Vector.replicate 4 { cfg := 0x3101e84800, st := .active, ltssm := 3, rateNow := 5, position := 1 }, lanes := Vector.replicate 16 { ei := Vector.replicate 2 false, lock := Vector.replicate 2 true }, sides := Vector.replicate 32 { term := true } }), 3, by decide⟩⟩

set_option maxRecDepth 100000 in
/-- States and operands that meet the hypotheses of `BackplaneLanesNegotiate`, clause by clause. -/
theorem hypotheses_backplane_lanes_negotiate :
    (∃ (s : State) (l : LaneId) (tech : Fin 7), backplaneLane s l = true ∧ s.lanes[l].bpCfg.getLsbD 37 = false ∧ (s.lanes[l].seg[(0 : Fin 2)] = 1 ∨ s.lanes[l].seg[(1 : Fin 2)] = 1) ∧ anWaits s l = false ∧ tech.val ≠ wantedTech s.paths[pathOfLane l].cfg) ∧
    (∃ (s : State) (l : LaneId) (tech : Fin 7) (fec : Fin 3), backplaneLane s l = true ∧ s.lanes[l].bpCfg.getLsbD 37 = false ∧ (s.lanes[l].seg[(0 : Fin 2)] = 1 ∨ s.lanes[l].seg[(1 : Fin 2)] = 1) ∧ anWaits s l = false ∧ tech.val = wantedTech s.paths[pathOfLane l].cfg ∧ (fec.val != 0) = pcFec s.paths[pathOfLane l].cfg) ∧
    (∃ (s : State) (l : LaneId) (tech : Fin 7) (fec : Fin 3), backplaneLane s l = true ∧ s.lanes[l].bpCfg.getLsbD 37 = false ∧ (s.lanes[l].seg[(0 : Fin 2)] = 1 ∨ s.lanes[l].seg[(1 : Fin 2)] = 1) ∧ anWaits s l = false ∧ tech.val = wantedTech s.paths[pathOfLane l].cfg ∧ (fec.val != 0) ≠ pcFec s.paths[pathOfLane l].cfg) ∧
    (∃ (s : State) (l : LaneId) (i : SideId), backplaneLane s l = true ∧ laneOf i = l ∧ s.lanes[l].mismatch = false) ∧
    (∃ (s : State) (l : LaneId) (i : SideId) (again : Lane), backplaneLane s l = true ∧ laneOf i = l ∧ oneLink s.paths[pathOfLane l].cfg = false ∧ s.paths[pathOfLane l].bpCfg.getLsbD 37 = false ∧ again = { s.lanes[l] with seg := Vector.ofFn fun e : Fin 2 => if s.lanes[l].ei[e] then 0 else 1, rr := Vector.replicate 2 false, align := Vector.replicate 2 false, rrSent := false, reqDone := Vector.replicate 2 false, bpCfg := s.paths[pathOfLane l].bpCfg, mismatch := false } ∧ s.lanes[l].mismatch = true) ∧
    (∃ (s : State) (l : LaneId) (i : SideId) (again : Lane), backplaneLane s l = true ∧ laneOf i = l ∧ oneLink s.paths[pathOfLane l].cfg = false ∧ s.paths[pathOfLane l].bpCfg.getLsbD 37 = false ∧ again = { s.lanes[l] with seg := Vector.ofFn fun e : Fin 2 => if s.lanes[l].ei[e] then 0 else 1, rr := Vector.replicate 2 false, align := Vector.replicate 2 false, rrSent := false, reqDone := Vector.replicate 2 false, bpCfg := s.paths[pathOfLane l].bpCfg, mismatch := false } ∧ s.lanes[l].ei[endOf i] = false ∧ (s.lanes[l].seg[(0 : Fin 2)] = 4 ∨ s.lanes[l].seg[(1 : Fin 2)] = 4) ∧ underTest s.sides[i] = false ∧ s.lanes[l].bpCfg.getLsbD 37 = false) ∧
    (∃ (s : State) (l : LaneId) (i : SideId), backplaneLane s l = true ∧ laneOf i = l ∧ s.lanes[l].ei[endOf i] = false ∧ (s.lanes[l].seg[(0 : Fin 2)] = 4 ∨ s.lanes[l].seg[(1 : Fin 2)] = 4) ∧ underTest s.sides[i] = false ∧ pcMode s.paths[pathOfLane l].cfg = 2 ∧ s.lanes[l].bpCfg.getLsbD 36 = false) :=
  ⟨⟨(rs fun s => { s with paths := Vector.replicate 4 { cfg := 0x5135896402, st := .active }, lanes := Vector.replicate 16 { ei := Vector.replicate 2 false, lock := Vector.replicate 2 true, seg := Vector.replicate 2 1 }, sides := Vector.replicate 32 { term := true } }), 12, 0, by decide⟩,
   ⟨(rs fun s => { s with paths := Vector.replicate 4 { cfg := 0x5135896402, st := .active }, lanes := Vector.replicate 16 { ei := Vector.replicate 2 false, lock := Vector.replicate 2 true, seg := Vector.replicate 2 1 }, sides := Vector.replicate 32 { term := true } }), 12, 5, 1, by decide⟩,
   ⟨(rs fun s => { s with paths := Vector.replicate 4 { cfg := 0x5135896402, st := .active }, lanes := Vector.replicate 16 { ei := Vector.replicate 2 false, lock := Vector.replicate 2 true, seg := Vector.replicate 2 1 }, sides := Vector.replicate 32 { term := true } }), 12, 5, 0, by decide⟩,
   ⟨(rs fun s => { s with paths := Vector.replicate 4 { cfg := 0x5135896402, st := .active }, lanes := Vector.replicate 16 { ei := Vector.replicate 2 false, lock := Vector.replicate 2 true, seg := Vector.replicate 2 1 }, sides := Vector.replicate 32 { term := true } }), 15, 31, by decide⟩,
   ⟨(rs fun s => { s with paths := Vector.replicate 4 { cfg := 0x51009d5b34, st := .active }, lanes := Vector.replicate 16 { ei := Vector.replicate 2 false, lock := Vector.replicate 2 true, seg := Vector.replicate 2 1, mismatch := true }, sides := Vector.replicate 32 { term := true } }), 15, 31, _, by decide, by decide, by decide, by decide, rfl, by decide⟩,
   ⟨(rs fun s => { s with paths := Vector.replicate 4 { cfg := 0x51009d5b34, st := .active }, lanes := Vector.replicate 16 { ei := Vector.replicate 2 false, lock := Vector.replicate 2 true, seg := Vector.replicate 2 4 }, sides := Vector.replicate 32 { term := true } }), 15, 31, _, by decide, by decide, by decide, by decide, rfl, by decide⟩,
   ⟨(rs fun s => { s with paths := Vector.replicate 4 { cfg := 0x51009d5b34, st := .active }, lanes := Vector.replicate 16 { ei := Vector.replicate 2 false, lock := Vector.replicate 2 true, seg := Vector.replicate 2 4 }, sides := Vector.replicate 32 { term := true } }), 15, 31, by decide⟩⟩

set_option maxRecDepth 100000 in
/-- States and operands that meet the hypotheses of `KrTrainingRuns`, clause by clause. -/
theorem hypotheses_kr_training_runs :
    (∃ (s : State) (i : SideId) (pre : Nat) (post : Nat) (v : R40) (r : KrRequest) (pre' : Nat) (post' : Nat), trains s i = true ∧ v = s.sides[i].txeq[(0 : Fin 4)] ∧ pre = (v.extractLsb' 19 5).toNat ∧ post = (v.extractLsb' 7 5).toNat ∧ ((r = .preDec ∧ pre + 2 ≤ 16 ∧ pre + post ≤ 38 ∧ pre' = pre + 2 ∧ post' = post) ∨ (r = .preInc ∧ 2 ≤ pre ∧ pre' = pre - 2 ∧ post' = post) ∨ (r = .postDec ∧ post + 2 ≤ 24 ∧ pre + post ≤ 38 ∧ pre' = pre ∧ post' = post + 2) ∨ (r = .postInc ∧ 2 ≤ post ∧ pre' = pre ∧ post' = post - 2) ∨ (r = .preset ∧ pre' = 0 ∧ post' = 0) ∨ (r = .init ∧ pre' = 3 ∧ post' = 18))) ∧
    (∃ (s : State) (i : SideId) (pre : Nat) (post : Nat) (v : R40) (r : KrRequest) (report : Fin 4), trains s i = true ∧ v = s.sides[i].txeq[(0 : Fin 4)] ∧ pre = (v.extractLsb' 19 5).toNat ∧ post = (v.extractLsb' 7 5).toNat ∧ ((r = .preDec ∧ (16 < pre + 2 ∨ 38 < pre + post) ∧ report = 2) ∨ (r = .preInc ∧ pre < 2 ∧ report = 3) ∨ (r = .postDec ∧ (24 < post + 2 ∨ 38 < pre + post) ∧ report = 2) ∨ (r = .postInc ∧ post < 2 ∧ report = 3) ∨ (r = .mainInc ∧ report = 3) ∨ (r = .mainDec ∧ report = 2))) ∧
    (∃ (s : State) (i : SideId) (inv : Bool), trains s i = true ∧ inv ≠ s.sides[i].rxPol) ∧
    (∃ (s : State) (i : SideId) (m : Nat), trains s i = true ∧ m = marginOf false s.sides[i]) ∧
    (∃ (s : State) (i : SideId), trains s i = true ∧ s.sides[i].reqRun = true) ∧
    (∃ (s : State) (i : SideId), trains s i = true ∧ s.sides[i].reqRun = false) ∧
    (∃ (s : State) (i : SideId) (v : Byte × Byte × Byte) (b : Nat × Nat), trains s i = true ∧ s.lanes[laneOf i].seg[endOf i] = 2 ∧ s.sides[i].reqRun = false ∧ s.sides[i].partner = some v ∧ s.sides[i].reqBest = some b) ∧
    (∃ (s : State) (i : SideId), trains s i = true ∧ trains s (opposite i) = true ∧ s.lanes[laneOf i].reqDone = Vector.replicate 2 true ∧ s.lanes[laneOf i].rr = Vector.replicate 2 true) :=
  ⟨⟨(rs fun s => { s with paths := Vector.replicate 4 { cfg := 0x5135896402, st := .active }, lanes := Vector.replicate 16 { ei := Vector.replicate 2 false, lock := Vector.replicate 2 true, seg := Vector.replicate 2 2 }, sides := Vector.replicate 32 { term := true, txeq := Vector.replicate 4 0x10071ac00 } }), 31, 14, 24, 0x10071ac00, .preDec, 16, 24, by decide, rfl, by decide⟩,
   ⟨(rs fun s => { s with paths := Vector.replicate 4 { cfg := 0x5135896402, st := .active }, lanes := Vector.replicate 16 { ei := Vector.replicate 2 false, lock := Vector.replicate 2 true, seg := Vector.replicate 2 2 }, sides := Vector.replicate 32 { term := true, txeq := Vector.replicate 4 0x100799c00 } }), 31, 15, 24, 0x100799c00, .preDec, 2, by decide, rfl, by decide⟩,
   ⟨(rs fun s => { s with paths := Vector.replicate 4 { cfg := 0x5135896402, st := .active }, lanes := Vector.replicate 16 { ei := Vector.replicate 2 false, lock := Vector.replicate 2 true, seg := Vector.replicate 2 2 }, sides := Vector.replicate 32 { term := true } }), 31, true, by decide⟩,
   ⟨(rs fun s => { s with paths := Vector.replicate 4 { cfg := 0x5135896402, st := .active }, lanes := Vector.replicate 16 { ei := Vector.replicate 2 false, lock := Vector.replicate 2 true, seg := Vector.replicate 2 2 }, sides := Vector.replicate 32 { term := true } }), 31, _, by decide, rfl⟩,
   ⟨(rs fun s => { s with paths := Vector.replicate 4 { cfg := 0x5135896402, st := .active }, lanes := Vector.replicate 16 { ei := Vector.replicate 2 false, lock := Vector.replicate 2 true, seg := Vector.replicate 2 2 }, sides := Vector.replicate 32 { term := true, reqRun := true } }), 31, by decide⟩,
   ⟨(rs fun s => { s with paths := Vector.replicate 4 { cfg := 0x5135896402, st := .active }, lanes := Vector.replicate 16 { ei := Vector.replicate 2 false, lock := Vector.replicate 2 true, seg := Vector.replicate 2 2 }, sides := Vector.replicate 32 { term := true } }), 31, by decide⟩,
   ⟨(rs fun s => { s with paths := Vector.replicate 4 { cfg := 0x5135896402, st := .active }, lanes := Vector.replicate 16 { ei := Vector.replicate 2 false, lock := Vector.replicate 2 true, seg := Vector.replicate 2 2 }, sides := Vector.replicate 32 { term := true, partner := some (1, 2, 3), reqBest := some (0, 9) } }), 31, (1, 2, 3), (0, 9), by decide⟩,
   ⟨(rs fun s => { s with paths := Vector.replicate 4 { cfg := 0x5135896402, st := .active }, lanes := Vector.replicate 16 { ei := Vector.replicate 2 false, lock := Vector.replicate 2 true, seg := Vector.replicate 2 3, rr := Vector.replicate 2 true, reqDone := Vector.replicate 2 true }, sides := Vector.replicate 32 { term := true } }), 31, by decide⟩⟩

set_option maxRecDepth 100000 in
/-- States and operands that meet the hypotheses of `WakesAreServed`, clause by clause. -/
theorem hypotheses_wakes_are_served :
    (∃ (s : State), deviceIdle s = true ∧ s.pow.restT ≠ 0 ∧ s.pow.restT.toNat * 1000000 ≤ s.pow.idleNs) ∧
    (∃ (s : State), deviceIdle s = true ∧ (s.pow.restT = 0 ∨ s.pow.idleNs < s.pow.restT.toNat * 1000000)) ∧
    (∃ (s : State), deviceIdle s = false) ∧
    (∃ (s : State) (sources : BitVec 8) (c : Nat), 1 ≤ c ∧ c ≤ 7 ∧ wakeEnabled s sources c = true ∧ (∀ k : Nat, 1 ≤ k → k < c → wakeEnabled s sources k = false) ∧ s.pow.rest = .saving) ∧
    (∃ (s : State) (sources : BitVec 8) (c : Nat), 1 ≤ c ∧ c ≤ 7 ∧ wakeEnabled s sources c = true ∧ (∀ k : Nat, 1 ≤ k → k < c → wakeEnabled s sources k = false) ∧ s.pow.rest ≠ .saving ∧ s.pow.dev = .rest) ∧
    (∃ (s : State) (sources : BitVec 8), (∀ k : Nat, 1 ≤ k → k ≤ 7 → wakeEnabled s sources k = false)) :=
  ⟨⟨(rs fun s => { s with pow := { s.pow with restT := 10, idleNs := 10000000 } }), by decide⟩,
   ⟨(rs fun s => { s with pow := { s.pow with restT := 10, idleNs := 9999999 } }), by decide⟩,
   ⟨(rs fun s => { s with store := { s.store with job := some (.fwErase true 4096 5 0) } }), by decide⟩,
   ⟨(rs fun s => { s with pow := { s.pow with rest := .saving } }), 0x08, 4, by decide⟩,
   ⟨(rs fun s => { s with pow := { s.pow with dev := .rest } }), 0x08, 4, by decide⟩,
   ⟨w, 0, by decide⟩⟩

set_option maxRecDepth 100000 in
/-- States and operands that meet the hypotheses of `SupplyHeatAndCellAreReported`, clause by clause. -/
theorem hypotheses_supply_heat_and_cell_are_reported :
    (∃ (s : State), alive s = true) ∧
    (∃ (s : State) (h : Int), alive s = true ∧ s.pow.warnArmed = true ∧ 230 ≤ h ∧ s.pow.dev ≠ .rest) ∧
    (∃ (s : State) (h : Int), alive s = true ∧ s.pow.warnArmed = true ∧ 230 ≤ h ∧ s.pow.dev = .rest) ∧
    (∃ (s : State) (h : Int), alive s = true ∧ (s.pow.warnArmed = false ∨ h < 230)) ∧
    (∃ (s : State) (h : Int), alive s = true ∧ s.pow.warnArmed = false ∧ h < 220) ∧
    (∃ (s : State) (h : Int), alive s = true ∧ (s.pow.warnArmed = true ∨ 220 ≤ h)) ∧
    (∃ (s : State) (mv : BitVec 16), alive s = true ∧ (3400 < mv.toNat ∨ mv.toNat < 1000) ∧ s.pow.charging ≠ 3) ∧
    (∃ (s : State) (mv : BitVec 16), alive s = true ∧ (3400 < mv.toNat ∨ mv.toNat < 1000) ∧ s.pow.charging = 3) ∧
    (∃ (s : State) (mv : BitVec 16), alive s = true ∧ 1000 ≤ mv.toNat ∧ mv.toNat ≤ 3400 ∧ s.pow.chargeNext = none ∧ s.pow.charging = 3) ∧
    (∃ (s : State) (mv : BitVec 16), alive s = true ∧ 1000 ≤ mv.toNat ∧ mv.toNat ≤ 3400 ∧ s.pow.chargeNext = none ∧ s.pow.charging ≠ 3) ∧
    (∃ (s : State) (mv : BitVec 16), alive s = true ∧ 3000 + 100 * fld s.pow.charger 1 0 ≤ mv.toNat ∧ (s.pow.charging = 1 ∨ s.pow.charging = 2)) ∧
    (∃ (s : State) (mv : BitVec 16), alive s = true ∧ mv.toNat + 50 < 3000 + 100 * fld s.pow.charger 1 0 ∧ s.pow.charging = 2) :=
  ⟨⟨w, by decide⟩,
   ⟨w, 230, by decide⟩,
   ⟨(rs fun s => { s with pow := { s.pow with dev := .rest } }), 230, by decide⟩,
   ⟨w, 229, by decide⟩,
   ⟨(rs fun s => { s with pow := { s.pow with warnArmed := false } }), 219, by decide⟩,
   ⟨w, 220, by decide⟩,
   ⟨w, 999, by decide⟩,
   ⟨(rs fun s => { s with pow := { s.pow with charging := 3 } }), 3401, by decide⟩,
   ⟨(rs fun s => { s with pow := { s.pow with charging := 3 } }), 3400, by decide⟩,
   ⟨w, 1000, by decide⟩,
   ⟨w, 3000, by decide⟩,
   ⟨(rs fun s => { s with pow := { s.pow with charging := 2 } }), 2949, by decide⟩⟩

set_option maxRecDepth 100000 in
/-- States and operands that meet the hypotheses of `RunsEndWithTheirCause`, clause by clause. -/
theorem hypotheses_runs_end_with_their_cause :
    (∃ (s : State), alive s = true) ∧
    (∃ (s : State) (h : Int), alive s = true ∧ 280 ≤ h) ∧
    (∃ (s : State) (h : Int), alive s = true ∧ h < 280) ∧
    (∃ (s : State), alive s = true ∧ s.pow.resetDue = some false) ∧
    (∃ (s : State), alive s = true ∧ s.pow.resetDue ≠ some false) :=
  ⟨⟨w, by decide⟩,
   ⟨w, 280, by decide⟩,
   ⟨w, 279, by decide⟩,
   ⟨(rs fun s => { s with pow := { s.pow with resetDue := some false } }), by decide⟩,
   ⟨w, by decide⟩⟩

set_option maxRecDepth 100000 in
/-- States and operands that meet the hypotheses of `StartsFollowTheStraps`, clause by clause. -/
theorem hypotheses_starts_follow_the_straps :
    (∃ (s : State), (s.pow.dev = .held ∨ s.pow.dev = .off)) ∧
    (∃ (s : State), s.pow.dev ≠ .held ∧ s.pow.dev ≠ .off) ∧
    (∃ (s : State) (k : Fin 2), booting s = true ∧ candidate s = some k ∧ s.store.copies[(0 : Fin 2)].valid = false ∧ s.store.copies[(1 : Fin 2)].valid = false) ∧
    (∃ (s : State) (k : Fin 2), booting s = true ∧ candidate s = some k ∧ s.store.banks[1 - k].valid = true ∧ s.pow.tried[1 - k] = false) ∧
    (∃ (s : State) (k : Fin 2), booting s = true ∧ candidate s = some k ∧ (s.store.banks[1 - k].valid = false ∨ s.pow.tried[1 - k] = true)) ∧
    (∃ (s : State) (k : Fin 2), s.store.banks[(0 : Fin 2)].valid = true ∧ s.store.banks[(1 : Fin 2)].valid = true ∧ s.pow.tried = Vector.replicate 2 false ∧ s.store.banks[1 - k].seq < s.store.banks[k].seq) :=
  ⟨⟨State.reset, by decide⟩,
   ⟨w, by decide⟩,
   ⟨(rs fun s => { s with pow := { s.pow with dev := .boot }, cpu := { s.cpu with running := false }, store := { s.store with banks := #v[{ valid := true, seq := 1, len := 100, crc := 0 }, { valid := true, seq := 2, len := 100, crc := 0 }] } }), 1, by decide⟩,
   ⟨(rs fun s => { s with pow := { s.pow with dev := .boot }, cpu := { s.cpu with running := false }, store := { s.store with banks := #v[{ valid := true, seq := 1, len := 100, crc := 0 }, { valid := true, seq := 2, len := 100, crc := 0 }] } }), 1, by decide⟩,
   ⟨(rs fun s => { s with pow := { s.pow with dev := .boot, tried := #v[true, false] }, cpu := { s.cpu with running := false }, store := { s.store with banks := #v[{ valid := true, seq := 1, len := 100, crc := 0 }, { valid := true, seq := 2, len := 100, crc := 0 }] } }), 1, by decide⟩,
   ⟨(rs fun s => { s with pow := { s.pow with dev := .boot }, cpu := { s.cpu with running := false }, store := { s.store with banks := #v[{ valid := true, seq := 1, len := 100, crc := 0 }, { valid := true, seq := 2, len := 100, crc := 0 }] } }), 1, by decide⟩⟩

set_option maxRecDepth 100000 in
/-- States and operands that meet the hypotheses of `TestAccessLoadsInstructions`, clause by clause. -/
theorem hypotheses_test_access_loads_instructions :
    (∃ (s : State) (balls : Bool), (s.pow.dev = .boot ∨ s.pow.dev = .run) ∧ balls = (s.pow.dev == .run && s.paths.toList.all fun x => x.test)) ∧
    (∃ (s : State), s.pow.dev ≠ .boot ∧ s.pow.dev ≠ .run) :=
  ⟨⟨w, false, by decide⟩,
   ⟨State.reset, by decide⟩⟩

end Sys2Proof.Tests
end

section
/-! What a row leaves alone: a part that is untouched is kept, and one that is kept is noted. -/

namespace Sys2Proof.Machine

/-- A part of the state is one and the same before and after. -/
def Part.untouched (s t : State) : Part → Prop
  | .win => t.win = s.win
  | .tw => t.tw = s.tw
  | .mbx => t.mbx = s.mbx
  | .sides => t.sides = s.sides
  | .lanes => t.lanes = s.lanes
  | .paths => t.paths = s.paths
  | .time => t.time = s.time
  | .seq => t.seq = s.seq
  | .sweep => t.sweep = s.sweep
  | .svc => t.svc = s.svc
  | .ven => t.ven = s.ven
  | .scan => t.scan = s.scan
  | .store => t.store = s.store
  | .pow => t.pow = s.pow
  | .cpu => t.cpu = s.cpu
  | .test => t.test = s.test
  | .free => t.free = s.free
  | .pending => t.pending = s.pending

theorem Part.untouched_refl (s : State) (p : Part) : p.untouched s s := by
  cases p <;> rfl

theorem Part.untouched_modWin (s : State) (f : Window → Window) {p : Part} (hp : p ≠ .win) : p.untouched s (s.modWin f) := by
  cases p
  case win => exact absurd rfl hp
  all_goals rfl

theorem Part.untouched_modSide (s : State) (i : SideId) (f : Side → Side) {p : Part} (hp : p ≠ .sides) :
    p.untouched s (s.modSide i f) := by
  cases p
  case sides => exact absurd rfl hp
  all_goals rfl

theorem Part.untouched_modStore (s : State) (f : Store → Store) {p : Part} (hp : p ≠ .store) : p.untouched s (s.modStore f) := by
  cases p
  case store => exact absurd rfl hp
  all_goals rfl

theorem Part.untouched_modTest (s : State) (f : Test → Test) {p : Part} (hp : p ≠ .test) : p.untouched s (s.modTest f) := by
  cases p
  case test => exact absurd rfl hp
  all_goals rfl

theorem Part.untouched_modMbx (s : State) (f : Mailbox → Mailbox) {p : Part} (hp : p ≠ .mbx) : p.untouched s (s.modMbx f) := by
  cases p
  case mbx => exact absurd rfl hp
  all_goals rfl

/-- A session's credit is the bridge's alone. -/
theorem Part.untouched_takeCtlCredit (s : State) (w : Issuer) {p : Part} (hp : p ≠ .svc) : p.untouched s (takeCtlCredit w s) := by
  obtain ⟨ss, h, _⟩ := takeCtlCredit_cases w s
  rw [h]
  cases p
  case svc => exact absurd rfl hp
  all_goals rfl

theorem Part.untouched_trans {s t u : State} {p : Part} (h : p.untouched s t) (k : p.untouched t u) : p.untouched s u := by
  cases p <;> exact Eq.trans k h

/-- What follows every change keeps the parts a row left untouched. -/
theorem Part.kept_settle {s t : State} (o : State) {p : Part} (h : p.untouched s t) : p.kept s (settle o t) := by
  cases p
  case paths =>
    intro k
    have hk : t.paths = s.paths := h
    simp only [Fin.getElem_fin, settle_path, hk]
  case win =>
    have hk : t.win = s.win := h
    simp only [Part.kept, WinIs, settle_win, hk]
  case tw =>
    have hk : t.tw = s.tw := h
    simp only [Part.kept, TwIs, settle_tw, hk]
  case pow =>
    have hk : t.pow = s.pow := h
    simp only [Part.kept, PowIs, settle_pow, hk]
  all_goals exact h

theorem Part.noted_of_kept {s t : State} {p : Part} (h : p.kept s t) : p.noted s t := by
  cases p
  case win =>
    have hw : { t.win with restPend := s.win.restPend } = s.win := h
    exact congrArg (fun w : Window => { w with evtHead := s.win.evtHead, evtLost := s.win.evtLost, cLost := s.win.cLost }) hw
  case mbx =>
    have hm : t.mbx = s.mbx := h
    exact ⟨by rw [hm], fun _ _ _ => by rw [hm]⟩
  case svc =>
    have hm : t.svc = s.svc := h
    show SvcNoted t s.svc
    simp only [SvcNoted, hm]
  case store =>
    have hm : t.store = s.store := h
    show StoreNoted t s.store
    simp only [StoreNoted, hm]
  all_goals exact h

end Sys2Proof.Machine
end

section
/-! What coalesced events and the passing of time leave alone. -/

namespace Sys2Proof.Machine

/-! ### Coalesced events -/

/-- Writing coalesced entries changes only what `EventOnly` names (R441). -/
theorem flushCoalesced_only (sel : Coalesced → Bool) (s : State) : EventOnly s (flushCoalesced sel s) :=
  foldl_holds (EventOnly s) writeCoalesced _ (fun _ c h => h.trans (emit_only _ c.code.toNat c.count c.data c.stamp)) _
    ⟨s.win, _, s.svc, s.store, rfl⟩

theorem EventOnly.seq {s t : State} (h : EventOnly s t) : t.seq = s.seq := by
  obtain ⟨_, _, _, _, rfl⟩ := h
  rfl

/-! ### Time -/

theorem countSide_seq (s : State) (i : SideId) : (countSide s i).seq = s.seq := by
  unfold countSide
  dsimp only
  split <;> split <;> rfl

/-- The sequencer does not move while the counts beside spine time do. -/
theorem countTime_seq (ns : Nat) (s : State) : (countTime ns s).seq = s.seq := by
  have hsides : (forSides s countSide).seq = s.seq := foldl_keeps State.seq countSide _ countSide_seq s
  have hpath : ∀ (t : State) (p : PathId),
      (if pathIdle t p then t.modPath p fun x => { x with idleNs := x.idleNs + ns } else t).seq = t.seq := by
    intro t p
    split <;> rfl
  have hpaths : ∀ t : State, (forPaths t fun t p =>
      if pathIdle t p then t.modPath p fun x => { x with idleNs := x.idleNs + ns } else t).seq = t.seq :=
    foldl_keeps State.seq _ _ hpath
  unfold countTime
  simp only [modTime_seq, modScan_seq, modStore_seq, modSvc_seq, modWin_seq, modPow_seq, hpaths]
  split
  · simp only [usedFree_seq, modWin_seq, hsides]
  · exact hsides

theorem secondPassed_seq (b : Stamp) (s : State) : (secondPassed b s).seq = s.seq := by
  unfold secondPassed
  split
  · rfl
  · exact (flushCoalesced_only perSecond s).seq

/-- Time that passes to a stamp moves spine time, then every count beside it, then writes what a whole second asks for. -/
theorem elapseTo_cases (n : Nat) (s : State) :
    elapseTo n s = s ∨ ∃ before ns f, elapseTo n s = secondPassed before (countTime ns (s.modTime f)) := by
  unfold elapseTo
  split
  · exact Or.inl rfl
  · exact Or.inr ⟨_, _, _, rfl⟩

theorem elapseTo_seq (n : Nat) (s : State) : (elapseTo n s).seq = s.seq := by
  rcases elapseTo_cases n s with h | ⟨before, ns, f, h⟩
  · rw [h]
  · rw [h, secondPassed_seq, countTime_seq, modTime_seq]

end Sys2Proof.Machine
end

section
/-! Commands that Gulcy refuses or leaves waiting (R23, R319, R325, R334). -/

namespace Sys2Proof.Machine

/-! ### The gate -/

theorem gulcyReady_run {s : State} (h : gulcyReady s = true) : s.pow.dev = .run := by
  simp only [gulcyReady, Bool.and_eq_true, beq_iff_eq] at h
  obtain ⟨⟨⟨_, hdev⟩, _⟩, _⟩ := h
  exact hdev

/-- Taking a session's credit changes nothing that `gulcyReady` reads. -/
theorem gulcyReady_takeCtlCredit (w : Issuer) (s : State) : gulcyReady (takeCtlCredit w s) = gulcyReady s := by
  cases w <;> rfl

/-- A command of the two-wire side while it does not own the rings is refused when Gulcy takes it (R325). -/
theorem command_disowned {s : State} {r : Req} (hi : r.issuer = .twoWire) (ho : s.win.owner ≠ 0) (hg : gulcyReady s = true)
    (hr : replyRoom s r.issuer = true) (ha : s.mbx.arrived = []) (hw : s.mbx.owed = []) {op : Nat} (hop : op ≠ 0x0101)
    (f : Req → State → Result) :
    command op f r s = finish r.issuer (BitVec.ofNat 16 op) r r.tag 0 (failWith (begun s r) 0x06) := by
  rw [hi] at hr
  have hd : disownedBy (gulcyTakes s) op .twoWire = true := by
    have : (gulcyTakes s).win.owner = s.win.owner := by
      simpa [begun, hi, takeCtlCredit] using begun_owner s r
    have howner : (s.win.owner != 0) = true := bne_iff_ne.mpr ho
    simp only [disownedBy, this, howner, bne_iff_ne.mpr hop, beq_self_eq_true, Bool.and_self]
  simp [command, begun, hi, takeCtlCredit, hg, hr, ha, hw, hd]

/-- A command that Gulcy cannot take waits as the last of those that have arrived (R319). -/
theorem command_waits {s : State} (h : gulcyReady s = false) (op : Nat) (f : Req → State → Result) (r : Req) :
    command op f r s = (takeCtlCredit r.issuer s).modMbx fun m => { m with arrived := m.arrived ++
      [{ issuer := r.issuer, body := some (BitVec.ofNat 16 op, r), rtag := r.tag, lat := 0, answered := false, disowned := false }] } := by
  simp [command, gulcyReady_takeCtlCredit, h]

/-! ### A reply and nothing else -/

/-- A command that Gulcy takes and answers with no effect leaves its reply, and every part as it was. -/
theorem reply_only {c : Instr} {op : Nat} {r : Req} {s : State} {st : Nat} {p : List Byte}
    (hx : exec c s = done s (finish r.issuer (BitVec.ofNat 16 op) r r.tag 0 (begun s r, some ⟨st, p⟩))) (hdev : s.pow.dev = .run)
    (hp : r.issuer ≠ .twoWire → present s 4 = true) (hw : Mem.wf s.mbx.mem = true) (hs : DomainsSettled s) :
    ∃ t, exec c s = .next t ∧ Replied s t op r st p ∧ Keeps [] s t := by
  obtain ⟨a, b, ss, hb, hss⟩ := begun_cases s r
  have hset : DomainsSettled (begun s r) := by apply settled_congr hs <;> rw [hb]
  have hpres : r.issuer ≠ .twoWire → present (begun s r) 4 = true := by rw [hb]; exact hp
  refine ⟨_, hx, ?_, ?_⟩
  · apply finish_replied s _ _ _ _ hpres
    · intro k _
      obtain ⟨u, n, hu⟩ := hss k
      simp only [hb, hu]
    · rw [hb]; exact hw
    · rw [hb]
    · rw [hb]
    · rw [hb]; exact Or.inr hdev
  · rw [finish_settled hset r.issuer hpres]
    obtain ⟨h, m, cp, e, hm⟩ := writeReply_cases (begun s r) r.issuer hpres (BitVec.ofNat 16 op) r.tag r.tag 0 ⟨st, p⟩
    rw [e]
    rw [hb] at hm ⊢
    intro q _
    cases q
    case mbx => exact ⟨rfl, fun x hx => hm x hw hx⟩
    case svc =>
      refine ⟨rfl, fun k => ?_⟩
      obtain ⟨u, n, hu⟩ := hss k
      simp only [Fin.getElem_fin, settle_svc, hu]
    case paths =>
      intro k
      simp only [Fin.getElem_fin, settle_path]
    all_goals rfl

/-! ### The rows the gate is shown for -/

/-- The row of a command: its handler, and the length it wants (R334). CLAIM, which needs no ownership, is none of them. -/
def RowWants (r : Req) (row : Instr × Nat × Nat) : Prop :=
  row.2.1 ≠ 0x0101 ∧ ∃ f : Req → State → Result, (∀ s, exec row.1 s = done s (command row.2.1 f r s)) ∧
    ∀ s, r.len.toNat ≠ row.2.2 → f r s = badLength s

/-- Commands with the opcode and the length of their rows. -/
def gatedRows (r : Req) : List (Instr × Nat × Nat) :=
  [(.identGet r, 0x0103, 0), (.evtMaskSet r, 0x0104, 3), (.pathSet r, 0x0201, 6), (.pinSet r, 0x0203, 5), (.laneGet r, 0x0205, 1),
   (.countersGet r, 0x0208, 3), (.calGet r, 0x0301, 2), (.calCfgSet r, 0x0304, 6), (.timeGet r, 0x0401, 0), (.timeSet r, 0x0403, 10),
   (.mouldStatus r, 0x0504, 0), (.sessionBind r, 0x0601, 7), (.sessionGet r, 0x0605, 1), (.scanGet r, 0x0808, 4),
   (.powerGet r, 0x0A03, 0), (.storeGet r, 0x0B02, 0), (.logRead r, 0x0B06, 2), (.testEnable r, 0x0D01, 1)]

theorem gatedRows_want (r : Req) : ∀ row ∈ gatedRows r, RowWants r row := by
  have row {c : Instr} {op need : Nat} (hop : op ≠ 0x0101) (f : Req → State → Result)
      (hx : ∀ s, exec c s = done s (command op f r s)) (hf : ∀ s, r.len.toNat ≠ need → f r s = badLength s) :
      RowWants r (c, op, need) := ⟨hop, f, hx, hf⟩
  simp only [gatedRows, List.forall_mem_cons]
  exact
    ⟨row (by decide) doIdentGet (fun _ => rfl) (fun _ h => if_pos h),
     row (by decide) doEvtMaskSet (fun _ => rfl) (fun _ h => if_pos h),
     row (by decide) doPathSet (fun _ => rfl) (fun _ h => if_pos h),
     row (by decide) doPinSet (fun _ => rfl) (fun _ h => if_pos h),
     row (by decide) doLaneGet (fun _ => rfl) (fun _ h => if_pos h),
     row (by decide) doCountersGet (fun _ => rfl) (fun _ h => if_pos h),
     row (by decide) doCalGet (fun _ => rfl) (fun _ h => if_pos h),
     row (by decide) doCalCfgSet (fun _ => rfl) (fun _ h => if_pos h),
     row (by decide) doTimeGet (fun _ => rfl) (fun _ h => if_pos h),
     row (by decide) doTimeSet (fun _ => rfl) (fun _ h => if_pos h),
     row (by decide) doMouldStatus (fun _ => rfl) (fun _ h => if_pos h),
     row (by decide) doSessionBind (fun _ => rfl) (fun _ h => if_pos h),
     row (by decide) doSessionGet (fun _ => rfl) (fun _ h => if_pos h),
     row (by decide) doScanGet (fun _ => rfl) (fun _ h => if_pos h),
     row (by decide) doPowerGet (fun _ => rfl) (fun _ h => if_pos h),
     row (by decide) doStoreGet (fun _ => rfl) (fun _ h => if_pos h),
     row (by decide) doLogRead (fun _ => rfl) (fun _ h => if_pos h),
     row (by decide) doTestEnable (fun _ => rfl) (fun _ h => if_pos h),
     List.forall_mem_nil _⟩

/-- Settles O8: each row is `command` with a handler that tests LEN first, so what the gate does with it is what it does with any. -/
theorem commandsAreGated : Obligations.CommandsAreGated := by
  intro s r c op need hmem
  obtain ⟨hop, f, hx, hf⟩ := gatedRows_want r (c, op, need) hmem
  refine ⟨fun hr hl => ?_, fun hi ho hg hroom ha hw hm hs => ?_, fun hg => ?_⟩
  · have hbad : exec c s = done s (finish r.issuer (BitVec.ofNat 16 op) r r.tag 0 (failWith (begun s r) 0x01)) := by
      rw [hx, command_taken hr, hf _ hl]
      rfl
    obtain ⟨hg, _, _, _, _, hpres, hm, hs⟩ := hr
    exact reply_only hbad (gulcyReady_run hg) hpres hm hs
  · have hnot : exec c s = done s (finish r.issuer (BitVec.ofNat 16 op) r r.tag 0 (failWith (begun s r) 0x06)) := by
      rw [hx, command_disowned hi ho hg hroom ha hw hop]
    exact reply_only hnot (gulcyReady_run hg) (fun h => absurd hi h) hm hs
  · rw [Does, hx, command_waits hg]
    refine ⟨_, rfl, ?_, fun p hp => ?_⟩
    · cases r.issuer <;> exact ⟨rfl, rfl⟩
    · have hmbx : p ≠ .mbx := fun e => hp (by simp [e])
      have hsvc : p ≠ .svc := fun e => hp (by simp [e])
      exact Part.kept_settle s (Part.untouched_trans (Part.untouched_takeCtlCredit s r.issuer hsvc) (Part.untouched_modMbx _ _ hmbx))

end Sys2Proof.Machine
end

section
/-! How a line of the active Mould begins, and what its action finds (R44, R53, R54). -/

namespace Sys2Proof.Machine

/-! ### A line that begins -/

/-- The state in which the action of a line begins: the line noted as running, with its tokens. -/
abbrev lineBegun (u : State) (t : Fin 9) (idx : Nat) : State := pushLine u t idx true true

/-- A line that begins finds its islands present, and its action runs on the state at its start tick. -/
theorem startLine_begins {s u : State} {t : Fin 9} {idx action : Nat} {l : Line} (h : LineBegins s u t idx action l)
    (f : Line → State → State) : startLine t idx action f s = f l (lineBegun u t idx) := by
  obtain ⟨hnow, hact, hrun, hu, hscan, hlate, hdest, hnamed, hmiss⟩ := h
  have htok : ∀ tick, tokensAbsent u { table := t.val, index := idx, line := l } tick = u := by
    intro tick
    have hnil : (destinations { table := t.val, index := idx, line := l }).filter (fun i => !present u i) = [] := by
      simpa [List.filter_eq_nil_iff] using hdest
    simp only [tokensAbsent, hnil, List.foldl_nil]
  have hall : (!(namedIslands { table := t.val, index := idx, line := l }).isEmpty &&
      (namedIslands { table := t.val, index := idx, line := l }).all fun i => !present u i) = false := by
    rcases hnamed with hnil | ⟨i, hi, hp⟩
    · simp [hnil]
    · have : ((namedIslands { table := t.val, index := idx, line := l }).all fun i => !present u i) = false := by
        rw [List.all_eq_false]
        exact ⟨i, hi, by simp [hp]⟩
      rw [this, Bool.and_false]
  rw [← hact] at hmiss
  have hskip : ¬ (l.action ≠ action ∨ s.seq.running.any (fun r => r.table == t && r.idx == idx) = true) := by
    simp [hact, hrun]
  unfold startLine
  rw [hnow]
  simp only [if_neg hskip]
  rw [← hu, hscan, hlate]
  simp only [Bool.false_eq_true, if_false, beginLine, htok, hall, hmiss]

/-- A line's row that changes no part but those named, its entry among the running lines apart. -/
theorem begins_of {c : Instr} {s u v : State} {tbl : Fin 9} {idx : Nat} {changed : List Part} {P : State → Prop}
    (hx : exec c s = done s v) (hP : P (settle s v)) (hseq : Part.seq ∉ changed)
    (hk : ∀ p : Part, p ∉ changed → p.untouched (lineBegun u tbl idx) v) : Begins c s u tbl idx changed P := by
  have hv : v.seq = (lineBegun u tbl idx).seq := hk .seq hseq
  refine ⟨_, hx, hP, ?_, Or.inl ?_, fun p hp hne => ?_⟩
  · rw [settle_seq, hv]
    rfl
  · rw [settle_seq, hv]
    rfl
  · have hpush : p.untouched u v := by
      have := hk p hp
      cases p
      case seq => exact absurd rfl hne
      all_goals exact this
    exact Part.noted_of_kept (Part.kept_settle s hpush)

/-- A line that begins stands in the active Mould at its start tick too. -/
theorem lineAt_of_begins {s u : State} {t : Fin 9} {idx action : Nat} {l : Line} (h : LineBegins s u t idx action l) :
    lineAt u t.val idx = some l := by
  obtain ⟨hnow, _, _, hu, _⟩ := h
  have hs : lineAt s t.val idx = some l := by
    unfold lineNow at hnow
    split at hnow
    · next x hx =>
      split at hnow
      · rw [hx, hnow]
      · cases hnow
    · cases hnow
  have : u.seq = s.seq := by rw [hu, elapseTo_seq]
  simp only [lineAt, this] at hs ⊢
  exact hs

end Sys2Proof.Machine
end

section
/-! A work window: what WORK lines do where at most one command waits (R23, R312, R327, R329). -/

namespace Sys2Proof.Machine

/-! ### The window is open -/

/-- A WORK line that begins opens the work window, so that Gulcy is ready exactly where it is awake (R23, R312). -/
theorem gulcyReady_of_begins {s u : State} {idx : Nat} {l : Line} (h : LineBegins s u 0 idx 0x10 l) :
    gulcyReady (lineBegun u 0 idx) = gulcyAwake u := by
  have hat : lineAt u 0 idx = some l := lineAt_of_begins h
  obtain ⟨_, hact, _⟩ := h
  have hat' : lineAt (lineBegun u 0 idx) 0 idx = some l := hat
  have hwork : workRuns (lineBegun u 0 idx) = true := by
    simp only [workRuns, lineRuns, List.any_eq_true]
    refine ⟨{ table := 0, idx, tokens := true, acts := true }, ?_, ?_⟩
    · simp [pushLine]
    · simp [hat', hact]
  have : gulcyReady (lineBegun u 0 idx) = (gulcyAwake u && workRuns (lineBegun u 0 idx)) := rfl
  rw [this, hwork, Bool.and_true]

/-- The state in which Gulcy begins its work window: it is up, and the watchdog's count has restarted (R312, R329). -/
def workBegun (s : State) : State := (gulcyTakes s).modWin fun w => { w with wdCount := 0 }

/-- Beginning a work window changes no more of the window than GULCY_UP, its cause and the watchdog's count. -/
theorem workBegun_eq (s : State) : workBegun s =
    { s with win := { s.win with gulcyUp := true, cGulcy := s.win.cGulcy || !s.win.gulcyUp, wdCount := 0 } } := by
  unfold workBegun gulcyTakes
  cases hup : s.win.gulcyUp
  · simp [State.modWin]
  · simp [State.modWin, hup]

/-! ### Nothing to do -/

theorem payAll_nil {s : State} (h : s.mbx.owed = []) : payAll s = s := by
  have hm : s.modMbx (fun m => { m with owed := [] }) = s := by
    simp only [State.modMbx, ← h]
  simp only [payAll, h, payOwed, hm]

theorem readBackBank_of_no_job {s : State} (h : s.store.job = none) (ticks : Nat) : readBackBank ticks s = s := by
  simp only [readBackBank, h]

theorem workWindow_not_ready {s : State} (h : gulcyReady s = false) (locks : Bool) (l : Line) : workWindow locks l s = s := by
  simp [workWindow, h]

/-- What a work window in which no reply is owed and no firmware bank is read back comes to. -/
theorem workWindow_ready {s : State} (h : gulcyReady s = true) (ho : s.mbx.owed = []) (locks : Bool) (l : Line) :
    workWindow locks l s =
      let w := times applyFirstCancel s.mbx.arrived.length (workBegun s)
      readBackBank l.duration (times (takeOne locks) w.mbx.arrived.length w) := by
  have hm : (workBegun s).mbx = s.mbx := by rw [workBegun_eq]
  have hpay : payAll (workBegun s) = workBegun s := payAll_nil (by rw [hm, ho])
  have : workWindow locks l s =
      let w := times applyFirstCancel (workBegun s).mbx.arrived.length (payAll (workBegun s))
      readBackBank l.duration (times (takeOne locks) w.mbx.arrived.length w) := by
    simp only [workWindow, h, if_true]
    rfl
  rw [this, hpay, hm]

/-- With nothing that waits the work window only begins. -/
theorem workWindow_empty {s : State} (h : gulcyReady s = true) (ha : s.mbx.arrived = []) (ho : s.mbx.owed = [])
    (hj : s.store.job = none) (locks : Bool) (l : Line) : workWindow locks l s = workBegun s := by
  have hm : (workBegun s).mbx.arrived = [] := by rw [workBegun_eq]; exact ha
  have hjob : (workBegun s).store.job = none := by rw [workBegun_eq]; exact hj
  rw [workWindow_ready h ho]
  simp only [ha, hm, List.length_nil, times]
  exact readBackBank_of_no_job hjob _

/-! ### One command that waits -/

/-- A command that has just arrived by itself: not answered, not disowned, its request with it. -/
def arrivalOf (op : BitVec 16) (r : Req) : Arrival :=
  { issuer := r.issuer, body := some (op, r), rtag := r.tag, lat := 0, answered := false, disowned := false }

/-- Where the one command that waits is no CANCEL, none is applied ahead of its turn. -/
theorem applyFirstCancel_single {s : State} {op : BitVec 16} {r : Req} (ha : s.mbx.arrived = [arrivalOf op r]) (hop : op ≠ 0x0102) :
    applyFirstCancel s = s := by
  have hbodies : arrivalBodies s = [(arrivalOf op r, op, r)] := by
    simp [arrivalBodies, ha, arrivalsFrom, arrivalOf]
  have hcancel : (op == 0x0102) = false := beq_eq_false_iff_ne.mpr hop
  have hnone : (arrivalBodies s).find? isCancel = none := by
    simp only [hbodies, List.find?, isCancel, hcancel, Bool.false_and]
  simp only [applyFirstCancel, hnone]

/-- The one command that waits is the next to be taken where its issuer's side has room for the reply. -/
theorem nextArrival_single {s : State} {a : Arrival} (ha : s.mbx.arrived = [a]) (ht : takeable s a = true) : nextArrival s = some 0 := by
  cases hi : a.issuer with
  | twoWire => simp [nextArrival, ha, upto, hi, ht]
  | session k => simp [nextArrival, ha, upto, hi, ht]

/-- The one command that waits, taken: it leaves the arrivals, and ends as its execution says. -/
theorem takeOne_single {s : State} {op : BitVec 16} {r : Req} (ha : s.mbx.arrived = [arrivalOf op r]) (ho : s.mbx.owed = [])
    (hroom : replyRoom s r.issuer = true) (locks : Bool) :
    takeOne locks s = finish r.issuer op r r.tag 0
      (execute locks (arrivalOf op r) op r (s.modMbx fun m => { m with arrived := [] })) := by
  have ht : takeable s (arrivalOf op r) = true := by simp [takeable, ho, arrivalOf, hroom]
  simp only [takeOne, nextArrival_single ha ht]
  simp [ha, arrivalOf, State.modMbx]

/-- A command whose issuer may command is executed by the handler of its opcode (R324, R333). -/
theorem execute_handled {s : State} {op : BitVec 16} {r : Req} (hown : r.issuer = .twoWire → s.win.owner = 0) {locks : Bool}
    {f : Req → State → Result} (hf : handlerOf locks op.toNat = some f) : execute locks (arrivalOf op r) op r s = f r s := by
  have hd : disownedBy s op.toNat r.issuer = false := by
    cases hi : r.issuer with
    | twoWire => simp [disownedBy, hown hi]
    | session k => rfl
  simp [execute, arrivalOf, hd, hf]

end Sys2Proof.Machine
end

section
/-! WORK, TRIM, TELEM and STORE lines (R23, R70, R192, R386, R396, R438). -/

namespace Sys2Proof.Machine

/-! ### WORK -/

section
variable {s u : State} {idx : Nat} {l : Line} (locks : Bool)

theorem exec_workLine (h : LineBegins s u 0 idx 0x10 l) :
    exec (.workLine idx locks) s = done s (workWindow locks l (lineBegun u 0 idx)) :=
  congrArg (done s) (startLine_begins h (workWindow locks))

/-- While Gulcy cannot run it a WORK line is empty (R23, R331). -/
theorem workLine_asleep (h : LineBegins s u 0 idx 0x10 l) (ha : gulcyAwake u = false) :
    Begins (.workLine idx locks) s u 0 idx [] fun _ => True := by
  refine begins_of (exec_workLine locks h) trivial (by decide) fun p _ => ?_
  rw [workWindow_not_ready (by rw [gulcyReady_of_begins h, ha])]
  exact p.untouched_refl _

/-- A WORK line with nothing to do finds Gulcy up and restarts the watchdog's count (R312, R329). -/
theorem workLine_idle (h : LineBegins s u 0 idx 0x10 l) (hg : gulcyAwake u = true) (ha : u.mbx.arrived = []) (ho : u.mbx.owed = [])
    (hj : u.store.job = none) : Begins (.workLine idx locks) s u 0 idx [.win] fun t => WinNoted t { u.win with
      gulcyUp := true, cGulcy := u.win.cGulcy || !u.win.gulcyUp, wdCount := 0 } := by
  have hw : workWindow locks l (lineBegun u 0 idx) = workBegun (lineBegun u 0 idx) :=
    workWindow_empty (s := lineBegun u 0 idx) (by rw [gulcyReady_of_begins h, hg]) ha ho hj locks l
  refine begins_of (exec_workLine locks h) ?_ (by decide) fun p hp => ?_
  · rw [hw, workBegun_eq]
    rfl
  · rw [hw, workBegun_eq]
    exact Part.untouched_modWin _ (fun w => { w with gulcyUp := true, cGulcy := w.cGulcy || !w.gulcyUp, wdCount := 0 })
      (List.ne_of_not_mem_cons hp)

/-- The payload of an IDENT_GET's reply (Table 14.1). -/
def identPayload (s : State) : List Byte :=
  imgBytes s.win.id ++ be 6 s.store.eui48.toNat ++ be 8 s.store.eui64.toNat ++ s.store.serial ++ stampBytes s.store.made

theorem doIdentGet_ok {r : Req} (hl : r.len = 0) (s : State) : doIdentGet r s = okWith s (identPayload s) := by
  simp [doIdentGet, hl, identPayload]

/-- The state in which Gulcy executes the one command it has taken in a WORK line. -/
def taking (u : State) (idx : Nat) : State := (workBegun (lineBegun u 0 idx)).modMbx fun m => { m with arrived := [] }

theorem taking_eq (u : State) (idx : Nat) : taking u idx = { u with
    seq := (lineBegun u 0 idx).seq
    win := { u.win with gulcyUp := true, cGulcy := u.win.cGulcy || !u.win.gulcyUp, wdCount := 0 }
    mbx := { u.mbx with arrived := [] } } := by
  unfold taking
  rw [workBegun_eq]
  rfl

theorem taking_settled (hs : DomainsSettled u) : DomainsSettled (taking u idx) := by
  rw [taking_eq]
  exact settled_congr hs rfl rfl rfl rfl rfl rfl rfl rfl rfl

/-- One IDENT_GET waits by itself, and Gulcy can take and answer it as soon as a WORK line runs (R23, R44, R319, R325). -/
structure IdentWaits (u : State) (r : Req) : Prop where
  awake : gulcyAwake u = true
  owed : u.mbx.owed = []
  job : u.store.job = none
  arrived : u.mbx.arrived = [arrivalOf 0x0103 r]
  room : replyRoom u r.issuer = true
  owner : r.issuer = .twoWire → u.win.owner = 0
  bridge : r.issuer ≠ .twoWire → present u 4 = true
  len : r.len = 0
  mem : Mem.wf u.mbx.mem = true
  settled : DomainsSettled u

/-- An IDENT_GET that waits alone is taken in a WORK line, and its reply ends it. -/
theorem workWindow_identGet (h : LineBegins s u 0 idx 0x10 l) {r : Req} (hi : IdentWaits u r) :
    workWindow locks l (lineBegun u 0 idx) =
      finish r.issuer (BitVec.ofNat 16 0x0103) r r.tag 0 (taking u idx, some ⟨0, identPayload u⟩) := by
  obtain ⟨hg, ho, hj, ha, hroom, hown, hpres, hlen, _, hs⟩ := hi
  have hb := workBegun_eq (lineBegun u 0 idx)
  have hba : (workBegun (lineBegun u 0 idx)).mbx.arrived = [arrivalOf 0x0103 r] := by rw [hb]; exact ha
  have hbo : (workBegun (lineBegun u 0 idx)).mbx.owed = [] := by rw [hb]; exact ho
  have hbroom : replyRoom (workBegun (lineBegun u 0 idx)) r.issuer = true := by
    have : ∀ w, replyRoom (workBegun (lineBegun u 0 idx)) w = replyRoom u w := by
      intro w
      rw [hb]
      cases w <;> rfl
    rw [this, hroom]
  have hexec : execute locks (arrivalOf 0x0103 r) 0x0103 r (taking u idx) = (taking u idx, some ⟨0, identPayload u⟩) := by
    rw [execute_handled (f := doIdentGet) (by rw [taking_eq]; exact hown) rfl, doIdentGet_ok hlen, taking_eq]
    rfl
  have htaken : takeOne locks (workBegun (lineBegun u 0 idx)) =
      finish r.issuer (BitVec.ofNat 16 0x0103) r r.tag 0 (taking u idx, some ⟨0, identPayload u⟩) := by
    rw [takeOne_single hba hbo hbroom]
    exact congrArg (finish r.issuer _ r r.tag 0) hexec
  have hjob : (finish r.issuer (BitVec.ofNat 16 0x0103) r r.tag 0 (taking u idx, some ⟨0, identPayload u⟩)).store.job = none := by
    have hp : r.issuer ≠ .twoWire → present (taking u idx) 4 = true := by rw [taking_eq]; exact hpres
    rw [finish_settled (taking_settled hs) r.issuer hp, writeReply_store _ _ hp, taking_eq]
    exact hj
  rw [workWindow_ready (s := lineBegun u 0 idx) (by rw [gulcyReady_of_begins h, hg]) ho]
  have hpa : (lineBegun u 0 idx).mbx.arrived.length = 1 := congrArg List.length ha
  simp only [hpa, times, applyFirstCancel_single hba (by decide), hba, List.length_singleton, htaken]
  exact readBackBank_of_no_job hjob _

/-- A WORK line takes and answers an IDENT_GET that waits (R23, R327). -/
theorem workLine_identGet (h : LineBegins s u 0 idx 0x10 l) {r : Req} (hi : IdentWaits u r) :
    ∃ t, exec (.workLine idx locks) s = .next t ∧ t.mbx.arrived = [] ∧ Replied u t 0x0103 r 0 (identPayload u) ∧
      t.win.gulcyUp = true ∧ ∀ p : Part, p ∉ [.win, .mbx, .svc, .seq] → p.noted u t := by
  have hx := exec_workLine locks h
  rw [workWindow_identGet locks h hi] at hx
  obtain ⟨hg, _, _, _, _, _, hpres, _, hw, hs⟩ := hi
  have hpt : r.issuer ≠ .twoWire → present (taking u idx) 4 = true := by rw [taking_eq]; exact hpres
  have hrun : u.pow.dev = .run := by
    simp only [gulcyAwake, Bool.and_eq_true, beq_iff_eq] at hg
    obtain ⟨⟨_, hdev⟩, _⟩ := hg
    exact hdev
  obtain ⟨head, mem, cpl, e, _⟩ :=
    writeReply_cases (taking u idx) r.issuer hpt (BitVec.ofNat 16 0x0103) r.tag r.tag 0 ⟨0, identPayload u⟩
  rw [← finish_settled (taking_settled hs) r.issuer hpt, taking_eq] at e
  refine ⟨_, hx, ?_, ?_, ?_, fun p hp => ?_⟩
  · rw [taking_eq, e]
    rfl
  · apply finish_replied s _ _ _ _ hpt
    · intro k _
      rw [taking_eq]
    · rw [taking_eq]; exact hw
    · rw [taking_eq]
    · rw [taking_eq]
    · rw [taking_eq]; exact Or.inr hrun
  · rw [taking_eq, e]
    rfl
  · rw [taking_eq, e]
    refine Part.noted_of_kept (Part.kept_settle s ?_)
    cases p
    case win | mbx | svc | seq => simp at hp
    all_goals rfl
end

/-! ### Bits of a register -/

theorem bit_eq_getLsbD {w : Nat} (x : BitVec w) (i : Nat) : bit x i = x.getLsbD i := by
  rw [bit, BitVec.getLsbD, Nat.testBit_eq_decide_div_mod_eq]
  rfl

theorem bit_eq_getElem {w : Nat} (x : BitVec w) {i : Nat} (h : i < w) : bit x i = x[i] := by
  rw [bit_eq_getLsbD, BitVec.getLsbD_eq_getElem h]

/-! ### TRIM -/

/-- A fold whose every step leaves the state alone. -/
theorem foldl_fixed_of_mem {α σ : Type} {f : σ → α → σ} {s : σ} {l : List α} (h : ∀ a ∈ l, f s a = s) : l.foldl f s = s := by
  induction l with
  | nil => rfl
  | cons a t ih =>
    rw [List.foldl_cons, h a List.mem_cons_self]
    exact ih fun b hb => h b (List.mem_cons_of_mem a hb)

section
variable {s u : State} {idx : Nat} {l : Line}

theorem exec_trimLine (h : LineBegins s u 0 idx 0x11 l) (rs : List Replica) (zs : List TxReplica) :
    exec (.trimLine idx rs zs) s =
      done s (zs.foldl (txReplicaTarget l) (rs.foldl (replicaTargets l) (lineBegun u 0 idx))) :=
  congrArg (done s) (startLine_begins h _)

/-- A TRIM line whose replicas are none, or of a side it does not read, changes nothing (R190). -/
theorem trimLine_nothing (h : LineBegins s u 0 idx 0x11 l) {rs : List Replica} {zs : List TxReplica}
    (hr : ∀ r ∈ rs, readsReplica l (lineBegun u 0 idx) r.side = false)
    (hz : ∀ z ∈ zs, readsReplica l (lineBegun u 0 idx) z.side = false) :
    Begins (.trimLine idx rs zs) s u 0 idx [] fun _ => True := by
  have hrs : rs.foldl (replicaTargets l) (lineBegun u 0 idx) = lineBegun u 0 idx :=
    foldl_fixed_of_mem fun r hr' => by rw [replicaTargets, hr r hr', if_neg Bool.false_ne_true]
  have hzs : zs.foldl (txReplicaTarget l) (lineBegun u 0 idx) = lineBegun u 0 idx :=
    foldl_fixed_of_mem fun z hz' => by rw [txReplicaTarget, hz z hz', if_neg Bool.false_ne_true]
  refine begins_of (exec_trimLine h rs zs) trivial (by decide) fun p _ => ?_
  rw [hrs, hzs]
  exact p.untouched_refl _

/-- The targets of IDs 7 to 10 that a receiver's replicas and its transmitter's give (R190). -/
def trimAims (r : Replica) (z : TxReplica) : List CalTarget :=
  [(7, r.term), (8, r.pole), (9, r.bias), (10, z.txz)].map fun c => { corr := c.1, sub := 0, code := c.2, ramp := false }

/-- A side after the replicas of its receiver and of its transmitter have aimed its trims (R190). -/
def aimTrims (r : Replica) (z : TxReplica) (x : Side) : Side :=
  aim (aim (aim (aim x 7 0 r.term) 8 0 r.pole) 9 0 r.bias) 10 0 z.txz

/-- The replicas of a side a TRIM line reads set its targets, the receiver's first. -/
theorem replicas_set {v : State} {r : Replica} {z : TxReplica} (hz : z.side = r.side) (hread : readsReplica l v r.side = true) :
    txReplicaTarget l (replicaTargets l v r) z = v.modSide r.side (aimTrims r z) := by
  have hgate : ∀ x : Side, (aim (aim (aim x 7 0 r.term) 8 0 r.pole) 9 0 r.bias).gated = x.gated := by
    have hone : ∀ (x : Side) (c k : Nat) (v : Int), (aim x c k v).gated = x.gated := by
      intro x c k v
      unfold aim
      split <;> rfl
    intro x
    rw [hone, hone, hone]
  have hagain : readsReplica l (v.modSide r.side fun x => aim (aim (aim x 7 0 r.term) 8 0 r.pole) 9 0 r.bias) r.side =
      readsReplica l v r.side := by
    have : (v.modSide r.side fun x => aim (aim (aim x 7 0 r.term) 8 0 r.pole) 9 0 r.bias).sides[r.side].gated =
        v.sides[r.side].gated := by
      simp only [modSide_sides, Fin.getElem_fin, vmod_get, hgate]
    unfold readsReplica
    rw [this]
    rfl
  rw [replicaTargets, if_pos hread, txReplicaTarget, hz, hagain, if_pos hread]
  simp only [State.modSide, vmod, Vector.set_set, Fin.getElem_fin, Vector.getElem_set_self]
  rfl

/-- Where CAL_CFG lets the trims adapt and no target stands, the replicas' codes become the targets of IDs 7 to 10. -/
theorem aimTrims_adapting {r : Replica} {z : TxReplica} {x : Side} (hc : bit x.calCfg 33 = true) (ht : x.targets = []) :
    aimTrims r z x = { x with targets := trimAims r z } := by
  simp [aimTrims, aim, adapts, hc, ht, putTarget, isTarget, trimAims]

/-- Where CAL_CFG holds the trims the replicas set no target (Table 8.3). -/
theorem aimTrims_held {r : Replica} {z : TxReplica} {x : Side} (hc : bit x.calCfg 33 = false) : aimTrims r z x = x := by
  simp [aimTrims, aim, adapts, hc]

theorem trimLine_replicas (h : LineBegins s u 0 idx 0x11 l) {r : Replica} {z : TxReplica} (hz : z.side = r.side)
    (hname : trimNames l r.side = true) (hpres : present u (32 + r.side.val) = true) (hdata : inData u r.side = true)
    (hgate : u.sides[r.side].gated = false) :
    exec (.trimLine idx [r] [z]) s = done s ((lineBegun u 0 idx).modSide r.side (aimTrims r z)) := by
  have hread : readsReplica l (lineBegun u 0 idx) r.side = true := by
    have : readsReplica l (lineBegun u 0 idx) r.side = readsReplica l u r.side := rfl
    rw [this]
    simp only [readsReplica, hname, hpres, hdata, hgate]
    rfl
  rw [exec_trimLine h]
  exact congrArg (done s) (replicas_set hz hread)

/-- A TRIM line's replicas set the targets of a side it reads. -/
theorem trimLine_adapting (h : LineBegins s u 0 idx 0x11 l) {r : Replica} {z : TxReplica} (hz : z.side = r.side)
    (hname : trimNames l r.side = true) (hpres : present u (32 + r.side.val) = true) (hdata : inData u r.side = true)
    (hgate : u.sides[r.side].gated = false) (ht : u.sides[r.side].targets = []) (hc : u.sides[r.side].calCfg[33] = true) :
    Begins (.trimLine idx [r] [z]) s u 0 idx [.sides] fun t =>
      t.sides = vmod u.sides r.side fun x => { x with targets := trimAims r z } := by
  refine begins_of (trimLine_replicas h hz hname hpres hdata hgate) ?_ (by decide)
    fun p hp => Part.untouched_modSide _ _ _ (List.ne_of_not_mem_cons hp)
  have hset := aimTrims_adapting (r := r) (z := z) (x := u.sides[r.side]) ((bit_eq_getElem _ (by decide)).trans hc) ht
  exact congrArg (u.sides.set r.side.val · r.side.isLt) hset

theorem trimLine_held (h : LineBegins s u 0 idx 0x11 l) {r : Replica} {z : TxReplica} (hz : z.side = r.side)
    (hname : trimNames l r.side = true) (hpres : present u (32 + r.side.val) = true) (hdata : inData u r.side = true)
    (hgate : u.sides[r.side].gated = false) (hc : u.sides[r.side].calCfg[33] = false) :
    Begins (.trimLine idx [r] [z]) s u 0 idx [] fun _ => True := by
  refine begins_of (trimLine_replicas h hz hname hpres hdata hgate) trivial (by decide) fun p _ => ?_
  have hset := aimTrims_held (r := r) (z := z) (x := u.sides[r.side]) ((bit_eq_getElem _ (by decide)).trans hc)
  have hsides : vmod u.sides r.side (aimTrims r z) = u.sides := by
    rw [vmod, hset, Fin.getElem_fin, Vector.set_getElem_self]
  have : (lineBegun u 0 idx).modSide r.side (aimTrims r z) = lineBegun u 0 idx :=
    congrArg (fun v => { lineBegun u 0 idx with sides := v }) hsides
  rw [this]
  exact p.untouched_refl _

theorem trimLine_unread (h : LineBegins s u 0 idx 0x11 l) {r : Replica} {z : TxReplica} (hz : z.side = r.side)
    (hno : trimNames l r.side = false ∨ inData u r.side = false ∨ u.sides[r.side].gated = true) :
    Begins (.trimLine idx [r] [z]) s u 0 idx [] fun _ => True := by
  have hread : readsReplica l (lineBegun u 0 idx) r.side = false := by
    have : readsReplica l (lineBegun u 0 idx) r.side = readsReplica l u r.side := rfl
    rw [this, readsReplica]
    rcases hno with hn | hn | hn
    · simp only [hn, Bool.false_and]
    · simp only [hn, Bool.false_and, Bool.and_false]
    · simp only [hn, Bool.not_true, Bool.and_false]
  exact trimLine_nothing h (by simpa using hread) (by simpa [hz] using hread)
end

/-! ### TELEM -/

/-- A TELEM line samples the channels of its operand (R396). -/
theorem telemLine_samples {s u : State} {idx : Nat} {l : Line} (h : LineBegins s u 0 idx 0x12 l) (samples : List (BitVec 16)) :
    Begins (.telemLine idx samples) s u 0 idx [.test] fun t =>
      { t.test with telem := u.test.telem } =
        { u.test with telemAt := u.now, telemHas := u.test.telemHas ||| l.operand.extractLsb' 0 16 } ∧
      ∀ c : Fin 16, t.test.telem[c] = if l.operand.getLsbD c.val = true then samples.getD c.val 0 else u.test.telem[c] := by
  have hx : exec (.telemLine idx samples) s = done s (sampleTelem samples l (lineBegun u 0 idx)) :=
    congrArg (done s) (startLine_begins h _)
  have hmask : BitVec.ofNat 16 (l.operand.toNat % 65536) = l.operand.extractLsb' 0 16 := by
    apply BitVec.eq_of_toNat_eq
    simp
  refine begins_of hx ⟨?_, fun c => ?_⟩ (by decide) fun p hp => Part.untouched_modTest _ _ (List.ne_of_not_mem_cons hp)
  · rw [← hmask]
    rfl
  · have hbit : (l.operand.toNat % 65536 / 2 ^ c.val % 2 = 1) = (l.operand.getLsbD c.val = true) := by
      have hlow : (l.operand.toNat % 2 ^ 16).testBit c.val = l.operand.toNat.testBit c.val := by
        rw [Nat.testBit_mod_two_pow, decide_eq_true c.isLt, Bool.true_and]
      rw [BitVec.getLsbD, ← hlow, Nat.testBit_eq_decide_div_mod_eq, decide_eq_true_eq]
      rfl
    simp only [settle_test, sampleTelem, modTest_test, Fin.getElem_fin, Vector.getElem_ofFn, hbit]
    rfl

/-! ### STORE -/

section
variable {s u : State} {idx : Nat} {l : Line}

theorem exec_storeLine (h : LineBegins s u 0 idx 0x13 l) :
    exec (.storeLine idx) s = done s (storeStep (lineBegun u 0 idx)) :=
  congrArg (done s) (startLine_begins h _)

/-- A STORE line whose step changes the store and nothing else. -/
theorem storeLine_of (h : LineBegins s u 0 idx 0x13 l) {f : Store → Store}
    (hs : storeStep (lineBegun u 0 idx) = (lineBegun u 0 idx).modStore f) :
    Begins (.storeLine idx) s u 0 idx [.store] fun t => t.store = f u.store := by
  have hx := exec_storeLine h
  rw [hs] at hx
  exact begins_of hx rfl (by decide) fun p hp => Part.untouched_modStore _ _ (List.ne_of_not_mem_cons hp)

theorem storeStep_mould {v : State} {k : Fin 2} {image : Mem} {len made : Nat} (hj : v.store.job = some (.mould k image len made)) :
    storeStep v = stepMould v k image len made := by
  simp only [storeStep, hj]

/-- A step of a MOULD_STORE but the last leaves the slot invalid (R70). -/
theorem storeLine_mould_step (h : LineBegins s u 0 idx 0x13 l) {k : Fin 2} {image : Mem} {len made : Nat}
    (hj : u.store.job = some (.mould k image len made)) (hm : made + 1 < mouldSteps len) :
    Begins (.storeLine idx) s u 0 idx [.store] fun t => t.store = { u.store with
      slots := vmod u.store.slots k fun x => { x with valid := false }, job := some (.mould k image len (made + 1)) } := by
  refine storeLine_of h (f := fun t => { t with
    slots := vmod t.slots k fun x => { x with valid := false }, job := some (.mould k image len (made + 1)) }) ?_
  rw [storeStep_mould (v := lineBegun u 0 idx) hj, stepMould, if_pos hm]

/-- The last step of a MOULD_STORE makes the slot valid with its new image (R70). -/
theorem storeLine_mould_last (h : LineBegins s u 0 idx 0x13 l) {k : Fin 2} {image : Mem} {len made : Nat}
    (hj : u.store.job = some (.mould k image len made)) (hm : mouldSteps len ≤ made + 1) (ht : u.mbx.taken = []) :
    Begins (.storeLine idx) s u 0 idx [.store] fun t => t.store = { u.store with
      slots := vmod u.store.slots k fun _ => { valid := true, image := image, len := len }, job := none } := by
  refine storeLine_of h (f := fun t => { t with
    slots := vmod t.slots k fun _ => { valid := true, image := image, len := len }, job := none }) ?_
  have hnone : ∀ v : State, v.mbx = u.mbx → replyTaken v [0x0502] ⟨0x00, []⟩ = v := by
    intro v hv
    simp only [replyTaken, hv, ht, List.find?_nil]
  rw [storeStep_mould (v := lineBegun u 0 idx) hj, stepMould, if_neg (by omega)]
  exact hnone _ rfl

/-- With no store in progress a STORE line begins the log page that is due (R438). -/
theorem storeLine_page (h : LineBegins s u 0 idx 0x13 l) (hj : u.store.job = none) (hp : u.store.paging = none)
    (hd : pageDue u.store = true) (hb : pageBlocked u.store = false) :
    Begins (.storeLine idx) s u 0 idx [.store] fun t => t.store = { u.store with paging := some 1 } := by
  refine storeLine_of h (f := fun t => { t with paging := some 1 }) ?_
  have hstore : (lineBegun u 0 idx).store = u.store := rfl
  simp [storeStep, stepLog, hstore, hj, hp, hd, hb]
end

/-- Settles O34: each line begins on the state at its start tick, where its action does what the clause says. -/
theorem workTrimTelemAndStoreLines : Obligations.WorkTrimTelemAndStoreLines := by
  refine ⟨fun s u idx l locks h => ⟨workLine_asleep locks h, workLine_idle locks h, ?_⟩,
    fun s u => ⟨fun idx l h => ⟨?_, ?_, fun r z hz hno => trimLine_unread h hz hno⟩,
      fun idx l samples h => telemLine_samples h samples,
      fun idx l k image len made h hj => ⟨storeLine_mould_step h hj, storeLine_mould_last h hj⟩,
      fun idx l h => storeLine_page h⟩⟩
  · rintro r a hg ho hj rfl ha hroom hown hpres hlen hw hs
    exact workLine_identGet locks h ⟨hg, ho, hj, ha, hroom, hown, hpres, hlen, hw, hs⟩
  · exact trimLine_nothing h (fun r hr => absurd hr List.not_mem_nil) (fun z hz => absurd hz List.not_mem_nil)
  · intro r z hz hname hpres hdata hgate ht
    exact ⟨trimLine_adapting h hz hname hpres hdata hgate ht, trimLine_held h hz hname hpres hdata hgate⟩

end Sys2Proof.Machine
end

section
/-! The end of a run: outputs released, the store and the log ended, domains off (R26, R30, R421, R436). -/

namespace Sys2Proof.Machine

/-! ### Folds that reach every element -/

/-- What each step of a fold establishes for its own element, and no step undoes, holds of every element. -/
theorem foldl_establishes {α σ : Type} (Q : α → σ → Prop) (f : σ → α → σ) (hself : ∀ s a, Q a (f s a))
    (hkeep : ∀ s a b, Q b s → Q b (f s a)) (l : List α) (s : σ) : ∀ a ∈ l, Q a (l.foldl f s) := by
  induction l generalizing s with
  | nil => exact fun a ha => absurd ha List.not_mem_nil
  | cons b t ih =>
    intro a ha
    rcases List.mem_cons.mp ha with rfl | ht
    · exact foldl_holds (Q a) f t (fun s c h => hkeep s c a h) _ (hself s a)
    · exact ih (f s b) a ht

/-! ### Outputs -/

/-- A side is released: its transmitter idle, its termination open (R30). -/
def SideReleased (i : SideId) (s : State) : Prop := s.sides[i].txIdle = true ∧ s.sides[i].term = false

/-- A change of one side that itself leaves a released side released keeps every side released. -/
theorem SideReleased.modSide {i j : SideId} {s : State} {f : Side → Side} (h : SideReleased j s)
    (hf : ∀ x : Side, x.txIdle = true → x.term = false → (f x).txIdle = true ∧ (f x).term = false) :
    SideReleased j (s.modSide i f) := by
  obtain ⟨hidle, hterm⟩ := h
  by_cases hij : i = j
  · subst hij
    simpa [SideReleased] using hf _ hidle hterm
  · simpa [SideReleased, vmod_get_other s.sides i j f hij] using And.intro hidle hterm

/-- One side released (R30). -/
def releaseSide (s : State) (i : SideId) : State := s.modSide i fun x => { x with term := false, txIdle := true }

/-- Releasing the outputs changes the sides and the two-wire target, and leaves every side released (R30). -/
theorem releaseOutputs_cases (s : State) : ∃ si tw, releaseOutputs s = { s with sides := si, tw := tw } ∧
    ∀ i : SideId, si[i].txIdle = true ∧ si[i].term = false := by
  have hkept : ∃ si, forSides s releaseSide = { s with sides := si } := by
    refine foldl_holds (fun t => ∃ si, t = { s with sides := si }) _ _ ?_ s ⟨s.sides, rfl⟩
    rintro _ i ⟨si, rfl⟩
    exact ⟨_, rfl⟩
  have hrel : ∀ i ∈ List.finRange 32, SideReleased i (forSides s releaseSide) := by
    refine foldl_establishes SideReleased _ ?_ ?_ _ s
    · intro t i
      simp [SideReleased, releaseSide]
    · intro t i j h
      exact h.modSide fun _ _ _ => ⟨rfl, rfl⟩
  obtain ⟨si, hsi⟩ := hkept
  rw [hsi] at hrel
  have hout : releaseOutputs s = (forSides s releaseSide).modTw fun t => { t with
      pulsing := false, stretch := none, phase := .idle, staged := [] } := rfl
  refine ⟨si, _, by rw [hout, hsi]; rfl, fun i => hrel i (List.mem_finRange i)⟩

/-! ### Store and log -/

theorem breakStore_only (s : State) : EventOnly s (breakStore s) := by
  unfold breakStore
  split
  · exact EventOnly.refl s
  · exact ⟨s.win, s.mbx, s.svc, _, rfl⟩

theorem endStore_only (s : State) : EventOnly s (endStore s) := by
  unfold endStore
  split
  · split
    · exact ⟨s.win, s.mbx, s.svc, _, rfl⟩
    · exact breakStore_only s
  · split
    · exact ⟨s.win, s.mbx, s.svc, _, rfl⟩
    · exact breakStore_only s
  · split
    · exact breakStore_only s
    · exact ⟨s.win, s.mbx, s.svc, _, rfl⟩
  · exact breakStore_only s

theorem writePage_only (s : State) : EventOnly s (writePage s) := by
  have hlost : ∀ v : State, EventOnly v (if v.store.logLost = 0 then v
      else raise (v.modStore fun t => { t with logLost := 0 }) 0x0B08 (be 2 (min v.store.logLost 65535))) := by
    intro v
    split
    · exact EventOnly.refl v
    · exact EventOnly.trans ⟨v.win, v.mbx, v.svc, _, rfl⟩ (raise_only _ _ _)
  exact EventOnly.trans ⟨s.win, s.mbx, s.svc, _, rfl⟩ (hlost _)
theorem endLog_only (s : State) : EventOnly s (endLog s) := by
  unfold endLog
  dsimp only
  split
  · exact (writePage_only s).trans ⟨_, _, _, _, rfl⟩
  · exact ⟨s.win, s.mbx, s.svc, _, rfl⟩

/-! ### Domains switched off -/

/-- A property that every loss of Table 16.2 keeps is kept when a domain is lost. -/
theorem domainLost_holds (P : State → Prop) (hside : ∀ t i, P t → P (t.modSide i resetSide))
    (hlane : ∀ t l f, P t → P (t.modLane l f)) (hpath : ∀ t p f, P t → P (t.modPath p f)) (hmbx : ∀ t f, P t → P (t.modMbx f))
    (htime : ∀ t, P t → P (t.modTime resetTime))
    (hpps : ∀ t, P t → P (t.modTime fun x => { x with ppsOut := none, chainOut := none }))
    (hven : ∀ t f, P t → P (t.modVen f)) (hscan : ∀ t f, P t → P (t.modScan f)) (htest : ∀ t f, P t → P (t.modTest f))
    {s : State} (h : P s) (d : Nat) : P (domainLost s d) := by
  unfold domainLost
  split
  · exact h
  · split
    · exact hlane _ _ _ (hside _ _ h)
    · split
      · exact foldl_holds P _ _ (fun t l ht => hlane t l _ ht) _ (hpath _ _ _ h)
      · split
        · exact hmbx _ _ h
        · exact htime _ h
        · exact hven _ _ h
        · exact hven _ _ h
        · exact hscan _ _ h
        · exact htest _ _ h
        · exact hpps _ h
        · exact h

theorem domainLost_pow (s : State) (d : Nat) : (domainLost s d).pow = s.pow :=
  domainLost_holds (fun t => t.pow = s.pow) (fun _ _ h => h) (fun _ _ _ h => h) (fun _ _ _ h => h) (fun _ _ h => h) (fun _ h => h)
    (fun _ h => h) (fun _ _ h => h) (fun _ _ h => h) (fun _ _ h => h) rfl d

/-- Losing a domain leaves what the end save latched: T0, C0 and the state of the clock (R162, R421). -/
theorem domainLost_latched (s : State) (d : Nat) :
    ((domainLost s d).time.t0, (domainLost s d).time.c0, (domainLost s d).time.stSaved) = (s.time.t0, s.time.c0, s.time.stSaved) :=
  domainLost_holds (fun t => (t.time.t0, t.time.c0, t.time.stSaved) = (s.time.t0, s.time.c0, s.time.stSaved)) (fun _ _ h => h)
    (fun _ _ _ h => h) (fun _ _ _ h => h) (fun _ _ h => h) (fun _ h => h) (fun _ h => h) (fun _ _ h => h) (fun _ _ h => h)
    (fun _ _ h => h) rfl d

theorem domainLost_released {i : SideId} {s : State} (h : SideReleased i s) (d : Nat) : SideReleased i (domainLost s d) :=
  domainLost_holds (SideReleased i) (fun _ _ h => h.modSide fun _ _ ht => ⟨rfl, ht⟩) (fun _ _ _ h => h) (fun _ _ _ h => h)
    (fun _ _ h => h) (fun _ h => h) (fun _ h => h) (fun _ _ h => h) (fun _ _ h => h) (fun _ _ h => h) h d

/-- One domain switched off with what that loses, where it is on. -/
def turnOff (s : State) (d : Nat) : State :=
  if domOn s d then domainLost (s.modPow fun p => { p with domains := vmodN p.domains (d - 1) fun _ => false }) d else s

theorem allOff_eq (s : State) : allOff s = ((upto 50).map fun i => i + 1).foldl turnOff s := rfl

theorem domOn_eq (s : State) (d : Nat) : domOn s d = (s.pow.domains[d - 1]?).getD false := by
  simp [domOn, List.headD_eq_head?_getD]

theorem getElem?_vmodN {α : Type} {n : Nat} (v : Vector α n) (k j : Nat) (f : α → α) :
    (vmodN v k f)[j]? = if k = j then v[j]?.map f else v[j]? := by
  unfold vmodN
  split
  · next h =>
    rw [Vector.getElem?_set]
    by_cases hk : k = j
    · subst hk; simp [h]
    · simp [hk]
  · next h =>
    split
    · next hk => subst hk; simp [h]
    · rfl

/-- A domain switched off reads off, and every other as before. -/
theorem domOn_turnOff (s : State) (d e : Nat) : domOn (turnOff s d) e = if d - 1 = e - 1 then false else domOn s e := by
  unfold turnOff
  split
  · rw [domOn_eq, domOn_eq, domainLost_pow, modPow_pow, getElem?_vmodN]
    split
    · cases s.pow.domains[e - 1]? <;> rfl
    · rfl
  · next hoff =>
    split
    · next hde =>
      rw [domOn_eq, ← hde, ← domOn_eq]
      simpa using hoff
    · rfl

theorem turnOff_latched (s : State) (d : Nat) :
    ((turnOff s d).time.t0, (turnOff s d).time.c0, (turnOff s d).time.stSaved) = (s.time.t0, s.time.c0, s.time.stSaved) := by
  unfold turnOff
  split
  · exact domainLost_latched _ d
  · rfl

theorem turnOff_released {i : SideId} {s : State} (h : SideReleased i s) (d : Nat) : SideReleased i (turnOff s d) := by
  unfold turnOff
  split
  · refine domainLost_released ?_ d
    exact h
  · exact h

theorem turnOff_only (s : State) (d : Nat) : DomainOnly s (turnOff s d) := by
  unfold turnOff
  split
  · exact DomainOnly.trans ⟨_, _, _, _, _, _, _, _, _, rfl⟩ (domainLost_only _ _)
  · exact DomainOnly.refl s

theorem allOff_only (s : State) : DomainOnly s (allOff s) := by
  rw [allOff_eq]
  exact foldl_holds (DomainOnly s) turnOff _ (fun t d h => h.trans (turnOff_only t d)) s (DomainOnly.refl s)

theorem domOn_allOff (s : State) (i : Fin 50) : domOn (allOff s) (i.val + 1) = false := by
  rw [allOff_eq]
  refine foldl_establishes (fun d t => domOn t d = false) turnOff ?_ ?_ _ s (i.val + 1) ?_
  · intro t d
    simp [domOn_turnOff]
  · intro t d e h
    simp [domOn_turnOff, h]
  · simp [upto, i.isLt]

theorem allOff_latched (s : State) :
    ((allOff s).time.t0, (allOff s).time.c0, (allOff s).time.stSaved) = (s.time.t0, s.time.c0, s.time.stSaved) := by
  rw [allOff_eq]
  exact foldl_keeps (fun t => (t.time.t0, t.time.c0, t.time.stSaved)) turnOff _ turnOff_latched s

theorem allOff_released {i : SideId} {s : State} (h : SideReleased i s) : SideReleased i (allOff s) := by
  rw [allOff_eq]
  exact foldl_holds (SideReleased i) turnOff _ (fun _ d ht => turnOff_released ht d) s h

/-! ### The end itself -/

/-- The state after the end save: outputs released, and outside REST the completion mark with spine time, the counter and the state of
the clock latched (R30, R162, R421). -/
structure EndSaved (s v : State) (saveDone : Bool) (counter : BitVec 64) : Prop where
  pow : ∃ sv, v.pow = { s.pow with saved := sv }
  released : ∀ i, SideReleased i v
  latched : s.pow.dev ≠ .rest → v.pow.saved = saveDone ∧
    (v.time.t0, v.time.c0, v.time.stSaved) = (s.time.spine, counter, s.time.st)
  pending : v.pending = s.pending

theorem endSave_saved {s v : State} (hpow : v.pow = s.pow) (htime : v.time = s.time) (hrel : ∀ i, SideReleased i v)
    (hpend : v.pending = s.pending) (b : Bool) (k : BitVec 64) : EndSaved s (endSave b k v) b k := by
  unfold endSave
  split
  · next hrest => exact ⟨⟨s.pow.saved, hpow⟩, hrel, fun h => absurd (by simpa [hpow] using hrest) h, hpend⟩
  · refine ⟨⟨b, ?_⟩, hrel, fun _ => ⟨rfl, ?_⟩, hpend⟩
    · simp only [latchTime, modTime_pow, modPow_pow, hpow]
    · simp only [latchTime, modTime_time, modPow_time, htime]

/-- Releasing the outputs, ending the store and the log, and the end save (R26, R421). -/
theorem endSaved (s : State) (b : Bool) (k : BitVec 64) : EndSaved s (endSave b k (endLog (endStore (releaseOutputs s)))) b k := by
  obtain ⟨si, tw, hout, hrel⟩ := releaseOutputs_cases s
  obtain ⟨w, m, c, st, hlog⟩ := (endStore_only (releaseOutputs s)).trans (endLog_only _)
  rw [hlog, hout]
  exact endSave_saved (s := s) (by rfl) (by rfl) (by exact hrel) (by rfl) b k

/-- A state that is switched off: what holds of it, and what it keeps of the state before (R26, R411, R463, R503). -/
structure SwitchedOff (v t : State) : Prop where
  pow : ∃ ds, t.pow = { v.pow with domains := ds }
  domains : ∀ i : Fin 50, domOn t (i.val + 1) = false
  released : (∀ i, SideReleased i v) → ∀ i, SideReleased i t
  latched : (t.time.t0, t.time.c0, t.time.stSaved) = (v.time.t0, v.time.c0, v.time.stSaved)
  running : t.seq.running = []
  stopped : t.seq.stopped = true
  tap : t.test.tapIr = 1
  pending : t.pending = v.pending

theorem switchOff_off (v : State) : SwitchedOff v (switchOff v) := by
  have hpow : ∃ ds, (allOff v).pow = { v.pow with domains := ds } := by
    obtain ⟨ds, _, _, _, _, _, _, _, _, h⟩ := allOff_only v
    exact ⟨ds, by rw [h]⟩
  have hpend : (allOff v).pending = v.pending := by
    obtain ⟨_, _, _, _, _, _, _, _, _, h⟩ := allOff_only v
    rw [h]
  have hdom := domOn_allOff v
  have hrel : (∀ i, SideReleased i v) → ∀ i, SideReleased i (allOff v) := fun h i => allOff_released (h i)
  have hlat := allOff_latched v
  unfold switchOff
  generalize allOff v = a at hpow hpend hdom hrel hlat ⊢
  exact ⟨hpow, hdom, hrel, hlat, rfl, rfl, rfl, hpend⟩

/-- Events written after the switch-off leave the device switched off. -/
theorem SwitchedOff.events {v t w : State} (h : SwitchedOff v t) (he : EventOnly t w) : SwitchedOff v w := by
  obtain ⟨_, _, _, _, rfl⟩ := he
  exact ⟨h.pow, h.domains, h.released, h.latched, h.running, h.stopped, h.tap, h.pending⟩

/-- A run in progress ends with its cause, whatever it was doing (R26, R30, R421). -/
theorem endRun_ended {s : State} (h : alive s = true) (cause : BitVec 3) (b : Bool) (k : BitVec 64) (tj : BitVec 10) (vin : BitVec 16) :
    RunEnded s (endRun cause b k tj vin s) cause.toNat b k ∧
    ∃ sv ds, (endRun cause b k tj vin s).pow = { s.pow with
      dev := .held, rest := .none, aoKept := true, ended := some (endRecord s cause tj vin), resetDue := none
      saved := sv, domains := ds } := by
  obtain ⟨⟨sv, hpow⟩, hrel, hlat, hpend⟩ := endSaved s b k
  simp only [endRun, h, Bool.true_eq_false, if_false]
  generalize endSave b k (endLog (endStore (releaseOutputs s))) = v at hpow hrel hlat hpend ⊢
  have hoff := (switchOff_off (v.modPow fun p =>
    { p with ended := some (endRecord s cause tj vin), rest := .none, aoKept := true })).events (flushCoalesced_only (fun _ => true) _)
  generalize flushCoalesced (fun _ => true) (switchOff (v.modPow fun p =>
    { p with ended := some (endRecord s cause tj vin), rest := .none, aoKept := true })) = t at hoff ⊢
  obtain ⟨⟨ds, hds⟩, hdom, hsides, hkeep, hrun, hstop, htap, hpending⟩ := hoff
  simp only [modPow_pow, hpow] at hds
  refine ⟨⟨rfl, rfl, ?_, ?_, hstop, hrun, ?_, hdom, hsides hrel, htap, fun hr => ?_, hpending.trans hpend⟩, sv, ds, ?_⟩
  · simp only [modCpu_pow, modPow_pow, hds]
  · simp only [modCpu_pow, modPow_pow, hds]
  · simp only [modCpu_pow, modPow_pow, hds]
    rfl
  · obtain ⟨hsaved, htime⟩ := hlat hr
    have hlatched : (t.time.t0, t.time.c0, t.time.stSaved) = (s.time.spine, k, s.time.st) := hkeep.trans htime
    obtain ⟨ht0, hc0, hst⟩ : t.time.t0 = s.time.spine ∧ t.time.c0 = k ∧ t.time.stSaved = s.time.st := by simpa using hlatched
    have hmark : t.pow.saved = b := by
      rw [hds, ← hsaved, hpow]
    exact ⟨hmark, ht0, hc0, hst⟩
  · simp only [modCpu_pow, modPow_pow, hds]

/-- What follows every change leaves an ended run ended. -/
theorem RunEnded.settle {s t : State} {cause : Nat} {b : Bool} {k : BitVec 64} (h : RunEnded s t cause b k) (o : State) :
    RunEnded s (settle o t) cause b k := by
  obtain ⟨hdev, hcpu, hrest, hkept, hstop, hrun, hrec, hdom, hsides, htap, hsave, hpend⟩ := h
  exact ⟨hdev, hcpu, hrest, hkept, hstop, hrun, hrec, hdom, hsides, htap, hsave, hpend⟩

theorem RunEnded.pending {s t : State} {cause : Nat} {b : Bool} {k : BitVec 64} (h : RunEnded s t cause b k) : t.pending = s.pending := by
  obtain ⟨_, _, _, _, _, _, _, _, _, _, _, hpend⟩ := h
  exact hpend

/-- Settles O58: each row is `endRun` with its own cause, on a state in which at most its own mark in the AO domain has been set. -/
theorem runsEndWithTheirCause : Obligations.RunsEndWithTheirCause := by
  intro s c h
  refine ⟨fun mv b => ?_, fun b => ?_, fun t ht => ?_, fun t ht => ?_, fun hd => ?_, fun hd => ?_, ?_⟩
  · obtain ⟨hend, sv, ds, hpow⟩ := endRun_ended (s := s.modPow fun p => { p with lockout := true }) h 1 b c s.win.tj mv
    refine ⟨_, rfl, hend.settle s, ?_, ?_⟩
    · rw [settle_pow, hpow]
      rfl
    · rw [settle_pow, hpow]
      rfl
  · obtain ⟨hend, sv, ds, hpow⟩ := endRun_ended (s := s.modPow fun p => { p with resetN := true }) h 3 b c s.win.tj s.win.vin
    refine ⟨_, rfl, hend.settle s, ?_⟩
    rw [settle_pow, hpow]
    rfl
  · obtain ⟨hend, sv, ds, hpow⟩ :=
      endRun_ended (s := s.modPow fun p => { p with thermal := true }) h 2 true c (BitVec.ofInt 10 t) s.win.vin
    have hx : exec (.thermalShutdown t c) s = done s (endRun 2 true c (BitVec.ofInt 10 t) s.win.vin
        (s.modPow fun p => { p with thermal := true })) := by
      simp only [exec, execThermalShutdown, h, ht, decide_true, Bool.and_self, if_true]
    refine ⟨_, hx, hend.settle s, ?_, ?_⟩
    · rw [settle_pow, hpow]
      rfl
    · rw [settle_pow, hpow]
      rfl
  · have hx : exec (.thermalShutdown t c) s = done s s := by
      have hcold : ¬ 280 ≤ t := by omega
      simp only [exec, execThermalShutdown, hcold, decide_false, Bool.and_false, Bool.false_eq_true, if_false]
    exact ⟨_, hx, trivial, fun p _ => Part.kept_settle s (p.untouched_refl s)⟩
  · obtain ⟨hend, sv, ds, hpow⟩ := endRun_ended h 4 true c s.win.tj s.win.vin
    have hx : exec (.deviceResetEffect c) s = done s (endRun 4 true c s.win.tj s.win.vin s) := by
      simp only [exec, execDeviceResetEffect, hd, if_true]
    refine ⟨_, hx, hend.settle s, ?_⟩
    rw [settle_pow, hpow]
  · have hx : exec (.deviceResetEffect c) s = done s s := by
      simp only [exec, execDeviceResetEffect, hd, if_false]
    exact ⟨_, hx, trivial, fun p _ => Part.kept_settle s (p.untouched_refl s)⟩
  · have hpend := (endRun_ended h 1 false s.time.c0 s.win.tj s.win.vin).1.pending
    refine ⟨_, rfl, ?_⟩
    generalize endRun 1 false s.time.c0 s.win.tj s.win.vin s = v at hpend ⊢
    exact ⟨rfl, rfl, rfl, rfl, rfl, rfl, rfl, hpend⟩

end Sys2Proof.Machine
end

section
/-! One step (R21). -/

namespace Sys2Proof.Machine

/-- Settles O1: with a command in the queue that is what `step` does. -/
theorem stepTakesFront : Obligations.StepTakesFront := by
  intro c rest s
  rfl

end Sys2Proof.Machine
end

section
/-! Parts left alone, what an event changes, and where it stands (R223, R321, R438, R441). -/

namespace Sys2Proof.Machine

/-! ### Parts left alone -/

theorem Part.untouched_modSeq (s : State) (f : Seqr → Seqr) {p : Part} (hp : p ≠ .seq) : p.untouched s (s.modSeq f) := by
  cases p
  case seq => exact absurd rfl hp
  all_goals rfl

theorem Part.untouched_modSvc (s : State) (f : Bridge → Bridge) {p : Part} (hp : p ≠ .svc) : p.untouched s (s.modSvc f) := by
  cases p
  case svc => exact absurd rfl hp
  all_goals rfl

theorem Part.untouched_modPath (s : State) (i : PathId) (f : Path → Path) {p : Part} (hp : p ≠ .paths) :
    p.untouched s (s.modPath i f) := by
  cases p
  case paths => exact absurd rfl hp
  all_goals rfl

theorem Part.kept_of_untouched {s t : State} {p : Part} (h : p.untouched s t) : p.kept s t := by
  cases p
  case win =>
    have hw : t.win = s.win := h
    simp only [Part.kept, WinIs, hw]
  case tw =>
    have hw : t.tw = s.tw := h
    simp only [Part.kept, TwIs, hw]
  case pow =>
    have hw : t.pow = s.pow := h
    simp only [Part.kept, PowIs, hw]
  case paths =>
    have hp : t.paths = s.paths := h
    intro k
    rw [hp]
  all_goals exact h

/-- A part untouched at first is noted after what is noted since. -/
theorem Part.noted_of_untouched {s t v : State} {p : Part} (h : p.untouched s t) (k : p.noted t v) : p.noted s v := by
  cases p
  case win => exact Eq.mp (congrArg (WinNoted v) h) k
  case tw => exact Eq.mp (congrArg (TwIs v) h) k
  case mbx => exact Eq.mp (congrArg (MbxNoted v) h) k
  case paths => exact Eq.mp (congrArg (PathsAre v) h) k
  case svc => exact Eq.mp (congrArg (SvcNoted v) h) k
  case store => exact Eq.mp (congrArg (StoreNoted v) h) k
  case pow => exact Eq.mp (congrArg (PowIs v) h) k
  all_goals exact Eq.trans k h

/-- Where what follows every change changes a part, it is noted already. -/
theorem Part.noted_settle {s t : State} (o : State) {p : Part} (h : p.noted s t) : p.noted s (settle o t) := by
  cases p
  case paths =>
    intro k
    simp only [Fin.getElem_fin, settle_path]
    exact h k
  all_goals exact h

/-! ### What events change -/

/-- `s` with the fields that events change taken from `t`. -/
def withEventsOf (s t : State) : State := { s with
  win := { s.win with evtHead := t.win.evtHead, evtLost := t.win.evtLost, cLost := t.win.cLost }
  mbx := { s.mbx with mem := t.mbx.mem, evtSeq := t.mbx.evtSeq, hold := t.mbx.hold, coal := t.mbx.coal }
  svc := { s.svc with evt := t.svc.evt, evtSkip := t.svc.evtSkip }
  store := { s.store with staged := t.store.staged, stageNs := t.store.stageNs, logLost := t.store.logLost } }

/-- Nothing but events lies between two states: `t` is `s` apart from the fields that events change, and of a canonical mailbox
memory only the event ring is written. -/
def Noted (s t : State) : Prop :=
  t = withEventsOf s t ∧ (Mem.wf s.mbx.mem = true →
    Mem.wf t.mbx.mem = true ∧ ∀ a, a < 0x2000 ∨ 0x4000 ≤ a → Mem.read t.mbx.mem a = Mem.read s.mbx.mem a)

theorem Noted.refl (s : State) : Noted s s := ⟨rfl, fun h => ⟨h, fun _ _ => rfl⟩⟩

theorem Noted.trans {s t u : State} (h : Noted s t) (k : Noted t u) : Noted s u := by
  obtain ⟨ht, hm⟩ := h
  obtain ⟨hu, km⟩ := k
  refine ⟨?_, fun hw => ?_⟩
  · rw [ht] at hu
    exact hu
  · obtain ⟨hwt, hread⟩ := hm hw
    obtain ⟨hwu, kread⟩ := km hwt
    exact ⟨hwu, fun a ha => (kread a ha).trans (hread a ha)⟩

/-- A step of events that writes no mailbox memory. -/
theorem Noted.of_mem {s t : State} (h : t = withEventsOf s t) (hm : t.mbx.mem = s.mbx.mem) : Noted s t :=
  ⟨h, fun hw => ⟨by rw [hm]; exact hw, fun _ _ => by rw [hm]⟩⟩

theorem eventBytes_length (e : EventEntry) : (eventBytes e).length = 32 := by
  simp [eventBytes, be_length, slice_length, stampBytes]

/-- An entry written into the event ring. -/
theorem Noted.ringWrite (s : State) (m : Mem) (head : BitVec 16) (h : Mem.wf s.mbx.mem = true →
    Mem.wf m = true ∧ ∀ a, a < 0x2000 ∨ 0x4000 ≤ a → Mem.read m a = Mem.read s.mbx.mem a) :
    Noted s { s with mbx := { s.mbx with mem := m }, win := { s.win with evtHead := head } } := ⟨rfl, h⟩

theorem ringEvent_noted (s : State) (e : EventEntry) : Noted s (ringEvent s e) := by
  unfold ringEvent
  split
  · refine Noted.ringWrite s _ _ fun hw => ⟨Mem.writeAll_wf hw _ _, fun a ha => Mem.read_writeAll_other hw _ _ _ ?_⟩
    rw [eventBytes_length]
    omega
  · exact Noted.of_mem rfl rfl

theorem placeEvent_noted (s : State) (e : EventEntry) : Noted s (placeEvent s e) := by
  unfold placeEvent
  split
  · exact ringEvent_noted s e
  · split
    · exact Noted.of_mem rfl rfl
    · exact Noted.of_mem rfl rfl

theorem noteEvent_noted (s : State) (c : Nat) (k d : List Byte) : Noted s (noteEvent s c k d) := by
  unfold noteEvent
  dsimp only
  split
  · exact Noted.of_mem rfl rfl
  · exact Noted.of_mem rfl rfl

theorem evtRecord_noted (e : EventEntry) (s : State) (k : SessionId) : Noted s (evtRecord e s k) := by
  unfold evtRecord
  split
  · exact Noted.of_mem rfl rfl
  · exact Noted.trans (Noted.of_mem rfl rfl) (noteEvent_noted _ _ _ _)

theorem evtRecords_noted (s : State) (c : Nat) (e : EventEntry) : Noted s (evtRecords s c e) := by
  unfold evtRecords
  split
  · exact foldl_holds (Noted s) _ _ (fun t k h => h.trans (evtRecord_noted e t k)) s (Noted.refl s)
  · exact Noted.refl s

theorem stageLog_noted (s : State) (c : Nat) (e : EventEntry) : Noted s (stageLog s c e) := by
  unfold stageLog
  split
  · exact Noted.refl s
  · split
    · exact Noted.of_mem rfl rfl
    · exact Noted.of_mem rfl rfl

theorem emit_noted (s : State) (c : Nat) (n : BitVec 16) (d : List Byte) (t : Stamp) : Noted s (emit s c n d t) := by
  have hseq : Noted s (s.modMbx fun m => { m with evtSeq := m.evtSeq + 1 }) := Noted.of_mem rfl rfl
  unfold emit
  exact ((hseq.trans (placeEvent_noted _ _)).trans (evtRecords_noted _ _ _)).trans (stageLog_noted _ _ _)

/-- An event raised changes nothing but what events change. -/
theorem raise_noted (s : State) (c : Nat) (d : List Byte) : Noted s (raise s c d) := by
  unfold raise
  split
  · exact emit_noted s c 1 d s.now
  · exact noteEvent_noted s c _ d
  · exact noteEvent_noted s c _ d

/-- Every part is noted where nothing but events lies between. -/
theorem Noted.part {s t : State} (h : Noted s t) (p : Part) : p.noted s t := by
  obtain ⟨ht, hm⟩ := h
  cases p
  case win =>
    have hw := congrArg State.win ht
    show WinNoted t s.win
    rw [WinNoted, hw]
    rfl
  case mbx =>
    have hb := congrArg State.mbx ht
    refine ⟨?_, fun hw a ha => (hm hw).2 a ha⟩
    rw [hb]
    rfl
  case svc =>
    have hb := congrArg State.svc ht
    show SvcNoted t s.svc
    rw [SvcNoted, hb]
    rfl
  case store =>
    have hb := congrArg State.store ht
    show StoreNoted t s.store
    rw [StoreNoted, hb]
    rfl
  all_goals
    rw [ht]
    refine Part.noted_of_kept ?_
    exact Part.kept_of_untouched rfl

/-! ### Where an event stands -/

/-- An entry that is not coalesced stands at the event ring's head, in the hold, or is lost and counted (R321). -/
def EntryStands (s t : State) (e : EventEntry) : Prop :=
  if ringsOpen s = true then
    if ringCount s.win.evtHead s.win.evtTail < 256 then
      t.win.evtHead = s.win.evtHead + 1 ∧ (Mem.wf s.mbx.mem = true →
        Mem.readAll t.mbx.mem (0x2000 + s.win.evtHead.toNat % 256 * 32) 32 = eventBytes e)
    else t.win.evtLost = satInc s.win.evtLost ∧ t.win.cLost = true
  else if s.mbx.hold.length < 16 then t.mbx.hold = s.mbx.hold ++ [e]
  else t.win.evtLost = satInc s.win.evtLost ∧ t.win.cLost = true

theorem placeEvent_stands (s : State) (e : EventEntry) : EntryStands s (placeEvent s e) e := by
  unfold EntryStands placeEvent
  split
  · unfold ringEvent
    split
    · refine ⟨rfl, fun hw => ?_⟩
      have hread := Mem.readAll_writeAll hw (0x2000 + s.win.evtHead.toNat % 256 * 32) (eventBytes e)
      rw [eventBytes_length] at hread
      simp only [modWin_mbx, modMbx_mbx]
      exact hread
    · exact ⟨rfl, rfl⟩
  · split
    · rfl
    · exact ⟨rfl, rfl⟩

/-- What the ring, the hold and the count of losses read. -/
def ringView (t : State) : Window × Mem × List EventEntry := (t.win, t.mbx.mem, t.mbx.hold)

theorem EntryStands.congr {s t v : State} {e : EventEntry} (h : EntryStands s t e) (hv : ringView v = ringView t) :
    EntryStands s v e := by
  obtain ⟨hwin, hmem, hhold⟩ : v.win = t.win ∧ v.mbx.mem = t.mbx.mem ∧ v.mbx.hold = t.mbx.hold := by
    simpa only [ringView, Prod.mk.injEq] using hv
  unfold EntryStands
  rw [hwin, hmem, hhold]
  exact h

theorem evtRecord_ringView (e : EventEntry) (s : State) (k : SessionId) : ringView (evtRecord e s k) = ringView s := by
  unfold evtRecord
  split
  · rfl
  · unfold noteEvent
    dsimp only
    split
    · rfl
    · rfl

theorem evtRecords_ringView (s : State) (c : Nat) (e : EventEntry) : ringView (evtRecords s c e) = ringView s := by
  unfold evtRecords
  split
  · exact foldl_keeps ringView _ _ (evtRecord_ringView e) s
  · rfl

theorem stageLog_ringView (s : State) (c : Nat) (e : EventEntry) : ringView (stageLog s c e) = ringView s := by
  unfold stageLog
  split
  · rfl
  · split
    · rfl
    · rfl

/-- SEQ, which an event takes first, is nothing its place depends on. -/
theorem placeEvent_stands_numbered (s : State) (e : EventEntry) :
    EntryStands s (placeEvent (s.modMbx fun m => { m with evtSeq := m.evtSeq + 1 }) e) e :=
  placeEvent_stands (s.modMbx fun m => { m with evtSeq := m.evtSeq + 1 }) e

theorem emit_stands (s : State) (c : Nat) (d : List Byte) : EntryStands s (emit s c 1 d s.now) (entryOf s c d) := by
  have hemit : emit s c 1 d s.now = stageLog (evtRecords (placeEvent (s.modMbx fun m => { m with evtSeq := m.evtSeq + 1 })
      (entryOf s c d)) c (entryOf s c d)) c (entryOf s c d) := rfl
  rw [hemit]
  exact (placeEvent_stands_numbered s _).congr ((stageLog_ringView _ _ _).trans (evtRecords_ringView _ _ _))

/-- An occurrence of a coalesced event is counted with those of its subject (R441). -/
theorem noteEvent_counted (s : State) (c : Nat) (k d : List Byte) : Counted s (noteEvent s c k d) c k := by
  unfold Counted noteEvent
  cases hfind : s.mbx.coal.find? fun y => y.code == BitVec.ofNat 16 c && y.key == k with
  | none =>
    have hany : (s.mbx.coal.any fun y => y.code == BitVec.ofNat 16 c && y.key == k) = false := by
      simpa [List.any_eq_false, List.find?_eq_none] using hfind
    simp only [hany, Bool.false_eq_true, if_false]
    exact ⟨_, List.mem_append_right _ (List.mem_singleton_self _), rfl, rfl, rfl⟩
  | some y =>
    have hy := List.find?_some hfind
    have hmem := List.mem_of_find?_eq_some hfind
    have hany : (s.mbx.coal.any fun y => y.code == BitVec.ofNat 16 c && y.key == k) = true := List.any_eq_true.mpr ⟨y, hmem, hy⟩
    obtain ⟨hcode, hkey⟩ : y.code = BitVec.ofNat 16 c ∧ y.key = k := by simpa using hy
    simp only [hany, if_true]
    refine ⟨{ y with count := satInc y.count }, ?_, hcode, hkey, rfl⟩
    exact List.mem_map.mpr ⟨y, hmem, if_pos hy⟩

/-- An event that is raised stands where R321 and R441 put it. -/
theorem raise_raised (s : State) (c : Nat) (d : List Byte) : Raised s (raise s c d) c d := by
  unfold Raised raise
  cases limitOf c d with
  | none => exact emit_stands s c d
  | sheet key => exact noteEvent_counted s c key d
  | second key => exact noteEvent_counted s c key d

/-- What `Raised` reads of the two states. -/
theorem Raised.congr {s s' t t' : State} {c : Nat} {d : List Byte} (h : Raised s t c d) (hpow : s'.pow = s.pow) (htime : s'.time = s.time)
    (hwin : s'.win = s.win) (hmbx : s'.mbx = s.mbx) (twin : t'.win = t.win) (tmbx : t'.mbx = t.mbx) : Raised s' t' c d := by
  have hopen : ringsOpen s' = ringsOpen s := by simp only [ringsOpen, domOn, hpow]
  have hentry : entryOf s' c d = entryOf s c d := by simp only [entryOf, State.now, hmbx, htime]
  unfold Raised Counted at h ⊢
  rw [hopen, hentry, hwin, hmbx, twin, tmbx]
  exact h

theorem Raised.settle {s t : State} {c : Nat} {d : List Byte} (h : Raised s t c d) (o : State) : Raised s (settle o t) c d := h

end Sys2Proof.Machine
end

section
/-! Events and the passing of time do not look at the sequencer. -/

namespace Sys2Proof.Machine

theorem modSeq_ite (c : Prop) [Decidable c] (s t : State) (f : Seqr → Seqr) :
    (if c then s else t).modSeq f = if c then s.modSeq f else t.modSeq f := apply_ite (fun v : State => v.modSeq f) c s t

/-- An operation that neither reads nor changes the sequencer. -/
def SeqBlind (g : State → State) : Prop := ∀ (s : State) (f : Seqr → Seqr), g (s.modSeq f) = (g s).modSeq f

theorem SeqBlind.comp {g k : State → State} (hg : SeqBlind g) (hk : SeqBlind k) : SeqBlind fun s => g (k s) := by
  intro s f
  show g (k (s.modSeq f)) = _
  rw [hk, hg]

/-- A fold whose every step is blind to the sequencer. -/
theorem SeqBlind.foldl {α : Type} {g : State → α → State} (h : ∀ a, SeqBlind fun s => g s a) (l : List α) :
    SeqBlind fun s => l.foldl g s := by
  intro s f
  exact List.foldl_hom (fun t : State => t.modSeq f) fun t a => h a t f

/-! ### Events -/

theorem ringEvent_seqBlind (e : EventEntry) : SeqBlind fun s => ringEvent s e := by
  intro s f
  simp only [ringEvent, modSeq_ite]
  rfl

theorem placeEvent_seqBlind (e : EventEntry) : SeqBlind fun s => placeEvent s e := by
  intro s f
  simp only [placeEvent, modSeq_ite, ringEvent_seqBlind e s f]
  rfl

theorem noteEvent_seqBlind (c : Nat) (k d : List Byte) : SeqBlind fun s => noteEvent s c k d := by
  intro s f
  simp only [noteEvent, modSeq_ite]
  rfl

theorem evtRecord_seqBlind (e : EventEntry) (k : SessionId) : SeqBlind fun s => evtRecord e s k := by
  intro s f
  simp only [evtRecord, modSeq_ite, ← noteEvent_seqBlind _ _ _ _ f]
  rfl

theorem evtRecords_seqBlind (c : Nat) (e : EventEntry) : SeqBlind fun s => evtRecords s c e := by
  intro s f
  simp only [evtRecords, modSeq_ite, ← SeqBlind.foldl (evtRecord_seqBlind e) _ s f]
  rfl

theorem stageLog_seqBlind (c : Nat) (e : EventEntry) : SeqBlind fun s => stageLog s c e := by
  intro s f
  simp only [stageLog, modSeq_ite]
  rfl

theorem emit_seqBlind (c : Nat) (n : BitVec 16) (d : List Byte) (t : Stamp) : SeqBlind fun s => emit s c n d t := by
  intro s f
  let e : EventEntry := { code := BitVec.ofNat 16 c, seq := s.mbx.evtSeq, count := n, data := d, stamp := t }
  exact (((stageLog_seqBlind c e).comp (evtRecords_seqBlind c e)).comp (placeEvent_seqBlind e))
    (s.modMbx fun m => { m with evtSeq := m.evtSeq + 1 }) f

theorem flushCoalesced_seqBlind (sel : Coalesced → Bool) : SeqBlind (flushCoalesced sel) := by
  intro s f
  exact SeqBlind.foldl (fun c : Coalesced => emit_seqBlind c.code.toNat c.count c.data c.stamp) _
    (s.modMbx fun m => { m with coal := m.coal.filter fun c => !sel c }) f

/-! ### Time -/

theorem secondPassed_seqBlind (before : Stamp) : SeqBlind (secondPassed before) := by
  intro s f
  simp only [secondPassed, modSeq_ite, ← flushCoalesced_seqBlind perSecond s f]
  rfl

theorem countSide_seqBlind (i : SideId) : SeqBlind fun s => countSide s i := by
  intro s f
  simp only [countSide, modSeq_sides, modSeq_paths]
  by_cases hlock : s.sides[i].chkLock = true
  · simp only [hlock, if_true, modSeq_ite]
    rfl
  · simp only [hlock, modSeq_ite]
    rfl

/-- The monitors' open readings, taken as time passes (R313). -/
def countHealth (s : State) : State :=
  if s.pow.dev == .boot || s.pow.dev == .run then
    (s.modWin fun w => { w with tj := BitVec.ofInt 10 s.openInt, vin := BitVec.ofNat 16 s.usedFree.openNat }).usedFree.usedFree
  else s

/-- The idle time of one path (R404). -/
def countIdle (ns : Nat) (s : State) (p : PathId) : State :=
  if pathIdle s p then s.modPath p fun x => { x with idleNs := x.idleNs + ns } else s

/-- The counts that are one each: device idle time, watchdog, lease, log staging, scan lines, the pull. -/
def countSingles (ns : Nat) (s : State) : State :=
  let idle := deviceIdle s
  let s := s.modPow fun p => { p with idleNs := if idle then p.idleNs + ns else p.idleNs }
  let s := s.modWin fun w => { w with wdCount := if s.pow.dev == .run && domOn s 37 then w.wdCount + ns else w.wdCount }
  let s := s.modSvc fun b => { b with leaseNs := b.leaseNs - ns }
  let s := s.modStore fun t => { t with stageNs := if t.staged.isEmpty then t.stageNs else t.stageNs + ns }
  let s := s.modScan fun c => { c with lines := c.lines.map (sentOut s.now.toNat) }
  s.modTime fun t => { t with pullNs := t.pullNs + ns }

theorem countTime_eq (ns : Nat) (s : State) :
    countTime ns s = countSingles ns (forPaths (countHealth (forSides s countSide)) (countIdle ns)) := rfl

theorem countHealth_seqBlind : SeqBlind countHealth := by
  intro s f
  simp only [countHealth, modSeq_ite]
  rfl

theorem countIdle_seqBlind (ns : Nat) (p : PathId) : SeqBlind fun s => countIdle ns s p := by
  intro s f
  simp only [countIdle, modSeq_ite]
  rfl

theorem countSingles_seqBlind (ns : Nat) : SeqBlind (countSingles ns) := fun _ _ => rfl

theorem countTime_seqBlind (ns : Nat) : SeqBlind (countTime ns) := by
  intro s f
  rw [countTime_eq, countTime_eq]
  exact (((countSingles_seqBlind ns).comp (SeqBlind.foldl (countIdle_seqBlind ns) _)).comp countHealth_seqBlind).comp
    (SeqBlind.foldl countSide_seqBlind _) s f

theorem modTime_modSeq (s : State) (g : TimeIsl → TimeIsl) (f : Seqr → Seqr) :
    (s.modSeq f).modTime g = (s.modTime g).modSeq f := rfl

/-- Time passes over a change of the sequencer. -/
theorem elapseTo_seqBlind (n : Nat) : SeqBlind (elapseTo n) := by
  intro s f
  have hnow : (s.modSeq f).now = s.now := rfl
  unfold elapseTo
  rw [hnow]
  split
  · rfl
  · dsimp only
    rw [modTime_modSeq, countTime_seqBlind, secondPassed_seqBlind]

end Sys2Proof.Machine
end

section
/-! The end of a line (R22, R43, R54, R77). -/

namespace Sys2Proof.Machine

/-- `u` with a line noted as running no more. -/
def lineGone (x : RunLine) (u : State) : State := u.modSeq fun q => { q with running := q.running.erase x }

/-- The end tokens of a line find every island they go to present (R45). -/
theorem tokensAbsent_present {s : State} {x : Placed} (h : ∀ i ∈ destinations x, present s i = true) (tick : Nat) :
    tokensAbsent s x tick = s := by
  have hnil : (destinations x).filter (fun i => !present s i) = [] := by
    simpa [List.filter_eq_nil_iff] using h
  simp only [tokensAbsent, hnil, List.foldl_nil]

/-- Outside tables 5 and 6 no action but REST, TX and SWEEP does anything at its line's end. -/
theorem endAction_none {x : RunLine} {l : Line} (h5 : x.table ≠ 5) (h6 : x.table ≠ 6) (hrest : l.action ≠ 0x14) (htx : l.action ≠ 0x30)
    (hsweep : l.action ≠ 0x62) (s : State) : endAction x l s = s := by
  unfold endAction
  rw [if_neg h5, if_neg h6]
  split
  · exact absurd ‹_› hrest
  · exact absurd ‹_› htx
  · exact absurd ‹_› hsweep
  · rfl

theorem endAction_tx {x : RunLine} {l : Line} (h5 : x.table ≠ 5) (h6 : x.table ≠ 6) (htx : l.action = 0x30) (s : State) :
    endAction x l s = s.modSvc fun b => { b with leaving := [] } := by
  unfold endAction
  simp only [if_neg h5, if_neg h6, htx]

/-- A running line stands at its end tick: `u` is the state there, in which its end tokens find every island present. -/
structure LineStops (s u : State) (t : Fin 9) (idx : Nat) (x : RunLine) (l : Line) : Prop where
  runs : s.seq.running.find? (fun r => r.table == t && r.idx == idx) = some x
  placed : lineAt s t.val idx = some l
  reached : u = elapseTo (tickStamp s (l.start + l.duration)) s
  islands : ∀ i ∈ destinations { table := t.val, index := idx, line := l }, present u i = true

section
variable {s u : State} {t : Fin 9} {idx : Nat} {x : RunLine} {l : Line} (h : LineStops s u t idx x l)
include h

theorem LineStops.table_idx : x.table = t ∧ x.idx = idx := by
  simpa using List.find?_some h.runs

theorem LineStops.seq : u.seq = s.seq := by
  rw [h.reached, elapseTo_seq]

/-- What a line's end comes to: the line runs no more, then the overrun and the end of its action, where it acts. -/
theorem LineStops.exec_lineEnd (unfinished : Bool) : exec (.lineEnd t idx unfinished) s = done s
    (if x.acts = false then lineGone x u
      else endAction x l (if unfinished && !boundByLine l.action then overrunLine (lineGone x u) t idx else lineGone x u)) := by
  obtain ⟨htable, hidx⟩ := h.table_idx
  have hend : exec (.lineEnd t idx unfinished) s = done s (endLine unfinished s x) := by
    simp only [exec, execLineEnd, h.runs]
  have hline : lineAt (lineGone x s) x.table.val x.idx = some l := by
    rw [htable, hidx]
    exact h.placed
  have hgone : elapseTo (tickStamp s (l.start + l.duration)) (lineGone x s) = lineGone x u := by
    rw [lineGone, elapseTo_seqBlind, ← h.reached]
    rfl
  have htok : ∀ tick, tokensAbsent (lineGone x u) { table := x.table.val, index := x.idx, line := l } tick = lineGone x u := by
    rw [htable, hidx]
    exact tokensAbsent_present h.islands
  have hfold : (s.modSeq fun q => { q with running := q.running.erase x }) = lineGone x s := rfl
  have htick : ∀ ticks, tickStamp (lineGone x s) ticks = tickStamp s ticks := fun _ => rfl
  rw [hend]
  simp only [endLine, hfold, hline, htick, hgone, htok, ite_self]
  rw [htable, hidx]

/-- A line's end that comes to a change of the bridge or to none: its entry among the running lines is gone. -/
theorem LineStops.ends {unfinished : Bool} {v : State} {changed : List Part} (hx : exec (.lineEnd t idx unfinished) s = done s v)
    (hk : ∀ p : Part, p ∉ changed → p.untouched (lineGone x u) v) (hseq : Part.seq ∉ changed) :
    ∃ w, exec (.lineEnd t idx unfinished) s = .next w ∧ w = settle s v ∧
      w.seq = { u.seq with running := s.seq.running.erase x } ∧ ∀ p : Part, p ≠ .seq → p ∉ changed → p.noted u w := by
  refine ⟨_, hx, rfl, ?_, fun p hp hc => ?_⟩
  · rw [settle_seq, show v.seq = (lineGone x u).seq from hk .seq hseq]
    rw [← h.seq]
    rfl
  · have hun := Part.untouched_trans (Part.untouched_modSeq u _ hp) (hk p hc)
    exact Part.noted_of_kept (Part.kept_settle s hun)

/-- A line that bounds its own part, whose part is finished or which does not act, runs no more, and nothing else happens. -/
theorem LineStops.ends_quietly (h5 : t ≠ 5) (h6 : t ≠ 6) (hrest : l.action ≠ 0x14) (hsweep : l.action ≠ 0x62) (htx : l.action ≠ 0x30)
    {unfinished : Bool} (hq : unfinished = false ∨ x.acts = false ∨ boundByLine l.action = true) :
    ∃ v, exec (.lineEnd t idx unfinished) s = .next v ∧ v.seq = { u.seq with running := s.seq.running.erase x } ∧
      ∀ p : Part, p ≠ .seq → p.noted u v := by
  obtain ⟨htable, -⟩ := h.table_idx
  have hx : exec (.lineEnd t idx unfinished) s = done s (lineGone x u) := by
    rw [h.exec_lineEnd]
    by_cases hacts : x.acts = false
    · rw [if_pos hacts]
    · have hno : (unfinished && !boundByLine l.action) = false := by
        rcases hq with hu | ha | hb
        · rw [hu, Bool.false_and]
        · exact absurd ha hacts
        · rw [hb, Bool.not_true, Bool.and_false]
      rw [if_neg hacts, hno, endAction_none (htable ▸ h5) (htable ▸ h6) hrest htx hsweep]
      rfl
  obtain ⟨w, hw, -, hseq, hk⟩ := h.ends (changed := []) hx (fun p _ => p.untouched_refl _) List.not_mem_nil
  exact ⟨w, hw, hseq, fun p hp => hk p hp List.not_mem_nil⟩

/-- With a TX line that acts the frames it sent have all left (R236, R77). -/
theorem LineStops.ends_tx (h5 : t ≠ 5) (h6 : t ≠ 6) (htx : l.action = 0x30) (hacts : x.acts = true) (unfinished : Bool) :
    ∃ v, exec (.lineEnd t idx unfinished) s = .next v ∧ v.svc = { u.svc with leaving := [] } ∧
      v.seq = { u.seq with running := s.seq.running.erase x } ∧ ∀ p : Part, p ≠ .seq → p ≠ .svc → p.noted u v := by
  obtain ⟨htable, -⟩ := h.table_idx
  have hbound : boundByLine l.action = true := by rw [htx]; rfl
  have hx : exec (.lineEnd t idx unfinished) s = done s ((lineGone x u).modSvc fun b => { b with leaving := [] }) := by
    rw [h.exec_lineEnd, hacts, hbound, Bool.not_true, Bool.and_false, endAction_tx (htable ▸ h5) (htable ▸ h6) htx]
    rfl
  obtain ⟨w, hw, rfl, hseq, hk⟩ := h.ends (changed := [.svc]) hx
    (fun p hp => Part.untouched_modSvc _ _ (List.ne_of_not_mem_cons hp)) (by decide)
  exact ⟨_, hw, rfl, hseq, fun p hp hs => hk p hp (by simpa using hs)⟩

/-- A line that does not bound its unfinished part counts an overrun, with event 0x0502 (R77). -/
theorem LineStops.ends_overrun (h5 : t ≠ 5) (h6 : t ≠ 6) (hrest : l.action ≠ 0x14) (hsweep : l.action ≠ 0x62)
    (hacts : x.acts = true) (hbound : boundByLine l.action = false) :
    ∃ v, exec (.lineEnd t idx true) s = .next v ∧
      v.seq = { u.seq with
        running := s.seq.running.erase x, overruns := vmod u.seq.overruns t fun c => if c = BitVec.allOnes 40 then c else c + 1 } ∧
      Raised u v 0x0502 ([BitVec.ofNat 8 t.val] ++ be 2 idx ++ [0] ++ be 5 u.seq.sheet.toNat) ∧
      ∀ p : Part, p ≠ .seq → p.noted u v := by
  obtain ⟨htable, -⟩ := h.table_idx
  have htx : l.action ≠ 0x30 := fun e => by rw [e] at hbound; exact absurd hbound (by decide)
  have hx : exec (.lineEnd t idx true) s = done s (overrunLine (lineGone x u) t idx) := by
    rw [h.exec_lineEnd, hacts, hbound, endAction_none (htable ▸ h5) (htable ▸ h6) hrest htx hsweep]
    rfl
  refine ⟨_, hx, ?_, ?_, fun p hp => ?_⟩
  · rw [settle_seq, overrunLine, raise_seq, ← h.seq]
    rfl
  · have hr := (raise_raised ((lineGone x u).modSeq fun q => { q with overruns := vmod q.overruns t satInc }) 0x0502
      ([by1 t.val] ++ be 2 idx ++ [0] ++ be 5 u.seq.sheet.toNat)).settle s
    exact hr.congr rfl rfl rfl rfl rfl rfl
  · have hun := Part.untouched_trans (Part.untouched_modSeq u _ hp) (Part.untouched_modSeq (lineGone x u)
      (fun q => { q with overruns := vmod q.overruns t satInc }) hp)
    exact Part.noted_settle s (Part.noted_of_untouched hun ((raise_noted _ _ _).part p))
end

/-- Settles O33: the line's entry goes, time passes over that, and what its action does at its end is one case for each clause. -/
theorem linesEnd : Obligations.LinesEnd := by
  intro s u t idx unfinished x l hrun hline h5 h6 hrest hsweep hu hpres
  have h : LineStops s u t idx x l := ⟨hrun, hline, hu, hpres⟩
  refine ⟨fun htx hacts => h.ends_tx h5 h6 htx hacts unfinished, fun htx hq => h.ends_quietly h5 h6 hrest hsweep htx hq,
    fun hun hacts hbound => ?_⟩
  subst hun
  exact h.ends_overrun h5 h6 hrest hsweep hacts hbound

end Sys2Proof.Machine
end

section
/-! A path outside a bond group, and what a change of one path leaves alone (R93). -/

namespace Sys2Proof.Machine

/-! ### A path outside a bond group -/

theorem groupOf_unformed {s : State} {p : PathId} (h : s.paths[p].formed = false) : groupOf s p = [p] := if_pos h

theorem leaderOf_unformed {s : State} {p : PathId} (h : s.paths[p].formed = false) : leaderOf s p = p := by
  rw [leaderOf, groupOf_unformed h]
  rfl

theorem pcieLeader_unformed {s : State} {p : PathId} (h : s.paths[p].formed = false) :
    pcieLeader s p = (pcMode s.paths[p].cfg == 1) := by
  rw [pcieLeader, leaderOf_unformed h, beq_self_eq_true, Bool.and_true]

theorem modGroup_unformed {s : State} {p : PathId} (h : s.paths[p].formed = false) (f : Path → Path) :
    modGroup s p f = s.modPath p f := by
  rw [modGroup, groupOf_unformed h]
  rfl

theorem modPath_modPath (s : State) (p : PathId) (f g : Path → Path) :
    (s.modPath p f).modPath p g = s.modPath p fun x => g (f x) := by
  simp [State.modPath, vmod]

theorem pathsAre_settle (o s : State) : PathsAre (settle o s) s.paths := by
  intro p
  simp only [Fin.getElem_fin, settle_path]

/-- A row that changes one path and nothing else. -/
theorem does_modPath {c : Instr} {s : State} {p : PathId} {f g : Path → Path} (hx : exec c s = done s (s.modPath p f))
    (hfg : f s.paths[p] = g s.paths[p]) : Does c s [.paths] fun t => PathsAre t (vmod s.paths p g) := by
  have hv : vmod s.paths p g = (s.modPath p f).paths := by
    rw [modPath_paths, vmod, vmod]
    exact congrArg (fun x => s.paths.set p.val x p.isLt) hfg.symm
  refine ⟨_, hx, ?_, fun q hq => Part.kept_settle s (Part.untouched_modPath s p f (List.ne_of_not_mem_cons hq))⟩
  rw [hv]
  exact pathsAre_settle s _

/-! ### Lanes and sides of a path -/

theorem mem_sidesOf {p : PathId} {i : SideId} : i ∈ sidesOf p ↔ pathOf i = p := by
  simp [sidesOf, pathOf, Fin.ext_iff]

theorem mem_lanesOf {p : PathId} {l : LaneId} : l ∈ lanesOf p ↔ pathOfLane l = p := by
  simp [lanesOf, pathOfLane, Fin.ext_iff]

theorem pathOf_sideOf (l : LaneId) (e : Fin 2) : pathOf (sideOf l e) = pathOfLane l := by
  apply Fin.ext
  show (2 * l.val + e.val) / 8 = l.val / 4
  omega

theorem laneOf_sideOf (l : LaneId) (e : Fin 2) : laneOf (sideOf l e) = l := by
  apply Fin.ext
  show (2 * l.val + e.val) / 2 = l.val
  omega

theorem modPath_path (s : State) (p : PathId) (f : Path → Path) : (s.modPath p f).paths[p] = f s.paths[p] :=
  vmod_get s.paths p f

theorem modPath_path_other {s : State} {p q : PathId} {f : Path → Path} (h : q ≠ p) : (s.modPath p f).paths[q] = s.paths[q] :=
  vmod_get_other s.paths p q f h.symm

theorem modLane_lane_other {s : State} {l k : LaneId} {f : Lane → Lane} (h : k ≠ l) : (s.modLane l f).lanes[k] = s.lanes[k] :=
  vmod_get_other s.lanes l k f h.symm

theorem modSide_side_other {s : State} {i j : SideId} {f : Side → Side} (h : j ≠ i) : (s.modSide i f).sides[j] = s.sides[j] :=
  vmod_get_other s.sides i j f h.symm

/-- A field of a path that a change of any one path leaves alone. -/
theorem modPath_path_field {β : Type} (g : Path → β) {s : State} {p : PathId} {f : Path → Path} (h : ∀ x, g (f x) = g x) (q : PathId) :
    g (s.modPath p f).paths[q] = g s.paths[q] := by
  by_cases hq : q = p
  · subst hq
    simp only [Fin.getElem_fin, modPath_paths, vmod_get, h]
  · rw [modPath_path_other hq]

/-- A field of a side that a change of any one side leaves alone. -/
theorem modSide_side_field {β : Type} (g : Side → β) {s : State} {i : SideId} {f : Side → Side} (h : ∀ x, g (f x) = g x) (j : SideId) :
    g (s.modSide i f).sides[j] = g s.sides[j] := by
  by_cases hj : j = i
  · subst hj
    simp only [Fin.getElem_fin, modSide_sides, vmod_get, h]
  · rw [modSide_side_other hj]

/-! ### Changes of one path -/

/-- Events apart, `t` is `s` but for one path, its lanes and their sides, and no path's configuration changes. -/
structure PathOnly (p : PathId) (s t : State) : Prop where
  rest : Noted s { t with sides := s.sides, lanes := s.lanes, paths := s.paths }
  cfg : ∀ q : PathId, t.paths[q].cfg = s.paths[q].cfg
  paths : ∀ q : PathId, q ≠ p → t.paths[q] = s.paths[q]
  lanes : ∀ k : LaneId, pathOfLane k ≠ p → t.lanes[k] = s.lanes[k]
  sides : ∀ j : SideId, pathOf j ≠ p → t.sides[j] = s.sides[j]

theorem PathOnly.refl (p : PathId) (s : State) : PathOnly p s s :=
  ⟨Noted.refl s, fun _ => rfl, fun _ _ => rfl, fun _ _ => rfl, fun _ _ => rfl⟩

theorem PathOnly.trans {p : PathId} {s t u : State} (h : PathOnly p s t) (k : PathOnly p t u) : PathOnly p s u := by
  refine ⟨h.rest.trans ⟨?_, k.rest.2⟩, fun q => (k.cfg q).trans (h.cfg q), fun q hq => (k.paths q hq).trans (h.paths q hq),
    fun l hl => (k.lanes l hl).trans (h.lanes l hl), fun j hj => (k.sides j hj).trans (h.sides j hj)⟩
  exact congrArg (fun v : State => { v with sides := s.sides, lanes := s.lanes, paths := s.paths }) k.rest.1

theorem PathOnly.foldl {p : PathId} {α : Type} {f : State → α → State} {l : List α} (h : ∀ t, ∀ a ∈ l, PathOnly p t (f t a))
    (s : State) : PathOnly p s (l.foldl f s) :=
  List.foldlRecOn l f (PathOnly.refl p s) fun t ht a ha => ht.trans (h t a ha)

theorem PathOnly.modPath {p : PathId} {s : State} {f : Path → Path} (hf : ∀ x, (f x).cfg = x.cfg) : PathOnly p s (s.modPath p f) :=
  ⟨Noted.refl s, modPath_path_field Path.cfg hf, fun _ hq => modPath_path_other hq, fun _ _ => rfl, fun _ _ => rfl⟩

theorem PathOnly.modLane {p : PathId} {l : LaneId} (hl : pathOfLane l = p) (s : State) (f : Lane → Lane) : PathOnly p s (s.modLane l f) :=
  ⟨Noted.refl s, fun _ => rfl, fun _ _ => rfl, fun _ hk => modLane_lane_other fun e => hk (e ▸ hl), fun _ _ => rfl⟩

theorem PathOnly.modSide {p : PathId} {i : SideId} (hi : pathOf i = p) (s : State) (f : Side → Side) : PathOnly p s (s.modSide i f) :=
  ⟨Noted.refl s, fun _ => rfl, fun _ _ => rfl, fun _ _ => rfl, fun _ hj => modSide_side_other fun e => hj (e ▸ hi)⟩

theorem PathOnly.raise (p : PathId) (s : State) (c : Nat) (d : List Byte) : PathOnly p s (raise s c d) := by
  refine ⟨?_, fun q => by rw [raise_paths], fun q _ => by rw [raise_paths], fun k _ => by rw [raise_lanes], fun j _ => by rw [raise_sides]⟩
  have h : { Machine.raise s c d with sides := s.sides, lanes := s.lanes, paths := s.paths } = Machine.raise s c d := by
    rw [← raise_sides s c d, ← raise_lanes s c d, ← raise_paths s c d]
  rw [h]
  exact raise_noted s c d

theorem PathOnly.laneOn {p : PathId} {s t : State} (h : PathOnly p s t) (l : LaneId) : laneOn t l = laneOn s l := by
  simp only [Machine.laneOn, pathOn, h.cfg]

/-- Every other part is noted. -/
theorem PathOnly.part {p : PathId} {s t : State} (h : PathOnly p s t) {q : Part} (hq : q ∉ [Part.lanes, .sides, .paths]) : q.noted s t := by
  have hn := h.rest.part q
  cases q
  case lanes => exact absurd (by decide) hq
  case sides => exact absurd (by decide) hq
  case paths => exact absurd (by decide) hq
  all_goals exact hn

end Sys2Proof.Machine
end

section
/-! PERST_N and CLKREQ_N (R123 to R126). -/

namespace Sys2Proof.Machine

/-! ### Held -/

/-- A path that follows Held. -/
def heldPath (x : Path) : Path :=
  { x with ltssm := 12, rateNow := 0, widthNow := 0, eqPhase := 0, eqDone := 0, pllInt := false, cmOff := false, found := 0 }

/-- A side of a path that follows Held. -/
def heldSide (y : Side) : Side := { endRequests (endMargin (leaveData y)) with txIdle := true }

/-- A lane emptied, its near-side termination disconnected (R123). -/
def emptyLane (s : State) (l : LaneId) : State :=
  (s.modLane l fun y => { y with fill := Vector.replicate 2 0, parked := false, joined := false }).modSide (sideOf l 0)
    fun y => { y with term := false }

/-- The sides in use of a path made idle. -/
def idleSides (s : State) (p : PathId) : State := (sidesOn s p).foldl (fun s i => s.modSide i heldSide) s

/-- The lanes in use of a path emptied. -/
def emptyLanes (s : State) (p : PathId) : State := ((lanesOf p).filter (laneOn s)).foldl emptyLane s

theorem holdPath_eq (s : State) (p : PathId) :
    holdPath s p = relimitPath (emptyLanes (idleSides (s.modPath p heldPath) p) p) p := rfl

theorem idleSides_only (s : State) (p : PathId) : PathOnly p s (idleSides s p) :=
  PathOnly.foldl (fun t _ hi => PathOnly.modSide (mem_sidesOf.mp (List.mem_of_mem_filter hi)) t heldSide) s

theorem emptyLanes_only (s : State) (p : PathId) : PathOnly p s (emptyLanes s p) :=
  PathOnly.foldl (fun t l hl =>
    have hp : pathOfLane l = p := mem_lanesOf.mp (List.mem_of_mem_filter hl)
    (PathOnly.modLane hp t _).trans (PathOnly.modSide ((pathOf_sideOf l 0).trans hp) _ _)) s

theorem relimitPath_only (s : State) (p : PathId) : PathOnly p s (relimitPath s p) :=
  PathOnly.foldl (fun t _ hi => PathOnly.modSide (mem_sidesOf.mp hi) t _) s

theorem holdPath_only (s : State) (p : PathId) : PathOnly p s (holdPath s p) := by
  rw [holdPath_eq]
  exact (((PathOnly.modPath (f := heldPath) fun _ => rfl).trans (idleSides_only _ p)).trans (emptyLanes_only _ p)).trans (relimitPath_only _ p)

/-- A reading that no change of a side or a lane touches sees of Held its path alone. -/
theorem holdPath_keeps {β : Type} (g : State → β) (hside : ∀ (t : State) i f, g (t.modSide i f) = g t)
    (hlane : ∀ (t : State) l f, g (t.modLane l f) = g t) (s : State) (p : PathId) :
    g (holdPath s p) = g (s.modPath p heldPath) := by
  rw [holdPath_eq, relimitPath, emptyLanes, idleSides]
  rw [foldl_keeps g _ _ fun t i => hside t i _, foldl_keeps g emptyLane _ fun t l => (hside _ _ _).trans (hlane t l _),
    foldl_keeps g _ _ fun t i => hside t i _]

theorem holdPath_paths (s : State) (p : PathId) : (holdPath s p).paths = vmod s.paths p heldPath :=
  holdPath_keeps State.paths (fun _ _ _ => rfl) (fun _ _ _ => rfl) s p

theorem holdPath_win (s : State) (p : PathId) : (holdPath s p).win = s.win :=
  holdPath_keeps State.win (fun _ _ _ => rfl) (fun _ _ _ => rfl) s p

theorem holdPath_mbx (s : State) (p : PathId) : (holdPath s p).mbx = s.mbx :=
  holdPath_keeps State.mbx (fun _ _ _ => rfl) (fun _ _ _ => rfl) s p

/-- A reading of a side that forgotten limits do not change. -/
theorem relimitPath_side_field {β : Type} (g : Side → β) (hg : ∀ set x, g (relimit set x) = g x) (s : State) (p : PathId) (j : SideId) :
    g (relimitPath s p).sides[j] = g s.sides[j] :=
  foldl_keeps (fun t : State => g t.sides[j]) _ _ (fun _ _ => modSide_side_field g (hg _) j) s

/-- A lane that is empty, with its near-side termination disconnected. -/
def LaneEmpty (l : LaneId) (s : State) : Prop := s.lanes[l].fill = Vector.replicate 2 0 ∧ s.sides[sideOf l 0].term = false

theorem emptyLane_empty (s : State) (l : LaneId) : LaneEmpty l (emptyLane s l) := by
  simp [LaneEmpty, emptyLane]

theorem LaneEmpty.emptyLane {l : LaneId} {s : State} (h : LaneEmpty l s) (k : LaneId) : LaneEmpty l (emptyLane s k) := by
  by_cases hk : l = k
  · subst hk
    exact emptyLane_empty s l
  · obtain ⟨hfill, hterm⟩ := h
    have hside : sideOf l 0 ≠ sideOf k 0 := fun e => hk (by rw [← laneOf_sideOf l 0, e, laneOf_sideOf])
    refine ⟨?_, ?_⟩
    · rw [Machine.emptyLane, modSide_lanes, modLane_lane_other hk]
      exact hfill
    · rw [Machine.emptyLane, modSide_side_other hside]
      exact hterm

/-- In Held every lane in use is empty, its near-side termination disconnected, both transmitters idle (R123). -/
theorem holdPath_lane {s : State} {p : PathId} {l : LaneId} (hp : pathOfLane l = p) (hl : laneOn s l = true) :
    (holdPath s p).lanes[l].fill = Vector.replicate 2 0 ∧ (holdPath s p).sides[sideOf l 0].term = false ∧
      ∀ e : Fin 2, (holdPath s p).sides[sideOf l e].txIdle = true := by
  have hpath : PathOnly p s (s.modPath p heldPath) := PathOnly.modPath fun _ => rfl
  have hon : laneOn (s.modPath p heldPath) l = true := (hpath.laneOn l).trans hl
  have hon' : laneOn (idleSides (s.modPath p heldPath) p) l = true := ((idleSides_only _ p).laneOn l).trans hon
  have hempty : LaneEmpty l (emptyLanes (idleSides (s.modPath p heldPath) p) p) :=
    foldl_establishes LaneEmpty emptyLane emptyLane_empty (fun t k b hb => hb.emptyLane k) _ _ l
      (List.mem_filter.mpr ⟨mem_lanesOf.mpr hp, hon'⟩)
  have hidle : ∀ e : Fin 2, (idleSides (s.modPath p heldPath) p).sides[sideOf l e].txIdle = true := by
    intro e
    have hmem : sideOf l e ∈ sidesOn (s.modPath p heldPath) p :=
      List.mem_filter.mpr ⟨mem_sidesOf.mpr ((pathOf_sideOf l e).trans hp), (congrArg _ (laneOf_sideOf l e)).trans hon⟩
    refine foldl_establishes (fun i (t : State) => t.sides[i].txIdle = true) _ (fun t i => ?_) (fun t i j hj => ?_) _ _ _ hmem
    · simp [heldSide]
    · by_cases hij : j = i
      · subst hij
        simp [heldSide]
      · rw [modSide_side_other hij]
        exact hj
  obtain ⟨hfill, hterm⟩ := hempty
  rw [holdPath_eq]
  refine ⟨?_, ?_, fun e => ?_⟩
  · rw [show ∀ t : State, (relimitPath t p).lanes = t.lanes from foldl_keeps State.lanes _ _ fun _ _ => rfl]
    exact hfill
  · rw [relimitPath_side_field Side.term fun _ _ => rfl]
    exact hterm
  · have hkeep : ∀ t k, (emptyLane t k).sides[sideOf l e].txIdle = t.sides[sideOf l e].txIdle := fun t k =>
      modSide_side_field (s := t.modLane k _) (f := fun y => { y with term := false }) Side.txIdle (fun _ => rfl) (sideOf l e)
    rw [relimitPath_side_field Side.txIdle fun _ _ => rfl, emptyLanes]
    rw [foldl_keeps (fun t : State => t.sides[sideOf l e].txIdle) emptyLane _ hkeep]
    exact hidle e

/-! ### PERST_N during equalisation -/

theorem modGroupSides_only {s : State} {p : PathId} (h : s.paths[p].formed = false) (f : Side → Side) :
    PathOnly p s (modGroupSides s p f) := by
  rw [modGroupSides, groupOf_unformed h]
  refine PathOnly.foldl (fun t i hi => PathOnly.modSide (mem_sidesOf.mp ?_) t f) s
  simpa using List.mem_of_mem_filter hi

/-- A path outside equalisation has nothing to restore. -/
theorem perstInEq_other {s : State} {p : PathId} (h : s.paths[p].ltssm ≠ 6) : perstInEq s p = s := if_pos h

/-- In equalisation the sides are restored, then the event is raised (R124). -/
theorem perstInEq_eq {s : State} {p : PathId} (h : s.paths[p].ltssm = 6) : perstInEq s p =
    raise (modGroupSides s p (restoreEq (runSet s.paths[p]))) 0x0205
      ([by1 p.val] ++ be 4 (runRate s.paths[p]) ++ [by1 s.paths[p].eqPhase.val]) := if_neg (not_not_intro h)

theorem perstInEq_only {s : State} {p : PathId} (h : s.paths[p].formed = false) : PathOnly p s (perstInEq s p) := by
  by_cases h6 : s.paths[p].ltssm = 6
  · rw [perstInEq_eq h6]
    exact (modGroupSides_only h _).trans (PathOnly.raise p _ _ _)
  · rw [perstInEq_other h6]
    exact PathOnly.refl p s

theorem modGroupSides_keeps {β : Type} (g : State → β) (hside : ∀ (t : State) i f, g (t.modSide i f) = g t) (s : State) (p : PathId)
    (f : Side → Side) : g (modGroupSides s p f) = g s := by
  rw [modGroupSides]
  exact foldl_keeps g _ _ (fun t i => hside t i f) s

theorem perstInEq_paths (s : State) (p : PathId) : (perstInEq s p).paths = s.paths := by
  by_cases h6 : s.paths[p].ltssm = 6
  · rw [perstInEq_eq h6, raise_paths]
    exact modGroupSides_keeps State.paths (fun _ _ _ => rfl) s p _
  · rw [perstInEq_other h6]

/-- Event 0x0205 stands after PERST_N in equalisation (R124). -/
theorem perstInEq_raised {s : State} {p : PathId} (h : s.paths[p].ltssm = 6) : Raised s (perstInEq s p) 0x0205
    ([by1 p.val] ++ be 4 (runRate s.paths[p]) ++ [by1 s.paths[p].eqPhase.val]) := by
  rw [perstInEq_eq h]
  have keeps {β : Type} (g : State → β) (hside : ∀ (t : State) i f, g (t.modSide i f) = g t) :
      g s = g (modGroupSides s p (restoreEq (runSet s.paths[p]))) := (modGroupSides_keeps g hside s p _).symm
  exact (raise_raised _ _ _).congr (keeps State.pow fun _ _ _ => rfl) (keeps State.time fun _ _ _ => rfl)
    (keeps State.win fun _ _ _ => rfl) (keeps State.mbx fun _ _ _ => rfl) rfl rfl

/-! ### PERST_N asserted and negated -/

/-- A path with its PERST_N at a level. -/
def perstSet (b : Bool) (x : Path) : Path := { x with perst := b }

/-- `s` once PERST_N has taken the path to Held. -/
def perstHeld (s : State) (p : PathId) : State := holdPath (perstInEq (s.modPath p (perstSet true)) p) p

theorem unformed_after {s : State} {p : PathId} {f : Path → Path} (h : s.paths[p].formed = false)
    (hf : (f s.paths[p]).formed = s.paths[p].formed) : (s.modPath p f).paths[p].formed = false := by
  rw [modPath_path, hf, h]

section
variable {s : State} {p : PathId} (hf : s.paths[p].formed = false)
include hf

/-- PERST_ASSERTED: a path of PCI Express that is not in Held enters it. -/
theorem exec_perstAsserted : exec (.perstAsserted p) s = done s (if pcMode s.paths[p].cfg = 1 ∧ s.paths[p].ltssm ≠ 12 then
    enterHeld (s.modPath p (perstSet true)) p else s.modPath p (perstSet true)) := by
  have hx : exec (.perstAsserted p) s = done s (if pcieLeader (s.modPath p (perstSet true)) p &&
      (s.modPath p (perstSet true)).paths[p].ltssm != 12 then enterHeld (s.modPath p (perstSet true)) p
    else s.modPath p (perstSet true)) := rfl
  rw [hx, pcieLeader_unformed (unformed_after hf rfl), modPath_path]
  simp only [Bool.and_eq_true, beq_iff_eq, bne_iff_ne]
  rfl

/-- PERST_NEGATED: a path in Held goes to Detect. -/
theorem exec_perstNegated : exec (.perstNegated p) s = done s (s.modPath p fun x =>
    if pcMode s.paths[p].cfg = 1 ∧ s.paths[p].ltssm = 12 then { x with perst := false, ltssm := 0, posDue := true }
    else { x with perst := false }) := by
  have hx : exec (.perstNegated p) s = done s (if pcieLeader (s.modPath p (perstSet false)) p &&
      (s.modPath p (perstSet false)).paths[p].ltssm == 12 then
        modGroup (s.modPath p (perstSet false)) p fun x => { x with ltssm := 0, posDue := true }
    else s.modPath p (perstSet false)) := rfl
  rw [hx, pcieLeader_unformed (unformed_after hf rfl), modGroup_unformed (unformed_after hf rfl), modPath_path, modPath_modPath]
  simp only [Bool.and_eq_true, beq_iff_eq]
  split
  · next h => simp only [if_pos (show pcMode s.paths[p].cfg = 1 ∧ s.paths[p].ltssm = 12 from h)]; rfl
  · next h => simp only [if_neg (show ¬(pcMode s.paths[p].cfg = 1 ∧ s.paths[p].ltssm = 12) from h)]; rfl

theorem exec_perstAsserted_holds (hm : pcMode s.paths[p].cfg = 1) (hl : s.paths[p].ltssm ≠ 12) :
    exec (.perstAsserted p) s = done s (perstHeld s p) := by
  rw [exec_perstAsserted hf, if_pos ⟨hm, hl⟩, enterHeld, groupOf_unformed (unformed_after hf rfl)]
  rfl

theorem perstInEq_after_only : PathOnly p s (perstInEq (s.modPath p (perstSet true)) p) :=
  (PathOnly.modPath (f := perstSet true) fun _ => rfl).trans (perstInEq_only (unformed_after hf rfl))

theorem perstHeld_only : PathOnly p s (perstHeld s p) := (perstInEq_after_only hf).trans (holdPath_only _ p)

omit hf in
theorem perstHeld_path : (perstHeld s p).paths[p] = heldPath (perstSet true s.paths[p]) := by
  rw [perstHeld, holdPath_paths, perstInEq_paths, ← modPath_path s p (perstSet true)]
  exact vmod_get _ p heldPath

omit hf in
theorem perstHeld_raised (h6 : s.paths[p].ltssm = 6) : Raised s (perstHeld s p) 0x0205
    ([by1 p.val] ++ be 4 (runRate s.paths[p]) ++ [by1 s.paths[p].eqPhase.val]) := by
  have hr := perstInEq_raised (s := s.modPath p (perstSet true)) (p := p) (by rw [modPath_path]; exact h6)
  rw [modPath_path] at hr
  exact hr.congr rfl rfl rfl rfl (holdPath_win _ p) (holdPath_mbx _ p)

theorem perstAsserted_holds (hm : pcMode s.paths[p].cfg = 1) (hl : s.paths[p].ltssm ≠ 12) :
    Affects (.perstAsserted p) s [.lanes, .sides, .paths] fun t =>
      t.paths[p].perst = true ∧ t.paths[p].ltssm = 12 ∧ t.paths[p].rateNow = 0 ∧ t.paths[p].eqDone = 0 ∧ t.paths[p].found = 0 ∧
      (∀ l : LaneId, pathOfLane l = p → laneOn s l = true → t.lanes[l].fill = Vector.replicate 2 0 ∧
        t.sides[sideOf l 0].term = false ∧ t.sides[sideOf l 0].txIdle = true ∧ t.sides[sideOf l 1].txIdle = true) ∧
      (s.paths[p].ltssm = 6 → Raised s t 0x0205
        ([BitVec.ofNat 8 p.val] ++ be 4 (runRate s.paths[p]) ++ [BitVec.ofNat 8 s.paths[p].eqPhase.val])) ∧
      (∀ q : PathId, q ≠ p → { t.paths[q] with idleNs := s.paths[q].idleNs } = s.paths[q]) ∧
      (∀ k : LaneId, pathOfLane k ≠ p → t.lanes[k] = s.lanes[k]) ∧ ∀ j : SideId, pathOf j ≠ p → t.sides[j] = s.sides[j] := by
  have honly := perstHeld_only hf
  have hpath (q : PathId) : (settle s (perstHeld s p)).paths[q] =
      { (perstHeld s p).paths[q] with idleNs := (settle s (perstHeld s p)).paths[q].idleNs } := by
    simp only [Fin.getElem_fin, settle_path]
  have hheld := hpath p
  rw [perstHeld_path] at hheld
  refine ⟨_, exec_perstAsserted_holds hf hm hl, ⟨by rw [hheld]; rfl, by rw [hheld]; rfl, by rw [hheld]; rfl, by rw [hheld]; rfl,
    by rw [hheld]; rfl, fun l hlp hon => ?_, fun h6 => (perstHeld_raised h6).settle s, fun q hq => ?_, honly.lanes, honly.sides⟩,
    fun q hq => Part.noted_settle s (honly.part hq)⟩
  · obtain ⟨hfill, hterm, hidle⟩ := holdPath_lane hlp (((perstInEq_after_only hf).laneOn l).trans hon)
    exact ⟨hfill, hterm, hidle 0, hidle 1⟩
  · rw [hpath q, honly.paths q hq]

theorem perstAsserted_noted (h : pcMode s.paths[p].cfg ≠ 1 ∨ s.paths[p].ltssm = 12) :
    Does (.perstAsserted p) s [.paths] fun t => PathsAre t (vmod s.paths p fun x => { x with perst := true }) := by
  refine does_modPath (f := perstSet true) ?_ rfl
  rw [exec_perstAsserted hf, if_neg fun hc => h.elim (fun hm => hm hc.1) hc.2]

theorem perstNegated_detects (hm : pcMode s.paths[p].cfg = 1) (hl : s.paths[p].ltssm = 12) :
    Does (.perstNegated p) s [.paths] fun t =>
      PathsAre t (vmod s.paths p fun x => { x with perst := false, ltssm := 0, posDue := true }) := by
  exact does_modPath (exec_perstNegated hf) (if_pos ⟨hm, hl⟩)

theorem perstNegated_noted (h : pcMode s.paths[p].cfg ≠ 1 ∨ s.paths[p].ltssm ≠ 12) :
    Does (.perstNegated p) s [.paths] fun t => PathsAre t (vmod s.paths p fun x => { x with perst := false }) := by
  exact does_modPath (exec_perstNegated hf) (if_neg fun hc => h.elim (fun hm => hm hc.1) fun hl => hl hc.2)

/-! ### CLKREQ_N -/

/-- A path with its CLKREQ_N asserted or not. -/
def clkreqSet (b : Bool) (x : Path) : Path := { x with clkreq := b }

theorem l1SubstateEntry_moves : Does (.l1SubstateEntry p) s [.paths] fun t => PathsAre t (vmod s.paths p fun x => { x with
    clkreq := false
    pllInt := if pcMode x.cfg = 1 ∧ x.st = .idle ∧ domOn s (33 + p.val) = true then pcClk x.cfg else x.pllInt
    cmOff := x.cmOff || (pcMode x.cfg == 1 && x.st == .idle && domOn s (33 + p.val)) }) := by
  have hx : exec (.l1SubstateEntry p) s = done s (if pcieLeader (s.modPath p (clkreqSet false)) p &&
      (s.modPath p (clkreqSet false)).paths[p].st == .idle && domOn s (33 + p.val) then
        modGroup (s.modPath p (clkreqSet false)) p fun x => { x with pllInt := pcClk x.cfg, cmOff := true }
    else s.modPath p (clkreqSet false)) := rfl
  rw [pcieLeader_unformed (unformed_after hf rfl), modGroup_unformed (unformed_after hf rfl), modPath_path, modPath_modPath] at hx
  by_cases h : pcMode s.paths[p].cfg = 1 ∧ s.paths[p].st = .idle ∧ domOn s (33 + p.val) = true
  · obtain ⟨hm, hst, hd⟩ := h
    rw [if_pos (by simp only [Bool.and_eq_true, beq_iff_eq]; exact ⟨⟨hm, hst⟩, hd⟩)] at hx
    refine does_modPath hx ?_
    generalize s.paths[p] = x at hm hst ⊢
    simp [clkreqSet, hm, hst, hd]
  · rw [if_neg (by simp only [Bool.and_eq_true, beq_iff_eq, and_assoc]; exact h)] at hx
    refine does_modPath hx ?_
    have hcm : (pcMode s.paths[p].cfg == 1 && s.paths[p].st == .idle && domOn s (33 + p.val)) = false :=
      Bool.eq_false_iff.mpr (by simpa only [ne_eq, Bool.and_eq_true, beq_iff_eq, and_assoc] using h)
    simp only [clkreqSet, if_neg h, hcm, Bool.or_false]

theorem l1SubstateExit_returns : Does (.l1SubstateExit p) s [.paths] fun t => PathsAre t (vmod s.paths p fun x => { x with
    clkreq := true, pllInt := if pcMode x.cfg = 1 then x.pllInt && !x.refclk else x.pllInt
    cmOff := x.cmOff && pcMode x.cfg != 1 }) := by
  have hx : exec (.l1SubstateExit p) s = done s (if pcieLeader (s.modPath p (clkreqSet true)) p then
        modGroup (s.modPath p (clkreqSet true)) p fun x =>
          { x with pllInt := x.pllInt && !(s.modPath p (clkreqSet true)).paths[p].refclk, cmOff := false }
    else s.modPath p (clkreqSet true)) := rfl
  rw [pcieLeader_unformed (unformed_after hf rfl), modGroup_unformed (unformed_after hf rfl), modPath_path, modPath_modPath] at hx
  have hcfg : (clkreqSet true s.paths[p]).cfg = s.paths[p].cfg := rfl
  rw [hcfg] at hx
  by_cases h : pcMode s.paths[p].cfg = 1
  · rw [if_pos (beq_iff_eq.mpr h)] at hx
    refine does_modPath hx ?_
    generalize s.paths[p] = x at h ⊢
    simp [clkreqSet, h]
  · rw [if_neg (fun e => h (beq_iff_eq.mp e))] at hx
    refine does_modPath hx ?_
    generalize s.paths[p] = x at h ⊢
    simp [clkreqSet, h]
end

end Sys2Proof.Machine
end

section
/-! REFCLK lost, and what each sideband pin does (R36, R122 to R126). -/

namespace Sys2Proof.Machine

/-! ### Islands whose clock is absent -/


/-- Events apart, `t` is `s` with the clocks of some islands absent (R36). -/
structure ClocksLost (islands : List Nat) (s t : State) : Prop where
  rest : Noted s { t with pow := s.pow }
  pow : t.pow = { s.pow with absent := t.pow.absent }
  absent : ∀ k : Fin 64, t.pow.absent[k] = (s.pow.absent[k] || decide (k.val ∈ islands))

theorem ClocksLost.trans {a b : List Nat} {s t u : State} (h : ClocksLost a s t) (k : ClocksLost b t u) : ClocksLost (a ++ b) s u := by
  refine ⟨h.rest.trans ⟨?_, k.rest.2⟩, ?_, fun i => ?_⟩
  · exact congrArg (fun v : State => { v with pow := s.pow }) k.rest.1
  · have hp := k.pow
    rw [h.pow] at hp
    exact hp
  · rw [k.absent, h.absent, Bool.or_assoc, ← Bool.decide_or]
    simp only [List.mem_append]

theorem ClocksLost.raise (s : State) (c : Nat) (d : List Byte) : ClocksLost [] s (raise s c d) := by
  obtain ⟨hrest, hmem⟩ := raise_noted s c d
  refine ⟨⟨congrArg (fun v : State => { v with pow := s.pow }) hrest, hmem⟩, ?_, fun k => ?_⟩
  · rw [raise_pow]
  · simp

theorem ClocksLost.modPow (s : State) (i : Nat) :
    ClocksLost [i] s (s.modPow fun p => { p with absent := vmodN p.absent i fun _ => true }) := by
  refine ⟨Noted.refl s, rfl, fun k => ?_⟩
  have hget := getElem?_vmodN s.pow.absent i k.val fun _ => true
  simp only [Vector.getElem?_eq_getElem k.isLt, Option.map_some] at hget
  by_cases hk : i = k.val
  · simpa [hk] using hget
  · simpa [hk, Ne.symm hk] using hget

theorem clockAbsent_lost (s : State) (i : Nat) : ClocksLost [i] s (clockAbsent s i) :=
  (ClocksLost.modPow s i).trans (ClocksLost.raise _ _ _)

theorem clocksAbsent_lost (l : List Nat) (s : State) : ClocksLost l s (l.foldl clockAbsent s) := by
  induction l generalizing s with
  | nil => exact ⟨Noted.refl s, rfl, fun k => by simp⟩
  | cons i l ih => exact (clockAbsent_lost s i).trans (ih _)

theorem ClocksLost.paths {l : List Nat} {s t : State} (h : ClocksLost l s t) : t.paths = s.paths := by
  have hp := congrArg State.paths h.rest.1
  exact hp

/-- Every part but the AO domain is noted. -/
theorem ClocksLost.part {l : List Nat} {s t : State} (h : ClocksLost l s t) {q : Part} (hq : q ≠ .pow) : q.noted s t := by
  have hn := h.rest.part q
  cases q
  case pow => exact absurd rfl hq
  all_goals exact hn

/-! ### REFCLK -/

/-- The islands that run on a path's PLL: its path island and the RX islands of its lanes in use. -/
def pllIslands (s : State) (p : PathId) : List Nat :=
  (8 + p.val) :: ((sidesOf p).filter fun i => laneOn s (laneOf i)).map fun i => 32 + i.val

theorem laneOf_ofNat (i : SideId) : laneOf i = Fin.ofNat 16 (i.val / 2) := by
  apply Fin.ext
  show i.val / 2 = i.val / 2 % 16
  omega

theorem mem_pllIslands {s : State} {p : PathId} {k : Nat} : k ∈ pllIslands s p ↔ k = 8 + p.val ∨
    (32 ≤ k ∧ k - 32 < 32 ∧ (k - 32) / 8 = p.val ∧ laneOn s (Fin.ofNat 16 ((k - 32) / 2)) = true) := by
  rw [pllIslands, List.mem_cons, List.mem_map]
  refine or_congr Iff.rfl ⟨?_, ?_⟩
  · rintro ⟨i, hi, rfl⟩
    obtain ⟨hmem, hon⟩ := List.mem_filter.mp hi
    rw [Nat.add_sub_cancel_left, ← laneOf_ofNat]
    exact ⟨Nat.le_add_right 32 i.val, i.isLt, congrArg Fin.val (mem_sidesOf.mp hmem), hon⟩
  · rintro ⟨h32, hlt, hpath, hon⟩
    refine ⟨⟨k - 32, hlt⟩, List.mem_filter.mpr ⟨mem_sidesOf.mpr (Fin.ext hpath), ?_⟩, Nat.add_sub_of_le h32⟩
    rw [laneOf_ofNat]
    exact hon

/-- A path with its REFCLK lost. -/
def refclkGone (x : Path) : Path := { x with refclk := false }

section
variable {s : State} {p : PathId} (hf : s.paths[p].formed = false)
include hf

/-- REFCLK_LOST: where the path's PLL runs on it, the islands that run on the PLL become absent, with event 0x020C. -/
theorem exec_refclkLost : exec (.refclkLost p) s = done s
    (if pathOn s p && domOn s (33 + p.val) && pcClk s.paths[p].cfg && !s.paths[p].pllInt && s.paths[p].refclk then
      raise (((pllIslands (s.modPath p refclkGone) p).filter (present s)).foldl clockAbsent (s.modPath p refclkGone)) 0x020C [by1 p.val]
    else s.modPath p refclkGone) := by
  have hun : (s.modPath p refclkGone).paths[p].formed = false := unformed_after hf rfl
  have hon : pathOn (s.modPath p refclkGone) p = pathOn s p := by
    rw [pathOn, modPath_path]
    rfl
  have hx : exec (.refclkLost p) s = done s (if leaderOf (s.modPath p refclkGone) p == p && pathOn (s.modPath p refclkGone) p &&
      domOn s (33 + p.val) && pcClk s.paths[p].cfg && !s.paths[p].pllInt && s.paths[p].refclk then
        raise (((((groupOf (s.modPath p refclkGone) p).map fun q => pllIslands (s.modPath p refclkGone) q).flatten).filter
          (present s)).foldl clockAbsent (s.modPath p refclkGone)) 0x020C [by1 p.val]
    else s.modPath p refclkGone) := rfl
  rw [hx, leaderOf_unformed hun, groupOf_unformed hun, hon, beq_self_eq_true, Bool.true_and]
  simp only [List.map_cons, List.map_nil, List.flatten_cons, List.flatten_nil, List.append_nil]

theorem refclkLost_stops (hon : pathOn s p = true) (hd : domOn s (33 + p.val) = true) (hc : pcClk s.paths[p].cfg = true)
    (hi : s.paths[p].pllInt = false) (hr : s.paths[p].refclk = true) :
    Affects (.refclkLost p) s [.paths, .pow] fun t =>
        PathsAre t (vmod s.paths p fun x => { x with refclk := false }) ∧
        (∀ k : Fin 64, t.pow.absent[k] = (s.pow.absent[k] || (present s k.val && (k.val == 8 + p.val ||
          (decide (32 ≤ k.val) && k.val - 32 < 32 && (k.val - 32) / 8 == p.val && laneOn s (Fin.ofNat 16 ((k.val - 32) / 2))))))) ∧
        PowIs t { s.pow with absent := t.pow.absent } := by
  obtain ⟨a, ha⟩ : ∃ a, a = s.modPath p refclkGone := ⟨_, rfl⟩
  obtain ⟨v, hv⟩ : ∃ v, v = raise (((pllIslands a p).filter (present s)).foldl clockAbsent a) 0x020C [by1 p.val] := ⟨_, rfl⟩
  have hx : exec (.refclkLost p) s = done s v := by
    rw [exec_refclkLost hf, if_pos (by simp only [hon, hd, hc, hi, hr, Bool.not_false, Bool.and_self]), ← ha, ← hv]
  have hlost : ClocksLost ((pllIslands a p).filter (present s)) a v := by
    have hraised := (clocksAbsent_lost ((pllIslands a p).filter (present s)) a).trans (ClocksLost.raise _ 0x020C [by1 p.val])
    rwa [List.append_nil, ← hv] at hraised
  have hlane (l : LaneId) : laneOn a l = laneOn s l := (ha ▸ PathOnly.modPath fun _ => rfl : PathOnly p s a).laneOn l
  have hpaths : v.paths = vmod s.paths p refclkGone := by
    rw [hlost.paths, ha]
    rfl
  refine ⟨_, hx, ⟨?_, fun k => ?_, ?_⟩, fun q hq => ?_⟩
  · have hsettled := pathsAre_settle s v
    rw [hpaths] at hsettled
    exact hsettled
  · rw [settle_pow]
    show v.pow.absent[k] = _
    have habsent : a.pow.absent = s.pow.absent := by rw [ha]; rfl
    rw [hlost.absent, habsent]
    congr 1
    rw [Bool.eq_iff_iff]
    simp only [decide_eq_true_eq, List.mem_filter, mem_pllIslands, hlane, Bool.and_eq_true, Bool.or_eq_true, beq_iff_eq, and_assoc,
      and_comm (a := present s k.val = true)]
  · rw [PowIs, settle_pow, hlost.pow, ha]
    rfl
  · have hpath : q ≠ .paths := fun e => hq (by simp [e])
    have hpow : q ≠ .pow := fun e => hq (by simp [e])
    have hun : q.untouched s a := ha ▸ Part.untouched_modPath s p refclkGone hpath
    exact Part.noted_settle s (Part.noted_of_untouched hun (hlost.part hpow))

theorem refclkLost_noted (h : pathOn s p = false ∨ domOn s (33 + p.val) = false ∨ pcClk s.paths[p].cfg = false ∨ s.paths[p].pllInt = true) :
    Does (.refclkLost p) s [.paths] fun t => PathsAre t (vmod s.paths p fun x => { x with refclk := false }) := by
  have hno : (pathOn s p && domOn s (33 + p.val) && pcClk s.paths[p].cfg && !s.paths[p].pllInt && s.paths[p].refclk) = false := by
    rcases h with h | h | h | h <;> simp only [h, Bool.not_true, Bool.false_and, Bool.and_false]
  refine does_modPath (f := refclkGone) ?_ rfl
  rw [exec_refclkLost hf, hno, if_neg Bool.false_ne_true]
end

/-- Settles O51: outside a bond group each pin changes its own path alone; entering Held and losing REFCLK do more, which is said
apart. -/
theorem sidebandPinsAct : Obligations.SidebandPinsAct := fun _ _ hf =>
  ⟨perstAsserted_holds hf, perstAsserted_noted hf, perstNegated_detects hf, perstNegated_noted hf, l1SubstateEntry_moves hf,
    l1SubstateExit_returns hf, refclkLost_stops hf, refclkLost_noted hf⟩

end Sys2Proof.Machine
end

section
/-! Readings that the passing of time leaves alone, and the step on an empty queue (R21, R50). -/

namespace Sys2Proof.Machine

/-! ### The passing of time -/

/-- Writing coalesced entries is nothing but events (R441). -/
theorem flushCoalesced_noted (sel : Coalesced → Bool) (s : State) : Noted s (flushCoalesced sel s) :=
  foldl_holds (Noted s) writeCoalesced _ (fun _ c h => h.trans (emit_noted _ c.code.toNat c.count c.data c.stamp)) _ (Noted.of_mem rfl rfl)

theorem secondPassed_noted (before : Stamp) (s : State) : Noted s (secondPassed before s) := by
  unfold secondPassed
  split
  · exact Noted.refl s
  · exact flushCoalesced_noted perSecond s

/-- A reading of the state that neither the counts beside spine time nor events change. -/
structure TimeBlind {β : Type} (g : State → β) : Prop where
  side : ∀ t i f, g (t.modSide i f) = g t
  free : ∀ t, g t.usedFree = g t
  health : ∀ t tj vin, g (t.modWin fun w => { w with tj := tj, vin := vin }) = g t
  idle : ∀ t p n, g (t.modPath p fun x => { x with idleNs := x.idleNs + n }) = g t
  singles : ∀ t ns, g (countSingles ns t) = g t
  events : ∀ {t u}, Noted t u → g u = g t

section
variable {β : Type} {g : State → β} (h : TimeBlind g)
include h

theorem TimeBlind.countSide (s : State) (i : SideId) : g (countSide s i) = g s := by
  unfold Machine.countSide
  dsimp only
  split
  · split
    · rw [h.free, h.side, h.free, h.free, h.side]
    · rw [h.free, h.free, h.side]
  · split
    · rw [h.free, h.side]
    · rfl

theorem TimeBlind.countHealth (s : State) : g (countHealth s) = g s := by
  unfold Machine.countHealth
  split
  · rw [h.free, h.free, h.health]
  · rfl

theorem TimeBlind.countIdle (ns : Nat) (s : State) (p : PathId) : g (countIdle ns s p) = g s := by
  unfold Machine.countIdle
  split
  · exact h.idle s p ns
  · rfl

theorem TimeBlind.countTime (ns : Nat) (s : State) : g (countTime ns s) = g s := by
  have hsides : g (forSides s Machine.countSide) = g s := foldl_keeps g _ _ h.countSide s
  have hpaths (t : State) : g (forPaths t (Machine.countIdle ns)) = g t := foldl_keeps g _ _ (h.countIdle ns) t
  rw [countTime_eq, h.singles, hpaths, h.countHealth, hsides]

/-- Time that passes to a stamp is not seen by a reading that does not see spine time either. -/
theorem TimeBlind.elapseTo (hspine : ∀ t sp, g (t.modTime fun x => { x with spine := sp }) = g t) (n : Nat) (s : State) :
    g (elapseTo n s) = g s := by
  unfold Machine.elapseTo
  split
  · rfl
  · rw [h.events (secondPassed_noted _ _), h.countTime, hspine]
end

/-! ### One tick -/

theorem spine_timeBlind : TimeBlind fun s => s.time.spine :=
  ⟨fun _ _ _ => rfl, fun _ => rfl, fun _ _ _ => rfl, fun _ _ _ => rfl, fun _ _ => rfl, fun hn => by rw [hn.1]; rfl⟩

theorem pending_timeBlind : TimeBlind State.pending :=
  ⟨fun _ _ _ => rfl, fun _ => rfl, fun _ _ _ => rfl, fun _ _ _ => rfl, fun _ _ => rfl, fun hn => by rw [hn.1]; rfl⟩

/-- Spine time after some nanoseconds: it advances by them while D41 is on, and stands still while it is off. -/
theorem elapse_spine (ns : Nat) (s : State) : (elapse ns s).time.spine =
    if domOn s 41 then s.time.spine + BitVec.ofNat 112 (spineStep ns s.time.freqAdj) else s.time.spine := by
  have hcount : ∀ u, (secondPassed s.now (countTime ns u)).time.spine = u.time.spine := fun u =>
    (spine_timeBlind.events (secondPassed_noted _ _)).trans (spine_timeBlind.countTime ns u)
  unfold elapse
  rw [hcount]
  split
  · rfl
  · rfl

theorem elapse_pending (ns : Nat) (s : State) : (elapse ns s).pending = s.pending := by
  have hcount : ∀ u, (secondPassed s.now (countTime ns u)).pending = u.pending := fun u =>
    (pending_timeBlind.events (secondPassed_noted _ _)).trans (pending_timeBlind.countTime ns u)
  unfold elapse
  rw [hcount]
  split
  · rfl
  · rfl

/-! ### Every step answers -/

/-- Every row ends with `done`: its meaning is a next state, whatever the state and the operands. -/
theorem exec_done (c : Instr) (s : State) : ∃ t, exec c s = done s t := by
  cases c <;> exact ⟨_, rfl⟩

theorem step_isNext (s : State) : isNext (step s) := by
  unfold step
  split
  · exact ⟨_, rfl⟩
  · next c rest _ =>
    obtain ⟨t, ht⟩ := exec_done c { s with pending := rest }
    exact ⟨_, ht⟩

theorem step_tick {s : State} (h : s.pending = []) : step s = .next (settle s (elapse 8 s)) := by
  simp only [step, h, tick]

/-- Settles O2: an empty queue lets 8 ns pass, and no row answers anything but a next state. -/
theorem idleStepTicksAndEveryStepCompletes : Obligations.IdleStepTicksAndEveryStepCompletes := by
  refine ⟨fun s h => ⟨_, step_tick h, ?_, fun hon => ?_, fun hoff => ?_⟩, step_isNext⟩
  · rw [settle_pending, elapse_pending, h]
  · rw [settle_time, elapse_spine, if_pos hon]
  · rw [settle_time, elapse_spine, hoff]
    rfl

end Sys2Proof.Machine
end

section
/-! Sheet boundaries (R50 to R52, R72, R391). -/

namespace Sys2Proof.Machine

/-! ### What a boundary is read by -/

/-- The parts that say which sheet runs and under which Mould, and those that a boundary leaves alone. -/
structure BoundaryView where
  seq      : Seqr
  cpu      : Gulcy
  sweep    : Sweep
  pending  : List Instr
  dev      : DevState
  devState : BitVec 2
  sheets   : Bool

/-- The view of a state. -/
def boundaryView (s : State) : BoundaryView where
  seq := s.seq
  cpu := s.cpu
  sweep := s.sweep
  pending := s.pending
  dev := s.pow.dev
  devState := s.win.devState
  sheets := s.win.sheets

theorem Noted.boundaryView {s t : State} (h : Noted s t) : boundaryView t = boundaryView s := by
  rw [h.1]
  rfl

theorem boundaryView_timeBlind : TimeBlind boundaryView :=
  ⟨fun _ _ _ => rfl, fun _ => rfl, fun _ _ _ => rfl, fun _ _ _ => rfl, fun _ _ => rfl, Noted.boundaryView⟩

theorem elapseTo_boundaryView (n : Nat) (s : State) : boundaryView (elapseTo n s) = boundaryView s :=
  boundaryView_timeBlind.elapseTo (fun _ _ => rfl) n s

theorem settleDomains_boundaryView (s : State) : boundaryView (settleDomains s) = boundaryView s := by
  obtain ⟨_, _, _, _, _, _, _, _, _, h⟩ := settleDomains_only s
  rw [h]
  rfl

/-- A step of spine time that waits is still waiting after time has passed. -/
theorem elapseTo_step (n : Nat) (s : State) : (elapseTo n s).time.step = s.time.step :=
  TimeBlind.elapseTo (g := fun t => t.time.step)
    ⟨fun _ _ _ => rfl, fun _ => rfl, fun _ _ _ => rfl, fun _ _ _ => rfl, fun _ _ => rfl, fun hn => by rw [hn.1]; rfl⟩
    (fun _ _ => rfl) n s

theorem applyStep_none {s : State} (h : s.time.step = none) : applyStep s = s := by
  simp only [applyStep, h]

theorem judgeMark_boundaryView (s : State) : boundaryView (judgeMark s) = boundaryView s := rfl

/-! ### What every tick 0 does -/

theorem applyDefs_boundaryView (s : State) : boundaryView (applyDefs s) = boundaryView s :=
  foldl_keeps boundaryView applyDef _ (fun _ _ => rfl) _

/-- A side's measurements one sheet older, where its logic is on. -/
def ageSide (s : State) (i : SideId) : State :=
  if domOn s (i.val + 1) then s.modSide i fun x => { x with calAge := satInc x.calAge, pinAge := satInc x.pinAge } else s

theorem ageSide_boundaryView (s : State) (i : SideId) : boundaryView (ageSide s i) = boundaryView s := by
  unfold ageSide
  split
  · rfl
  · rfl

theorem ageMeasured_boundaryView (s : State) : boundaryView (ageMeasured s) = boundaryView s := by
  have hsides : boundaryView (forSides s ageSide) = boundaryView s := foldl_keeps boundaryView _ _ ageSide_boundaryView s
  have heq : ageMeasured s = if domOn s 45 then (forSides s ageSide).modVen fun v => { v with qAge := v.qAge.map satInc }
      else forSides s ageSide := rfl
  rw [heq]
  generalize forSides s ageSide = u at hsides
  split
  · exact hsides
  · exact hsides

/-- Of tick 0 only the pending activation touches what a boundary is read by. -/
theorem tickZero_boundaryView (k : Nat) (s : State) : boundaryView (tickZero k s) = boundaryView (judgeShadow s) :=
  calc boundaryView (tickZero k s)
    _ = boundaryView (ageMeasured (ageScan k (applyDefs (judgeShadow s)))) := rfl
    _ = boundaryView (applyDefs (judgeShadow s)) := ageMeasured_boundaryView _
    _ = boundaryView (judgeShadow s) := applyDefs_boundaryView _

theorem judgeShadow_none {s : State} (h : s.seq.shadow = none) : judgeShadow s = s := by
  simp only [judgeShadow, h]

/-- The sequencer once a pending Mould is in force. -/
def mouldTaken (x : PendingMould) (q : Seqr) : Seqr :=
  { q with active := some x.mould, source := x.source, since := x.sheet, shadow := none }

/-- A pending Mould of the same period is taken in its sheet, and no sweep is broken off (R72, R73). -/
theorem judgeShadow_takes {s : State} {x : PendingMould} (h : s.seq.shadow = some x) (hsheet : x.sheet = s.seq.sheet)
    (hperiod : x.mould.sheetN = sheetN s) (hstart : isBoundary x.mould.sheetN s.seq.base.toNat = true) :
    boundaryView (judgeShadow s) = { boundaryView s with seq := mouldTaken x s.seq } := by
  simp only [judgeShadow, h, if_pos hsheet, if_pos hstart, swapMould, if_pos hperiod]
  rw [settleDomains_boundaryView, (raise_noted _ _ _).boundaryView]
  rfl

/-! ### Bundles -/

theorem sendSig_boundaryView (bytes : List Byte) (x : State × Bool) (k : SessionId) :
    boundaryView (sendSig bytes x k).1 = boundaryView x.1 := by
  unfold sendSig
  dsimp only
  split
  · exact (raise_noted _ _ _).boundaryView
  · split
    · rfl
    · split
      · rfl
      · exact (raise_noted _ _ _).boundaryView

theorem evaluate_boundaryView (n : Nat) (s : State) (b : Bundle) : boundaryView (evaluate n s b) = boundaryView s := by
  unfold evaluate
  dsimp only
  split
  · exact foldl_keeps (fun x => boundaryView x.1) _ _ (sendSig_boundaryView _) (s, false)
  · rfl

theorem evaluateBundles_boundaryView (n : Nat) (s : State) : boundaryView (evaluateBundles n s) = boundaryView s :=
  foldl_keeps boundaryView _ _ (evaluate_boundaryView n) s

/-! ### A sheet begins -/

/-- The sequencer at tick 0 of a sheet at boundary `b` of a period of `n` ticks. -/
def sheetBegun (n b : Nat) (number : R40) (q : Seqr) : Seqr := { q with
  sheet := number, base := BitVec.ofNat 80 (boundaryStamp n b), second := boundaryStamp n b % 2 ^ 40 == 0
  stopped := false, firstDue := false }

theorem beginSheet_boundaryView (b : Nat) (number : R40) (s : State) :
    boundaryView (beginSheet b number s) = { boundaryView s with seq := sheetBegun (sheetN s) b number s.seq } := rfl

theorem beginSheet_seq (b : Nat) (number : R40) (s : State) :
    (beginSheet b number s).seq = sheetBegun (sheetN s) b number s.seq := rfl

theorem boundaryView_seq {s t : State} (h : boundaryView t = boundaryView s) : t.seq = s.seq := congrArg BoundaryView.seq h

theorem boundaryView_dev {s t : State} (h : boundaryView t = boundaryView s) : t.pow.dev = s.pow.dev := congrArg BoundaryView.dev h

theorem sheetN_congr {s t : State} (h : boundaryView t = boundaryView s) : sheetN t = sheetN s := by
  simp only [sheetN, boundaryView_seq h]

theorem sheetN_active {s : State} {m : Mould} (h : s.seq.active = some m) : sheetN s = m.sheetN := by
  simp only [sheetN, h]

/-- Time has come to boundary `b`, and the events coalesced in the sheet before it are written (R50, R441). -/
def boundaryReached (n b : Nat) (s : State) : State := flushCoalesced (fun c => !perSecond c) (elapseTo (boundaryStamp n b) s)

theorem boundaryReached_boundaryView (n b : Nat) (s : State) : boundaryView (boundaryReached n b s) = boundaryView s :=
  (flushCoalesced_noted _ _).boundaryView.trans (elapseTo_boundaryView _ _)

/-- BOOT has become RUN (R52). -/
def runBegun (s : State) : State :=
  (s.modPow fun p => { p with dev := .run }).modWin fun w => { w with devState := 2, sheets := true }

theorem runBegun_boundaryView (s : State) :
    boundaryView (runBegun s) = { boundaryView s with dev := .run, devState := 2, sheets := true } := rfl

theorem firstSheet_boot {s : State} (b : Nat) (hb : b = boundaryAt (sheetN s) s.now.toNat)
    (h : (boundaryReached (sheetN s) b s).pow.dev = .boot) : firstSheet s =
      tickZero 1 (beginSheet b (BitVec.ofNat 40 b) (settleDomains (runBegun (boundaryReached (sheetN s) b s)))) := by
  subst hb
  exact if_pos (by rw [beq_iff_eq]; exact h)

/-- A sheet begun while no activation is pending keeps its Mould. -/
theorem tickZero_beginSheet {v : State} {w : BoundaryView} {m : Mould} (hv : boundaryView v = w) (hm : w.seq.active = some m)
    (hsh : w.seq.shadow = none) (k b : Nat) (number : R40) :
    boundaryView (tickZero k (beginSheet b number v)) = { w with seq := sheetBegun m.sheetN b number w.seq } := by
  subst hv
  rw [tickZero_boundaryView, judgeShadow_none (s := beginSheet b number v) hsh, beginSheet_boundaryView, sheetN_active hm]
  rfl

/-- The first sheet after BOOT begins RUN at boundary `b`, whose index is its number (R52). -/
theorem firstSheet_boundaryView {s : State} {m : Mould} {b : Nat} (hm : s.seq.active = some m) (hboot : s.pow.dev = .boot)
    (hsh : s.seq.shadow = none) (hb : b = boundaryAt m.sheetN s.now.toNat) : boundaryView (firstSheet s) = { boundaryView s with
      seq := sheetBegun m.sheetN b (BitVec.ofNat 40 b) s.seq, dev := .run, devState := 2, sheets := true } := by
  have hn : sheetN s = m.sheetN := sheetN_active hm
  have hu := boundaryReached_boundaryView (sheetN s) b s
  have hv : boundaryView (settleDomains (runBegun (boundaryReached (sheetN s) b s))) =
      { boundaryView s with dev := .run, devState := 2, sheets := true } := by
    rw [settleDomains_boundaryView, runBegun_boundaryView, hu]
  rw [firstSheet_boot b (by rw [hn, hb]) ((boundaryView_dev hu).trans hboot)]
  exact tickZero_beginSheet hv hm hsh 1 b _

/-- Where no line runs and no step of spine time waits, a later boundary judges marks and begins the next sheet, before which the
bundles are evaluated (R50, R52, R173, R284). -/
theorem nextSheet_plain {s u : State} {n b : Nat} (hn : sheetN s = n) (hb : boundaryAt n s.seq.base.toNat + 1 = b)
    (hu : elapseTo (boundaryStamp n b) s = u) (hseq : u.seq = s.seq) (hrun : s.seq.running = []) (hstep : u.time.step = none) :
    nextSheet s = tickZero 1 (evaluateBundles s.seq.sheet.toNat (beginSheet b (s.seq.sheet + 1) (boundaryReached n b (judgeMark u)))) := by
  have hlines : u.seq.running.foldl (endLine false) u = u := by rw [hseq, hrun]; rfl
  have hmark : applyStep (judgeMark u) = judgeMark u := applyStep_none hstep
  have hnext : boundaryAt n u.seq.base.toNat + 1 = b := by rw [hseq, hb]
  unfold nextSheet
  dsimp only
  rw [hn, hb, hu, hlines, hmark, hnext, hstep]
  rfl

/-- The state at tick 0 of a later sheet, with its number and its start, on which the pending activation is judged (R50, R71). -/
theorem nextSheet_boundaryView {s : State} {m : Mould} {b : Nat} (hm : s.seq.active = some m) (hrun : s.seq.running = [])
    (hstep : s.time.step = none) (hb : b = boundaryAt m.sheetN s.seq.base.toNat + 1) :
    ∃ v, boundaryView (nextSheet s) = boundaryView (judgeShadow v) ∧
      boundaryView v = { boundaryView s with seq := sheetBegun m.sheetN b (s.seq.sheet + 1) s.seq } := by
  have hu := elapseTo_boundaryView (boundaryStamp m.sheetN b) s
  have hustep := (elapseTo_step (boundaryStamp m.sheetN b) s).trans hstep
  have hplain := nextSheet_plain (sheetN_active hm) hb.symm rfl (boundaryView_seq hu) hrun hustep
  generalize elapseTo (boundaryStamp m.sheetN b) s = u at hu hplain
  refine ⟨_, by rw [hplain, tickZero_boundaryView], ?_⟩
  have hv : boundaryView (boundaryReached m.sheetN b (judgeMark u)) = boundaryView s :=
    (boundaryReached_boundaryView _ _ _).trans ((judgeMark_boundaryView u).trans hu)
  generalize boundaryReached m.sheetN b (judgeMark u) = v at hv
  rw [evaluateBundles_boundaryView, beginSheet_boundaryView, hv, (sheetN_congr hv).trans (sheetN_active hm), boundaryView_seq hv]

/-! ### The row -/

theorem exec_sheetBoundary_first {s : State} (h : firstSheetDue s = true) : exec .sheetBoundary s = done s (firstSheet s) := by
  simp only [exec, execSheetBoundary, h, if_true]

/-- While sheets run the first sheet of the run has begun. -/
theorem sheetsRun_iff (s : State) : sheetsRun s = true ↔ s.pow.dev = .run ∧ s.seq.stopped = false ∧ s.seq.firstDue = false := by
  simp [sheetsRun, and_assoc]

theorem firstSheetDue_of_sheetsRun {s : State} (h : sheetsRun s = true) : firstSheetDue s = false := by
  obtain ⟨_, _, hfirst⟩ := (sheetsRun_iff s).mp h
  simp [firstSheetDue, hfirst]

theorem exec_sheetBoundary_next {s : State} (h : sheetsRun s = true) (hreset : s.pow.resetDue ≠ some false) :
    exec .sheetBoundary s = done s (nextSheet s) := by
  simp only [exec, execSheetBoundary, firstSheetDue_of_sheetsRun h, h, if_neg hreset, Bool.false_eq_true, Bool.true_eq_false, if_false]

theorem exec_sheetBoundary_reset {s : State} (h : sheetsRun s = true) (hreset : s.pow.resetDue = some false) :
    exec .sheetBoundary s = done s (endRun 4 true (BitVec.ofNat 64 s.openNat) s.win.tj s.win.vin s.usedFree) := by
  simp only [exec, execSheetBoundary, firstSheetDue_of_sheetsRun h, h, if_pos hreset, Bool.false_eq_true, Bool.true_eq_false, if_false]

/-- What a view says, part by part, also of the state after what follows every change. -/
theorem boundaryView_settle {o t : State} {w : BoundaryView} (h : boundaryView t = w) :
    (settle o t).seq = w.seq ∧ (settle o t).cpu = w.cpu ∧ (settle o t).sweep = w.sweep ∧ (settle o t).pending = w.pending := by
  subst h
  exact ⟨rfl, rfl, rfl, rfl⟩

theorem boundaryView_settle_run {o t : State} {w : BoundaryView} (h : boundaryView t = w) :
    (settle o t).pow.dev = w.dev ∧ (settle o t).win.devState = w.devState ∧ (settle o t).win.sheets = w.sheets := by
  subst h
  exact ⟨rfl, rfl, rfl⟩

theorem sheetBegun_running {q : Seqr} (hstop : q.stopped = false) (hfirst : q.firstDue = false) (n b : Nat) (number : R40) :
    sheetBegun n b number q = { q with
      sheet := number, base := BitVec.ofNat 80 (boundaryStamp n b), second := boundaryStamp n b % 2 ^ 40 == 0 } := by
  simp only [sheetBegun, hstop, hfirst]

/-- The first boundary after BOOT (R51, R52). -/
theorem sheetBoundary_boot {s : State} {m : Mould} {b : Nat} (hm : s.seq.active = some m) (hboot : s.pow.dev = .boot)
    (hdue : s.seq.firstDue = true) (hcpu : s.cpu.running = true) (hstuck : s.pow.stuck = false) (hsh : s.seq.shadow = none)
    (hb : b = boundaryAt m.sheetN s.now.toNat) :
    ∃ t, exec .sheetBoundary s = .next t ∧ t.pow.dev = .run ∧ t.win.devState = 2 ∧ t.win.sheets = true ∧
      t.seq = sheetBegun m.sheetN b (BitVec.ofNat 40 b) s.seq ∧ t.cpu = s.cpu ∧ t.sweep = s.sweep ∧ t.pending = s.pending := by
  have hfirst : firstSheetDue s = true := by simp [firstSheetDue, hdue, hm, hboot, hcpu, hstuck]
  have hview := firstSheet_boundaryView hm hboot hsh hb
  obtain ⟨hdev, hstate, hsheets⟩ := boundaryView_settle_run (o := s) hview
  exact ⟨_, exec_sheetBoundary_first hfirst, hdev, hstate, hsheets, boundaryView_settle hview⟩

section
variable {s : State} {m : Mould} {b : Nat} (hm : s.seq.active = some m) (hruns : sheetsRun s = true) (hlines : s.seq.running = [])
  (hstep : s.time.step = none) (hreset : s.pow.resetDue ≠ some false) (hb : b = boundaryAt m.sheetN s.seq.base.toNat + 1)
include hm hruns hlines hstep hreset hb

/-- A later boundary with no activation pending (R50, R52). -/
theorem sheetBoundary_next (hsh : s.seq.shadow = none) :
    ∃ t, exec .sheetBoundary s = .next t ∧ t.seq = sheetBegun m.sheetN b (s.seq.sheet + 1) s.seq ∧
      t.cpu = s.cpu ∧ t.sweep = s.sweep ∧ t.pending = s.pending := by
  obtain ⟨v, hnext, hv⟩ := nextSheet_boundaryView hm hlines hstep hb
  have hnone : v.seq.shadow = none := (congrArg (fun w => w.seq.shadow) hv).trans hsh
  rw [judgeShadow_none hnone, hv] at hnext
  exact ⟨_, exec_sheetBoundary_next hruns hreset, boundaryView_settle hnext⟩

/-- A later boundary in whose sheet the pending Mould, of the same period, takes effect (R72, R73). -/
theorem sheetBoundary_takes {x : PendingMould} (hsh : s.seq.shadow = some x) (hsheet : x.sheet = s.seq.sheet + 1)
    (hperiod : x.mould.sheetN = m.sheetN)
    (hstart : isBoundary m.sheetN ((BitVec.ofNat 80 (boundaryStamp m.sheetN b) : Stamp).toNat) = true) :
    ∃ t, exec .sheetBoundary s = .next t ∧ t.seq = mouldTaken x (sheetBegun m.sheetN b (s.seq.sheet + 1) s.seq) ∧
      t.cpu = s.cpu ∧ t.sweep = s.sweep ∧ t.pending = s.pending := by
  obtain ⟨v, hnext, hv⟩ := nextSheet_boundaryView hm hlines hstep hb
  have hseq : v.seq = sheetBegun m.sheetN b (s.seq.sheet + 1) s.seq := congrArg BoundaryView.seq hv
  have hn : sheetN v = m.sheetN := sheetN_active (by rw [hseq]; exact hm)
  have htakes : boundaryView (judgeShadow v) = { boundaryView v with seq := mouldTaken x v.seq } :=
    judgeShadow_takes (by rw [hseq]; exact hsh) (by rw [hseq]; exact hsheet) (by rw [hn, hperiod]) (by rw [hseq, hperiod]; exact hstart)
  rw [htakes, hv, hseq] at hnext
  exact ⟨_, exec_sheetBoundary_next hruns hreset, boundaryView_settle hnext⟩
end

/-- A DEVICE_RESET that is due takes the place of the next sheet (R391). -/
theorem sheetBoundary_reset {s : State} (hruns : sheetsRun s = true) (hreset : s.pow.resetDue = some false) :
    ∃ t, exec .sheetBoundary s = .next t ∧ t.pow.dev = .held ∧ t.cpu.running = false ∧
      (t.pow.ended.map fun e => e.cause) = some 4 := by
  obtain ⟨hdev, _, _⟩ := (sheetsRun_iff s).mp hruns
  have halive : alive s.usedFree = true := by simp [alive, hdev]
  obtain ⟨⟨hheld, hcpu, _⟩, sv, ds, hpow⟩ := endRun_ended halive 4 true (BitVec.ofNat 64 s.openNat) s.win.tj s.win.vin
  refine ⟨_, exec_sheetBoundary_reset hruns hreset, hheld, hcpu, ?_⟩
  rw [settle_pow, hpow]
  rfl

/-- Settles O32: every step of a boundary but the sheet's number and start and the pending activation leaves the sequencer, Gulcy, the
sweep and the queue alone. -/
theorem sheetBoundariesNumberSheets : Obligations.SheetBoundariesNumberSheets := by
  intro s m hm _
  refine ⟨fun b hboot hdue hcpu hstuck hsh hb => ?_, fun b hruns hlines hstep hreset hb => ?_, sheetBoundary_reset⟩
  · obtain ⟨t, hx, hdev, hstate, hsheets, hseq, hrest⟩ := sheetBoundary_boot hm hboot hdue hcpu hstuck hsh hb
    refine ⟨t, hx, hdev, hstate, hsheets, ?_, ?_, ?_, hrest⟩
    · rw [hseq]
      rfl
    · rw [hseq]
      rfl
    · rw [hseq]
      exact hm
  · obtain ⟨_, hstop, hfirst⟩ := (sheetsRun_iff s).mp hruns
    have hbegun := sheetBegun_running hstop hfirst m.sheetN b (s.seq.sheet + 1)
    refine ⟨fun hsh => ?_, fun x hsh hsheet hperiod hstart => ?_⟩
    · rw [← hbegun]
      exact sheetBoundary_next hm hruns hlines hstep hreset hb hsh
    · have htaken := congrArg (mouldTaken x) hbegun
      obtain ⟨t, hx, hseq, hrest⟩ := sheetBoundary_takes hm hruns hlines hstep hreset hb hsh hsheet hperiod hstart
      exact ⟨t, hx, hseq.trans htaken, hrest⟩

end Sys2Proof.Machine
end

section
/-! Commands that Gulcy takes at once, by the parts they leave untouched. -/

namespace Sys2Proof.Machine

/-! ### Parts left alone -/

/-- Apart from the window, the mailbox and the bridge, what follows every change keeps a part as `Part.same` asks. -/
theorem Part.same_settle {s t : State} (o : State) {p : Part} (h : p.untouched s t) (hp : p ∉ [Part.win, .mbx, .svc]) :
    p.same s (settle o t) := by
  have hk := Part.kept_settle o h
  cases p
  case win | mbx | svc => exact absurd (by decide) hp
  all_goals exact hk

theorem Part.untouched_begun (s : State) (r : Req) {p : Part} (hp : p ∉ [Part.win, .svc]) : p.untouched s (begun s r) := by
  obtain ⟨_, _, _, h, _⟩ := begun_cases s r
  rw [h]
  cases p
  case win | svc => exact absurd (by decide) hp
  all_goals rfl

theorem Part.untouched_writeReply {s : State} {w : Issuer} (hp : w ≠ .twoWire → present s 4 = true) (op tag rtag : BitVec 16)
    (lat : Byte) (rep : Reply) {p : Part} (h : p ∉ [Part.win, .mbx, .svc]) : p.untouched s (writeReply s w op tag rtag lat rep) := by
  obtain ⟨_, _, _, e, _⟩ := writeReply_cases s w hp op tag rtag lat rep
  rw [e]
  cases p
  case win | mbx | svc => exact absurd (by decide) h
  all_goals rfl

/-- Events leave every part untouched but the four they change. -/
theorem Noted.untouched {s t : State} (h : Noted s t) {p : Part} (hp : p ∉ [Part.win, .mbx, .svc, .store]) : p.untouched s t := by
  rw [h.1]
  cases p
  case win | mbx | svc | store => exact absurd (by decide) hp
  all_goals rfl

/-- Events leave domains as they follow their conditions. -/
theorem Noted.settled {s t : State} (h : Noted s t) (hs : DomainsSettled s) : DomainsSettled t := by
  apply settled_congr hs <;> rw [h.1] <;> rfl

theorem present_congr {s t : State} (h : t.pow = s.pow) (i : Nat) : Machine.present t i = Machine.present s i := by
  simp only [Machine.present, domOn, h]

theorem Noted.rplHead {s t : State} (h : Noted s t) : t.win.rplHead = s.win.rplHead := by
  rw [h.1]
  rfl

theorem Noted.wf {s t : State} (h : Noted s t) (hs : Mem.wf s.mbx.mem = true) : Mem.wf t.mbx.mem = true := (h.2 hs).1

theorem Noted.sessions {s t : State} (h : Noted s t) : t.svc.sessions = s.svc.sessions := by
  rw [h.1]
  rfl

/-! ### A command as Gulcy takes it -/

theorem Ready.run {s : State} {r : Req} (h : Ready s r) : s.pow.dev = .run := gulcyReady_run h.1

theorem Ready.wf {s : State} {r : Req} (h : Ready s r) : Mem.wf s.mbx.mem = true := by
  obtain ⟨_, _, _, _, _, _, hwf, _⟩ := h
  exact hwf

theorem begun_rplHead (s : State) (r : Req) : (begun s r).win.rplHead = s.win.rplHead := by
  obtain ⟨_, _, _, h, _⟩ := begun_cases s r
  rw [h]

theorem begun_mode (s : State) (r : Req) : (begun s r).svc.mode = s.svc.mode := by
  obtain ⟨_, _, _, h, _⟩ := begun_cases s r
  rw [h]

theorem begun_addr (s : State) (r : Req) (k : SessionId) : (begun s r).svc.sessions[k.val].addr = s.svc.sessions[k.val].addr := by
  obtain ⟨_, _, _, h, hss⟩ := begun_cases s r
  obtain ⟨_, _, hk⟩ := hss k
  simp only [h, hk]

/-! ### The sequencer and the store -/

/-- Domains still follow their conditions after a change of the sequencer that leaves its active Mould, and of the store. -/
theorem settled_of_untouched {s t : State} (hs : DomainsSettled s) (h : ∀ p : Part, p ∉ [Part.seq, .store] → p.untouched s t)
    (hactive : t.seq.active = s.seq.active) : DomainsSettled t := by
  have hsvc : t.svc = s.svc := h .svc (by decide)
  have hpow : t.pow = s.pow := h .pow (by decide)
  have htime : t.time = s.time := h .time (by decide)
  exact settled_congr hs (by rw [hpow]) (by rw [hpow]) (h .paths (by decide)) hactive (by rw [hsvc]) (h .ven (by decide))
    (h .scan (by decide)) (h .test (by decide)) (by rw [htime])

/-- A command that changes of the sequencer and the store no more than it names, and leaves the active Mould. -/
theorem performs_untouched {c : Instr} {op : Nat} {r : Req} {s x : State} {p : List Byte} {f : Req → State → Result}
    {changed : List Part} {P : State → Prop} (hx : exec c s = done s (command op f r s)) (hr : Ready s r)
    (hf : f r (begun s r) = okWith x p) (hch : changed ⊆ [.seq, .store]) (hq : ∀ q : Part, q ∉ changed → q.untouched (begun s r) x)
    (hactive : x.seq.active = s.seq.active) (hP : ∀ t : State, t.seq = x.seq → t.store = x.store → P t) :
    Performs c op r s p changed P := by
  have hother (q : Part) (h : q ∉ [Part.seq, .store]) : q.untouched (begun s r) x := hq q fun hm => h (hch hm)
  have hpow : x.pow = (begun s r).pow := hother .pow (by decide)
  have htime : x.time = (begun s r).time := hother .time (by decide)
  have hmbx : x.mbx = (begun s r).mbx := hother .mbx (by decide)
  have hset := settled_of_untouched (begun_settled hr) hother (by rw [hactive, begun_seq])
  have hpres (h : r.issuer ≠ .twoWire) : present x 4 = true := (present_congr hpow 4).trans (begun_present hr h)
  refine performs_of hx hr hf hset (hother .win (by decide)) (by rw [hmbx, begun_mbx]) (hother .svc (by decide))
    (by rw [htime, begun_time]) (by rw [hpow, begun_pow]) hpres (hP _ ?_ ?_) fun q hqc hwin hmbx hsvc => ?_
  · rw [settle_seq, writeReply_seq _ _ hpres]
  · rw [settle_store, writeReply_store _ _ hpres]
  · have hno : q ∉ [Part.win, .mbx, .svc] := by simp [hwin, hmbx, hsvc]
    refine Part.same_settle s (Part.untouched_trans (Part.untouched_begun s r (by simp [hwin, hsvc])) ?_) hno
    exact Part.untouched_trans (hq q hqc) (Part.untouched_writeReply hpres _ _ _ _ _ hno)

/-- A command that changes the sequencer, leaving its active Mould, and raises events. -/
theorem performs_noted {c : Instr} {op : Nat} {r : Req} {s y x : State} {p : List Byte} {f : Req → State → Result}
    {P : State → Prop} (hx : exec c s = done s (command op f r s)) (hr : Ready s r) (hf : f r (begun s r) = okWith x p)
    (hq : ∀ q : Part, q ≠ .seq → q.untouched (begun s r) y) (hactive : y.seq.active = s.seq.active) (hn : Noted y x)
    (hP : ∀ t : State, t.seq = x.seq → P t) : Performs c op r s p [.seq, .win, .mbx, .svc, .store] P := by
  have hset := hn.settled (settled_of_untouched (begun_settled hr) (fun q h => hq q (by simp_all)) (by rw [hactive, begun_seq]))
  have hwin : y.win = (begun s r).win := hq .win (by decide)
  have hmbx : y.mbx = (begun s r).mbx := hq .mbx (by decide)
  have hsvc : y.svc = (begun s r).svc := hq .svc (by decide)
  have hpow : x.pow = (begun s r).pow := (hn.untouched (p := .pow) (by decide)).trans (hq .pow (by decide))
  have htime : x.time = (begun s r).time := (hn.untouched (p := .time) (by decide)).trans (hq .time (by decide))
  have hpres (h : r.issuer ≠ .twoWire) : present x 4 = true := (present_congr hpow 4).trans (begun_present hr h)
  have hfin := finish_settled hset r.issuer hpres (BitVec.ofNat 16 op) r r.tag 0 ⟨0, p⟩
  refine ⟨_, hx, ?_, ?_, fun q hqc => ?_⟩
  all_goals rw [command_taken hr, hf]
  · refine finish_replied s (hn.wf ?_) ?_ ?_ ?_ hpres fun k _ => ?_
    · rw [hmbx, begun_mbx, hr.wf]
    · rw [hn.rplHead, hwin, begun_rplHead]
    · rw [htime, begun_time]
    · rw [hpow, begun_pow]
      exact Or.inr hr.run
    · rw [hn.sessions, hsvc, begun_addr]
  · refine hP _ ?_
    rw [okWith, hfin, settle_seq, writeReply_seq _ _ hpres]
  · have hseq : q ≠ .seq := fun e => hqc (by simp [e])
    have hev : q ∉ [Part.win, .mbx, .svc, .store] := fun h => hqc (List.mem_cons_of_mem _ h)
    have hno : q ∉ [Part.win, .mbx, .svc] := by simp_all
    rw [okWith, hfin]
    refine Part.same_settle s (Part.untouched_trans (Part.untouched_begun s r (by simp_all)) ?_) hno
    exact Part.untouched_trans (Part.untouched_trans (hq q hseq) (hn.untouched hev)) (Part.untouched_writeReply hpres _ _ _ _ _ hno)

/-- What Gulcy does in taking a command is the bookkeeping that `Part.same` leaves out. -/
theorem Part.same_begun {s t : State} (r : Req) {p : Part} (h : p.untouched (begun s r) t) (hp : p ≠ .mbx) : p.same s (settle s t) := by
  obtain ⟨_, _, _, hb, hss⟩ := begun_cases s r
  cases p
  case mbx => exact absurd rfl hp
  case win =>
    have hw : t.win = (begun s r).win := h
    simp only [Part.same, settle_win, hw, hb]
  case svc =>
    have hv : t.svc = (begun s r).svc := h
    simp only [Part.same, settle_svc, hv, hb]
    refine ⟨trivial, fun k => ?_⟩
    obtain ⟨_, _, hk⟩ := hss k
    simp only [Fin.getElem_fin, hk]
  all_goals exact Part.same_settle s (Part.untouched_trans (Part.untouched_begun s r (by decide)) h) (by decide)

/-- A command whose reply comes later stands among the taken ones; it changes no part but those named. -/
theorem taken_untouched {c : Instr} {op : Nat} {r : Req} {s x : State} {f : Req → State → Result} {changed : List Part}
    (hx : exec c s = done s (command op f r s)) (hr : Ready s r) (hf : f r (begun s r) = (x, none)) (hch : changed ⊆ [.seq, .store])
    (hq : ∀ q : Part, q ∉ changed → q.untouched (begun s r) x) (hactive : x.seq.active = s.seq.active) :
    ∃ t, exec c s = .next t ∧ (∀ q : Part, q ≠ .mbx → q ∉ changed → q.same s t) ∧ t.store = x.store ∧
      t.mbx = { s.mbx with taken := s.mbx.taken ++ [{ opcode := BitVec.ofNat 16 op, req := r, rtag := r.tag, lat := 0 }] } := by
  have hmbx : x.mbx = s.mbx := (hq .mbx fun h => absurd (hch h) (by decide)).trans (begun_mbx s r)
  have hset : DomainsSettled x :=
    settled_of_untouched (begun_settled hr) (fun q h => hq q fun hm => h (hch hm)) (by rw [hactive, begun_seq])
  have hfin : finish r.issuer (BitVec.ofNat 16 op) r r.tag 0 (x, none) =
      x.modMbx fun m => { m with taken := m.taken ++ [{ opcode := BitVec.ofNat 16 op, req := r, rtag := r.tag, lat := 0 }] } :=
    settleDomains_settled hset
  refine ⟨_, hx, fun q hm hqc => ?_, ?_, ?_⟩
  all_goals rw [command_taken hr, hf, hfin]
  · exact Part.same_begun r (Part.untouched_trans (hq q hqc) (Part.untouched_modMbx _ _ hm)) hm
  · rfl
  · rw [settle_mbx, modMbx_mbx, hmbx]

/-! ### Mould commands -/

theorem ramBytes_begun (s : State) (r : Req) : ramBytes (begun s r) = ramBytes s := by
  simp only [ramBytes, begun_store]

theorem conflict_begun (s : State) (r : Req) (m : Mould) : conflict (begun s r) m = conflict s m := by
  simp only [conflict, begun_paths, begun_mode]

theorem commonStart_begun (s : State) (r : Req) (m : Mould) (at' : R40) : commonStart (begun s r) m at' = commonStart s m at' := by
  simp only [commonStart, sheetN, begun_seq]

/-- An image in the store's RAM, and how much of it is loaded, once bytes are loaded at an offset (R360). -/
def ramLoaded (r : Req) (off n : Nat) (t : Store) : Store :=
  { t with ram := Mem.writeAll t.ram off (slice r.payload 4 n), ramLen := max (if off = 0 then 0 else t.ramLen) (off + n) }

theorem doMouldLoad_loads {s : State} {r : Req} {off n : Nat} (hoff : off = num r.payload 0 3) (hn : n = num r.payload 3 1) (h1 : 1 ≤ n)
    (h52 : n ≤ 52) (hlen : r.len.toNat = 4 + n) (hfit : off + n ≤ 163840) (hjob : s.store.job = none) :
    doMouldLoad r s = okay (s.modStore (ramLoaded r off n)) := by
  have hgood : ¬ (n = 0 ∨ 52 < n ∨ r.len.toNat ≠ 4 + n ∨ 163840 < off + n) := by omega
  subst hoff hn
  simp only [doMouldLoad, if_neg hgood, hjob]
  rfl

/-- The job of storing the RAM image into a slot (R70). -/
def storeJob (k : Fin 2) (s : State) : StoreJob :=
  .mould k (s.store.ram.filter fun c => c.1 < num (ramBytes s) 12 4) (num (ramBytes s) 12 4) 0

theorem doMouldStore_starts {s : State} {r : Req} {k : Fin 2} {m : Mould} (hlen : r.len = 1) (hk : num r.payload 0 1 = k.val)
    (hjob : s.store.job = none) (hcheck : loaderCheck (ramBytes s) s.store.ramLen = none) (hm : s.seq.active = some m)
    (hlines : storeLines m ≠ 0) : doMouldStore r s = (s.modStore fun t => { t with job := some (storeJob k s) }, none) := by
  have hgood : ¬ (r.len.toNat ≠ 1 ∨ 1 < num r.payload 0 1) := by
    rw [hlen, hk]
    have := k.isLt
    simp
    omega
  have hlines' : ¬ s.seq.active.elim 0 storeLines = 0 := by rw [hm]; exact hlines
  have hslot : Fin.ofNat 2 (num r.payload 0 1) = k := by rw [hk]; exact Fin.ofNat_val_eq_self k
  simp only [doMouldStore, if_neg hgood, hjob, Option.isSome_none, Bool.false_eq_true, if_false, hcheck, if_neg hlines', hslot]
  rfl

/-- An activation that passes its checks fills shadow memory (R71, R73). -/
theorem activate_fills {s : State} {m : Mould} {at' : R40} (hc : conflict s m = none) (ha : liesAhead at' s.seq.sheet = true)
    (hs : commonStart s m at' = true) (src : Byte) :
    activate s m src at' = okay (s.modSeq fun q => { q with shadow := some { mould := m, source := src, sheet := at' } }) := by
  simp only [activate, hc, ha, hs, Bool.and_self, if_true]

theorem doMouldActivate_base {s : State} {r : Req} (hlen : r.len = 6) (hsrc : num r.payload 0 1 = 3) (hsh : s.seq.shadow = none) :
    doMouldActivate r s = activate s baseMould 3 (img r.payload 1) := by
  simp [doMouldActivate, hlen, hsrc, hsh]

theorem doMouldActivate_ram {s : State} {r : Req} (hlen : r.len = 6) (hsrc : num r.payload 0 1 = 2) (hsh : s.seq.shadow = none)
    (hcheck : loaderCheck (ramBytes s) (ramBytes s).length = none) :
    doMouldActivate r s = activate s (toMould (ramBytes s)) 2 (img r.payload 1) := by
  simp [doMouldActivate, hlen, hsrc, hsh, activateImage, hcheck]

theorem doMouldActivate_withdraws {s : State} {r : Req} {x : PendingMould} (hlen : r.len = 6) (hsrc : num r.payload 0 1 = 0xFF)
    (hsh : s.seq.shadow = some x) : doMouldActivate r s = okWith (dropShadow s 0) [1] := by
  simp [doMouldActivate, hlen, hsrc, hsh, b2n, by1]

/-- Shadow memory emptied, before its event. -/
def shadowEmptied (s : State) : State := s.modSeq fun q => { q with shadow := none }

theorem dropShadow_noted {s : State} {x : PendingMould} (h : s.seq.shadow = some x) (reason : Nat) :
    Noted (shadowEmptied s) (dropShadow s reason) := by
  simp only [dropShadow, h]
  exact raise_noted _ _ _

section
variable {s : State} {r : Req} (hr : Ready s r)
include hr

/-- MOULD_LOAD writes the RAM image (R360). -/
theorem mouldLoad_performs {off n : Nat} (hoff : off = num r.payload 0 3) (hn : n = num r.payload 3 1) (h1 : 1 ≤ n) (h52 : n ≤ 52)
    (hlen : r.len.toNat = 4 + n) (hfit : off + n ≤ 163840) (hjob : s.store.job = none) :
    Performs (.mouldLoad r) 0x0501 r s [] [.store] fun t => t.store = ramLoaded r off n s.store := by
  have hf := doMouldLoad_loads (s := begun s r) hoff hn h1 h52 hlen hfit (by rw [begun_store, hjob])
  refine performs_untouched rfl hr hf (by simp) (fun q hq => Part.untouched_modStore _ _ (by simpa using hq)) ?_ fun t _ ht => ?_
  · rw [modStore_seq, begun_seq]
  · rw [ht, modStore_store, begun_store]

/-- MOULD_STORE starts a store and answers once that has ended (R70, R362). -/
theorem mouldStore_starts {k : Fin 2} {m : Mould} (hlen : r.len = 1) (hk : num r.payload 0 1 = k.val) (hjob : s.store.job = none)
    (hcheck : loaderCheck (ramBytes s) s.store.ramLen = none) (hm : s.seq.active = some m) (hlines : storeLines m ≠ 0) :
    ∃ t, exec (.mouldStore r) s = .next t ∧ Keeps [.store, .mbx] s t ∧ t.store = { s.store with job := some (storeJob k s) } ∧
      t.mbx = { s.mbx with taken := s.mbx.taken ++ [{ opcode := 0x0502, req := r, rtag := r.tag, lat := 0 }] } := by
  have hf := doMouldStore_starts (s := begun s r) (m := m) hlen hk (by rw [begun_store, hjob]) (by rw [ramBytes_begun, begun_store, hcheck])
    (by rw [begun_seq, hm]) hlines
  obtain ⟨t, hx, hkeep, hstore, hmbx⟩ := taken_untouched (c := .mouldStore r) (op := 0x0502) (changed := [.store]) rfl hr hf (by simp)
    (fun q hq => Part.untouched_modStore _ _ (by simpa using hq)) (by rw [modStore_seq, begun_seq])
  refine ⟨t, hx, fun q hq => hkeep q (by simp_all) (by simp_all), ?_, hmbx⟩
  rw [hstore, modStore_store, storeJob, ramBytes_begun, begun_store, storeJob]

/-- An activation of a Mould that passes its checks fills shadow memory (R71, R361). -/
theorem mouldActivate_fills {m : Mould} {src : Byte} (hf : doMouldActivate r (begun s r) = activate (begun s r) m src (img r.payload 1))
    (hc : conflict s m = none) (ha : liesAhead (img r.payload 1) s.seq.sheet = true) (hs : commonStart s m (img r.payload 1) = true) :
    Performs (.mouldActivate r) 0x0503 r s [] [.seq] fun t => t.seq =
      { s.seq with shadow := some { mould := m, source := src, sheet := img r.payload 1 } } := by
  rw [activate_fills (by rw [conflict_begun, hc]) (by rw [begun_seq, ha]) (by rw [commonStart_begun, hs])] at hf
  refine performs_untouched rfl hr hf (by simp) (fun q hq => Part.untouched_modSeq _ _ (by simpa using hq)) ?_ fun t ht _ => ?_
  · rw [modSeq_seq, begun_seq]
  · rw [ht, modSeq_seq, begun_seq]

/-- MOULD_ACTIVATE with SOURCE 0xFF withdraws what shadow memory holds, with event 0x0511 (R361). -/
theorem mouldActivate_withdraws {x : PendingMould} (hlen : r.len = 6) (hsrc : num r.payload 0 1 = 0xFF) (hsh : s.seq.shadow = some x) :
    Performs (.mouldActivate r) 0x0503 r s [1] [.seq, .win, .mbx, .svc, .store] fun t => t.seq = { s.seq with shadow := none } := by
  have hsh' : (begun s r).seq.shadow = some x := by rw [begun_seq, hsh]
  have hn := dropShadow_noted hsh' 0
  refine performs_noted (y := shadowEmptied (begun s r)) rfl hr (doMouldActivate_withdraws hlen hsrc hsh')
    (fun q hq => Part.untouched_modSeq _ _ hq) ?_ hn fun t ht => ?_
  · rw [shadowEmptied, modSeq_seq, begun_seq]
  · have hseq : (dropShadow (begun s r) 0).seq = (shadowEmptied (begun s r)).seq := hn.untouched (p := .seq) (by decide)
    rw [ht, hseq, shadowEmptied, modSeq_seq, begun_seq]
end

/-- Settles O15: loading and storing change the store alone, an activation the sequencer alone, and a withdrawal raises an event too. -/
theorem mouldCommandsTakeEffect : Obligations.MouldCommandsTakeEffect := by
  intro s r hr
  refine ⟨fun off n hoff hn h1 h52 hlen hfit hjob => mouldLoad_performs hr hoff hn h1 h52 hlen hfit hjob,
    fun k m hlen hk hjob hcheck hm hlines => mouldStore_starts hr hlen hk hjob hcheck hm hlines,
    fun hlen hsrc hsh hc ha hs => ?_, fun bs hlen hsrc hsh hbs hcheck hc ha hs => ?_,
    fun x hlen hsrc hsh => mouldActivate_withdraws hr hlen hsrc hsh⟩
  · exact mouldActivate_fills hr (doMouldActivate_base hlen hsrc (by rw [begun_seq, hsh])) hc ha hs
  · subst hbs
    have hf := doMouldActivate_ram (s := begun s r) hlen hsrc (by rw [begun_seq, hsh]) (by rw [ramBytes_begun, hcheck])
    rw [ramBytes_begun] at hf
    exact mouldActivate_fills hr hf hc ha hs

end Sys2Proof.Machine
end

section
/-! TXEQ_SET of a side whose transmitter is in electrical idle (R84, R347). -/

namespace Sys2Proof.Machine

theorem sideArg_of {b : List Byte} {o : Nat} {i : SideId} (h : num b o 1 = i.val) : sideArg b o = some i := by
  have hlt : num b o 1 < 32 := by rw [h]; exact i.isLt
  rw [sideArg, dif_pos hlt]
  exact congrArg some (Fin.ext h)

/-- A transmitter in electrical idle takes a host's value whole (R84). -/
theorem writeTxeq_idle {s : State} {i : SideId} (h : s.sides[i].txIdle = true) (set : Fin 4) (v : R40) :
    (writeTxeq s i set v).sides[i].txeq[set] = v := by
  simp only [Fin.getElem_fin] at h
  simp [writeTxeq, h]

/-- TXEQ_SET with a value that stands, of a set the side has, on a path that is not DORMANT and does not train, is written. -/
theorem txeqSet_written {s : State} {r : Req} {i : SideId} {set : Fin 4} {v : R40} (hr : Ready s r) (hlen : r.len = 7)
    (hi : num r.payload 0 1 = i.val) (hset : setArg s i (num r.payload 1 1) = some set)
    (hv : v = pack 40 [(fld (img r.payload 2) 33 7, 7)]) (hok : txeqOk v = true) (hst : s.paths[pathOf i].st ≠ .dormant)
    (hltssm : ¬(pcMode s.paths[pathOf i].cfg = 1 ∧ s.paths[pathOf i].ltssm = 6))
    (hkr : ¬(pcMode s.paths[pathOf i].cfg = 2 ∧ krTraining s.lanes[laneOf i] = true)) :
    ∃ t, exec (.txeqSet r) s = .next t ∧ t.sides = (writeTxeq s i set v).sides := by
  have hbusy : (isDormant s (pathOf i) || (pcMode s.paths[pathOf i].cfg == 1 && s.paths[pathOf i].ltssm == 6)
      || (pcMode s.paths[pathOf i].cfg == 2 && krTraining s.lanes[laneOf i])) = false := by
    simp only [isDormant, Bool.or_eq_false_iff, beq_eq_false_iff_ne, Bool.and_eq_false_imp, beq_iff_eq]
    exact ⟨⟨hst, fun hm hl => hltssm ⟨hm, hl⟩⟩, fun hm => Bool.eq_false_iff.mpr fun hk => hkr ⟨hm, hk⟩⟩
  have hset' : setArg (begun s r) i (num r.payload 1 1) = some set := by
    rw [← hset]
    simp only [setArg, begun_paths]
  have hf : doTxeqSet r (begun s r) = okay (writeTxeq (begun s r) i set v) := by
    have hlen' : ¬ r.len.toNat ≠ 7 := by simp [hlen]
    subst hv
    simp only [isDormant] at hbusy
    simp only [doTxeqSet, if_neg hlen', sideArg_of hi, hset', hok, isDormant, begun_paths, begun_lanes, hbusy, Bool.true_eq_false,
      Bool.false_eq_true, if_false]
  have hsettled : DomainsSettled (writeTxeq (begun s r) i set v) := settled_congr (begun_settled hr) rfl rfl rfl rfl rfl rfl rfl rfl rfl
  have hpres : r.issuer ≠ .twoWire → present (writeTxeq (begun s r) i set v) 4 = true := fun h => begun_present hr h
  refine ⟨_, rfl, ?_⟩
  rw [settle_sides, command_taken hr, hf, okay, okWith, finish_settled hsettled _ hpres, writeReply_sides _ _ hpres]
  simp only [writeTxeq, modSide_sides, begun_sides, begun_paths]

/-- A transparent path that carries data in one direction only: its near receivers see signal and are locked, its far ones see
electrical idle, so that the near transmitters idle (R98, R146). -/
def oneWay : State := Tests.rs fun s => { s with
  paths := Vector.replicate 4 { cfg := 0xb1200f4240, st := .active }
  lanes := Vector.replicate 16 { ei := #v[false, true], lock := #v[true, false] }
  sides := Vector.ofFn fun i => { txIdle := i.val % 2 == 0 } }

/-- TXEQ_SET of side 30, a near one, for rate set 0: PRE1 6, MAIN 58, and the SWING of reset. -/
def txeqSixOne : Req := Tests.rq 7 [30, 0, 0x01, 0x00, 0x33, 0xA0, 0x00]

set_option maxRecDepth 100000 in
/-- Refutes O12: its TXEQ_SET clause takes side i to transmit what side i itself receives. In `oneWay` the near side of lane 15 is in data
while its transmitter, which carries what the far side receives, is in electrical idle; the value is taken whole (R84), where the
clause has the coefficients wait for a ramp. -/
theorem not_pathSettingsTakeEffect : ¬ Obligations.PathSettingsTakeEffect := by
  rintro ⟨hset, -⟩
  have hr : Ready oneWay txeqSixOne := Tests.ready_of _ _ (by decide)
  obtain ⟨-, -, -, -, -, htxeq⟩ := hset oneWay txeqSixOne hr
  obtain ⟨t, hx, -, ⟨-, hif⟩, -⟩ :=
    htxeq 30 0 0x010033A000 rfl (by decide) (by decide) (by decide) (by decide) (by decide) (by decide) (by decide)
  obtain ⟨u, hu, hsides⟩ := txeqSet_written (i := 30) (set := 0) (v := 0x010033A000) hr rfl (by decide) (by decide) (by decide)
    (by decide) (by decide) (by decide) (by decide)
  obtain rfl : u = t := Host.Outcome.next.inj (hu.symm.trans hx)
  have hdata : (0 : Fin 4) = runSet oneWay.paths[pathOf 30] ∧ inData oneWay 30 = true := by decide
  have hwhole : u.sides[(30 : SideId)].txeq[(0 : Fin 4)] = 0x010033A000 := by
    rw [hsides]
    exact writeTxeq_idle (by decide) 0 _
  obtain ⟨hramp, -⟩ := (if_pos hdata ▸ hif)
  rw [hwhole] at hramp
  exact absurd hramp (by decide)

end Sys2Proof.Machine
end

section
/-! Rows by what they leave alone and where their event stands; what a trace entry changes (R321, R322). -/

namespace Sys2Proof.Machine

/-! ### Parts left alone -/

theorem Part.untouched_modPow (s : State) (f : Power → Power) {p : Part} (hp : p ≠ .pow) : p.untouched s (s.modPow f) := by
  cases p
  case pow => exact absurd rfl hp
  all_goals rfl

/-- A trace entry changes the window and the mailbox alone. -/
theorem trace_cases (s : State) (kind subject value : Nat) (stamp : Stamp) :
    ∃ w m, trace s kind subject value stamp = { s with win := w, mbx := m } := by
  have hlost (f : Mailbox → Mailbox) (g : Window → Window) : ∃ w m, (s.modMbx f).modWin g = { s with win := w, mbx := m } :=
    ⟨g s.win, f s.mbx, rfl⟩
  have hput (f f' : Mailbox → Mailbox) (g : Window → Window) :
      ∃ w m, ((s.modMbx f).modMbx f').modWin g = { s with win := w, mbx := m } := ⟨g s.win, f' (f s.mbx), rfl⟩
  unfold trace
  split
  · exact ⟨s.win, s.mbx, rfl⟩
  · dsimp only
    split
    · exact hput _ _ _
    · exact hlost _ _

/-! ### Rows -/

/-- A row that changes nothing. -/
theorem does_nothing {c : Instr} {s : State} (hx : exec c s = done s s) : Does c s [] fun _ => True :=
  ⟨_, hx, trivial, fun p _ => Part.kept_settle s (p.untouched_refl s)⟩

/-- A row that raises no event and leaves all parts but those named untouched. -/
theorem does_of {c : Instr} {s v : State} {changed : List Part} {P : State → Prop} (hx : exec c s = done s v)
    (hv : ∀ p : Part, p ∉ changed → p.untouched s v) (hP : P (settle s v)) : Does c s changed P :=
  ⟨_, hx, hP, fun p hp => Part.kept_settle s (hv p hp)⟩

/-- A row that leaves all parts but those named noted. -/
theorem affects_of {c : Instr} {s v : State} {changed : List Part} {P : State → Prop} (hx : exec c s = done s v)
    (hv : ∀ p : Part, p ∉ changed → p.noted s v) (hP : P (settle s v)) : Affects c s changed P :=
  ⟨_, hx, hP, fun p hp => Part.noted_settle s (hv p hp)⟩

/-- What decides where an event stands: whether the ring can be written, the time, and what the ring, the hold and the losses are. -/
def eventView (s : State) : Bool × Stamp × BitVec 16 × BitVec 16 × BitVec 16 × Mailbox :=
  (ringsOpen s, s.now, s.win.evtHead, s.win.evtTail, s.win.evtLost, s.mbx)

/-- An event stands as seen from an earlier state of the same view. -/
theorem Raised.of_view {s u t : State} {c : Nat} {d : List Byte} (h : Raised u t c d) (hv : eventView u = eventView s) :
    Raised s t c d := by
  simp only [eventView, Prod.mk.injEq] at hv
  obtain ⟨hopen, hnow, hhead, htail, hlost, hmbx⟩ := hv
  have hentry : entryOf u c d = entryOf s c d := by simp only [entryOf, hnow, hmbx]
  unfold Raised Counted at h ⊢
  rw [hopen, hentry, hhead, htail, hlost, hmbx] at h
  exact h

/-- An event that is raised stands in every later state with the same window and mailbox. -/
theorem raised_in {s u t : State} {c : Nat} {d : List Byte} (hu : eventView u = eventView s) (hwin : t.win = (raise u c d).win)
    (hmbx : t.mbx = (raise u c d).mbx) : Raised s t c d :=
  ((raise_raised u c d).congr rfl rfl rfl rfl hwin hmbx).of_view hu

/-- A row that changes no part but those named and raises its event on that. -/
theorem reports_of {c : Instr} {s u : State} {code : Nat} {data : List Byte} {changed : List Part} {P : State → Prop}
    (hx : exec c s = done s (raise u code data)) (hu : ∀ p : Part, p ∉ changed → p.untouched s u) (hview : eventView u = eventView s)
    (hP : P (settle s (raise u code data))) : Reports c s code data changed P :=
  affects_of hx (fun p hp => Part.noted_of_untouched (hu p hp) ((raise_noted u code data).part p))
    ⟨(raised_in hview rfl rfl).settle s, hP⟩

end Sys2Proof.Machine
end

section
/-! Islands whose clock stops, the PLL of CORE, pattern checkers (R36, R48, R457). -/

namespace Sys2Proof.Machine

/-! ### Island clocks -/

/-- An island's clock absent or not. -/
def clockSet (i : IslandId) (b : Bool) (x : Power) : Power := { x with absent := vmod x.absent i fun _ => b }

theorem vmodN_eq_vmod {α : Type} {n : Nat} (v : Vector α n) (i : Fin n) (f : α → α) : vmodN v i.val f = vmod v i f :=
  dif_pos i.isLt

theorem clockAbsent_eq (s : State) (i : IslandId) : clockAbsent s i.val = raise (s.modPow (clockSet i true)) 0x0A30 [by1 i.val, 1] := by
  simp only [clockAbsent, vmodN_eq_vmod]
  rfl

theorem powIs_settle (o s : State) : PowIs (settle o s) s.pow := by
  rw [PowIs, settle_pow]

theorem present_clockSet {s : State} (i : IslandId) (h : s.pow.absent[i] = true) : present s i.val = false := by
  have habsent : (s.pow.absent.toList.drop i.val).headD false = true := by
    simpa [List.headD_eq_head?_getD] using h
  simp only [present, habsent, Bool.not_true, Bool.and_false]

theorem islandClockAbsent_reports {s : State} {i : IslandId} (hi : islandNumbered i.val = true) (hp : present s i.val = true) :
    Reports (.islandClockAbsent i) s 0x0A30 [BitVec.ofNat 8 i.val, 1] [.pow] fun t =>
      PowIs t { s.pow with absent := vmod s.pow.absent i fun _ => true } ∧ present t i.val = false := by
  have hx : exec (.islandClockAbsent i) s = done s (raise (s.modPow (clockSet i true)) 0x0A30 [by1 i.val, 1]) := by
    rw [← clockAbsent_eq]
    exact congrArg (done s) (if_pos ⟨hi, hp⟩)
  refine reports_of hx (fun p hp => Part.untouched_modPow s _ (List.ne_of_not_mem_cons hp)) rfl ⟨?_, present_clockSet i ?_⟩
  · have h := powIs_settle s (raise (s.modPow (clockSet i true)) 0x0A30 [by1 i.val, 1])
    rwa [raise_pow] at h
  · simp [settle_pow, clockSet]

/-- A path whose REFCLK runs. -/
def refclkOn (x : Path) : Path := { x with refclk := true }

/-- A path whose PLL leaves the internal reference where that ends. -/
def pllLeaves (ends : Bool) (x : Path) : Path := { x with pllInt := x.pllInt && !ends }

theorem refclkBack_eq (s : State) (p : PathId) : refclkBack s p =
    if leaderOf (s.modPath p refclkOn) p = p then
      (groupOf (s.modPath p refclkOn) p).foldl (fun t q => t.modPath q (pllLeaves (s.modPath p refclkOn).paths[p].clkreq))
        (s.modPath p refclkOn)
    else s.modPath p refclkOn := rfl

/-- REFCLK that runs again changes the paths alone, and its path's REFCLK runs (R126). -/
theorem refclkBack_cases (s : State) (p : PathId) : ∃ pa, refclkBack s p = { s with paths := pa } ∧ pa[p].refclk = true := by
  have hself : (s.modPath p refclkOn).paths[p].refclk = true := by
    rw [modPath_path]
    rfl
  rw [refclkBack_eq]
  split
  · refine foldl_holds (fun t : State => ∃ pa, t = { s with paths := pa } ∧ pa[p].refclk = true) _ _ ?_ _ ⟨_, rfl, hself⟩
    rintro _ q ⟨pa, rfl, hpa⟩
    refine ⟨_, rfl, ?_⟩
    rw [← hpa]
    exact modPath_path_field (s := { s with paths := pa }) (f := pllLeaves _) Path.refclk (fun _ => rfl) p
  · exact ⟨_, rfl, hself⟩

theorem exec_islandClockReturned {s : State} {i : IslandId} (h : s.pow.absent[i] = true) :
    exec (.islandClockReturned i) s = done s (raise (match txPath i.val with
      | some p => refclkBack (s.modPow (clockSet i false)) p
      | none => s.modPow (clockSet i false)) 0x0A30 [by1 i.val, 0]) := by
  have hx : exec (.islandClockReturned i) s = done s (clockReturned s i.val) := congrArg (done s) (if_pos h)
  simp only [hx, clockReturned, vmodN_eq_vmod]
  rfl

theorem islandClockReturned_reports {s : State} {i : IslandId} (h : s.pow.absent[i] = true) (hi : i.val < 8 ∨ 12 ≤ i.val) :
    Reports (.islandClockReturned i) s 0x0A30 [BitVec.ofNat 8 i.val, 0] [.pow] fun t =>
      PowIs t { s.pow with absent := vmod s.pow.absent i fun _ => false } := by
  have htx : txPath i.val = none := dif_neg (by omega)
  have hx := exec_islandClockReturned h
  rw [htx] at hx
  refine reports_of hx (fun p hp => Part.untouched_modPow s _ (List.ne_of_not_mem_cons hp)) rfl ?_
  have hpow := powIs_settle s (raise (s.modPow (clockSet i false)) 0x0A30 [by1 i.val, 0])
  rwa [raise_pow] at hpow

/-- With a path's transmit island its REFCLK has returned too (R126). -/
theorem islandClockReturned_refclk {s : State} {i : IslandId} {p : PathId} (h : s.pow.absent[i] = true) (hi : i.val = 8 + p.val) :
    Reports (.islandClockReturned i) s 0x0A30 [BitVec.ofNat 8 i.val, 0] [.pow, .paths] fun t =>
      PowIs t { s.pow with absent := vmod s.pow.absent i fun _ => false } ∧ t.paths[p].refclk = true := by
  have htx : txPath i.val = some p := by
    have hlt := p.isLt
    rw [txPath, dif_pos (by omega)]
    exact congrArg some (Fin.ext (by show i.val - 8 = p.val; omega))
  obtain ⟨pa, hback, hclk⟩ := refclkBack_cases (s.modPow (clockSet i false)) p
  have hx := exec_islandClockReturned h
  rw [htx] at hx
  simp only [hback] at hx
  refine reports_of hx (fun q hq => ?_) rfl ⟨?_, ?_⟩
  · simp only [List.mem_cons, List.not_mem_nil, or_false, not_or] at hq
    cases q
    case pow => exact absurd rfl hq.1
    case paths => exact absurd rfl hq.2
    all_goals rfl
  · have hpow := powIs_settle s (raise { s.modPow (clockSet i false) with paths := pa } 0x0A30 [by1 i.val, 0])
    rwa [raise_pow] at hpow
  · simp only [Fin.getElem_fin] at hclk
    simp only [Fin.getElem_fin, settle_path, raise_paths, hclk]

/-- CORE falls back from its PLL (R48). -/
theorem corePllLoss_reports {s : State} (h : s.win.coreClk = true) :
    Reports .corePllLoss s 0x0A30 [2, 1] [.win] fun t => WinNoted t { s.win with coreClk := false } := by
  have hx : exec .corePllLoss s = done s (raise (s.modWin fun w => { w with coreClk := false }) 0x0A30 [2, 1]) :=
    congrArg (done s) (if_pos h)
  refine reports_of hx (fun p hp => Part.untouched_modWin s _ (List.ne_of_not_mem_cons hp)) rfl ?_
  exact Part.noted_settle (p := .win) s ((raise_noted (s.modWin fun w => { w with coreClk := false }) 0x0A30 [2, 1]).part .win)

/-! ### Pattern checkers -/

theorem checkerLock_reports {s : State} {i : SideId} (hsel : s.sides[i].patSel.toNat % 128 ≠ 0) (hl : s.sides[i].chkLock = false)
    (hd : domOn s 48 = true) : Reports (.checkerLock i) s 0x0D01 [BitVec.ofNat 8 i.val, s.sides[i].patSel] [.sides] fun t =>
      t.sides = vmod s.sides i fun x => { x with chkLock := true } := by
  have hno : ¬(s.sides[i].patSel.toNat % 128 = 0 ∨ s.sides[i].chkLock = true ∨ domOn s 48 = false) := by
    simpa only [hl, hd, Bool.false_eq_true, Bool.true_eq_false, or_false] using hsel
  have hx : exec (.checkerLock i) s =
      done s (raise (s.modSide i fun x => { x with chkLock := true }) 0x0D01 [by1 i.val, s.sides[i].patSel]) :=
    congrArg (done s) (if_neg hno)
  refine reports_of hx (fun p hp => Part.untouched_modSide s i _ (List.ne_of_not_mem_cons hp)) rfl ?_
  rw [settle_sides, raise_sides, modSide_sides]

theorem checkerLockLost_reports {s : State} {i : SideId} (hl : s.sides[i].chkLock = true) :
    Reports (.checkerLockLost i) s 0x0D02 [BitVec.ofNat 8 i.val] [.sides] fun t =>
      t.sides = vmod s.sides i fun x => { x with chkLock := false } := by
  have hx : exec (.checkerLockLost i) s = done s (raise (s.modSide i fun x => { x with chkLock := false }) 0x0D02 [by1 i.val]) :=
    congrArg (done s) (if_pos hl)
  refine reports_of hx (fun p hp => Part.untouched_modSide s i _ (List.ne_of_not_mem_cons hp)) rfl ?_
  rw [settle_sides, raise_sides, modSide_sides]

end Sys2Proof.Machine
end

section
/-! The states of a group's paths (R93, R98), and events that follow a coalesced one (R441). -/

namespace Sys2Proof.Machine

/-! ### Folds that reach elements one by one -/

/-- What a fold over different elements does to a reading per element, where each step changes its own element's alone. -/
theorem foldl_each {α β σ : Type} [DecidableEq α] {g : σ → α → β} {f : σ → α → σ} {u : β → β}
    (h : ∀ s a b, g (f s a) b = if b = a then u (g s b) else g s b) {l : List α} (hl : l.Nodup) (s : σ) (b : α) :
    g (l.foldl f s) b = if b ∈ l then u (g s b) else g s b := by
  induction l generalizing s with
  | nil => simp
  | cons a t ih =>
    obtain ⟨hat, ht⟩ := List.nodup_cons.mp hl
    rw [List.foldl_cons, ih ht, h]
    by_cases hb : b = a
    · subst hb
      simp [hat]
    · simp [hb]

/-- A reading that the steps of a fold over its own elements do not change. -/
theorem foldl_keeps_of_mem {α β σ : Type} {g : σ → β} {f : σ → α → σ} {l : List α} (h : ∀ s, ∀ a ∈ l, g (f s a) = g s) (s : σ) :
    g (l.foldl f s) = g s :=
  List.foldlRecOn (motive := fun t => g t = g s) l f rfl fun t ht a ha => (h t a ha).trans ht

/-! ### Groups -/

theorem mem_groupOf_self (s : State) (p : PathId) : p ∈ groupOf s p := by
  unfold groupOf
  split
  · exact List.mem_singleton_self p
  · split
    · simp
    · split
      · exact List.mem_finRange p
      · exact List.mem_singleton_self p

theorem groupOf_nodup (s : State) (p : PathId) : (groupOf s p).Nodup := by
  unfold groupOf
  split
  · exact List.nodup_singleton p
  · split
    · exact (List.nodup_finRange 4).filter _
    · split
      · exact List.nodup_finRange 4
      · exact List.nodup_singleton p

theorem modPath_fixed {s : State} {p : PathId} {f : Path → Path} (h : f s.paths[p] = s.paths[p]) : s.modPath p f = s := by
  have hv : vmod s.paths p f = s.paths := by rw [vmod, h, Fin.getElem_fin, Vector.set_getElem_self]
  rw [State.modPath, hv]

/-- A path that takes ACTIVE or IDLE, where it is neither DORMANT nor there already (R98). -/
def stateTaken (st : PathState) (x : Path) : Path :=
  if x.st = .dormant ∨ x.st = st then x else { x with st := st, changes := satInc x.changes }

theorem stateTaken_st {st : PathState} {x : Path} (h : x.st ≠ .dormant) : (stateTaken st x).st = st := by
  unfold stateTaken
  split
  · next hx => exact hx.resolve_left h
  · rfl

theorem setPathState_taken {st : PathState} (hst : st ≠ .dormant) (s : State) (q : PathId) :
    (if s.paths[q].st = .dormant then s else setPathState s q st) = s.modPath q (stateTaken st) := by
  by_cases hd : s.paths[q].st = .dormant
  · rw [if_pos hd, modPath_fixed (f := stateTaken st) (if_pos (Or.inl hd))]
  · rw [if_neg hd, setPathState]
    by_cases hs : s.paths[q].st = st
    · rw [if_pos hs, modPath_fixed (f := stateTaken st) (if_pos (Or.inr hs))]
    · have hno : ¬(s.paths[q].st = .dormant ∨ st = .dormant) := fun h => h.elim hd hst
      have hne : ¬(s.paths[q].st = .dormant ∨ s.paths[q].st = st) := fun h => h.elim hd hs
      simp only [if_neg hs, if_neg hno, modPath_modPath]
      simp only [State.modPath, vmod, stateTaken, if_neg hne]

/-- A group that turns ACTIVE or IDLE changes its members' states and nothing else, with no event (R98). -/
theorem setGroupState_cases {st : PathState} (hst : st ≠ .dormant) (s : State) (p : PathId) :
    ∃ pa, setGroupState s p st = { s with paths := pa } ∧
      ∀ q : PathId, pa[q] = if q ∈ groupOf s p then stateTaken st s.paths[q] else s.paths[q] := by
  have heq : setGroupState s p st = (groupOf s p).foldl (fun t q => t.modPath q (stateTaken st)) s := by
    simp only [setGroupState, setPathState_taken hst]
  have hframe : ∃ pa, (groupOf s p).foldl (fun t q => t.modPath q (stateTaken st)) s = { s with paths := pa } := by
    refine foldl_holds (fun t => ∃ pa, t = { s with paths := pa }) _ _ ?_ s ⟨s.paths, rfl⟩
    rintro _ q ⟨pa, rfl⟩
    exact ⟨_, rfl⟩
  obtain ⟨pa, hpa⟩ := hframe
  refine ⟨pa, heq.trans hpa, fun q => ?_⟩
  have heach := foldl_each (g := fun (t : State) (q : PathId) => t.paths[q]) (f := fun t q => t.modPath q (stateTaken st))
    (u := stateTaken st) (fun t a b => ?_) (groupOf_nodup s p) s q
  · rw [hpa] at heach
    exact heach
  · by_cases hb : b = a
    · subst hb
      rw [if_pos rfl, modPath_path]
    · rw [if_neg hb, modPath_path_other hb]

theorem idleIfQuiet_cases (s : State) (p : PathId) : ∃ pa, idleIfQuiet s p = { s with paths := pa } := by
  unfold idleIfQuiet
  split
  · obtain ⟨pa, hpa, -⟩ := setGroupState_cases (st := .idle) (by decide) s p
    exact ⟨pa, hpa⟩
  · exact ⟨s.paths, rfl⟩

/-! ### After a coalesced event -/

/-- A coalesced event of another code stays as it is when one is counted. -/
theorem noteEvent_coal {s : State} {x : Coalesced} {c : Nat} (hx : x ∈ s.mbx.coal) (hc : x.code ≠ BitVec.ofNat 16 c) (k d : List Byte) :
    x ∈ (noteEvent s c k d).mbx.coal := by
  unfold noteEvent
  dsimp only
  split
  · exact List.mem_map.mpr ⟨x, hx, if_neg (by simp [hc])⟩
  · exact List.mem_append_left _ hx

/-- An entry written at once touches no coalesced event but those of EVT records skipped, 0x060B (R223). -/
theorem emit_coal {s : State} {x : Coalesced} (hx : x ∈ s.mbx.coal) (hc : x.code ≠ 0x060B) (c : Nat) (n : BitVec 16) (d : List Byte)
    (st : Stamp) : x ∈ (emit s c n d st).mbx.coal := by
  have hring (t : State) (e : EventEntry) : (ringEvent t e).mbx.coal = t.mbx.coal := by
    unfold ringEvent
    split <;> rfl
  have hplace (t : State) (e : EventEntry) : (placeEvent t e).mbx.coal = t.mbx.coal := by
    unfold placeEvent
    split
    · exact hring t e
    · split <;> rfl
  have hrecord (e : EventEntry) (t : State) (k : SessionId) (h : x ∈ t.mbx.coal) : x ∈ (evtRecord e t k).mbx.coal := by
    unfold evtRecord
    split
    · exact h
    · exact noteEvent_coal (s := t.modSvc _) h hc _ _
  have hrecords (t : State) (e : EventEntry) (h : x ∈ t.mbx.coal) : x ∈ (evtRecords t c e).mbx.coal := by
    unfold evtRecords
    split
    · exact foldl_holds (fun v : State => x ∈ v.mbx.coal) _ _ (hrecord e) t h
    · exact h
  have hstage (t : State) (e : EventEntry) : (stageLog t c e).mbx = t.mbx := by
    unfold stageLog
    split
    · rfl
    · split <;> rfl
  unfold emit
  rw [hstage]
  refine hrecords _ _ ?_
  rw [hplace]
  exact hx

/-- An event that is coalesced per sheet stands as it did when one that is not coalesced follows it. -/
theorem Raised.before {s t : State} {c c' : Nat} {d d' key : List Byte} (h : Raised s t c d) (hl : limitOf c d = .sheet key)
    (hc : BitVec.ofNat 16 c ≠ 0x060B) (hl' : limitOf c' d' = .none) : Raised s (raise t c' d') c d := by
  unfold Raised at h ⊢
  rw [hl] at h ⊢
  obtain ⟨x, hx, hcode, hkey, hcount⟩ := h
  refine ⟨x, ?_, hcode, hkey, hcount⟩
  rw [raise, hl']
  exact emit_coal hx (hcode ▸ hc) _ _ _ _

end Sys2Proof.Machine
end

section
/-! Electrical idle, lost lock, slips and elastic adjustments of lanes (R86, R88, R94, R98, R102, R121, R146, R150, R154). -/

namespace Sys2Proof.Machine

/-! ### Sides and lanes -/

theorem sideOf_laneOf_endOf (i : SideId) : sideOf (laneOf i) (endOf i) = i := by
  apply Fin.ext
  show 2 * (i.val / 2) + i.val % 2 = i.val
  omega

theorem side_ext {i j : SideId} (hl : laneOf i = laneOf j) (he : endOf i = endOf j) : i = j := by
  rw [← sideOf_laneOf_endOf i, hl, he, sideOf_laneOf_endOf]

theorem pathOfLane_laneOf (i : SideId) : pathOfLane (laneOf i) = pathOf i := by
  apply Fin.ext
  show i.val / 2 / 4 = i.val / 8
  omega

theorem endOf_sideOf (l : LaneId) (e : Fin 2) : endOf (sideOf l e) = e := by
  apply Fin.ext
  show (2 * l.val + e.val) % 2 = e.val
  omega

theorem modLane_lane (s : State) (l : LaneId) (f : Lane → Lane) : (s.modLane l f).lanes[l] = f s.lanes[l] := vmod_get s.lanes l f

theorem modSide_side (s : State) (i : SideId) (f : Side → Side) : (s.modSide i f).sides[i] = f s.sides[i] := vmod_get s.sides i f

theorem vmod_same {α : Type} {n : Nat} (v : Vector α n) (i : Fin n) (f : α → α) : (vmod v i f)[i] = f v[i] := vmod_get v i f

/-! ### A receiver leaves electrical idle -/

/-- `t` is `s` but for one lane, whose electrical idle and PIN_LAT stay, the sides, and the open values used. -/
structure LaneOnly (l : LaneId) (s t : State) : Prop where
  rest : t = { s with sides := t.sides, lanes := t.lanes, free := t.free }
  others : ∀ k : LaneId, k ≠ l → t.lanes[k] = s.lanes[k]
  ei : t.lanes[l].ei = s.lanes[l].ei
  pin : t.lanes[l].pin = s.lanes[l].pin

theorem LaneOnly.refl (l : LaneId) (s : State) : LaneOnly l s s := ⟨rfl, fun _ _ => rfl, rfl, rfl⟩

theorem LaneOnly.trans {l : LaneId} {s t u : State} (h : LaneOnly l s t) (k : LaneOnly l t u) : LaneOnly l s u := by
  refine ⟨?_, fun j hj => (k.others j hj).trans (h.others j hj), k.ei.trans h.ei, k.pin.trans h.pin⟩
  have hu := k.rest
  rw [h.rest] at hu
  exact hu

theorem LaneOnly.modLane {l : LaneId} (s : State) {f : Lane → Lane} (he : ∀ x, (f x).ei = x.ei) (hp : ∀ x, (f x).pin = x.pin) :
    LaneOnly l s (s.modLane l f) :=
  ⟨rfl, fun _ hk => modLane_lane_other hk, by rw [modLane_lane, he], by rw [modLane_lane, hp]⟩

theorem LaneOnly.modSide (l : LaneId) (s : State) (i : SideId) (f : Side → Side) : LaneOnly l s (s.modSide i f) :=
  ⟨rfl, fun _ _ => rfl, rfl, rfl⟩

theorem LaneOnly.usedFree (l : LaneId) (s : State) : LaneOnly l s s.usedFree := ⟨rfl, fun _ _ => rfl, rfl, rfl⟩

theorem LaneOnly.paths {l : LaneId} {s t : State} (h : LaneOnly l s t) : t.paths = s.paths := by rw [h.rest]

theorem LaneOnly.untouched {l : LaneId} {s t : State} (h : LaneOnly l s t) {p : Part} (hp : p ∉ [Part.lanes, .sides, .free]) :
    p.untouched s t := by
  rw [h.rest]
  cases p
  case lanes | sides | free => exact absurd (by decide) hp
  all_goals rfl

theorem startData_only (s : State) (i : SideId) : LaneOnly (laneOf i) s (startData s i) :=
  ((LaneOnly.modLane s (by exact fun _ => rfl) (by exact fun _ => rfl)).trans (LaneOnly.modSide _ _ i _)).trans (LaneOnly.usedFree _ _)

theorem startTraining_only (s : State) (i : SideId) : LaneOnly (laneOf i) s (startTraining s i) :=
  (LaneOnly.modLane s (by exact fun _ => rfl) (by exact fun _ => rfl)).trans (LaneOnly.modSide _ _ i _)

theorem startDatapath_only (s : State) (i : SideId) : LaneOnly (laneOf i) s (startDatapath s i) := by
  unfold startDatapath
  split
  · exact startTraining_only s i
  · exact startData_only s i

theorem startBackplane_only (s : State) (i : SideId) : LaneOnly (laneOf i) s (startBackplane s i) := by
  have hjoin (t : State) : LaneOnly (laneOf i) t (if t.lanes[laneOf i].seg[endOf (opposite i)] = 4 then startData t i
      else if anOver t (laneOf i) then startDatapath t i
      else t.modLane (laneOf i) fun x => { x with seg := vmod x.seg (endOf i) fun _ => 1 }) := by
    split
    · exact startData_only t i
    · split
      · exact startDatapath_only t i
      · exact LaneOnly.modLane t (by exact fun _ => rfl) (by exact fun _ => rfl)
  unfold startBackplane
  dsimp only
  split
  · exact (LaneOnly.modLane s (by exact fun _ => rfl) (by exact fun _ => rfl)).trans (hjoin _)
  · exact hjoin s

theorem startReceiver_only (s : State) (i : SideId) : LaneOnly (laneOf i) s (startReceiver s i) := by
  unfold startReceiver
  dsimp only
  split
  · exact (LaneOnly.modLane s (by exact fun _ => rfl) (by exact fun _ => rfl)).trans (LaneOnly.modSide _ _ i _)
  · split
    · exact startBackplane_only s i
    · exact LaneOnly.refl _ s

theorem forward_only (l : LaneId) (s : State) (i : SideId) : LaneOnly l s (forward s i) := by
  unfold forward
  split
  · exact LaneOnly.modSide l s _ _
  · exact LaneOnly.refl l s

/-- A lane as it is set when one of its receivers leaves electrical idle (R88, R153, R176). -/
def laneAwake (y : Path) (e : Fin 2) (phase : Nat) (x : Lane) : Lane :=
  let x := { x with ei := vmod x.ei e fun _ => false, pin := y.pinLat }
  let x := if pcMode y.cfg = 5 ∨ pcMode y.cfg = 6 then { x with lineCfg := y.lineCfg } else x
  { x with fill := vmod x.fill e fun _ => startFill y x.pin phase }

theorem laneAwake_ei (y : Path) (e : Fin 2) (phase : Nat) (x : Lane) : (laneAwake y e phase x).ei = vmod x.ei e fun _ => false := by
  simp only [laneAwake]
  split <;> rfl

theorem laneAwake_pin (y : Path) (e : Fin 2) (phase : Nat) (x : Lane) : (laneAwake y e phase x).pin = y.pinLat := by
  simp only [laneAwake]
  split <;> rfl

/-- `s` with a receiver awake: its lane set, its measurement of pinning begun afresh. -/
def sideAwake (s : State) (i : SideId) : State :=
  (s.modLane (laneOf i) (laneAwake s.paths[pathOf i] (endOf i) (startPhase s))).usedFree.modSide i fun x =>
    { x with pinned := false, pinValid := false, pinPhase := 0 }

section
variable {s : State} {i : SideId} (hon : laneOn s (laneOf i) = true) (hd : domOn s (i.val + 1) = true)
include hon hd

theorem exec_receiverEiExit (hei : s.lanes[laneOf i].ei[endOf i] = true) (hf : forming s.paths[pathOf i] = false) :
    exec (.receiverEiExit i) s =
      done s (forward (startReceiver (setGroupState (sideAwake s i) (pathOf i) .active) i) i) := by
  have hx : exec (.receiverEiExit i) s = done s
      (if laneOn s (laneOf i) = false ∨ domOn s (i.val + 1) = false ∨ s.lanes[laneOf i].ei[endOf i] = false then s
      else if forming s.paths[pathOf i] then sideAwake s i
      else forward (startReceiver (setGroupState (sideAwake s i) (pathOf i) .active) i) i) := rfl
  have hno : ¬(laneOn s (laneOf i) = false ∨ domOn s (i.val + 1) = false ∨ s.lanes[laneOf i].ei[endOf i] = false) := by
    rw [hon, hd, hei]
    decide
  rw [hx, if_neg hno, hf, if_neg Bool.false_ne_true]

/-- A receiver that leaves electrical idle gives its lane PIN_LAT and its path ACTIVE (R88, R98). -/
theorem receiverEiExit_wakes (hei : s.lanes[laneOf i].ei[endOf i] = true) (hf : forming s.paths[pathOf i] = false)
    (hst : s.paths[pathOf i].st ≠ .dormant) :
    Affects (.receiverEiExit i) s [.lanes, .sides, .paths, .free] fun t =>
      t.lanes[laneOf i].ei[endOf i] = false ∧ t.paths[pathOf i].st = .active ∧ t.lanes[laneOf i].pin = s.paths[pathOf i].pinLat ∧
      ∀ k : LaneId, k ≠ laneOf i → t.lanes[k] = s.lanes[k] := by
  obtain ⟨pa, hgroup, hpa⟩ := setGroupState_cases (st := .active) (by decide) (sideAwake s i) (pathOf i)
  have honly := (startReceiver_only (setGroupState (sideAwake s i) (pathOf i) .active) i).trans (forward_only (laneOf i) _ i)
  have hawake : (setGroupState (sideAwake s i) (pathOf i) .active).lanes =
      vmod s.lanes (laneOf i) (laneAwake s.paths[pathOf i] (endOf i) (startPhase s)) := by
    rw [hgroup]
    rfl
  refine affects_of (exec_receiverEiExit hon hd hei hf) (fun q hq => Part.noted_of_kept (Part.kept_of_untouched ?_))
    ⟨?_, ?_, ?_, fun k hk => ?_⟩
  · refine Part.untouched_trans (t := setGroupState (sideAwake s i) (pathOf i) .active) ?_ (honly.untouched (by simp_all))
    rw [hgroup]
    cases q
    case lanes | sides | paths | free => exact absurd (by decide) hq
    all_goals rfl
  · rw [settle_lanes, honly.ei, hawake, vmod_same, laneAwake_ei, vmod_same]
  · have hp := hpa (pathOf i)
    rw [if_pos (mem_groupOf_self _ _)] at hp
    have hpaths := honly.paths
    rw [hgroup] at hpaths
    simp only [Fin.getElem_fin] at hp
    simp only [Fin.getElem_fin, settle_path, hgroup, hpaths, hp]
    exact stateTaken_st hst
  · rw [settle_lanes, honly.pin, hawake, vmod_same, laneAwake_pin]
  · rw [settle_lanes, honly.others k hk, hawake]
    exact vmod_get_other _ _ _ _ hk.symm

/-! ### A receiver enters electrical idle -/

/-- A receiver that enters electrical idle empties its buffer and idles the transmitter across (R98). -/
theorem receiverEiEntry_idles (hei : s.lanes[laneOf i].ei[endOf i] = false) (hn : neverIdle s (laneOf i) = false) :
    Affects (.receiverEiEntry i) s [.lanes, .sides, .paths] fun t =>
      t.lanes[laneOf i].ei[endOf i] = true ∧ t.lanes[laneOf i].lock[endOf i] = false ∧ t.lanes[laneOf i].fill[endOf i] = 0 ∧
      t.sides[opposite i].txIdle = true ∧ ∀ k : LaneId, k ≠ laneOf i → t.lanes[k] = s.lanes[k] := by
  have hno : ¬(laneOn s (laneOf i) = false ∨ domOn s (i.val + 1) = false ∨ s.lanes[laneOf i].ei[endOf i] = true ∨
      neverIdle s (laneOf i) = true) := by
    rw [hon, hd, hei, hn]
    decide
  have hx : exec (.receiverEiEntry i) s = done s (idleIfQuiet (enterIdle s i) (pathOf i)) := congrArg (done s) (if_neg hno)
  obtain ⟨pa, hquiet⟩ := idleIfQuiet_cases (enterIdle s i) (pathOf i)
  rw [hquiet] at hx
  have hlanes : (enterIdle s i).lanes = vmod s.lanes (laneOf i) fun x => { x with
      ei := vmod x.ei (endOf i) fun _ => true, lock := vmod x.lock (endOf i) fun _ => false
      fill := vmod x.fill (endOf i) fun _ => 0, seg := vmod x.seg (endOf i) fun _ => 0
      rr := vmod x.rr (endOf i) fun _ => false, align := vmod x.align (endOf i) fun _ => false
      reqDone := vmod x.reqDone (endOf i) fun _ => false, rrSent := false } := rfl
  refine affects_of hx (fun q hq => Part.noted_of_kept (Part.kept_of_untouched ?_)) ⟨?_, ?_, ?_, ?_, fun k hk => ?_⟩
  · cases q
    case lanes | sides | paths => exact absurd (by decide) hq
    all_goals rfl
  · rw [settle_lanes, hlanes, vmod_same, vmod_same]
  · rw [settle_lanes, hlanes, vmod_same, vmod_same]
  · rw [settle_lanes, hlanes, vmod_same, vmod_same]
  · rw [settle_sides]
    exact congrArg Side.txIdle (modSide_side _ (opposite i) _)
  · rw [settle_lanes, hlanes]
    exact vmod_get_other _ _ _ _ hk.symm

/-! ### Lost lock -/

omit hon hd in
/-- `s` with a receiver's lock lost, before its events: a transparent side leaves data, and electrical idle is passed on (R102). -/
def lockLost (s : State) (i : SideId) : State :=
  let t := s.modLane (laneOf i) fun x => { x with lock := vmod x.lock (endOf i) fun _ => false }
  let t := if pcMode s.paths[pathOf i].cfg = 5 then t.modSide i leaveData else t
  if t.lanes[laneOf i].ei[endOf i] then t.modSide (opposite i) fun x => { x with txIdle := true } else t

omit hon hd in
theorem lockLost_cases (s : State) (i : SideId) : ∃ si, lockLost s i = { s with
    sides := si, lanes := vmod s.lanes (laneOf i) fun x => { x with lock := vmod x.lock (endOf i) fun _ => false } } := by
  unfold lockLost
  dsimp only
  split
  · split
    · exact ⟨_, rfl⟩
    · exact ⟨_, rfl⟩
  · split
    · exact ⟨_, rfl⟩
    · exact ⟨_, rfl⟩

/-- Lost lock is reported, and once more where other lanes of the link still hold (R102). -/
theorem laneLockLost_reports : Reports (.laneLockLost i) s 0x0101 [BitVec.ofNat 8 i.val] [.lanes, .sides] fun t =>
    t.lanes = vmod s.lanes (laneOf i) fun x => { x with lock := vmod x.lock (endOf i) fun _ => false } := by
  obtain ⟨si, hlost⟩ := lockLost_cases s i
  obtain ⟨d, hraise⟩ : ∃ d, exec (.laneLockLost i) s = done s
      (if (linkLanes s (laneOf i)).any fun k => k != laneOf i && s.lanes[k].lock[endOf i] then
        raise (raise (lockLost s i) 0x0101 [by1 i.val]) 0x0103 d
      else raise (lockLost s i) 0x0101 [by1 i.val]) :=
    ⟨_, congrArg (done s) (if_neg (by rw [hon, hd]; decide))⟩
  have hpart {q : Part} (hq : q ∉ [Part.lanes, .sides]) : q.untouched s (lockLost s i) := by
    rw [hlost]
    cases q
    case lanes | sides => exact absurd (by decide) hq
    all_goals rfl
  have hview : eventView (lockLost s i) = eventView s := by
    rw [hlost]
    rfl
  have hlanes : (lockLost s i).lanes =
      vmod s.lanes (laneOf i) fun x => { x with lock := vmod x.lock (endOf i) fun _ => false } := by rw [hlost]
  split at hraise
  · refine affects_of hraise (fun q hq => ?_) ⟨Raised.settle ?_ s, ?_⟩
    · exact Part.noted_of_untouched (hpart hq) (((raise_noted _ _ _).trans (raise_noted _ _ _)).part q)
    · exact (raised_in hview rfl rfl).before rfl (by decide) rfl
    · beta_reduce
      rw [settle_lanes, raise_lanes, raise_lanes, hlanes]
  · refine reports_of hraise (fun q hq => hpart hq) hview ?_
    rw [settle_lanes, raise_lanes, hlanes]

/-! ### Slips and kerfs -/

omit hon hd in
/-- A lane with one of its buffers at a fill. -/
def fillSet (e : Fin 2) (n : Nat) (x : Lane) : Lane := { x with fill := vmod x.fill e fun _ => n }

omit hon hd in
/-- A side with one more slip counted. -/
def slipCounted (x : Side) : Side := { x with slips := satInc x.slips }

omit hd in
theorem exec_bufferSlip {d : Dir} (hi : i = dirSide (laneOf i) d) (hp : domOn s (33 + (pathOf i).val) = true) :
    exec (.bufferSlip (laneOf i) d) s = done s (raise ((s.usedFree.modLane (laneOf i)
      (fillSet (endOf i) (startFill s.paths[pathOf i] s.lanes[laneOf i].pin (startPhase s)))).modSide i slipCounted) 0x0102
        [by1 (laneOf i).val, by1 (dirCode d)]) := by
  have hx : exec (.bufferSlip (laneOf i) d) s = done s
      (if laneOn s (laneOf i) = false ∨ domOn s (33 + (pathOfLane (laneOf i)).val) = false then s
      else raise ((s.usedFree.modLane (laneOf i) (fillSet (endOf (dirSide (laneOf i) d))
        (startFill s.paths[pathOfLane (laneOf i)] s.lanes[laneOf i].pin (startPhase s)))).modSide (dirSide (laneOf i) d) slipCounted)
          0x0102 [by1 (laneOf i).val, by1 (dirCode d)]) := rfl
  have hno : ¬(laneOn s (laneOf i) = false ∨ domOn s (33 + (pathOf i).val) = false) := by
    rw [hon, hp]
    decide
  rw [hx, ← hi]
  simp only [pathOfLane_laneOf, if_neg hno]

omit hd in
/-- A slip starts its buffer afresh and is counted (R86). -/
theorem bufferSlip_reports {d : Dir} (hi : i = dirSide (laneOf i) d) (hp : domOn s (33 + (pathOf i).val) = true) :
    Reports (.bufferSlip (laneOf i) d) s 0x0102 [BitVec.ofNat 8 (laneOf i).val, if d = .down then 0 else 1] [.lanes, .sides, .free]
      fun t => t.sides = (vmod s.sides i fun x => { x with slips := satInc x.slips }) ∧
        t.lanes[laneOf i].fill[endOf i] = startFill s.paths[pathOf i] s.lanes[laneOf i].pin (startPhase s) := by
  have hcode : by1 (dirCode d) = if d = .down then 0 else 1 := by cases d <;> rfl
  have hx := exec_bufferSlip hon hi hp
  rw [hcode] at hx
  refine reports_of hx (fun q hq => ?_) rfl ⟨?_, ?_⟩
  · cases q
    case lanes | sides | free => exact absurd (by decide) hq
    all_goals rfl
  · rw [settle_sides, raise_sides]
    rfl
  · rw [settle_lanes, raise_lanes, modSide_lanes, modLane_lane, fillSet, vmod_same]

omit hon in
theorem hasKerf_eq : hasKerf s i = inData s i := by rw [hasKerf, hd, Bool.true_and]

omit hon in
theorem noKerfTimeout_reports (h : inData s i = true) : Reports (.noKerfTimeout i) s 0x0214
    [BitVec.ofNat 8 i.val, BitVec.ofNat 8 (pcMode s.paths[pathOf i].cfg)] [] fun _ => True := by
  have hx : exec (.noKerfTimeout i) s = done s (raise s 0x0214 [by1 i.val, by1 (pcMode s.paths[pathOf i].cfg)]) :=
    congrArg (done s) (if_pos ((hasKerf_eq hd).trans h))
  exact reports_of hx (fun p _ => p.untouched_refl s) rfl trivial

omit hon in
theorem noKerfTimeout_nothing (h : inData s i = false) : Does (.noKerfTimeout i) s [] fun _ => True :=
  does_nothing (congrArg (done s) (if_neg (by rw [hasKerf_eq hd, h]; exact Bool.false_ne_true)))

/-! ### A transparent receiver locks -/

omit hon hd in
theorem enterData_fresh {x : Side} (h : x.adapted = false) : (enterData x).calValid = false ∧ (enterData x).left.pos = -8 ∧
    (enterData x).right.pos = 8 := by
  simp [enterData, leaveData, h]

theorem transparentAcquire_locks (hm : pcMode s.paths[pathOf i].cfg = 5) (hei : s.lanes[laneOf i].ei[endOf i] = false)
    (hl : s.lanes[laneOf i].lock[endOf i] = false) (ha : s.sides[i].adapted = false) :
    Does (.transparentAcquire i) s [.lanes, .sides] fun t =>
      t.lanes = (vmod s.lanes (laneOf i) fun x => { x with lock := vmod x.lock (endOf i) fun _ => true }) ∧
      t.sides[i].calValid = false ∧ t.sides[i].left.pos = -8 ∧ t.sides[i].right.pos = 8 ∧
      ∀ j : SideId, j ≠ i → t.sides[j] = s.sides[j] := by
  have hno : ¬(laneOn s (laneOf i) = false ∨ (pcMode s.paths[pathOf i].cfg ≠ 5 ∧ pcMode s.paths[pathOf i].cfg ≠ 6) ∨
      s.lanes[laneOf i].ei[endOf i] = true ∨ s.lanes[laneOf i].lock[endOf i] = true ∨ domOn s (i.val + 1) = false) := by
    rw [hon, hd, hm, hei, hl]
    decide
  have hx : exec (.transparentAcquire i) s = done s
      ((s.modLane (laneOf i) fun x => { x with lock := vmod x.lock (endOf i) fun _ => true }).modSide i enterData) :=
    congrArg (done s) ((if_neg hno).trans (if_pos hm))
  obtain ⟨hvalid, hleft, hright⟩ := enterData_fresh ha
  refine does_of hx (fun p hp => ?_) ⟨rfl, ?_, ?_, ?_, fun j hj => ?_⟩
  · cases p
    case lanes | sides => exact absurd (by decide) hp
    all_goals rfl
  · exact (congrArg Side.calValid (modSide_side _ i enterData)).trans hvalid
  · exact (congrArg (fun x : Side => x.left.pos) (modSide_side _ i enterData)).trans hleft
  · exact (congrArg (fun x : Side => x.right.pos) (modSide_side _ i enterData)).trans hright
  · exact modSide_side_other hj
end

end Sys2Proof.Machine
end

section
/-! Elastic adjustments of a link (R86, R94, R121, R145, R179), and the rows of lanes, clocks and checkers together. -/

namespace Sys2Proof.Machine

/-! ### One buffer -/

/-- The fill of a side's buffer. -/
def fillOf (s : State) (j : SideId) : Nat := s.lanes[laneOf j].fill[endOf j]

theorem fillOf_fillSet (s : State) (i j : SideId) (n : Nat) :
    fillOf (s.modLane (laneOf i) (fillSet (endOf i) n)) j = if j = i then n else fillOf s j := by
  unfold fillOf
  by_cases hl : laneOf j = laneOf i
  · by_cases he : endOf j = endOf i
    · obtain rfl := side_ext hl he
      rw [modLane_lane, fillSet, vmod_same, if_pos rfl]
    · have hne : j ≠ i := fun e => he (by rw [e])
      simp only [hl, modLane_lane, if_neg hne]
      exact vmod_get_other _ _ _ _ (Ne.symm he)
  · have hne : j ≠ i := fun e => hl (by rw [e])
    rw [modLane_lane_other hl, if_neg hne]

/-- A side with an insertion or a deletion counted (R179). -/
def adjustCounted (d : Int) (x : Side) : Side :=
  if 0 < d then { x with inserts := satInc x.inserts } else { x with deletes := satInc x.deletes }

/-- One adjustment sets its own side's fill and counts, takes one open value and writes a trace entry. -/
theorem adjustFill_cases (d : Int) (s : State) (i : SideId) : ∃ w m, adjustFill d s i = { s with
    win := w, mbx := m, lanes := vmod s.lanes (laneOf i) (fillSet (endOf i) (160 + s.openNat % 321))
    sides := vmod s.sides i (adjustCounted d), free := s.free + 1 } := by
  have heq : adjustFill d s i = trace (((s.modLane (laneOf i) (fillSet (endOf i) (160 + s.openNat % 321))).usedFree).modSide i
      (adjustCounted d)) 1 (32 + i.val) (fieldOf 16 d) s.now := rfl
  obtain ⟨w, m, htrace⟩ := trace_cases (((s.modLane (laneOf i) (fillSet (endOf i) (160 + s.openNat % 321))).usedFree).modSide i
    (adjustCounted d)) 1 (32 + i.val) (fieldOf 16 d) s.now
  exact ⟨w, m, heq.trans htrace⟩

theorem adjustFill_fillOf (d : Int) (s : State) (i j : SideId) :
    fillOf (adjustFill d s i) j = if j = i then 160 + s.openNat % 321 else fillOf s j := by
  obtain ⟨w, m, h⟩ := adjustFill_cases d s i
  rw [h]
  exact fillOf_fillSet s i j _

theorem adjustFill_side (d : Int) (s : State) (i j : SideId) :
    (adjustFill d s i).sides[j] = if j = i then adjustCounted d s.sides[j] else s.sides[j] := by
  obtain ⟨w, m, h⟩ := adjustFill_cases d s i
  rw [h]
  by_cases hj : j = i
  · subst hj
    rw [if_pos rfl]
    exact vmod_same _ _ _
  · rw [if_neg hj]
    exact vmod_get_other _ _ _ _ (Ne.symm hj)

/-! ### The buffers of a link -/

theorem lanesOf_nodup (p : PathId) : (lanesOf p).Nodup := (List.nodup_finRange 16).filter _

theorem linkLanes_nodup (s : State) (l : LaneId) : (linkLanes s l).Nodup := by
  unfold linkLanes
  split
  · refine List.Nodup.filter _ (List.nodup_flatten.mpr ⟨fun x hx => ?_, ?_⟩)
    · obtain ⟨q, -, rfl⟩ := List.mem_map.mp hx
      exact lanesOf_nodup q
    · refine List.pairwise_map.mpr ((groupOf_nodup s _).imp fun {p q} hpq => ?_)
      intro k hp hq
      exact hpq ((mem_lanesOf.mp hp).symm.trans (mem_lanesOf.mp hq))
  · exact List.nodup_singleton l

theorem adjustedSides_nodup (s : State) (i : SideId) (far : Bool) : (adjustedSides s i far).Nodup := by
  unfold adjustedSides
  split
  · exact List.nodup_singleton i
  · refine List.Nodup.filter _ (List.Nodup.map_on (fun k _ l _ h => ?_) (linkLanes_nodup s (laneOf i)))
    rw [← laneOf_sideOf k (endOf i), h, laneOf_sideOf]

/-- The buffers of a link after one adjustment of each (R86, R93). -/
def linkAdjusted (d : Int) (s : State) (l : List SideId) : State := l.foldl (adjustFill d) s

theorem linkAdjusted_cases (d : Int) (s : State) (l : List SideId) : ∃ w m la si fr,
    linkAdjusted d s l = { s with win := w, mbx := m, lanes := la, sides := si, free := fr } := by
  refine foldl_holds (fun t => ∃ w m la si fr, t = { s with win := w, mbx := m, lanes := la, sides := si, free := fr }) _ _ ?_ s
    ⟨s.win, s.mbx, s.lanes, s.sides, s.free, rfl⟩
  rintro _ i ⟨w, m, la, si, fr, rfl⟩
  obtain ⟨w', m', h⟩ := adjustFill_cases d { s with win := w, mbx := m, lanes := la, sides := si, free := fr } i
  exact ⟨w', m', _, _, _, h⟩

theorem linkAdjusted_side (d : Int) (s : State) {l : List SideId} (hl : l.Nodup) (j : SideId) :
    (linkAdjusted d s l).sides[j] = if j ∈ l then adjustCounted d s.sides[j] else s.sides[j] :=
  foldl_each (g := fun (t : State) (j : SideId) => t.sides[j]) (fun t i j => adjustFill_side d t i j) hl s j

/-- Every buffer adjusted stands near 8 words, and no other moves (R100). -/
theorem linkAdjusted_fill (d : Int) (s : State) (l : List SideId) (j : SideId) :
    if j ∈ l then 160 ≤ fillOf (linkAdjusted d s l) j ∧ fillOf (linkAdjusted d s l) j ≤ 480
    else fillOf (linkAdjusted d s l) j = fillOf s j := by
  have hopen (t : State) : 160 ≤ 160 + t.openNat % 321 ∧ 160 + t.openNat % 321 ≤ 480 := by omega
  split
  · next hj =>
    refine foldl_establishes (fun j t => 160 ≤ fillOf t j ∧ fillOf t j ≤ 480) (adjustFill d) (fun t i => ?_) (fun t i k hk => ?_)
      l s j hj
    · rw [adjustFill_fillOf, if_pos rfl]
      exact hopen t
    · rw [adjustFill_fillOf]
      split
      · exact hopen t
      · exact hk
  · next hj =>
    refine foldl_keeps_of_mem (g := fun t => fillOf t j) (fun t i hi => ?_) s
    exact (adjustFill_fillOf d t i j).trans (if_neg fun e : j = i => hj (e ▸ hi))

/-- A path with one more deskew error counted. -/
def deskewCounted (x : Path) : Path := { x with deskew := satInc x.deskew }

/-- A skew beyond what the device tolerates counted on its path, with event 0x0107 (R94). -/
def skewCounted (far : Bool) (p : PathId) (u : State) : State :=
  if far then raise (u.modPath p deskewCounted) 0x0107 [by1 p.val] else u

theorem skewCounted_true (p : PathId) (u : State) :
    skewCounted true p u = raise (u.modPath p deskewCounted) 0x0107 [by1 p.val] := rfl

theorem skewCounted_sides (far : Bool) (p : PathId) (u : State) : (skewCounted far p u).sides = u.sides := by
  cases far
  · rfl
  · rw [skewCounted_true, raise_sides, modPath_sides]

theorem skewCounted_lanes (far : Bool) (p : PathId) (u : State) : (skewCounted far p u).lanes = u.lanes := by
  cases far
  · rfl
  · rw [skewCounted_true, raise_lanes, modPath_lanes]

theorem skewCounted_path (far : Bool) (p : PathId) (u : State) (q : PathId) :
    (skewCounted far p u).paths[q] = if q = p ∧ far = true then deskewCounted u.paths[q] else u.paths[q] := by
  cases far
  · simp [skewCounted]
  · have hraise : (skewCounted true p u).paths = (u.modPath p deskewCounted).paths := by
      rw [skewCounted_true, raise_paths]
    simp only [hraise, and_true]
    split
    · next hq => exact hq ▸ modPath_path u p deskewCounted
    · next hq => exact modPath_path_other hq

theorem skewCounted_noted (far : Bool) (p : PathId) (u : State) {q : Part} (hq : q ≠ .paths) : q.noted u (skewCounted far p u) := by
  cases far
  · exact Part.noted_of_kept (Part.kept_of_untouched (q.untouched_refl u))
  · rw [skewCounted_true]
    exact Part.noted_of_untouched (Part.untouched_modPath u p _ hq) ((raise_noted _ _ _).part q)

/-- The UI an adjustment of a side's buffers moves, positive for an insertion. -/
def adjustUi (s : State) (i : SideId) (n : Int) : Int :=
  if 0 < n then (skpUnit s.paths[pathOf i] : Nat) else -(skpUnit s.paths[pathOf i] : Nat)

theorem adjustUi_pos {s : State} {i : SideId} {n : Int} (hu : skpUnit s.paths[pathOf i] ≠ 0) : 0 < adjustUi s i n ↔ 0 < n := by
  unfold adjustUi
  split <;> omega

/-- Elastic buffers that adjust together are each counted and come back near 8 words; a skew beyond what the device tolerates is
counted too, with its event (R86, R94, R121, R145, R179). -/
theorem skpAdjustment_adjusts {s : State} {i : SideId} {n : Int} {far : Bool} (ha : adjustable s i = true)
    (hu : skpUnit s.paths[pathOf i] ≠ 0) (hn : n ≠ 0) :
    Affects (.skpAdjustment i n far) s [.lanes, .sides, .paths, .win, .mbx, .free] fun t =>
      (∀ j : SideId, t.sides[j] = if j ∈ adjustedSides s i far then
        (if 0 < n then { s.sides[j] with inserts := satInc s.sides[j].inserts } else { s.sides[j] with deletes := satInc s.sides[j].deletes })
        else s.sides[j]) ∧
      (∀ j : SideId, if j ∈ adjustedSides s i far then 160 ≤ t.lanes[laneOf j].fill[endOf j] ∧ t.lanes[laneOf j].fill[endOf j] ≤ 480
        else t.lanes[laneOf j].fill[endOf j] = s.lanes[laneOf j].fill[endOf j]) ∧
      ∀ q : PathId, { t.paths[q] with idleNs := s.paths[q].idleNs } =
        if q = pathOf i ∧ far = true then { s.paths[q] with deskew := satInc s.paths[q].deskew } else s.paths[q] := by
  obtain ⟨w, m, la, si, fr, hframe⟩ := linkAdjusted_cases (adjustUi s i n) s (adjustedSides s i far)
  have hno : ¬(adjustable s i = false ∨ ((skpUnit s.paths[pathOf i] : Nat) : Int) = 0 ∨ n = 0) := by
    simpa [ha, hn] using hu
  have hx : exec (.skpAdjustment i n far) s =
      done s (skewCounted far (pathOf i) (linkAdjusted (adjustUi s i n) s (adjustedSides s i far))) := congrArg (done s) (if_neg hno)
  refine affects_of hx (fun q hq => ?_) ⟨fun j => ?_, fun j => ?_, fun q => ?_⟩
  · refine Part.noted_of_untouched ?_ (skewCounted_noted far _ _ fun e => hq (by simp [e]))
    rw [hframe]
    cases q
    case lanes | sides | paths | win | mbx | free => exact absurd (by decide) hq
    all_goals rfl
  · rw [settle_sides, skewCounted_sides, linkAdjusted_side _ s (adjustedSides_nodup s i far) j]
    simp only [adjustCounted, adjustUi_pos hu]
  · rw [settle_lanes, skewCounted_lanes]
    exact linkAdjusted_fill _ s (adjustedSides s i far) j
  · have hq := skewCounted_path far (pathOf i) (linkAdjusted (adjustUi s i n) s (adjustedSides s i far)) q
    rw [hframe] at hq ⊢
    simp only [Fin.getElem_fin] at hq
    simp only [Fin.getElem_fin, settle_path, hq]
    split
    · rfl
    · rfl

/-- Settles O49: each row is its own change of a lane, a side or an island, then its event; an elastic adjustment goes over the buffers
of a link one by one. -/
theorem lanesClocksAndCheckersFollow : Obligations.LanesClocksAndCheckersFollow :=
  ⟨fun _ _ hon hd => ⟨receiverEiExit_wakes hon hd, receiverEiEntry_idles hon hd, laneLockLost_reports hon hd,
      fun _ _ => skpAdjustment_adjusts, transparentAcquire_locks hon hd, fun _ => bufferSlip_reports hon, noKerfTimeout_reports hd,
      noKerfTimeout_nothing hd⟩,
    fun _ => ⟨fun _ => islandClockAbsent_reports, fun _ => islandClockReturned_reports, fun _ _ => islandClockReturned_refclk,
      corePllLoss_reports, fun _ => checkerLock_reports, fun _ => checkerLockLost_reports⟩⟩

end Sys2Proof.Machine
end

section
/-! Domains that follow a change of one path's state (R400 to R402). -/

namespace Sys2Proof.Machine

/-! ### What the conditions of domains read -/

/-- What a condition of Table 16.2 reads of a path. -/
def pathCondition (x : Path) : R40 × PathState × Bool := (x.cfg, x.st, x.test)

/-- Every condition of Table 16.2 but those of paths reads the same in two states (R400). -/
structure SameConditions (s t : State) : Prop where
  dev : t.pow.dev = s.pow.dev
  active : t.seq.active = s.seq.active
  mode : t.svc.mode = s.svc.mode
  ven : (t.ven.cfg, t.ven.mst, t.ven.irq) = (s.ven.cfg, s.ven.mst, s.ven.irq)
  scan : ∀ l : Fin 4, t.scan.lines[l].cfg = s.scan.lines[l].cfg
  loops : anyLoop t.test = anyLoop s.test
  sync : t.test.loopSync = s.test.loopSync
  source : t.time.cfg = s.time.cfg

/-- Domains D1 to D32 of a path's sides and D33 to D36 of its island (Table 16.2). -/
def pathDomain (p : PathId) (d : Nat) : Prop := d = 33 + p.val ∨ ∃ i : SideId, pathOf i = p ∧ d = i.val + 1

theorem laneOn_congr {s t : State} {l : LaneId} (h : t.paths[pathOfLane l].cfg = s.paths[pathOfLane l].cfg) :
    laneOn t l = laneOn s l := by
  simp only [laneOn, pathOn, h]

theorem tests_congr {s t : State} (h : ∀ q : PathId, t.paths[q].test = s.paths[q].test) :
    (t.paths.toList.any fun x => x.test) = s.paths.toList.any fun x => x.test := by
  have hmap : t.paths.toList.map Path.test = s.paths.toList.map Path.test := by
    refine List.ext_getElem (by simp) fun k hk _ => ?_
    simp only [List.length_map, Vector.length_toList] at hk
    simpa using h ⟨k, hk⟩
  have hany (l : List Path) : (l.any fun x => x.test) = (l.map Path.test).any id := by simp [List.any_map]
  rw [hany, hany, hmap]

/-- A condition of Table 16.2 stays as it is where the path it names, where it names one, and all else it reads stay. -/
theorem domWanted_same {s t : State} (h : SameConditions s t) (htest : ∀ q : PathId, t.paths[q].test = s.paths[q].test) {d : Nat}
    (hpath : ∀ q : PathId, pathDomain q d → pathCondition t.paths[q] = pathCondition s.paths[q]) : domWanted t d = domWanted s d := by
  have hven := h.ven
  simp only [Prod.mk.injEq] at hven
  obtain ⟨hcfg, hmst, hirq⟩ := hven
  have hon (q : PathId) (hq : pathDomain q d) : t.paths[q].cfg = s.paths[q].cfg ∧ t.paths[q].st = s.paths[q].st := by
    have hc := hpath q hq
    simp only [pathCondition, Prod.mk.injEq] at hc
    exact ⟨hc.1, hc.2.1⟩
  have hscan : scanOn t = scanOn s := by
    funext l
    rw [scanOn, scanOn, h.scan l]
  have hirqs : irqEn t = irqEn s := by
    funext k
    rw [irqEn, irqEn, hirq]
  have hmsts : mstEn t = mstEn s := by
    funext k
    rw [mstEn, mstEn, mstByte, mstByte, hmst]
  unfold domWanted
  simp only [h.dev, h.active, h.mode, venOn, hcfg, hirqs, hmsts, hscan, tests_congr htest, h.loops, h.sync, timeSource, h.source]
  by_cases h0 : d = 0
  · rw [if_pos h0, if_pos h0]
  · rw [if_neg h0, if_neg h0]
    by_cases h32 : d ≤ 32
    · have hq : pathDomain (pathOfLane (Fin.ofNat 16 ((d - 1) / 2))) d := by
        refine Or.inr ⟨⟨d - 1, by omega⟩, Fin.ext ?_, by show d = d - 1 + 1; omega⟩
        show (d - 1) / 8 = (d - 1) / 2 % 16 / 4
        omega
      rw [if_pos h32, if_pos h32, laneOn_congr (hon _ hq).1, (hon _ hq).2]
    · rw [if_neg h32, if_neg h32]
      by_cases h36 : d ≤ 36
      · have hq : pathDomain (Fin.ofNat 4 (d - 33)) d := by
          refine Or.inl ?_
          show d = 33 + (d - 33) % 4
          omega
        rw [if_pos h36, if_pos h36, pathOn, pathOn, (hon _ hq).1, (hon _ hq).2]
      · rw [if_neg h36, if_neg h36]

/-- No domain of a DORMANT path is wanted (Table 16.2). -/
theorem domWanted_dormant {s : State} {p : PathId} {d : Nat} (hd : pathDomain p d) (hst : s.paths[p].st = .dormant) :
    domWanted s d = false := by
  unfold domWanted
  rcases hd with rfl | ⟨i, hi, rfl⟩
  · have hq : Fin.ofNat 4 (33 + p.val - 33) = p := by
      apply Fin.ext
      show (33 + p.val - 33) % 4 = p.val
      omega
    have hlt := p.isLt
    rw [if_neg (by omega), if_neg (by omega), if_pos (by omega)]
    simp only [hq, hst, bne_self_eq_false, Bool.and_false]
  · have hq : pathOfLane (Fin.ofNat 16 ((i.val + 1 - 1) / 2)) = p := by
      rw [← hi, Nat.add_sub_cancel, ← laneOf_ofNat, pathOfLane_laneOf]
    have hlt := i.isLt
    rw [if_neg (by omega), if_pos (by omega)]
    simp only [hq, hst, bne_self_eq_false, Bool.and_false]

/-! ### Domains switched -/

/-- A domain switched on or off, with what switching it off loses. -/
def switchDomain (want : Bool) (s : State) (d : Nat) : State :=
  let t := s.modPow fun p => { p with domains := vmodN p.domains (d - 1) fun _ => want }
  if want then t else domainLost t d

theorem settleDomain_eq (s : State) (d : Nat) :
    settleDomain s d = if domWanted s d = domOn s d then s else switchDomain (domWanted s d) s d := rfl

/-- A domain of the device switched reads as it was switched, and every other as before. -/
theorem domOn_switchDomain (want : Bool) (s : State) {d e : Nat} (hd : 1 ≤ d) (he : 1 ≤ e) (h50 : e ≤ 50) :
    domOn (switchDomain want s d) e = if d = e then want else domOn s e := by
  have hpow : (switchDomain want s d).pow.domains = vmodN s.pow.domains (d - 1) fun _ => want := by
    unfold switchDomain
    dsimp only
    split
    · rfl
    · rw [domainLost_pow]
      rfl
  have hin : s.pow.domains[e - 1]? = some s.pow.domains[e - 1] := Vector.getElem?_eq_getElem (by omega)
  rw [domOn_eq, domOn_eq, hpow, getElem?_vmodN]
  by_cases h : d = e
  · rw [if_pos (by rw [h]), if_pos h, hin]
    rfl
  · rw [if_neg (by omega), if_neg h]

theorem domOn_settleDomain (s : State) {d e : Nat} (hd : 1 ≤ d) (he : 1 ≤ e) (h50 : e ≤ 50) :
    domOn (settleDomain s d) e = if d = e then domWanted s d else domOn s e := by
  rw [settleDomain_eq]
  split
  · next h =>
    split
    · next hde => rw [← hde, h]
    · rfl
  · exact domOn_switchDomain _ s hd he h50

/-! ### Domains of one path switched -/

/-- Of a lane what it loses with one of its receivers' domains (R402). -/
def laneSideLost (e : Fin 2) (x : Lane) : Lane := { x with
  lock := vmod x.lock e fun _ => false, ei := vmod x.ei e fun _ => true
  seg := vmod x.seg e fun _ => 0, rr := vmod x.rr e fun _ => false
  align := vmod x.align e fun _ => false, reqDone := vmod x.reqDone e fun _ => false }

/-- Of a path what it loses with its island. -/
def islandLost (x : Path) : Path := { x with eqPhase := 0, pllInt := false, formed := x.formed }

theorem domainLost_side (s : State) (i : SideId) :
    domainLost s (i.val + 1) = (s.modSide i resetSide).modLane (laneOf i) (laneSideLost (endOf i)) := by
  have hi : Fin.ofNat 32 (i.val + 1 - 1) = i := Fin.ofNat_val_eq_self i
  have hlt := i.isLt
  unfold domainLost
  rw [if_neg (by omega), if_pos (by omega)]
  simp only [hi]
  rfl

theorem domainLost_island (s : State) (p : PathId) : domainLost s (33 + p.val) =
    (lanesOf p).foldl (fun s l => s.modLane l resetLane) (s.modPath p islandLost) := by
  have hp : Fin.ofNat 4 (33 + p.val - 33) = p := by
    apply Fin.ext
    show (33 + p.val - 33) % 4 = p.val
    omega
  have hlt := p.isLt
  unfold domainLost
  rw [if_neg (by omega), if_neg (by omega), if_pos (by omega)]
  simp only [hp]
  rfl

/-- `t` is `s` but for domains, and what one path, its lanes and their sides lose with them (R402). -/
structure DomainsOnly (p : PathId) (s t : State) : Prop where
  rest : t = { s with pow := { s.pow with domains := t.pow.domains }, sides := t.sides, lanes := t.lanes, paths := t.paths }
  others : ∀ q : PathId, q ≠ p → t.paths[q] = s.paths[q]
  path : ∃ phase int, t.paths[p] = { s.paths[p] with eqPhase := phase, pllInt := int }
  domains : ∀ d : Nat, 1 ≤ d → d ≤ 50 → ¬pathDomain p d → domOn t d = domOn s d

theorem DomainsOnly.refl (p : PathId) (s : State) : DomainsOnly p s s := ⟨rfl, fun _ _ => rfl, ⟨_, _, rfl⟩, fun _ _ _ _ => rfl⟩

theorem DomainsOnly.trans {p : PathId} {s t u : State} (h : DomainsOnly p s t) (k : DomainsOnly p t u) : DomainsOnly p s u := by
  refine ⟨?_, fun q hq => (k.others q hq).trans (h.others q hq), ?_, fun d h1 h50 hd => (k.domains d h1 h50 hd).trans (h.domains d h1 h50 hd)⟩
  · have hu := k.rest
    rw [h.rest] at hu
    exact hu
  · obtain ⟨a, b, hab⟩ := h.path
    obtain ⟨a', b', hab'⟩ := k.path
    exact ⟨a', b', by rw [hab', hab]⟩

theorem DomainsOnly.switch {p : PathId} {d : Nat} (hd : pathDomain p d) (want : Bool) (s : State) :
    DomainsOnly p s (switchDomain want s d) := by
  have h1 : 1 ≤ d := by rcases hd with rfl | ⟨i, -, rfl⟩ <;> omega
  have hdom (e : Nat) (he : 1 ≤ e) (h50 : e ≤ 50) (hno : ¬pathDomain p e) : domOn (switchDomain want s d) e = domOn s e := by
    rw [domOn_switchDomain want s h1 he h50, if_neg fun h : d = e => hno (h ▸ hd)]
  cases want
  · obtain ⟨t, ht⟩ : ∃ t, t = s.modPow fun p => { p with domains := vmodN p.domains (d - 1) fun _ => false } := ⟨_, rfl⟩
    have hlost : switchDomain false s d = domainLost t d := by rw [ht]; rfl
    rw [hlost] at hdom ⊢
    rcases hd with rfl | ⟨i, -, rfl⟩
    · have hkept : ∃ la, domainLost t (33 + p.val) = { t with lanes := la, paths := vmod t.paths p islandLost } := by
        rw [domainLost_island]
        refine foldl_holds (fun v => ∃ la, v = { t with lanes := la, paths := vmod t.paths p islandLost })
          (fun s l => s.modLane l resetLane) _ ?_ (t.modPath p islandLost) ⟨t.lanes, rfl⟩
        rintro _ l ⟨la, rfl⟩
        exact ⟨_, rfl⟩
      obtain ⟨la, hla⟩ := hkept
      rw [hla] at hdom ⊢
      subst ht
      refine ⟨rfl, fun q hq => vmod_get_other _ _ _ _ hq.symm, ⟨0, false, ?_⟩, hdom⟩
      exact vmod_same _ _ _
    · rw [domainLost_side] at hdom ⊢
      subst ht
      exact ⟨rfl, fun _ _ => rfl, ⟨_, _, rfl⟩, hdom⟩
  · exact ⟨rfl, fun _ _ => rfl, ⟨_, _, rfl⟩, hdom⟩

theorem DomainsOnly.condition {p : PathId} {s t : State} (h : DomainsOnly p s t) (q : PathId) :
    pathCondition t.paths[q] = pathCondition s.paths[q] := by
  by_cases hq : q = p
  · subst hq
    obtain ⟨a, b, hab⟩ := h.path
    rw [hab]
    rfl
  · rw [h.others q hq]

theorem DomainsOnly.wanted {p : PathId} {s t : State} (h : DomainsOnly p s t) (d : Nat) : domWanted t d = domWanted s d := by
  have hsame : SameConditions s t := by
    rw [h.rest]
    exact ⟨rfl, rfl, rfl, rfl, fun _ => rfl, rfl, rfl, rfl⟩
  refine domWanted_same hsame (fun q => ?_) fun q _ => h.condition q
  have hc := h.condition q
  simp only [pathCondition, Prod.mk.injEq] at hc
  exact hc.2.2

/-- The numbers of the switched domains, D1 to D50. -/
theorem mem_domainNumbers {d : Nat} (h : d ∈ (upto 50).map fun i => i + 1) : 1 ≤ d ∧ d ≤ 50 := by
  simp only [upto, List.mem_map, List.mem_range] at h
  omega

section
variable {p : PathId} {s : State} (hs : ∀ d : Nat, 1 ≤ d → d ≤ 50 → ¬pathDomain p d → domWanted s d = domOn s d)
include hs

/-- One step of the switching where only one path's domains are behind their conditions: nothing, or one of that path's switched. -/
theorem settleDomain_path {t : State} (ht : DomainsOnly p s t) {d : Nat} (h1 : 1 ≤ d) (h50 : d ≤ 50) :
    settleDomain t d = t ∨ (pathDomain p d ∧ domWanted s d ≠ domOn t d ∧ settleDomain t d = switchDomain (domWanted s d) t d) := by
  rw [settleDomain_eq, ht.wanted d]
  by_cases hd : domWanted s d = domOn t d
  · exact Or.inl (if_pos hd)
  · refine Or.inr ⟨?_, hd, if_neg hd⟩
    by_contra hno
    exact hd ((hs d h1 h50 hno).trans (ht.domains d h1 h50 hno).symm)

/-- Only one path's domains being behind their conditions, what holds at first and is kept by switching those holds once all follow. -/
theorem settleDomains_holds {P : State → Prop} (h0 : P s) (hstep : ∀ t d, pathDomain p d → DomainsOnly p s t → domWanted s d ≠ domOn t d →
    P t → P (switchDomain (domWanted s d) t d)) : DomainsOnly p s (settleDomains s) ∧ P (settleDomains s) := by
  refine List.foldlRecOn (motive := fun t => DomainsOnly p s t ∧ P t) _ settleDomain ⟨DomainsOnly.refl p s, h0⟩ ?_
  rintro t ⟨ht, hP⟩ d hd
  obtain ⟨h1, h50⟩ := mem_domainNumbers hd
  rcases settleDomain_path hs ht h1 h50 with h | ⟨hpd, hne, h⟩
  · rw [h]
    exact ⟨ht, hP⟩
  · rw [h]
    exact ⟨ht.trans (DomainsOnly.switch hpd _ t), hstep t d hpd ht hne hP⟩

theorem settleDomains_only_path : DomainsOnly p s (settleDomains s) :=
  (settleDomains_holds (P := fun _ => True) hs trivial fun _ _ _ _ _ _ => trivial).1

/-- Every domain follows its condition then. -/
theorem domOn_settleDomains {e : Nat} (he : 1 ≤ e) (h50 : e ≤ 50) : domOn (settleDomains s) e = domWanted s e := by
  have hkeep (t : State) (l : List Nat) (hl : ∀ d ∈ l, 1 ≤ d ∧ d ≤ 50) (ht : DomainsOnly p s t) :
      DomainsOnly p s (l.foldl settleDomain t) ∧ (domOn t e = domWanted s e → domOn (l.foldl settleDomain t) e = domWanted s e) := by
    refine List.foldlRecOn (motive := fun u => DomainsOnly p s u ∧ (domOn t e = domWanted s e → domOn u e = domWanted s e)) l
      settleDomain ⟨ht, id⟩ ?_
    rintro u ⟨hu, hon⟩ d hd
    obtain ⟨h1, hd50⟩ := hl d hd
    refine ⟨?_, fun h => ?_⟩
    · rcases settleDomain_path hs hu h1 hd50 with h | ⟨hpd, -, h⟩
      · rw [h]
        exact hu
      · rw [h]
        exact hu.trans (DomainsOnly.switch hpd _ u)
    · rw [domOn_settleDomain u h1 he h50, hu.wanted]
      split
      · next hde => rw [hde]
      · exact hon h
  obtain ⟨l, r, hlr⟩ := List.append_of_mem (show e ∈ (upto 50).map fun i => i + 1 by
    simp only [upto, List.mem_map, List.mem_range]
    exact ⟨e - 1, by omega, by omega⟩)
  have hnum (d : Nat) (hd : d ∈ l ++ e :: r) : 1 ≤ d ∧ d ≤ 50 := mem_domainNumbers (hlr ▸ hd)
  obtain ⟨hleft, -⟩ := hkeep s l (fun d hd => hnum d (by simp [hd])) (DomainsOnly.refl p s)
  have hat : domOn (settleDomain (l.foldl settleDomain s) e) e = domWanted s e := by
    rw [domOn_settleDomain _ he he h50, if_pos rfl, hleft.wanted]
  obtain ⟨hmid, -⟩ := hkeep (l.foldl settleDomain s) [e] (fun d hd => hnum d (by simp_all)) hleft
  rw [settleDomains, hlr, List.foldl_append]
  exact (hkeep _ r (fun d hd => hnum d (by simp [hd])) hmid).2 hat
end

end Sys2Proof.Machine
end

section
/-! Paths that rest and wake (R98, R99, R404 to R406). -/

namespace Sys2Proof.Machine

/-! ### Lines that raise an event -/

/-- A part noted at first is noted after what leaves it untouched. -/
theorem Part.noted_then_untouched {s t v : State} {p : Part} (h : p.noted s t) (k : p.untouched t v) : p.noted s v := by
  cases p
  case win =>
    have hk : v.win = t.win := k
    show WinNoted v s.win
    rw [WinNoted, hk]
    exact h
  case tw =>
    have hk : v.tw = t.tw := k
    show TwIs v s.tw
    rw [TwIs, hk]
    exact h
  case mbx =>
    have hk : v.mbx = t.mbx := k
    show MbxNoted v s.mbx
    rw [MbxNoted, hk]
    exact h
  case paths =>
    have hk : v.paths = t.paths := k
    show PathsAre v s.paths
    rw [PathsAre, hk]
    exact h
  case svc =>
    have hk : v.svc = t.svc := k
    show SvcNoted v s.svc
    rw [SvcNoted, hk]
    exact h
  case store =>
    have hk : v.store = t.store := k
    show StoreNoted v s.store
    rw [StoreNoted, hk]
    exact h
  case pow =>
    have hk : v.pow = t.pow := k
    show PowIs v s.pow
    rw [PowIs, hk]
    exact h
  all_goals exact Eq.trans k h

/-- A line's row that leaves all parts but those named noted, its entry among the running lines apart. -/
theorem begins_noted_of {c : Instr} {s u v : State} {tbl : Fin 9} {idx : Nat} {changed : List Part} {P : State → Prop}
    (hx : exec c s = done s v) (hseq : v.seq = (lineBegun u tbl idx).seq) (hk : ∀ p : Part, p ∉ changed → p ≠ .seq → p.noted u v)
    (hP : P (settle s v)) : Begins c s u tbl idx changed P := by
  refine ⟨_, hx, hP, ?_, Or.inl ?_, fun p hp hne => Part.noted_settle s (hk p hp hne)⟩
  · rw [settle_seq, hseq]
    rfl
  · rw [settle_seq, hseq]
    rfl

theorem domOn_settle (o s : State) (d : Nat) : domOn (settle o s) d = domOn s d := by
  rw [domOn_eq, domOn_eq, settle_pow]

/-! ### Into and out of DORMANT -/

/-- A path armed in DORMANT, its latch clear (R98). -/
def asleep (x : Path) : Path := { x with latch := false, armed := true, st := .dormant }

/-- A path in another state. -/
def takesState (st : PathState) (x : Path) : Path := { x with st := st }

/-- A path whose wake has been served (R406). -/
def wakeServed (x : Path) : Path := { x with latch := false, armed := false, wakeReq := false }

/-- A path that enters or leaves DORMANT is reported (R405, R406). -/
theorem setPathState_dormant {s : State} {p : PathId} {st : PathState} (hne : s.paths[p].st ≠ st)
    (h : s.paths[p].st = .dormant ∨ st = .dormant) : setPathState s p st =
      raise (s.modPath p (takesState st)) 0x0104 [by1 p.val, by1 (stCode s.paths[p].st), by1 (stCode st)] := by
  rw [setPathState, if_neg hne]
  exact if_pos h

/-- A path on its own that may rest is idle. -/
theorem idle_of_mayRest {u : State} {p : PathId} (hf : u.paths[p].formed = false) (h : mayRest u p = true) : u.paths[p].st = .idle := by
  simp only [mayRest, groupOf_unformed hf, List.all_cons, List.all_nil, Bool.and_true, Bool.and_eq_true, pathIdle] at h
  simpa using h.2.1.1.1.1.1.2

/-- A path on its own that may wake is DORMANT. -/
theorem dormant_of_mayWake {u : State} {p : PathId} (hf : u.paths[p].formed = false) (h : mayWake u p = true) :
    u.paths[p].st = .dormant := by
  simp only [mayWake, groupOf_unformed hf, List.all_cons, List.all_nil, Bool.and_true, Bool.and_eq_true] at h
  simpa using h.2.1

theorem enterDormant_alone {u : State} {p : PathId} (hf : u.paths[p].formed = false) (hi : u.paths[p].st = .idle) :
    enterDormant u p = settleDomains (raise (u.modPath p asleep) 0x0104 [by1 p.val, 1, 2]) := by
  have hst : (u.modPath p fun x => { x with latch := false, armed := true }).paths[p].st = .idle := by rw [modPath_path]; exact hi
  have hset := setPathState_dormant (st := .dormant) (by rw [hst]; decide) (Or.inr rfl)
  rw [hst, modPath_modPath] at hset
  rw [enterDormant, groupOf_unformed hf]
  exact congrArg settleDomains hset

theorem leaveDormant_alone {u : State} {p : PathId} (hf : u.paths[p].formed = false) (hd : u.paths[p].st = .dormant) :
    leaveDormant u p = settleDomains ((raise (u.modPath p (takesState .idle)) 0x0104 [by1 p.val, 2, 1]).modPath p wakeServed) := by
  have hset := setPathState_dormant (s := u) (p := p) (st := .idle) (by rw [hd]; decide) (Or.inl hd)
  rw [hd] at hset
  rw [leaveDormant, groupOf_unformed hf]
  exact congrArg (fun t : State => settleDomains (t.modPath p wakeServed)) hset

theorem ne_of_pathDomain {p q : PathId} {d : Nat} (hq : pathDomain q d) (hp : ¬pathDomain p d) : q ≠ p :=
  fun e : q = p => hp (e ▸ hq)

theorem pathDomain_range {p : PathId} {d : Nat} (h : pathDomain p d) : 1 ≤ d ∧ d ≤ 50 := by
  rcases h with rfl | ⟨i, -, rfl⟩ <;> omega

theorem domOn_of_settled {u : State} (h : DomainsSettled u) {d : Nat} (h1 : 1 ≤ d) (h50 : d ≤ 50) : domWanted u d = domOn u d := by
  have hd : d - 1 + 1 = d := by omega
  have hi := h ⟨d - 1, by omega⟩
  simpa only [hd] using hi

/-- `v` is `u` but for events and for one path, whose test goes on. -/
structure PathMoves (p : PathId) (u v : State) : Prop where
  rest : Noted u { v with paths := u.paths }
  others : ∀ q : PathId, q ≠ p → v.paths[q] = u.paths[q]
  test : v.paths[p].test = u.paths[p].test

theorem PathMoves.domOn {p : PathId} {u v : State} (h : PathMoves p u v) (d : Nat) : domOn v d = domOn u d := by
  have hp := congrArg State.pow h.rest.1
  change v.pow = u.pow at hp
  simp only [Machine.domOn, hp]

/-- All domains but those of the path still follow their conditions. -/
theorem PathMoves.settled {p : PathId} {u v : State} (h : PathMoves p u v) (hs : DomainsSettled u) (d : Nat) (h1 : 1 ≤ d) (h50 : d ≤ 50)
    (hd : ¬pathDomain p d) : domWanted v d = Machine.domOn v d := by
  obtain ⟨w, hw, hv⟩ : ∃ w : State, w = withEventsOf u w ∧ v = { w with paths := v.paths } := ⟨_, h.rest.1, rfl⟩
  have hsame : SameConditions u v := by
    rw [hv, hw]
    exact ⟨rfl, rfl, rfl, rfl, fun _ => rfl, rfl, rfl, rfl⟩
  rw [h.domOn, ← domOn_of_settled hs h1 h50]
  refine domWanted_same hsame (fun q => ?_) fun q hq => by rw [h.others q (ne_of_pathDomain hq hd)]
  by_cases hq : q = p
  · rw [hq, h.test]
  · rw [h.others q hq]

/-- Every part but paths is noted. -/
theorem PathMoves.part {p : PathId} {u v : State} (h : PathMoves p u v) {q : Part} (hq : q ≠ .paths) : q.noted u v := by
  refine Part.noted_then_untouched (h.rest.part q) ?_
  cases q
  case paths => exact absurd rfl hq
  all_goals rfl

theorem DomainsOnly.untouched {p : PathId} {s t : State} (h : DomainsOnly p s t) {q : Part}
    (hq : q ∉ [Part.paths, .pow, .sides, .lanes]) : q.untouched s t := by
  rw [h.rest]
  cases q
  case paths | pow | sides | lanes => exact absurd (by decide) hq
  all_goals rfl

/-! ### A path falls asleep -/

/-- A path armed and turned DORMANT with its event, before its domains follow. -/
def fallsAsleep (u : State) (p : PathId) : State := raise (u.modPath p asleep) 0x0104 [by1 p.val, 1, 2]

theorem fallsAsleep_path (u : State) (p : PathId) : (fallsAsleep u p).paths[p] = asleep u.paths[p] := by
  simp only [fallsAsleep, raise_paths]
  exact modPath_path u p asleep

theorem fallsAsleep_moves (u : State) (p : PathId) : PathMoves p u (fallsAsleep u p) := by
  refine ⟨?_, fun q hq => ?_, by rw [fallsAsleep_path]; rfl⟩
  · have h := raise_noted (u.modPath p asleep) 0x0104 [by1 p.val, 1, 2]
    exact ⟨congrArg (fun t : State => { t with paths := u.paths }) h.1, h.2⟩
  · simp only [fallsAsleep, raise_paths]
    exact modPath_path_other hq

theorem dormantEnterLine_rests {s u : State} {p : PathId} {idx : Nat} {l : Line} (hb : LineBegins s u (pathTable p) idx 0x66 l)
    (hm : mayRest u p = true) (hf : u.paths[p].formed = false) (hs : DomainsSettled u) :
    Begins (.dormantEnterLine p idx) s u (pathTable p) idx [.paths, .pow, .sides, .lanes] fun t =>
      t.paths[p].st = .dormant ∧ t.paths[p].armed = true ∧ t.paths[p].latch = false ∧ domOn t (33 + p.val) = false ∧
      (∀ q : PathId, q ≠ p → { t.paths[q] with idleNs := u.paths[q].idleNs } = u.paths[q]) ∧
      Raised u t 0x0104 [BitVec.ofNat 8 p.val, 1, 2] := by
  obtain ⟨b, hbeg⟩ : ∃ b, b = lineBegun u (pathTable p) idx := ⟨_, rfl⟩
  have hx : exec (.dormantEnterLine p idx) s = done s (settleDomains (fallsAsleep b p)) := by
    have hrun := startLine_begins hb fun _ s => if mayRest s p then enterDormant s p else s
    rw [← hbeg] at hrun
    have hmb : mayRest b p = true := by rw [hbeg]; exact hm
    have hfb : b.paths[p].formed = false := by rw [hbeg]; exact hf
    rw [if_pos hmb, enterDormant_alone hfb (idle_of_mayRest hfb hmb)] at hrun
    exact congrArg (done s) hrun
  have hsb : DomainsSettled b := by rw [hbeg]; exact hs
  have hmoves := fallsAsleep_moves b p
  have hlt := p.isLt
  have hbehind := hmoves.settled hsb
  have honly := settleDomains_only_path hbehind
  have hpath : ∃ phase int, (settleDomains (fallsAsleep b p)).paths[p] = { asleep b.paths[p] with eqPhase := phase, pllInt := int } := by
    obtain ⟨phase, int, h⟩ := honly.path
    exact ⟨phase, int, by rw [h, fallsAsleep_path]⟩
  obtain ⟨phase, int, hpath⟩ := hpath
  have hoff : domOn (settleDomains (fallsAsleep b p)) (33 + p.val) = false := by
    rw [domOn_settleDomains hbehind (by omega) (by omega)]
    exact domWanted_dormant (Or.inl rfl) (by rw [fallsAsleep_path]; rfl)
  have hraised : Raised b (settleDomains (fallsAsleep b p)) 0x0104 [BitVec.ofNat 8 p.val, 1, 2] :=
    raised_in (u := b.modPath p asleep) rfl (settleDomains_win _) (honly.untouched (q := .mbx) (by decide))
  have hseq : (settleDomains (fallsAsleep b p)).seq = b.seq := by rw [settleDomains_seq, fallsAsleep, raise_seq]; rfl
  simp only [Fin.getElem_fin] at hpath
  refine begins_noted_of hx (hbeg ▸ hseq) (fun q hq hne => ?_) ?_
  · have hqp : q ≠ .paths := fun e => hq (by simp [e])
    have hbu : q.untouched u b := by
      rw [hbeg]
      exact Part.untouched_modSeq u _ hne
    exact Part.noted_of_untouched hbu (Part.noted_then_untouched (hmoves.part hqp) (honly.untouched hq))
  · simp only [Fin.getElem_fin, settle_path, hpath, domOn_settle]
    refine ⟨rfl, rfl, rfl, hoff, fun q hq => ?_, ?_⟩
    · have hother := (honly.others q hq).trans (hmoves.others q hq)
      simp only [Fin.getElem_fin] at hother
      rw [hother, hbeg]
      rfl
    · rw [hbeg] at hraised ⊢
      exact (hraised.of_view rfl).settle s

/-! ### A path wakes -/

/-- A path turned IDLE with its event and its wake served, before its domains follow. -/
def wakesUp (u : State) (p : PathId) : State :=
  (raise (u.modPath p (takesState .idle)) 0x0104 [by1 p.val, 2, 1]).modPath p wakeServed

theorem wakesUp_path (u : State) (p : PathId) : (wakesUp u p).paths[p] = wakeServed (takesState .idle u.paths[p]) := by
  rw [wakesUp, modPath_path, raise_paths]
  exact congrArg wakeServed (modPath_path u p _)

theorem wakesUp_moves (u : State) (p : PathId) : PathMoves p u (wakesUp u p) := by
  refine ⟨?_, fun q hq => ?_, by rw [wakesUp_path]; rfl⟩
  · have h := raise_noted (u.modPath p (takesState .idle)) 0x0104 [by1 p.val, 2, 1]
    exact ⟨congrArg (fun t : State => { t with paths := u.paths }) h.1, h.2⟩
  · rw [wakesUp, modPath_path_other hq, raise_paths]
    exact modPath_path_other hq

/-- `t` is `v` but for domains, of which those of one path are on only where their conditions hold. -/
def OnlySwitchedOn (p : PathId) (v t : State) : Prop :=
  t = { v with pow := { v.pow with domains := t.pow.domains } } ∧ ∀ d, pathDomain p d → domOn t d = true → domWanted v d = true

/-- Where no domain of the path is on against its condition, following the conditions switches domains on only. -/
theorem settleDomains_onlySwitchedOn {p : PathId} {v : State}
    (hs : ∀ d : Nat, 1 ≤ d → d ≤ 50 → ¬pathDomain p d → domWanted v d = domOn v d)
    (h0 : ∀ d, pathDomain p d → domOn v d = true → domWanted v d = true) : OnlySwitchedOn p v (settleDomains v) := by
  refine (settleDomains_holds hs (P := OnlySwitchedOn p v) ⟨rfl, h0⟩ ?_).2
  rintro t d hd - hne ⟨hrest, hon⟩
  have hw : domWanted v d = true := by
    by_contra hoff
    rw [Bool.not_eq_true] at hoff
    have htd : domOn t d = true := by rw [hoff] at hne; simpa using hne.symm
    exact absurd (hon d hd htd) (by simp [hoff])
  obtain ⟨h1, -⟩ := pathDomain_range hd
  refine ⟨?_, fun e he hone => ?_⟩
  · rw [hw]
    exact congrArg (fun x : State => { x with pow := { x.pow with domains := vmodN t.pow.domains (d - 1) fun _ => true } }) hrest
  · obtain ⟨he1, he50⟩ := pathDomain_range he
    rw [domOn_switchDomain _ t h1 he1 he50] at hone
    split at hone
    · next hde => exact hde ▸ hw
    · exact hon e he hone

theorem OnlySwitchedOn.untouched {p : PathId} {v t : State} (h : OnlySwitchedOn p v t) {q : Part} (hq : q ≠ .pow) : q.untouched v t := by
  rw [h.1]
  cases q
  case pow => exact absurd rfl hq
  all_goals rfl

theorem dormantExitLine_wakes {s u : State} {p : PathId} {idx : Nat} {l : Line} (hb : LineBegins s u (pathTable p) idx 0x67 l)
    (hm : mayWake u p = true) (hf : u.paths[p].formed = false) (hs : DomainsSettled u) :
    Begins (.dormantExitLine p idx) s u (pathTable p) idx [.paths, .pow] fun t =>
      t.paths[p].st = .idle ∧ t.paths[p].armed = false ∧ t.paths[p].latch = false ∧ t.paths[p].wakeReq = false ∧
      (∀ q : PathId, q ≠ p → { t.paths[q] with idleNs := u.paths[q].idleNs } = u.paths[q]) ∧
      Raised u t 0x0104 [BitVec.ofNat 8 p.val, 2, 1] := by
  obtain ⟨b, hbeg⟩ : ∃ b, b = lineBegun u (pathTable p) idx := ⟨_, rfl⟩
  have hfb : b.paths[p].formed = false := by rw [hbeg]; exact hf
  have hmb : mayWake b p = true := by rw [hbeg]; exact hm
  have hdorm := dormant_of_mayWake hfb hmb
  have hx : exec (.dormantExitLine p idx) s = done s (settleDomains (wakesUp b p)) := by
    have hrun := startLine_begins hb fun _ s => if mayWake s p then leaveDormant s p else s
    rw [← hbeg, if_pos hmb, leaveDormant_alone hfb hdorm] at hrun
    exact congrArg (done s) hrun
  have hsb : DomainsSettled b := by rw [hbeg]; exact hs
  have hmoves := wakesUp_moves b p
  have honly : OnlySwitchedOn p (wakesUp b p) (settleDomains (wakesUp b p)) := by
    refine settleDomains_onlySwitchedOn (hmoves.settled hsb) fun d hd hon => ?_
    obtain ⟨h1, h50⟩ := pathDomain_range hd
    rw [hmoves.domOn, ← domOn_of_settled hsb h1 h50, domWanted_dormant hd hdorm] at hon
    cases hon
  have hpaths : (settleDomains (wakesUp b p)).paths = (wakesUp b p).paths := honly.untouched (q := .paths) (by decide)
  have hpath := wakesUp_path b p
  have hraised : Raised b (settleDomains (wakesUp b p)) 0x0104 [BitVec.ofNat 8 p.val, 2, 1] :=
    raised_in (u := b.modPath p (takesState .idle)) rfl (settleDomains_win _) (honly.untouched (q := .mbx) (by decide))
  have hseq : (settleDomains (wakesUp b p)).seq = b.seq := by rw [settleDomains_seq, wakesUp, modPath_seq, raise_seq]; rfl
  simp only [Fin.getElem_fin] at hpath
  refine begins_noted_of hx (hbeg ▸ hseq) (fun q hq hne => ?_) ?_
  · have hqp : q ≠ .paths := fun e => hq (by simp [e])
    have hqw : q ≠ .pow := fun e => hq (by simp [e])
    have hbu : q.untouched u b := by
      rw [hbeg]
      exact Part.untouched_modSeq u _ hne
    exact Part.noted_of_untouched hbu (Part.noted_then_untouched (hmoves.part hqp) (honly.untouched hqw))
  · simp only [Fin.getElem_fin, settle_path, hpaths, hpath]
    refine ⟨rfl, rfl, rfl, rfl, fun q hq => ?_, ?_⟩
    · have hother := hmoves.others q hq
      simp only [Fin.getElem_fin] at hother
      rw [hother, hbeg]
      rfl
    · rw [hbeg] at hraised ⊢
      exact (hraised.of_view rfl).settle s

/-! ### The rows -/

theorem dormantEnterLine_empty {s u : State} {p : PathId} {idx : Nat} {l : Line} (hb : LineBegins s u (pathTable p) idx 0x66 l)
    (hm : mayRest u p = false) : Begins (.dormantEnterLine p idx) s u (pathTable p) idx [] fun _ => True := by
  have hrun := startLine_begins hb fun _ s => if mayRest s p then enterDormant s p else s
  have hno : ¬mayRest (lineBegun u (pathTable p) idx) p = true := Bool.eq_false_iff.mp hm
  rw [if_neg hno] at hrun
  exact begins_of (congrArg (done s) hrun) trivial List.not_mem_nil fun q _ => q.untouched_refl _

theorem dormantExitLine_empty {s u : State} {p : PathId} {idx : Nat} {l : Line} (hb : LineBegins s u (pathTable p) idx 0x67 l)
    (hm : mayWake u p = false) : Begins (.dormantExitLine p idx) s u (pathTable p) idx [] fun _ => True := by
  have hrun := startLine_begins hb fun _ s => if mayWake s p then leaveDormant s p else s
  have hno : ¬mayWake (lineBegun u (pathTable p) idx) p = true := Bool.eq_false_iff.mp hm
  rw [if_neg hno] at hrun
  exact begins_of (congrArg (done s) hrun) trivial List.not_mem_nil fun q _ => q.untouched_refl _

theorem dormantSquelchActivity_latches {s : State} {p : PathId} (hd : s.pow.dev = .run) (ha : s.paths[p].armed = true) :
    Does (.dormantSquelchActivity p) s [.paths] fun t => PathsAre t (vmod s.paths p fun x => { x with latch := true }) := by
  have hrun : ((s.pow.dev == .run || s.pow.dev == .rest) && s.paths[p].armed) = true := by rw [hd, ha]; rfl
  exact does_modPath (congrArg (done s) (if_pos hrun)) rfl

/-- Settles O47: a path's change of state leaves behind its own domains alone, and they follow: off where it falls asleep, none off where
it wakes. -/
theorem pathsRestAndWake : Obligations.PathsRestAndWake := by
  unfold Obligations.PathsRestAndWake
  intro s p
  exact ⟨fun _ _ _ hb => ⟨dormantEnterLine_empty hb, dormantEnterLine_rests hb⟩,
    fun _ _ _ hb => ⟨dormantExitLine_empty hb, dormantExitLine_wakes hb⟩, dormantSquelchActivity_latches⟩

end Sys2Proof.Machine
end

section
/-! Fields of registers, and rows that change one side. -/

namespace Sys2Proof.Machine

/-! ### Fields -/

theorem fld_eq_extract {w : Nat} (r : BitVec w) (hi lo : Nat) : fld r hi lo = (r.extractLsb' lo (hi + 1 - lo)).toNat := by
  rw [fld, BitVec.extractLsb'_toNat, Nat.shiftRight_eq_div_pow]

/-- A register as what stands above a field, the field and what stands below it. -/
theorem toNat_eq_fields {w : Nat} (r : BitVec w) {hi lo : Nat} (h : lo ≤ hi) :
    r.toNat = 2 ^ lo * (2 ^ (hi + 1 - lo) * (r.toNat / 2 ^ (hi + 1)) + fld r hi lo) + r.toNat % 2 ^ lo := by
  have hpow : 2 ^ (hi + 1) = 2 ^ lo * 2 ^ (hi + 1 - lo) := by rw [← pow_add]; congr 1; omega
  rw [hpow, ← Nat.div_div_eq_div_mul, fld, Nat.div_add_mod, Nat.div_add_mod]

/-- A number put together above, in and below a field reads bit by bit. -/
theorem testBit_fields {q f m lo n : Nat} (hm : m < 2 ^ lo) (hf : f < 2 ^ n) (k : Nat) :
    (2 ^ lo * (2 ^ n * q + f) + m).testBit k =
      if k < lo then m.testBit k else if k - lo < n then f.testBit (k - lo) else q.testBit (k - lo - n) := by
  rw [Nat.testBit_two_pow_mul_add _ hm, Nat.testBit_two_pow_mul_add _ hf]

/-- Bits of a register with a field replaced. -/
theorem getLsbD_setFld {w : Nat} (r : BitVec w) {hi lo : Nat} (h : lo ≤ hi) (v k : Nat) (hk : k < w) :
    (setFld r hi lo v).getLsbD k = if lo ≤ k ∧ k ≤ hi then v.testBit (k - lo) else r.getLsbD k := by
  have hm : r.toNat % 2 ^ lo < 2 ^ lo := Nat.mod_lt _ (Nat.two_pow_pos lo)
  have hold : fld r hi lo < 2 ^ (hi + 1 - lo) := Nat.mod_lt _ (Nat.two_pow_pos _)
  have hnew : v % 2 ^ (hi + 1 - lo) < 2 ^ (hi + 1 - lo) := Nat.mod_lt _ (Nat.two_pow_pos _)
  have hr := toNat_eq_fields r h
  have hset : r.toNat - fld r hi lo * 2 ^ lo + v % 2 ^ (hi + 1 - lo) * 2 ^ lo =
      2 ^ lo * (2 ^ (hi + 1 - lo) * (r.toNat / 2 ^ (hi + 1)) + v % 2 ^ (hi + 1 - lo)) + r.toNat % 2 ^ lo := by
    rw [Nat.mul_add, Nat.mul_comm (fld r hi lo), Nat.mul_comm (v % _)]
    rw [Nat.mul_add] at hr
    omega
  have hbits : (setFld r hi lo v).getLsbD k =
      (2 ^ lo * (2 ^ (hi + 1 - lo) * (r.toNat / 2 ^ (hi + 1)) + v % 2 ^ (hi + 1 - lo)) + r.toNat % 2 ^ lo).testBit k := by
    rw [setFld, hset, BitVec.getLsbD_ofNat, decide_eq_true hk, Bool.true_and]
  have hrbits : r.getLsbD k =
      (2 ^ lo * (2 ^ (hi + 1 - lo) * (r.toNat / 2 ^ (hi + 1)) + fld r hi lo) + r.toNat % 2 ^ lo).testBit k := by
    rw [← hr]
    rfl
  rw [hbits, hrbits, testBit_fields hm hnew, testBit_fields hm hold]
  by_cases hlo : k < lo
  · rw [if_pos hlo, if_pos hlo, if_neg (by omega)]
  · by_cases hhi : k ≤ hi
    · rw [if_neg hlo, if_pos (by omega), if_pos ⟨by omega, hhi⟩, Nat.testBit_mod_two_pow, decide_eq_true (by omega), Bool.true_and]
    · rw [if_neg hlo, if_neg (by omega), if_neg (by omega), if_neg hlo, if_neg (by omega)]

/-- A field replaced reads as what replaced it. -/
theorem extract_setFld {w : Nat} (r : BitVec w) {hi lo : Nat} (h : lo ≤ hi) (hw : hi < w) (v : Nat) :
    (setFld r hi lo v).extractLsb' lo (hi + 1 - lo) = BitVec.ofNat (hi + 1 - lo) v := by
  refine BitVec.eq_of_getLsbD_eq fun k hk => ?_
  rw [BitVec.getLsbD_extractLsb', BitVec.getLsbD_ofNat, getLsbD_setFld r h v (lo + k) (by omega), if_pos ⟨by omega, by omega⟩,
    Nat.add_sub_cancel_left]

/-! ### Rows that change one side -/

/-- `t` is `s` but for events, the values that the manual leaves open, and side `i`, of which `g` reads the same. -/
structure SideKeeps {β : Type} (g : Side → β) (i : SideId) (s t : State) : Prop where
  rest : Noted s { t with sides := s.sides, free := s.free }
  others : ∀ j : SideId, j ≠ i → t.sides[j] = s.sides[j]
  self : g t.sides[i] = g s.sides[i]

section
variable {β : Type} {g : Side → β} {i : SideId}

theorem SideKeeps.refl (s : State) : SideKeeps g i s s := ⟨Noted.refl s, fun _ _ => rfl, rfl⟩

theorem SideKeeps.trans {s t u : State} (h : SideKeeps g i s t) (k : SideKeeps g i t u) : SideKeeps g i s u :=
  ⟨h.rest.trans ⟨congrArg (fun v : State => { v with sides := s.sides, free := s.free }) k.rest.1, k.rest.2⟩,
    fun j hj => (k.others j hj).trans (h.others j hj), k.self.trans h.self⟩

theorem SideKeeps.modSide (s : State) {f : Side → Side} (hf : g (f s.sides[i]) = g s.sides[i]) : SideKeeps g i s (s.modSide i f) :=
  ⟨Noted.refl s, fun _ hj => modSide_side_other hj, (congrArg g (modSide_side s i f)).trans hf⟩

theorem SideKeeps.usedFree (s : State) : SideKeeps g i s s.usedFree := ⟨Noted.refl s, fun _ _ => rfl, rfl⟩

theorem SideKeeps.raise (s : State) (c : Nat) (d : List Byte) : SideKeeps g i s (raise s c d) := by
  refine ⟨?_, fun j _ => by rw [raise_sides], by rw [raise_sides]⟩
  have h : { Machine.raise s c d with sides := s.sides, free := s.free } = Machine.raise s c d := by
    rw [← raise_sides s c d, ← raise_free s c d]
  rw [h]
  exact raise_noted s c d

theorem SideKeeps.foldl {α : Type} {f : State → α → State} {l : List α} (h : ∀ t, ∀ a ∈ l, SideKeeps g i t (f t a)) (s : State) :
    SideKeeps g i s (l.foldl f s) :=
  List.foldlRecOn l f (SideKeeps.refl s) fun t ht a ha => ht.trans (h t a ha)

/-- What reads less of the side is kept too. -/
theorem SideKeeps.reading {γ : Type} (k : β → γ) {s t : State} (h : SideKeeps g i s t) : SideKeeps (fun x => k (g x)) i s t :=
  ⟨h.rest, h.others, congrArg k h.self⟩

/-- Every other part is noted. -/
theorem SideKeeps.part {s t : State} (h : SideKeeps g i s t) {q : Part} (hq : q ∉ [Part.sides, .free]) : q.noted s t := by
  refine Part.noted_then_untouched (h.rest.part q) ?_
  cases q
  case sides | free => exact absurd (by decide) hq
  all_goals rfl
end

end Sys2Proof.Machine
end

section
/-! Measurements that close (R186 to R194). -/

namespace Sys2Proof.Machine

/-! ### What the steps of a measurement leave of a side -/

/-- What a side has counted, and whose turn it is. -/
def counted (x : Side) : Nat × Nat × Nat × Bool := (x.measUi, x.measErr, x.measErr1, x.turn)

/-- What a closed measurement leaves of a side beside its counts. -/
def adaptedView (x : Side) : BitVec 16 × Byte × Bool × Bool × Nat := (x.resid, x.calAge, x.adapted, x.turn, x.measUi)

/-- A reading of a side that its targets do not enter. -/
def BlindToTargets {β : Type} (g : Side → β) : Prop := ∀ x l, g { x with targets := l } = g x

/-- A reading of a side that its trackers do not enter. -/
def BlindToTrackers {β : Type} (g : Side → β) : Prop := ∀ x l r t b, g { x with left := l, right := r, top := t, bottom := b } = g x

theorem BlindToTargets.aim {β : Type} {g : Side → β} (hg : BlindToTargets g) (x : Side) (corr sub : Nat) (code : Int) :
    g (aim x corr sub code) = g x := by
  unfold Machine.aim
  split
  · exact hg x _
  · rfl

/-- Targets of a measurement change the targets alone (R190). -/
theorem BlindToTargets.setTargets {β : Type} {g : Side → β} (hg : BlindToTargets g) (slow : Bool) (m : Measured) (x : Side) :
    g (setTargets slow m x) = g x := by
  unfold Machine.setTargets
  dsimp only
  split
  · exact foldl_keeps g _ _ (fun y (t : Target) => hg.aim y t.corr t.sub t.code) x
  · exact (hg.aim _ 4 0 _).trans (foldl_keeps g _ _ (fun y (t : Target) => hg.aim y t.corr t.sub t.code) x)

/-- Trackers that move change the trackers alone (R187). -/
theorem BlindToTrackers.moveTrackers {β : Type} {g : Side → β} (hg : BlindToTrackers g) (slow live : Bool) (ui e0 e1 : Nat) (x : Side) :
    g (moveTrackers slow live ui e0 e1 x) = g x := by
  unfold Machine.moveTrackers
  split
  · exact hg x x.left _ x.top _
  · exact hg x _ x.right _ x.bottom

theorem counted_blind : BlindToTargets counted ∧ BlindToTrackers counted := ⟨fun _ _ => rfl, fun _ _ _ _ _ => rfl⟩

/-- What a side has counted is not changed by the measurement's use. -/
theorem counted_useMeasurement (slow : Bool) (m : Measured) (c : Closed) (x : Side) :
    counted (useMeasurement slow m c x) = counted x := by
  obtain ⟨htargets, htrackers⟩ := counted_blind
  calc counted (useMeasurement slow m c x)
    _ = counted (setTargets slow m (moveTrackers slow true c.ui c.e0 c.e1 (intoBaseline c.resid x))) := rfl
    _ = counted (moveTrackers slow true c.ui c.e0 c.e1 (intoBaseline c.resid x)) := htargets.setTargets slow m _
    _ = counted (intoBaseline c.resid x) := htrackers.moveTrackers slow true _ _ _ _
    _ = counted x := rfl

theorem noteSparse_counted (s : State) (i : SideId) (m : Measured) : SideKeeps counted i s (noteSparse s i m) := by
  unfold noteSparse
  split
  · dsimp only
    split
    · exact SideKeeps.trans (SideKeeps.modSide s rfl) (SideKeeps.raise _ _ _)
    · exact SideKeeps.modSide s rfl
  · exact SideKeeps.refl s

theorem gateMeasurement_counted (s : State) (i : SideId) (m : Measured) (c : Closed) :
    SideKeeps counted i s (gateMeasurement s i m c) := by
  refine iteInduction (motive := SideKeeps counted i s)
    (fun _ => iteInduction (motive := SideKeeps counted i s) (fun _ => SideKeeps.modSide s rfl) fun _ => ?_)
    fun _ => iteInduction (motive := SideKeeps counted i s) (fun _ => ?_) fun _ => SideKeeps.modSide s (counted_useMeasurement _ m c _)
  · refine SideKeeps.trans (SideKeeps.modSide s ?_) (SideKeeps.raise _ _ _)
    exact counted_useMeasurement _ m c _
  · exact SideKeeps.trans (SideKeeps.modSide s rfl) (SideKeeps.raise _ _ _)

/-! ### A measurement in data -/

/-- VALID reached is reported (R189). -/
def announceValid (before : Bool) (i : SideId) (s : State) : State :=
  let q := qualA s i
  if s.sides[i].calValid && !before then
    raise s 0x0313 ([by1 i.val] ++ be 2 (fld q 39 30) ++ be 2 (fld q 29 21) ++ [by1 (fld q 20 13)])
  else s

theorem announceValid_keeps {β : Type} (g : Side → β) (before : Bool) (i : SideId) (s : State) :
    SideKeeps g i s (announceValid before i s) ∧ (announceValid before i s).sides = s.sides := by
  unfold announceValid
  dsimp only
  split
  · exact ⟨SideKeeps.raise s _ _, raise_sides s _ _⟩
  · exact ⟨SideKeeps.refl s, rfl⟩

/-- What a side's next measurement to close collected, in a state. -/
def closedOf (s : State) (i : SideId) (m : Measured) : Closed := closing s.sides[i] m.sumSq s.openNat s.usedFree.openNat

theorem closeMeasurement_eq (s : State) (i : SideId) (m : Measured) : closeMeasurement s i m = announceValid s.sides[i].calValid i
    ((gateMeasurement (noteSparse s.usedFree.usedFree i m) i m (closedOf s i m)).modSide i (nextMeasurement (closedOf s i m))) := rfl

theorem closing_ui (x : Side) (q a b : Nat) : (closing x q a b).ui = min x.measUi 65536 := by
  unfold closing
  split
  · next h => exact (Nat.min_eq_left h).symm
  · next h => exact (Nat.min_eq_right (Nat.le_of_not_le h)).symm

theorem closing_resid (x : Side) (q a b : Nat) : (closing x q a b).resid = residOf q (min x.measUi 65536) := by
  unfold closing
  split
  · next h => rw [Nat.min_eq_left h]
  · next h => rw [Nat.min_eq_right (by omega)]

theorem closing_errors {x : Side} (h : x.measUi ≤ 65536) (q a b : Nat) :
    (closing x q a b).e0 = x.measErr ∧ (closing x q a b).e1 = x.measErr1 := by
  rw [closing, if_pos h]
  exact ⟨rfl, rfl⟩

theorem toCalender_present {s : State} (h39 : domOn s 39 = true) (h2 : present s 2 = true) (i : SideId) (f : State → State) :
    toCalender i f s = f s := if_pos (by rw [h39, h2]; rfl)

section
variable {s : State} {i : SideId} (hd : domOn s (i.val + 1) = true)
include hd

theorem exec_measurementClose (m : Measured) : exec (.measurementClose i m) s = done s (
    if inData s i then
      (if calRuns s i = true ∧ 4096 ≤ s.sides[i].measUi then toCalender i (fun s => closeMeasurement s i m) s else s)
    else if adapting s i then toCalender i (fun s => closeTraining s i m) s
    else s) :=
  congrArg (done s) (if_neg fun h : domOn s (i.val + 1) = false => Bool.noConfusion (hd.symm.trans h))

theorem measurementClose_nothing (m : Measured) (hin : inData s i = true) (h : s.sides[i].measUi < 4096 ∨ calRuns s i = false) :
    Does (.measurementClose i m) s [] fun _ => True := by
  have hno : ¬(calRuns s i = true ∧ 4096 ≤ s.sides[i].measUi) := by
    rintro ⟨hrun, hui⟩
    rcases h with h | h
    · omega
    · rw [hrun] at h
      cases h
  have hx := exec_measurementClose hd m
  rw [if_pos hin, if_neg hno] at hx
  exact does_nothing hx

section
variable (hin : inData s i = true) (hrun : calRuns s i = true) (hui : 4096 ≤ s.sides[i].measUi) (h39 : domOn s 39 = true)
  (h2 : present s 2 = true)
include hin hrun hui h39 h2

theorem exec_measurementClose_data (m : Measured) : exec (.measurementClose i m) s = done s (closeMeasurement s i m) := by
  rw [exec_measurementClose hd, if_pos hin, if_pos ⟨hrun, hui⟩, toCalender_present h39 h2]

/-- A measurement that closes in data reports its residual error and leaves what it has not closed (R186 to R188). -/
theorem measurementClose_closes (m : Measured) : Affects (.measurementClose i m) s [.sides, .free] fun t =>
    t.sides[i].resid = BitVec.ofNat 16 (residOf m.sumSq (min s.sides[i].measUi 65536)) ∧
    t.sides[i].measUi = s.sides[i].measUi - min s.sides[i].measUi 65536 ∧
    (s.sides[i].measUi ≤ 65536 → t.sides[i].measErr = 0 ∧ t.sides[i].measErr1 = 0) ∧
    t.sides[i].calAge = 0 ∧ t.sides[i].turn = (!s.sides[i].turn) ∧ (∀ j : SideId, j ≠ i → t.sides[j] = s.sides[j]) := by
  obtain ⟨v, hv⟩ : ∃ v, v = gateMeasurement (noteSparse s.usedFree.usedFree i m) i m (closedOf s i m) := ⟨_, rfl⟩
  have hx := exec_measurementClose_data hd hin hrun hui h39 h2 m
  rw [closeMeasurement_eq, ← hv] at hx
  have hkeep : SideKeeps counted i s v := by
    rw [hv]
    exact (((SideKeeps.usedFree s).trans (SideKeeps.usedFree _)).trans (noteSparse_counted _ i m)).trans (gateMeasurement_counted _ i m _)
  obtain ⟨hannounce, hsides⟩ := announceValid_keeps (fun _ => ()) s.sides[i].calValid i (v.modSide i (nextMeasurement (closedOf s i m)))
  have hall := ((hkeep.reading fun _ => ()).trans (SideKeeps.modSide v rfl)).trans hannounce
  have hcounts := hkeep.self
  simp only [counted, Prod.mk.injEq] at hcounts
  obtain ⟨hmeas, herr, herr1, hturn⟩ := hcounts
  have hself := modSide_side v i (nextMeasurement (closedOf s i m))
  refine affects_of hx (fun q hq => hall.part hq) ⟨?_, ?_, fun hle => ?_, ?_, ?_, fun j hj => ?_⟩
  · rw [settle_sides, hsides, hself]
    exact congrArg (BitVec.ofNat 16) (closing_resid _ _ _ _)
  · rw [settle_sides, hsides, hself, ← closing_ui s.sides[i] m.sumSq s.openNat s.usedFree.openNat]
    exact congrArg (· - _) hmeas
  · obtain ⟨he0, he1⟩ := closing_errors hle m.sumSq s.openNat s.usedFree.openNat
    rw [settle_sides, hsides, hself]
    refine ⟨?_, ?_⟩
    · show v.sides[i].measErr - (closedOf s i m).e0 = 0
      rw [herr, closedOf, he0, Nat.sub_self]
    · show v.sides[i].measErr1 - (closedOf s i m).e1 = 0
      rw [herr1, closedOf, he1, Nat.sub_self]
  · rw [settle_sides, hsides, hself]
    rfl
  · rw [settle_sides, hsides, hself]
    exact congrArg Bool.not hturn
  · rw [settle_sides]
    exact hall.others j hj

/-! ### A high measurement gates -/

/-- A side that its disturbance gates (R193). -/
def shutGate (x : Side) : Side :=
  { x with gated := true, calm := 0, gatedN := 0, gates := satInc x.gates, targets := x.targets.filter fun t => t.ramp }

omit hd hin hrun hui h39 h2 in
theorem gateMeasurement_high (m : Measured) {c : Closed} (hg : s.sides[i].gated = false) (hh : isHigh s.sides[i] c.resid = true) :
    gateMeasurement s i m c = raise (s.modSide i shutGate) 0x0310 ([by1 i.val] ++ be 2 c.resid ++ be 2 s.sides[i].baseline.toNat) := by
  have hopen : ¬s.sides[i].gated = true := by rw [hg]; exact Bool.false_ne_true
  unfold gateMeasurement
  exact (if_neg hopen).trans (if_pos hh)

omit hd hin hrun hui h39 h2 in
theorem announceValid_same {before : Bool} (h : s.sides[i].calValid = before) : announceValid before i s = s := by
  have hno : ¬(s.sides[i].calValid && !before) = true := by rw [h, Bool.and_not_self]; exact Bool.false_ne_true
  exact if_neg hno

theorem measurementClose_gates (m : Measured) (hmode : pcMode s.paths[pathOf i].cfg ≠ 5) (hg : s.sides[i].gated = false)
    (hh : isHigh s.sides[i] (residOf m.sumSq (min s.sides[i].measUi 65536)) = true) :
    Reports (.measurementClose i m) s 0x0310
      ([BitVec.ofNat 8 i.val] ++ be 2 (residOf m.sumSq (min s.sides[i].measUi 65536)) ++ be 2 s.sides[i].baseline.toNat)
      [.sides, .free] fun t => t.sides[i].gated = true ∧ t.sides[i].gates = satInc s.sides[i].gates ∧
        t.sides[i].baseline = s.sides[i].baseline ∧ t.sides[i].left = s.sides[i].left ∧ t.sides[i].right = s.sides[i].right := by
  obtain ⟨v, hv⟩ : ∃ v, v = s.usedFree.usedFree.modSide i shutGate := ⟨_, rfl⟩
  have hresid : (closedOf s i m).resid = residOf m.sumSq (min s.sides[i].measUi 65536) := closing_resid _ _ _ _
  have hvs : v.sides[i] = shutGate s.sides[i] := by rw [hv]; exact modSide_side _ i shutGate
  rw [← hresid] at hh ⊢
  have hx := exec_measurementClose_data hd hin hrun hui h39 h2 m
  have hclosed := modSide_side (raise v 0x0310 ([by1 i.val] ++ be 2 (closedOf s i m).resid ++ be 2 s.sides[i].baseline.toNat)) i
    (nextMeasurement (closedOf s i m))
  simp only [raise_sides, hvs] at hclosed
  have hsparse : noteSparse s.usedFree.usedFree i m = s.usedFree.usedFree := if_neg hmode
  have hgate : gateMeasurement s.usedFree.usedFree i m (closedOf s i m) = raise (s.usedFree.usedFree.modSide i shutGate) 0x0310
      ([by1 i.val] ++ be 2 (closedOf s i m).resid ++ be 2 s.sides[i].baseline.toNat) :=
    gateMeasurement_high (s := s.usedFree.usedFree) m hg hh
  rw [← hv] at hgate
  rw [closeMeasurement_eq, hsparse, hgate, announceValid_same (by rw [hclosed]; rfl)] at hx
  have hkeep : SideKeeps (fun _ => ()) i s v := by
    rw [hv]
    exact ((SideKeeps.usedFree s).trans (SideKeeps.usedFree _)).trans (SideKeeps.modSide _ rfl)
  refine affects_of hx (fun q hq => SideKeeps.part (g := fun _ => ()) (i := i) ?_ hq) ⟨?_, ?_⟩
  · exact SideKeeps.trans (hkeep.trans (SideKeeps.raise v _ _)) (SideKeeps.modSide _ rfl)
  · have hview : eventView v = eventView s := by rw [hv]; rfl
    refine Raised.settle ?_ s
    exact raised_in hview rfl rfl
  · simp only [settle_sides, hclosed]
    exact ⟨rfl, rfl, rfl, rfl, rfl⟩

end

/-! ### A measurement in training -/

omit hd in
theorem putCode_keeps {β : Type} (g : Side → β) (hg : ∀ x set c, g (relimit set (putImages x set c)) = g x) (s : State) (i : SideId)
    (corr sub : Nat) (v : Int) : SideKeeps g i s (putCode s i corr sub v) :=
  SideKeeps.modSide s (hg _ _ _)

omit hd in
theorem limitEvent_keeps {β : Type} (g : Side → β) (hg : ∀ x l, g { x with atLimit := l } = g x) (s : State) (i : SideId)
    (corr sub : Nat) (code : Int) : SideKeeps g i s (limitEvent s i corr sub code) := by
  unfold limitEvent
  split
  · exact SideKeeps.refl s
  · exact (SideKeeps.modSide s (hg _ _)).trans (SideKeeps.raise _ _ _)

omit hd in
theorem landTarget_adapted (s : State) (i : SideId) (t : CalTarget) : SideKeeps adaptedView i s (landTarget i s t) := by
  unfold landTarget
  dsimp only
  split
  · exact putCode_keeps adaptedView (fun _ _ _ => rfl) s i _ _ _
  · exact (putCode_keeps adaptedView (fun _ _ _ => rfl) s i _ _ _).trans (limitEvent_keeps adaptedView (fun _ _ => rfl) _ i _ _ _)

/-- A side on which a measurement has closed in training. -/
def trained (slow : Bool) (m : Measured) (e0 e1 : Nat) (x : Side) : Side :=
  { setTargets slow m (moveTrackers slow false 65536 e0 e1 x) with
    resid := BitVec.ofNat 16 (residOf m.sumSq 65536), turn := !x.turn, calAge := 0, adapted := true }

omit hd in
theorem trained_view (slow : Bool) (m : Measured) (e0 e1 : Nat) (x : Side) :
    adaptedView (trained slow m e0 e1 x) = (BitVec.ofNat 16 (residOf m.sumSq 65536), 0, true, !x.turn, x.measUi) := by
  obtain ⟨htargets, htrackers⟩ := counted_blind
  have hcounts := (htargets.setTargets slow m _).trans (htrackers.moveTrackers slow false 65536 e0 e1 x)
  simp only [counted, Prod.mk.injEq] at hcounts
  simp only [adaptedView, trained, hcounts.1]

theorem measurementClose_trains (m : Measured) (hin : inData s i = false) (had : adapting s i = true) (h39 : domOn s 39 = true)
    (h2 : present s 2 = true) : Affects (.measurementClose i m) s [.sides, .free] fun t =>
      t.sides[i].resid = BitVec.ofNat 16 (residOf m.sumSq 65536) ∧ t.sides[i].calAge = 0 ∧ t.sides[i].adapted = true ∧
      t.sides[i].turn = (!s.sides[i].turn) ∧ t.sides[i].measUi = s.sides[i].measUi ∧ ∀ j : SideId, j ≠ i → t.sides[j] = s.sides[j] := by
  obtain ⟨v, hv⟩ : ∃ v, v = s.usedFree.usedFree.modSide i (trained (slowSide s i) m s.openNat s.usedFree.openNat) := ⟨_, rfl⟩
  have hx := exec_measurementClose hd m
  rw [if_neg (by rw [hin]; exact Bool.false_ne_true), if_pos had, toCalender_present h39 h2] at hx
  obtain ⟨u, hu⟩ : ∃ u, u = (v.sides[i].targets.filter (lands v i)).foldl (landTarget i) v := ⟨_, rfl⟩
  have hclose : closeTraining s i m = u := by rw [hu, hv]; rfl
  rw [hclose] at hx
  have hland : SideKeeps adaptedView i v u := by
    rw [hu]
    exact SideKeeps.foldl (fun t a _ => landTarget_adapted t i a) v
  have hkeep : SideKeeps (fun _ => ()) i s v := by
    rw [hv]
    exact ((SideKeeps.usedFree s).trans (SideKeeps.usedFree _)).trans (SideKeeps.modSide _ rfl)
  have hall := hkeep.trans (hland.reading fun _ => ())
  have hview := hland.self
  have hvs : v.sides[i] = trained (slowSide s i) m s.openNat s.usedFree.openNat s.sides[i] := by rw [hv]; exact modSide_side _ i _
  rw [hvs, trained_view] at hview
  simp only [adaptedView, Prod.mk.injEq] at hview
  obtain ⟨hresid, hage, hadapted, hturn, hui⟩ := hview
  refine affects_of hx (fun q hq => hall.part hq) ?_
  simp only [settle_sides]
  exact ⟨hresid, hage, hadapted, hturn, hui, hall.others⟩

end

end Sys2Proof.Machine
end

section
/-! Kerfs, and the steps made in them (R84, R150, R191, R192). -/

namespace Sys2Proof.Machine

/-! ### The side across -/

theorem pathOf_opposite (i : SideId) : pathOf (opposite i) = pathOf i := (pathOf_sideOf _ _).trans (pathOfLane_laneOf i)

theorem opposite_ne (i : SideId) : opposite i ≠ i := by
  intro h
  have he : endOf (opposite i) = endOf i := by rw [h]
  have hv := congrArg Fin.val ((endOf_sideOf _ _).symm.trans he)
  have hend : (endOf i).val = i.val % 2 := rfl
  rw [hend] at hv
  split at hv
  · next heven => rw [heven] at hv; exact absurd hv (by decide)
  · next hodd => exact hodd hv.symm

/-! ### Codes -/

/-- The code one step from `n` toward `c`. -/
def nearer (n c : Nat) : Nat := if n < c then n + 1 else n - 1

theorem nearer_le {n c : Nat} (hn : n ≤ 31) (hc : c ≤ 31) : nearer n c ≤ 31 := by
  unfold nearer
  split <;> omega

theorem nearer_ne {n c : Nat} (h : n ≠ c) : nearer n c ≠ n := by
  unfold nearer
  split <;> omega

theorem extract_le (r : R40) (lo : Nat) : (r.extractLsb' lo 5).toNat ≤ 31 := by
  have h := (r.extractLsb' lo 5).isLt
  omega

/-- A field of five bits replaced reads as the code that replaced it. -/
theorem toNat_extract_code (r : R40) {lo k : Nat} (hlo : lo + 4 < 40) (hk : k ≤ 31) :
    ((setFld r (lo + 4) lo k).extractLsb' lo 5).toNat = k := by
  have hfield := extract_setFld r (Nat.le_add_right lo 4) hlo k
  rw [show lo + 4 + 1 - lo = 5 by omega] at hfield
  rw [hfield, BitVec.toNat_ofNat, Nat.mod_eq_of_lt (Nat.lt_succ_of_le hk)]

theorem fieldOf_natCast {n k : Nat} (h : k < 2 ^ n) : fieldOf n (k : Int) = k := by
  rw [fieldOf, ← Int.natCast_mod, Int.toNat_natCast, Nat.mod_eq_of_lt h]

/-- A correction whose codes run from 0 to 31 steps from its code toward its target's. -/
theorem stepCode_nearer {s : State} {i : SideId} {t : CalTarget} {n c : Nat} (hlow : corrLow t.corr t.sub = 0)
    (hhigh : corrHigh t.corr t.sub = 31) (hnow : codeNow s i t = n) (hc : t.code = c) (hn : n ≤ 31) (hcle : c ≤ 31) (hne : n ≠ c) :
    stepCode s i t = (nearer n c : Nat) := by
  have hside : n < c ∨ c < n := Nat.lt_or_gt_of_ne hne
  rw [stepCode, hlow, hhigh, hnow, hc, clampI, nearer]
  split <;> split <;> omega

/-! ### One step -/

/-- A correction's step counted, and a trim's stamped; a ramp ends at its value (R191, R192, R196). -/
def noteStep (now : Stamp) (t : CalTarget) (goal : Int) (x : Side) : Side := { x with
  steps := satInc x.steps
  trimAt := if t.corr ≤ 4 then x.trimAt else (x.trimAt.filter fun k => !(k.1 == t.corr && k.2.1 == t.sub)) ++ [(t.corr, t.sub, now)]
  targets := if t.ramp && goal == t.code then x.targets.filter (fun u => !isTarget t.corr t.sub u) else x.targets }

/-- A side whose correction has made one step toward a target. -/
def stepped (s : State) (i : SideId) (t : CalTarget) (x : Side) : Side :=
  let set := runSet s.paths[pathOf i]
  noteStep s.now t (stepCode s i t) (relimit set (putImages x set (corrSet (imagesOf x set) t.corr t.sub (stepCode s i t))))

theorem modSide_modSide (s : State) (i : SideId) (f g : Side → Side) : (s.modSide i f).modSide i g = s.modSide i fun x => g (f x) := by
  simp [State.modSide, vmod]

theorem stepTarget_moves {s : State} {i : SideId} {t : CalTarget} (h : stepCode s i t ≠ codeNow s i t) :
    ∃ w m, stepTarget s i t = { s.modSide i (stepped s i t) with win := w, mbx := m } := by
  have hstep : stepTarget s i t = traceStep ((putCode s i t.corr t.sub (stepCode s i t)).modSide i (noteStep s.now t (stepCode s i t)))
      (32 + i.val) t.corr (stepCode s i t) := if_neg h
  obtain ⟨w, m, htrace⟩ := trace_cases ((putCode s i t.corr t.sub (stepCode s i t)).modSide i (noteStep s.now t (stepCode s i t)))
    2 (32 + i.val) (t.corr * 256 + fieldOf 8 (stepCode s i t)) s.now
  refine ⟨w, m, (hstep.trans htrace).trans ?_⟩
  rw [putCode, modSide_modSide]
  rfl

/-- A kerf's one step on a side, and the wait of a FEC lane after it (R150). -/
def kerfStepped (s : State) (i : SideId) (t : CalTarget) (x : Side) : Side := { stepped s i t x with
  fecWait := if kerfMode s i = 2 ∧ pcFec s.paths[pathOf i].cfg = true then 3 else x.fecWait }

theorem commitKerf_one {s : State} {i : SideId} {t : CalTarget} (htargets : s.sides[i].targets = [t]) (hmoves : kerfMoves s i t = true)
    (hpend : pending s i t = true) (h : stepCode s i t ≠ codeNow s i t) :
    ∃ w m, commitKerf s i = { s.modSide i (kerfStepped s i t) with win := w, mbx := m } := by
  obtain ⟨w, m, hstep⟩ := stepTarget_moves h
  have hdue : (s.sides[i].targets.filter fun t => kerfMoves s i t && pending s i t) = [t] := by
    rw [htargets, List.filter_singleton, hmoves, hpend]
    rfl
  have hheld : ([t].filter fun t => stepCode s i t == codeNow s i t) = [] := by simp [h]
  have hfirst : ([t].find? fun t => stepCode s i t != codeNow s i t) = some t := by simp [h]
  refine ⟨w, m, ?_⟩
  unfold commitKerf
  simp only [hdue, hheld, hfirst, List.foldl_cons, List.foldl_nil, hstep, Bool.and_eq_true, beq_iff_eq]
  by_cases hfec : kerfMode s i = 2 ∧ pcFec s.paths[pathOf i].cfg = true
  · have hside : kerfStepped s i t = fun x => { stepped s i t x with fecWait := 3 } := by
      funext x
      rw [kerfStepped, if_pos hfec]
    rw [if_pos hfec, hside, ← modSide_modSide s i (stepped s i t) fun x => { x with fecWait := 3 }]
    rfl
  · have hside : kerfStepped s i t = stepped s i t := by
      funext x
      rw [kerfStepped, if_neg hfec]
      rfl
    rw [if_neg hfec, hside]

theorem commitKerf_nothing {s : State} {i : SideId} (h : s.sides[i].targets = []) : commitKerf s i = s := by
  unfold commitKerf
  simp only [h, List.filter_nil]
  split <;> rfl

/-! ### KERF_COMMIT -/

theorem stepTx_none {s : State} {i : SideId} (h : s.sides[i].txRamp = none) : stepTx s i = s := by
  unfold stepTx
  rw [h]

section
variable {s : State} {i : SideId} (hd : domOn s (i.val + 1) = true) (hin : inData s i = true)
include hd hin

theorem exec_kerfCommit {v : State} (hv : v = stepTx s (opposite i)) : exec (.kerfCommit i) s = done s (
    if v.sides[i].fecWait ≠ 0 then v.modSide i fun x => { x with fecWait := x.fecWait - 1 }
    else if fecHolds v i = true then v
    else commitKerf v i) := by
  subst hv
  exact congrArg (done s) (if_neg (by rw [hasKerf_eq hd, hin]; exact Bool.noConfusion))

theorem kerfCommit_waits (htx : s.sides[opposite i].txRamp = none) (hw : s.sides[i].fecWait ≠ 0) :
    Does (.kerfCommit i) s [.sides] fun t => t.sides = vmod s.sides i fun x => { x with fecWait := x.fecWait - 1 } := by
  have hx := exec_kerfCommit hd hin (stepTx_none htx).symm
  rw [if_pos hw] at hx
  exact does_of hx (fun q hq => Part.untouched_modSide s i _ (List.ne_of_not_mem_cons hq)) rfl

section
variable (htx : s.sides[opposite i].txRamp = none) (hw : s.sides[i].fecWait = 0) (hfec : fecHolds s i = false)
include htx hw hfec

/-- A kerf moves the one correction that has a target (R150, R191, R192). -/
theorem kerfCommit_steps {t : CalTarget} (htargets : s.sides[i].targets = [t]) (hmoves : kerfMoves s i t = true)
    (hpend : pending s i t = true) (h : stepCode s i t ≠ codeNow s i t) :
    Affects (.kerfCommit i) s [.sides, .win, .mbx] fun u => u.sides[i] = kerfStepped s i t s.sides[i] ∧
      ∀ j : SideId, j ≠ i → u.sides[j] = s.sides[j] := by
  obtain ⟨w, m, hcommit⟩ := commitKerf_one htargets hmoves hpend h
  have hx := exec_kerfCommit hd hin (stepTx_none htx).symm
  have hno : ¬fecHolds s i = true := by rw [hfec]; exact Bool.false_ne_true
  rw [if_neg (not_not_intro hw), if_neg hno, hcommit] at hx
  refine affects_of hx (fun q hq => Part.noted_of_kept (Part.kept_of_untouched ?_)) ⟨?_, fun j hj => ?_⟩
  · cases q
    case sides | win | mbx => exact absurd (by decide) hq
    all_goals rfl
  · rw [settle_sides]
    exact modSide_side s i _
  · rw [settle_sides]
    exact modSide_side_other hj

/-- One that ramps among codes 0 to 31 moves one code (R191, R196). -/
theorem kerfCommit_ramps {t : CalTarget} {n c : Nat} (htargets : s.sides[i].targets = [t]) (hmoves : kerfMoves s i t = true)
    (hramp : t.ramp = true) (hdfe : t.corr ≠ 3) (hlow : corrLow t.corr t.sub = 0) (hhigh : corrHigh t.corr t.sub = 31)
    (hnow : codeNow s i t = n) (htc : t.code = c) (hn : n ≤ 31) (hc : c ≤ 31) (hne : n ≠ c) :
    stepCode s i t = (nearer n c : Nat) ∧
    Affects (.kerfCommit i) s [.sides, .win, .mbx] fun u => u.sides[i] = kerfStepped s i t s.sides[i] ∧
      ∀ j : SideId, j ≠ i → u.sides[j] = s.sides[j] := by
  have hstep := stepCode_nearer hlow hhigh hnow htc hn hc hne
  have hpend : pending s i t = true := by
    have hcode : (n : Int) ≠ c := by exact_mod_cast hne
    simp [pending, hnow, htc, hcode, hramp, hdfe]
  refine ⟨hstep, kerfCommit_steps hd hin htx hw hfec htargets hmoves hpend ?_⟩
  rw [hstep, hnow]
  exact_mod_cast nearer_ne hne

/-- A kerf of a permitted line moves CTLE one code (R150, R191). -/
theorem kerfCommit_ctle {set : Fin 4} {n c : Nat} (hset : set = runSet s.paths[pathOf i]) (hc : c ≤ 31) (hline : digitalLine s i = true)
    (htargets : s.sides[i].targets = [{ corr := 1, sub := 0, code := c, ramp := true }])
    (hn : n = (s.sides[i].rxeq[set].extractLsb' 35 5).toNat) (hne : n ≠ c) :
    Affects (.kerfCommit i) s [.sides, .win, .mbx] fun t =>
      (t.sides[i].rxeq[set].extractLsb' 35 5).toNat = (if n < c then n + 1 else n - 1) ∧
      (∀ k : Nat, k < 35 → t.sides[i].rxeq[set].getLsbD k = s.sides[i].rxeq[set].getLsbD k) ∧
      t.sides[i].fecWait = (if kerfMode s i = 2 ∧ pcFec s.paths[pathOf i].cfg = true then 3 else 0) ∧
      t.sides[i].steps = satInc s.sides[i].steps ∧ ∀ j : SideId, j ≠ i → t.sides[j] = s.sides[j] := by
  subst hset
  have hn31 : n ≤ 31 := hn ▸ extract_le _ _
  have hgoal := nearer_le hn31 hc
  have hnow : codeNow s i { corr := 1, sub := 0, code := c, ramp := true } = n := by
    rw [hn, ← fld_eq_extract s.sides[i].rxeq[runSet s.paths[pathOf i]] 39 35]
    rfl
  obtain ⟨hstep, u, hx, ⟨hself, hothers⟩, hkept⟩ :=
    kerfCommit_ramps hd hin htx hw hfec htargets hline rfl (show 1 ≠ 3 by decide) rfl rfl hnow rfl hn31 hc hne
  have hreg : u.sides[i].rxeq[runSet s.paths[pathOf i]] =
      setFld s.sides[i].rxeq[runSet s.paths[pathOf i]] 39 35 (nearer n c) := by
    rw [hself, ← fieldOf_natCast (n := 5) (Nat.lt_succ_of_le hgoal), ← hstep]
    exact vmod_same s.sides[i].rxeq _ _
  refine ⟨u, hx, ⟨?_, fun k hk => ?_, ?_, ?_, hothers⟩, hkept⟩
  · rw [hreg]
    exact toNat_extract_code _ (by omega) hgoal
  · rw [hreg, getLsbD_setFld _ (by omega) _ _ (by omega), if_neg (by omega)]
  · rw [hself, kerfStepped, hw]
  · rw [hself]
    rfl

/-- A kerf in a TRIM line moves the termination one code (R192). -/
theorem kerfCommit_term {n c : Nat} (hc : c ≤ 31) (hline : trimMoves s i { corr := 7, sub := 0, code := c, ramp := true } = true)
    (htargets : s.sides[i].targets = [{ corr := 7, sub := 0, code := c, ramp := true }])
    (hn : n = (s.sides[i].trim.extractLsb' 30 5).toNat) (hne : n ≠ c) :
    Affects (.kerfCommit i) s [.sides, .win, .mbx] fun t =>
      (t.sides[i].trim.extractLsb' 30 5).toNat = (if n < c then n + 1 else n - 1) ∧
      (∀ k : Nat, k < 40 → (k < 30 ∨ 35 ≤ k) → t.sides[i].trim.getLsbD k = s.sides[i].trim.getLsbD k) ∧
      (7, 0, s.now) ∈ t.sides[i].trimAt ∧
      t.sides[i].steps = satInc s.sides[i].steps ∧ ∀ j : SideId, j ≠ i → t.sides[j] = s.sides[j] := by
  have hn31 : n ≤ 31 := hn ▸ extract_le _ _
  have hgoal := nearer_le hn31 hc
  have hnow : codeNow s i { corr := 7, sub := 0, code := c, ramp := true } = n := by
    rw [hn, ← fld_eq_extract s.sides[i].trim 34 30]
    rfl
  obtain ⟨hstep, u, hx, ⟨hself, hothers⟩, hkept⟩ :=
    kerfCommit_ramps hd hin htx hw hfec htargets hline rfl (show 7 ≠ 3 by decide) rfl rfl hnow rfl hn31 hc hne
  have hreg : u.sides[i].trim = setFld s.sides[i].trim 34 30 (nearer n c) := by
    rw [hself, ← fieldOf_natCast (n := 5) (Nat.lt_succ_of_le hgoal), ← hstep]
    rfl
  refine ⟨u, hx, ⟨?_, fun k hk hout => ?_, ?_, ?_, hothers⟩, hkept⟩
  · rw [hreg]
    exact toNat_extract_code _ (by omega) hgoal
  · rw [hreg, getLsbD_setFld _ (by omega) _ _ hk, if_neg (by omega)]
  · rw [hself]
    exact List.mem_append_right _ (List.mem_singleton_self _)
  · rw [hself]
    rfl

end
end

end Sys2Proof.Machine
end

section
/-! Transmitter ramps and initial calibration (R84, R198). -/

namespace Sys2Proof.Machine

/-! ### A transmitter's ramp -/

theorem stepField_lt {a b n : Nat} (ha : a < n) (hb : b < n) : stepField a b < n := by
  unfold stepField
  split
  · omega
  · split <;> omega

theorem toNat_pack (w : Nat) (fs : List (Nat × Nat)) :
    (pack w fs).toNat = fs.foldl (fun a p => a + p.1 * 2 ^ p.2) 0 % 2 ^ w := BitVec.toNat_ofNat _ _

/-- With the places kept as variables, the kernel compares the sums without computing powers. -/
theorem toNat_pack_five (w a b c d e i j k l m : Nat) : (pack w [(a, i), (b, j), (c, k), (d, l), (e, m)]).toNat =
    (a * 2 ^ i + b * 2 ^ j + c * 2 ^ k + d * 2 ^ l + e * 2 ^ m) % 2 ^ w := by
  rw [toNat_pack]
  simp only [List.foldl_cons, List.foldl_nil, Nat.zero_add]

theorem toNat_txWith (r : R40) (a b c d : Nat) : (txWith r a b c d).toNat =
    (fld r 33 28 * 2 ^ 28 + a * 2 ^ 24 + b * 2 ^ 19 + c * 2 ^ 12 + d * 2 ^ 7) % 2 ^ 40 := by
  rw [txWith, toNat_pack_five]

/-- The coefficients of a TXEQ put together read back (Table 4.2). -/
theorem extract_txWith (r : R40) {a b c d : Nat} (ha : a < 16) (hb : b < 32) (hc : c < 128) (hd : d < 32) :
    ((txWith r a b c d).extractLsb' 24 4).toNat = a ∧ ((txWith r a b c d).extractLsb' 19 5).toNat = b ∧
    ((txWith r a b c d).extractLsb' 12 7).toNat = c ∧ ((txWith r a b c d).extractLsb' 7 5).toNat = d := by
  refine ⟨?_, ?_, ?_, ?_⟩
  all_goals
    rw [BitVec.extractLsb'_toNat, Nat.shiftRight_eq_div_pow, toNat_txWith]
    omega

/-- A TXEQ one step nearer to another in each coefficient (R84). -/
def txNearer (r v : R40) : R40 :=
  txWith r (stepField (fld r 27 24) (fld v 27 24)) (stepField (fld r 23 19) (fld v 23 19)) (stepField (fld r 18 12) (fld v 18 12))
    (stepField (fld r 11 7) (fld v 11 7))

theorem extract_txNearer (r v : R40) : ∀ f ∈ [(24, 4), (19, 5), (12, 7), (7, 5)],
    ((txNearer r v).extractLsb' f.1 f.2).toNat = stepField (r.extractLsb' f.1 f.2).toNat (v.extractLsb' f.1 f.2).toNat := by
  have hlt (x : R40) (hi lo : Nat) : fld x hi lo < 2 ^ (hi + 1 - lo) := Nat.mod_lt _ (Nat.two_pow_pos _)
  obtain ⟨hpre2, hpre1, hmain, hpost1⟩ := extract_txWith r (stepField_lt (hlt r 27 24) (hlt v 27 24))
    (stepField_lt (hlt r 23 19) (hlt v 23 19)) (stepField_lt (hlt r 18 12) (hlt v 18 12)) (stepField_lt (hlt r 11 7) (hlt v 11 7))
  simp only [fld_eq_extract] at hpre2 hpre1 hmain hpost1
  simp only [List.forall_mem_cons, txNearer, fld_eq_extract]
  exact ⟨hpre2, hpre1, hmain, hpost1, fun _ h => absurd h List.not_mem_nil⟩

/-- A transmitter after one step of its ramp. -/
def txStepped (set : Fin 4) (v : R40) (x : Side) : Side := { x with
  txeq := vmod x.txeq set fun _ => txNearer x.txeq[set] v, txRamp := if txNearer x.txeq[set] v = v then none else some v }

theorem stepTx_some {s : State} {i : SideId} {v : R40} {set : Fin 4} (hset : set = runSet s.paths[pathOf i])
    (h : s.sides[i].txRamp = some v) : ∃ f, stepTx s i = s.modSide i f ∧ f s.sides[i] = txStepped set v s.sides[i] := by
  subst hset
  unfold stepTx
  rw [h]
  exact ⟨_, rfl, rfl⟩

/-- A kerf moves each coefficient of the transmitter across one code (R84). -/
theorem kerfCommit_ramps_tx {s : State} {i : SideId} {v : R40} {set : Fin 4} (hd : domOn s (i.val + 1) = true) (hin : inData s i = true)
    (htx : s.sides[opposite i].txRamp = some v) (htargets : s.sides[i].targets = []) (hw : s.sides[i].fecWait = 0)
    (hset : set = runSet s.paths[pathOf i]) : Does (.kerfCommit i) s [.sides] fun t =>
      (∀ j : SideId, j ≠ opposite i → t.sides[j] = s.sides[j]) ∧
      ∀ f ∈ [(24, 4), (19, 5), (12, 7), (7, 5)], ∀ a b : Nat, a = (s.sides[opposite i].txeq[set].extractLsb' f.1 f.2).toNat →
        b = (v.extractLsb' f.1 f.2).toNat →
        (t.sides[opposite i].txeq[set].extractLsb' f.1 f.2).toNat = if a < b then a + 1 else if b < a then a - 1 else a := by
  have hacrossSet : set = runSet s.paths[pathOf (opposite i)] := by simpa only [pathOf_opposite] using hset
  obtain ⟨f, hstep, hf⟩ := stepTx_some hacrossSet htx
  have hself : (s.modSide (opposite i) f).sides[i] = s.sides[i] := modSide_side_other (opposite_ne i).symm
  have hx := exec_kerfCommit hd hin hstep.symm
  rw [hself, if_neg (not_not_intro hw), commitKerf_nothing (by rw [hself]; exact htargets), ite_self] at hx
  have hacross : (s.modSide (opposite i) f).sides[opposite i] = txStepped set v s.sides[opposite i] :=
    (modSide_side s (opposite i) f).trans hf
  refine does_of hx (fun q hq => Part.untouched_modSide s _ _ (List.ne_of_not_mem_cons hq)) ⟨fun j hj => ?_, fun k hk a b ha hb => ?_⟩
  · rw [settle_sides]
    exact modSide_side_other hj
  · have hreg : (txStepped set v s.sides[opposite i]).txeq[set] = txNearer s.sides[opposite i].txeq[set] v :=
      vmod_same s.sides[opposite i].txeq set _
    rw [settle_sides, hacross, hreg, extract_txNearer _ _ k hk, ← ha, ← hb]
    rfl

/-! ### Initial calibration -/

/-- Transmitters of one path forwarding or not, and nothing else, lie between two states. -/
def OnlyForwards (p : PathId) (s t : State) : Prop :=
  t = { s with sides := t.sides } ∧ (∀ j : SideId, { t.sides[j] with txIdle := s.sides[j].txIdle } = s.sides[j]) ∧
  ∀ j : SideId, pathOf j ≠ p → t.sides[j] = s.sides[j]

theorem OnlyForwards.refl (p : PathId) (s : State) : OnlyForwards p s s := ⟨rfl, fun _ => rfl, fun _ _ => rfl⟩

theorem OnlyForwards.trans {p : PathId} {s t u : State} (h : OnlyForwards p s t) (k : OnlyForwards p t u) : OnlyForwards p s u := by
  obtain ⟨hrest, hsides, hothers⟩ := h
  obtain ⟨krest, ksides, kothers⟩ := k
  refine ⟨?_, fun j => ?_, fun j hj => (kothers j hj).trans (hothers j hj)⟩
  · rw [hrest] at krest
    exact krest
  · have hj := congrArg (fun x : Side => { x with txIdle := s.sides[j].txIdle }) (ksides j)
    exact hj.trans (hsides j)

/-- A transmitter that forwards. -/
def forwards (x : Side) : Side := { x with txIdle := false }

theorem forward_onlyForwards {p : PathId} {i : SideId} (hi : pathOf i = p) (s : State) : OnlyForwards p s (forward s i) := by
  unfold forward
  split
  · refine ⟨rfl, fun j => ?_, fun j hj => modSide_side_other fun e => hj (by rw [e, pathOf_opposite, hi])⟩
    by_cases hj : j = opposite i
    · subst hj
      exact congrArg (fun x : Side => { x with txIdle := s.sides[opposite i].txIdle }) (modSide_side s (opposite i) forwards)
    · exact congrArg (fun x : Side => { x with txIdle := s.sides[j].txIdle }) (modSide_side_other (f := forwards) hj)
  · exact OnlyForwards.refl p s

theorem calibrated_onlyForwards (s : State) (p : PathId) : OnlyForwards p s (calibrated s p) := by
  unfold calibrated
  split
  · exact OnlyForwards.refl p s
  · exact List.foldlRecOn _ forward (OnlyForwards.refl p s) fun t ht i hi =>
      ht.trans (forward_onlyForwards (mem_sidesOf.mp (List.mem_of_mem_filter hi)) t)

theorem OnlyForwards.untouched {p : PathId} {s t : State} (h : OnlyForwards p s t) {q : Part} (hq : q ≠ .sides) : q.untouched s t := by
  rw [h.1]
  cases q
  case sides => exact absurd rfl hq
  all_goals rfl

/-- What initial calibration leaves of a side. -/
def calibratedView (x : Side) : Bool × R40 × R40 := (x.calDue, x.trim, x.soff)

theorem calibratedView_relimit (set : Fin 4) (x : Side) : calibratedView (relimit set x) = calibratedView x := rfl

theorem toNat_calibratedTrim (c : InitialCal) (x : Side) : (takeCalibration c x).trim.toNat =
    (c.pole.toNat * 2 ^ 35 + c.term.toNat * 2 ^ 30 + c.bias.toNat * 2 ^ 26 + c.txz.toNat * 2 ^ 21 + b2n (bit x.trim 20) * 2 ^ 20) %
      2 ^ 40 := by
  have htrim : (takeCalibration c x).trim =
      pack 40 [(c.pole.toNat, 35), (c.term.toNat, 30), (c.bias.toNat, 26), (c.txz.toNat, 21), (b2n (bit x.trim 20), 20)] := rfl
  rw [htrim, toNat_pack_five]

theorem toNat_calibratedSoff (c : InitialCal) (x : Side) :
    (takeCalibration c x).soff.toNat = c.soff.toNat / 2 ^ 4 % 2 ^ 36 * 2 ^ 4 % 2 ^ 40 := by
  have hsoff : (takeCalibration c x).soff = pack 40 [(fld c.soff 39 4, 4)] := rfl
  rw [hsoff, toNat_pack]
  simp only [List.foldl_cons, List.foldl_nil, Nat.zero_add, fld]

theorem b2n_le (b : Bool) : b2n b ≤ 1 := by cases b <;> decide

/-- The trims that initial calibration settled on read back (R198). -/
theorem takeCalibration_trims (c : InitialCal) (x : Side) :
    (takeCalibration c x).trim.extractLsb' 35 5 = c.pole ∧ (takeCalibration c x).trim.extractLsb' 30 5 = c.term ∧
    (takeCalibration c x).trim.extractLsb' 26 4 = c.bias ∧ (takeCalibration c x).trim.extractLsb' 21 5 = c.txz := by
  have hpole := c.pole.isLt
  have hterm := c.term.isLt
  have hbias := c.bias.isLt
  have htxz := c.txz.isLt
  have hseeded := b2n_le (bit x.trim 20)
  refine ⟨?_, ?_, ?_, ?_⟩
  all_goals
    apply BitVec.eq_of_toNat_eq
    rw [BitVec.extractLsb'_toNat, Nat.shiftRight_eq_div_pow, toNat_calibratedTrim]
    omega

/-- SEEDED is kept (R198). -/
theorem takeCalibration_seeded (c : InitialCal) (x : Side) : (takeCalibration c x).trim[20] = x.trim[20] := by
  have htxz := c.txz.isLt
  have hseeded := b2n_le (bit x.trim 20)
  have h20 : (takeCalibration c x).trim.toNat / 2 ^ 20 % 2 = b2n (bit x.trim 20) := by
    rw [toNat_calibratedTrim]
    omega
  rw [← bit_eq_getElem, ← bit_eq_getElem, bit, h20]
  cases bit x.trim 20 <;> rfl

theorem takeCalibration_soff (c : InitialCal) (x : Side) : (takeCalibration c x).soff = c.soff >>> 4 <<< 4 := by
  apply BitVec.eq_of_toNat_eq
  rw [toNat_calibratedSoff, BitVec.toNat_shiftLeft, BitVec.toNat_ushiftRight, Nat.shiftLeft_eq, Nat.shiftRight_eq_div_pow]
  omega

theorem initialCalibrationDone_reports {s : State} {i : SideId} (hd : domOn s (i.val + 1) = true) (c : InitialCal)
    (hdue : s.sides[i].calDue = true) :
    Reports (.initialCalibrationDone i c) s 0x0301 ([BitVec.ofNat 8 i.val, 0] ++ be 2 c.micros.toNat) [.sides] fun t =>
      (∀ j : SideId, j ≠ i → { t.sides[j] with txIdle := s.sides[j].txIdle } = s.sides[j]) ∧
      (∀ j : SideId, pathOf j ≠ pathOf i → t.sides[j] = s.sides[j]) ∧ t.sides[i].calDue = false ∧
      t.sides[i].trim.extractLsb' 35 5 = c.pole ∧ t.sides[i].trim.extractLsb' 30 5 = c.term ∧
      t.sides[i].trim.extractLsb' 26 4 = c.bias ∧ t.sides[i].trim.extractLsb' 21 5 = c.txz ∧
      t.sides[i].trim[20] = s.sides[i].trim[20] ∧ t.sides[i].soff = c.soff >>> 4 <<< 4 := by
  obtain ⟨data, hdata⟩ : ∃ data : List Byte, data = [BitVec.ofNat 8 i.val, 0] ++ be 2 c.micros.toNat := ⟨_, rfl⟩
  obtain ⟨f, hf⟩ : ∃ f : Side → Side, f = fun x => relimit (runSet s.paths[pathOf i]) (takeCalibration c x) := ⟨_, rfl⟩
  rw [← hdata]
  have hno : ¬(s.sides[i].calDue = false ∨ domOn s (i.val + 1) = false) := by
    rw [hdue, hd]
    simp
  have hx : exec (.initialCalibrationDone i c) s = done s (calibrated (raise (s.modSide i f) 0x0301 data) (pathOf i)) := by
    rw [hdata, hf]
    exact congrArg (done s) (if_neg hno)
  have honly := calibrated_onlyForwards (raise (s.modSide i f) 0x0301 data) (pathOf i)
  have hbefore (j : SideId) : (raise (s.modSide i f) 0x0301 data).sides[j] = (s.modSide i f).sides[j] := by rw [raise_sides]
  obtain ⟨t, ht⟩ : ∃ t, t = calibrated (raise (s.modSide i f) 0x0301 data) (pathOf i) := ⟨_, rfl⟩
  rw [← ht] at hx honly
  obtain ⟨-, hsides, hothers⟩ := id honly
  have hself : calibratedView t.sides[i] = calibratedView (takeCalibration c s.sides[i]) := by
    have hi := congrArg calibratedView (hsides i)
    rw [hbefore, modSide_side, hf] at hi
    exact hi.trans (calibratedView_relimit _ _)
  simp only [calibratedView, Prod.mk.injEq] at hself
  obtain ⟨hdone, htrim, hsoff⟩ := hself
  obtain ⟨hpole, hterm, hbias, htxz⟩ := takeCalibration_trims c s.sides[i]
  refine affects_of hx (fun q hq => ?_) ⟨?_, ?_⟩
  · have hne : q ≠ .sides := List.ne_of_not_mem_cons hq
    exact Part.noted_then_untouched (Part.noted_of_untouched (Part.untouched_modSide s i f hne) ((raise_noted _ _ _).part q))
      (honly.untouched hne)
  · refine Raised.settle ?_ s
    exact raised_in (u := s.modSide i f) rfl (honly.untouched (q := .win) (by decide)) (honly.untouched (q := .mbx) (by decide))
  · simp only [settle_sides]
    refine ⟨fun j hj => ?_, fun j hj => ?_, ?_⟩
    · have h := hsides j
      rw [hbefore, modSide_side_other hj] at h
      exact h
    · exact (hothers j hj).trans ((hbefore j).trans (modSide_side_other fun e => hj (by rw [e])))
    · exact ⟨hdone, (congrArg (BitVec.extractLsb' 35 5) htrim).trans hpole, (congrArg (BitVec.extractLsb' 30 5) htrim).trans hterm,
        (congrArg (BitVec.extractLsb' 26 4) htrim).trans hbias, (congrArg (BitVec.extractLsb' 21 5) htrim).trans htxz,
        (congrArg (fun r : R40 => r[20]) htrim).trans (takeCalibration_seeded c _), hsoff.trans (takeCalibration_soff c _)⟩

/-! ### The rows -/

/-- Settles O48, row by row: a measurement by what its steps leave of the side's counts, a kerf by the one field its step sets, initial
calibration by the fields of the registers it puts together. -/
theorem theCalenderAdapts : Obligations.TheCalenderAdapts := by
  unfold Obligations.TheCalenderAdapts
  intro s i hd
  refine ⟨fun m n r hin hrun hui h39 h2 hn hr => ?_, fun m => measurementClose_nothing hd m, fun m => measurementClose_trains hd m,
    fun set n c hin htx hw hset hc hfec => ⟨?_, ?_⟩, fun hin => kerfCommit_waits hd hin,
    fun v set hin htx htargets hw hset => kerfCommit_ramps_tx hd hin htx htargets hw hset,
    fun c hdue => initialCalibrationDone_reports hd c hdue⟩
  · subst hn hr
    exact ⟨measurementClose_closes hd hin hrun hui h39 h2 m, measurementClose_gates hd hin hrun hui h39 h2 m⟩
  · exact fun hline htargets hn hne => kerfCommit_ctle hd hin htx hw hfec hset hc hline htargets hn hne
  · exact fun hline htargets hn hne => kerfCommit_term hd hin htx hw hfec hc hline htargets hn hne

end Sys2Proof.Machine
end

section
/-! What changes of one path of PCI Express outside a bond group, its lanes and its sides (R93, R106 to R115). -/

namespace Sys2Proof.Machine

/-! ### Folds -/

/-- What a fold over different elements does to a reading per element, where each step changes its own element's alone as long as
what every step keeps holds. -/
theorem foldl_each_while {α β σ : Type} [DecidableEq α] {I : σ → Prop} {g : σ → α → β} {f : σ → α → σ} {u : α → β → β}
    (hI : ∀ s a, I s → I (f s a)) (h : ∀ s a b, I s → g (f s a) b = if b = a then u b (g s b) else g s b) {l : List α} (hl : l.Nodup)
    {s : σ} (hs : I s) (b : α) : g (l.foldl f s) b = if b ∈ l then u b (g s b) else g s b := by
  induction l generalizing s with
  | nil => simp
  | cons a t ih =>
    obtain ⟨hat, ht⟩ := List.nodup_cons.mp hl
    rw [List.foldl_cons, ih ht (hI s a hs), h s a b hs]
    by_cases hb : b = a
    · subst hb
      simp [hat]
    · simp [hb]

/-- What a fold over different lanes does to a side, where each step changes the sides of its own lane alone. -/
theorem foldl_lanes_side {I : State → Prop} {f : State → LaneId → State} {u : SideId → Side → Side} (hI : ∀ t l, I t → I (f t l))
    (h : ∀ t l j, I t → (f t l).sides[j] = if laneOf j = l then u j t.sides[j] else t.sides[j]) {ls : List LaneId} (hls : ls.Nodup)
    {s : State} (hs : I s) (j : SideId) : (ls.foldl f s).sides[j] = if laneOf j ∈ ls then u j s.sides[j] else s.sides[j] := by
  have heach := foldl_each_while (g := fun (t : State) (l : LaneId) => t.sides[sideOf l (endOf j)])
    (u := fun l => u (sideOf l (endOf j))) hI (fun t l k ht => ?_) hls hs (laneOf j)
  · simpa only [sideOf_laneOf_endOf] using heach
  · rw [h t l _ ht]
    simp only [laneOf_sideOf]

/-! ### The two sides of a lane -/

theorem modSide_fixed {s : State} {i : SideId} {f : Side → Side} (h : f s.sides[i] = s.sides[i]) : s.modSide i f = s := by
  have hv : vmod s.sides i f = s.sides := by rw [vmod, h, Fin.getElem_fin, Vector.set_getElem_self]
  rw [State.modSide, hv]

/-- Both sides of a lane changed, each in its own way. -/
theorem modSides_of_lane (s : State) (l : LaneId) {a b : Fin 2} (hab : a ≠ b) (f g : Side → Side) (j : SideId) :
    ((s.modSide (sideOf l a) f).modSide (sideOf l b) g).sides[j] =
      if laneOf j = l then (if endOf j = a then f s.sides[j] else g s.sides[j]) else s.sides[j] := by
  by_cases hl : laneOf j = l
  · obtain rfl := hl
    rw [if_pos rfl]
    by_cases he : endOf j = a
    · subst he
      rw [if_pos rfl, sideOf_laneOf_endOf, modSide_side_other fun e => hab (by rw [e, endOf_sideOf]), modSide_side]
    · have hb : endOf j = b := by omega
      subst hb
      rw [if_neg he, sideOf_laneOf_endOf, modSide_side, modSide_side_other fun e => hab (by rw [e, endOf_sideOf])]
  · have hne (e : Fin 2) : j ≠ sideOf l e := fun h => hl (by rw [h, laneOf_sideOf])
    rw [if_neg hl, modSide_side_other (hne b), modSide_side_other (hne a)]

/-! ### Changes without an event -/

/-- `t` is `s` but for one path, its lanes and their sides, with no event; no path's configuration changes, nor whether the path's bond
group has formed. -/
structure LinkOnly (p : PathId) (s t : State) : Prop extends PathOnly p s t where
  silent : t = { s with sides := t.sides, lanes := t.lanes, paths := t.paths }
  formed : t.paths[p].formed = s.paths[p].formed

theorem LinkOnly.refl (p : PathId) (s : State) : LinkOnly p s s := ⟨PathOnly.refl p s, rfl, rfl⟩

theorem LinkOnly.trans {p : PathId} {s t u : State} (h : LinkOnly p s t) (k : LinkOnly p t u) : LinkOnly p s u := by
  refine ⟨h.toPathOnly.trans k.toPathOnly, ?_, k.formed.trans h.formed⟩
  have hu := k.silent
  rw [h.silent] at hu
  exact hu

theorem LinkOnly.foldl {p : PathId} {α : Type} {f : State → α → State} {l : List α} (h : ∀ t, ∀ a ∈ l, LinkOnly p t (f t a))
    (s : State) : LinkOnly p s (l.foldl f s) :=
  List.foldlRecOn l f (LinkOnly.refl p s) fun t ht a ha => ht.trans (h t a ha)

theorem LinkOnly.modPath {p : PathId} {s : State} {f : Path → Path} (hf : ∀ x, (f x).cfg = x.cfg ∧ (f x).formed = x.formed) :
    LinkOnly p s (s.modPath p f) :=
  ⟨PathOnly.modPath fun x => (hf x).1, rfl, by rw [modPath_path]; exact (hf _).2⟩

theorem LinkOnly.modLane {p : PathId} {l : LaneId} (hl : pathOfLane l = p) (s : State) (f : Lane → Lane) : LinkOnly p s (s.modLane l f) :=
  ⟨PathOnly.modLane hl s f, rfl, rfl⟩

theorem LinkOnly.modSide {p : PathId} {i : SideId} (hi : pathOf i = p) (s : State) (f : Side → Side) : LinkOnly p s (s.modSide i f) :=
  ⟨PathOnly.modSide hi s f, rfl, rfl⟩

theorem LinkOnly.unformed {p : PathId} {s t : State} (h : LinkOnly p s t) (hf : s.paths[p].formed = false) : t.paths[p].formed = false :=
  h.formed.trans hf

theorem LinkOnly.untouched {p : PathId} {s t : State} (h : LinkOnly p s t) {q : Part} (hq : q ∉ [Part.lanes, .sides, .paths]) :
    q.untouched s t := by
  rw [h.silent]
  cases q
  case lanes | sides | paths => exact absurd (by decide) hq
  all_goals rfl

/-- Where no lane changes either, the sides and paths alone do. -/
theorem LinkOnly.untouched_lanes {p : PathId} {s t : State} (h : LinkOnly p s t) (hl : t.lanes = s.lanes) {q : Part}
    (hsides : q ≠ .sides) (hpaths : q ≠ .paths) : q.untouched s t := by
  by_cases hlane : q = .lanes
  · subst hlane
    exact hl
  · exact h.untouched (by simp [hlane, hsides, hpaths])

theorem LinkOnly.view {p : PathId} {s t : State} (h : LinkOnly p s t) : eventView t = eventView s := by
  rw [h.silent]
  rfl

/-- A row that changes one path, its lanes and their sides and raises its event on that. -/
theorem reports_link {c : Instr} {p : PathId} {s u : State} {code : Nat} {data : List Byte} {P : State → Prop} (h : LinkOnly p s u)
    (hx : exec c s = done s (raise u code data)) (hP : P (settle s (raise u code data))) :
    Reports c s code data [.lanes, .sides, .paths] P := reports_of hx (fun _ hq => h.untouched hq) h.view hP

/-- Every reading of a path but its idle time is the same after what follows every change. -/
theorem settle_path_field {γ : Type} (g : Path → γ) (hg : ∀ x n, g { x with idleNs := n } = g x) (o v : State) (q : PathId) :
    g (settle o v).paths[q] = g v.paths[q] := by
  simp only [Fin.getElem_fin, settle_path, hg]

theorem PathOnly.settle_other {p q : PathId} {s v : State} (h : PathOnly p s v) (o : State) (hq : q ≠ p) :
    { (settle o v).paths[q] with idleNs := s.paths[q].idleNs } = s.paths[q] := by
  have hp := h.paths q hq
  simp only [Fin.getElem_fin] at hp
  simp only [Fin.getElem_fin, settle_path, hp]

/-! ### Sides and lanes of the link -/

theorem groupSides_unformed {s : State} {p : PathId} (h : s.paths[p].formed = false) :
    ((groupOf s p).map sidesOf).flatten = sidesOf p := by
  rw [groupOf_unformed h]
  simp

theorem groupLanes_unformed {s : State} {p : PathId} (h : s.paths[p].formed = false) : groupLanes s p = (lanesOf p).filter (laneOn s) := by
  rw [groupLanes, groupOf_unformed h]
  simp

theorem modGroupSides_link {s : State} {p : PathId} (h : s.paths[p].formed = false) (f : Side → Side) :
    LinkOnly p s (modGroupSides s p f) := by
  rw [modGroupSides, groupSides_unformed h]
  exact LinkOnly.foldl (fun t i hi => LinkOnly.modSide (mem_sidesOf.mp (List.mem_of_mem_filter hi)) t f) s

/-- The sides of the lanes in use are changed, and no other. -/
theorem modGroupSides_side {s : State} {p : PathId} (h : s.paths[p].formed = false) (f : Side → Side) (j : SideId) :
    (modGroupSides s p f).sides[j] = if pathOf j = p ∧ laneOn s (laneOf j) = true then f s.sides[j] else s.sides[j] := by
  have hnodup : ((sidesOf p).filter fun i => laneOn s (laneOf i)).Nodup := ((List.nodup_finRange 32).filter _).filter _
  rw [modGroupSides, groupSides_unformed h, foldl_each (g := fun (t : State) (j : SideId) => t.sides[j]) (u := f) (fun t i j => ?_) hnodup]
  · simp only [List.mem_filter, mem_sidesOf]
  · by_cases hj : j = i
    · subst hj
      rw [if_pos rfl, modSide_side]
    · rw [if_neg hj, modSide_side_other hj]

/-- What holds of a side and survives the change of a group's sides holds after it. -/
theorem modGroupSides_side_holds {P : Side → Prop} {f : Side → Side} (hf : ∀ x, P x → P (f x)) {s : State} (p : PathId) {j : SideId}
    (h : P s.sides[j]) : P (modGroupSides s p f).sides[j] := by
  refine foldl_holds (fun t : State => P t.sides[j]) _ _ (fun t i ht => ?_) s h
  by_cases hj : j = i
  · subst hj
    rw [modSide_side]
    exact hf _ ht
  · rw [modSide_side_other hj]
    exact ht

theorem modGroupSides_lanes (s : State) (p : PathId) (f : Side → Side) : (modGroupSides s p f).lanes = s.lanes :=
  modGroupSides_keeps State.lanes (fun _ _ _ => rfl) s p f

theorem modGroupSides_paths (s : State) (p : PathId) (f : Side → Side) : (modGroupSides s p f).paths = s.paths :=
  modGroupSides_keeps State.paths (fun _ _ _ => rfl) s p f

theorem groupLanes_nodup {s : State} {p : PathId} (h : s.paths[p].formed = false) : (groupLanes s p).Nodup := by
  rw [groupLanes_unformed h]
  exact (lanesOf_nodup p).filter _

theorem mem_groupLanes {s : State} {p : PathId} (h : s.paths[p].formed = false) {l : LaneId} :
    l ∈ groupLanes s p ↔ pathOfLane l = p ∧ laneOn s l = true := by
  rw [groupLanes_unformed h, List.mem_filter, mem_lanesOf]

/-- A fold over lanes in use, each step a change of its own lane's path. -/
theorem LinkOnly.groupLanes {p : PathId} {s : State} (h : s.paths[p].formed = false) {f : State → LaneId → State}
    (hf : ∀ t l, pathOfLane l = p → LinkOnly p t (f t l)) : LinkOnly p s ((groupLanes s p).foldl f s) :=
  LinkOnly.foldl (fun t l hl => hf t l ((mem_groupLanes h).mp hl).1) s

/-! ### Rates and transmitters -/

theorem modGroup_link {s : State} {p : PathId} (h : s.paths[p].formed = false) {f : Path → Path}
    (hf : ∀ x, (f x).cfg = x.cfg ∧ (f x).formed = x.formed) : LinkOnly p s (modGroup s p f) := by
  rw [modGroup_unformed h]
  exact LinkOnly.modPath hf

theorem modGroup_path {s : State} {p : PathId} (h : s.paths[p].formed = false) (f : Path → Path) :
    (modGroup s p f).paths[p] = f s.paths[p] := by
  rw [modGroup_unformed h, modPath_path]

theorem modGroup_keeps {β : Type} (g : State → β) (hpath : ∀ (t : State) q f, g (t.modPath q f) = g t) (s : State) (p : PathId)
    (f : Path → Path) : g (modGroup s p f) = g s := foldl_keeps g _ _ (fun t q => hpath t q f) s

theorem relimitPath_link (s : State) (p : PathId) : LinkOnly p s (relimitPath s p) :=
  LinkOnly.foldl (fun t _ hi => LinkOnly.modSide (mem_sidesOf.mp hi) t _) s

/-- A path that runs at a rate. -/
def atRate (rate : Fin 6) (x : Path) : Path := { x with rateNow := rate }

theorem setRate_unformed {s : State} {p : PathId} (h : s.paths[p].formed = false) (rate : Fin 6) :
    setRate s p rate = relimitPath (s.modPath p (atRate rate)) p := by
  have heq : setRate s p rate = (groupOf (modGroup s p (atRate rate)) p).foldl relimitPath (modGroup s p (atRate rate)) := rfl
  rw [heq, modGroup_unformed h, groupOf_unformed (unformed_after h rfl)]
  rfl

theorem setRate_link {s : State} {p : PathId} (h : s.paths[p].formed = false) (rate : Fin 6) : LinkOnly p s (setRate s p rate) := by
  rw [setRate_unformed h]
  exact (LinkOnly.modPath (f := atRate rate) fun _ => ⟨rfl, rfl⟩).trans (relimitPath_link _ p)

theorem setRate_path {s : State} {p : PathId} (h : s.paths[p].formed = false) (rate : Fin 6) :
    (setRate s p rate).paths[p] = atRate rate s.paths[p] := by
  rw [setRate_unformed h, show ∀ t : State, (relimitPath t p).paths = t.paths from foldl_keeps State.paths _ _ fun _ _ => rfl, modPath_path]

theorem setRate_side_field {β : Type} (g : Side → β) (hg : ∀ set x, g (relimit set x) = g x) {s : State} {p : PathId}
    (h : s.paths[p].formed = false) (rate : Fin 6) (j : SideId) : g (setRate s p rate).sides[j] = g s.sides[j] := by
  rw [setRate_unformed h, relimitPath_side_field g hg]
  rfl

/-- A transmitter with a setting taken whole for one rate set (R113). -/
def txTaken (set : Fin 4) (t : Nat × Nat × Nat) (x : Side) : Side :=
  { x with txeq := vmod x.txeq set fun r => txWith r 0 t.1 t.2.1 t.2.2, txRamp := none }

theorem takeTx_eq (s : State) (i : SideId) (set : Fin 4) (t : Nat × Nat × Nat) : takeTx s i set t = s.modSide i (txTaken set t) := rfl

theorem txTaken_txeq (set : Fin 4) (t : Nat × Nat × Nat) (x : Side) :
    (txTaken set t x).txeq[set] = txWith x.txeq[set] 0 t.1 t.2.1 t.2.2 := vmod_same _ _ _

theorem takeBoth_link {p : PathId} {l : LaneId} (hl : pathOfLane l = p) (s : State) (t : Nat × Nat × Nat) : LinkOnly p s (takeBoth s l t) :=
  (LinkOnly.modSide ((pathOf_sideOf l 0).trans hl) s _).trans (LinkOnly.modSide ((pathOf_sideOf l 1).trans hl) _ _)

theorem takeBoth_side (s : State) (l : LaneId) (t : Nat × Nat × Nat) (j : SideId) :
    (takeBoth s l t).sides[j] = if laneOf j = l then txTaken (runSet s.paths[pathOf j]) t s.sides[j] else s.sides[j] := by
  have h := modSides_of_lane s l (a := 0) (b := 1) (by decide) (txTaken (runSet s.paths[pathOfLane l]) t)
    (txTaken (runSet s.paths[pathOfLane l]) t) j
  rw [ite_self] at h
  refine h.trans ?_
  split
  · next hj =>
    have hpath : pathOfLane l = pathOf j := hj ▸ pathOfLane_laneOf j
    simp only [hpath]
  · rfl

/-- Both transmitters of every lane in use take a setting for the running set. -/
theorem takeBoth_lanes_side {s : State} {p : PathId} (h : s.paths[p].formed = false) (t : Nat × Nat × Nat) (j : SideId) :
    ((groupLanes s p).foldl (fun s l => takeBoth s l t) s).sides[j] =
      if pathOf j = p ∧ laneOn s (laneOf j) = true then txTaken (runSet s.paths[pathOf j]) t s.sides[j] else s.sides[j] := by
  rw [foldl_lanes_side (f := fun v l => takeBoth v l t) (I := fun v => v.paths = s.paths) (u := fun j => txTaken (runSet s.paths[pathOf j]) t) (fun _ _ hv => hv)
    (fun v l j hv => by rw [takeBoth_side, hv]) (groupLanes_nodup h) rfl]
  simp only [mem_groupLanes h, pathOfLane_laneOf]

theorem takeBoth_lanes_paths (s : State) (ls : List LaneId) (t : Nat × Nat × Nat) :
    (ls.foldl (fun s l => takeBoth s l t) s).paths = s.paths :=
  foldl_keeps State.paths (fun v l => takeBoth v l t) ls (fun _ _ => rfl) s

/-! ### States left and entered -/

/-- L0 left, where the path is in it: its sides leave data (R189). -/
def leaveL0 (s : State) (p : PathId) : State := if s.paths[p].ltssm = 3 then modGroupSides s p leaveData else s

/-- The state in progress left: data ends, requests are over (R110, R189). -/
def leaveState (s : State) (p : PathId) : State :=
  if s.paths[p].ltssm = 6 then leaveEqualization (leaveL0 s p) p else leaveL0 s p

/-- A state entered, once the path shows it (R107). -/
def enterState (s : State) (p : PathId) (st : Fin 13) : State :=
  match st.val with
  | 0 => enterDetect s p
  | 1 => enterPolling s p
  | 2 => enterConfiguration s p
  | 3 => enterL0 s p
  | 4 => modGroupSides s p endMargin
  | 6 => enterEqualization s p
  | 10 => modGroupSides s p fun y => { y with txIdle := true }
  | _ => s

/-- A path that shows a state of the LTSSM. -/
def inState (st : Fin 13) (x : Path) : Path := { x with ltssm := st }

theorem followState_eq (s : State) (p : PathId) (st : Fin 13) : followState s p st =
    if s.paths[p].ltssm = st then s else enterState (modGroup (leaveState s p) p (inState st)) p st := rfl

/-- What entering a state sets of its path. -/
def enteredPath (st : Fin 13) (x : Path) : Path :=
  match st.val with
  | 0 => { x with posDue := true, widthNow := 0, eqPhase := 0, rateNow := 0 }
  | 1 => { x with rateNow := 1 }
  | 6 => { x with pcieUse := x.pcieCfg, eqPhase := 0 }
  | _ => x

/-- What leaving its state sets of a path. -/
def leftPath (x : Path) : Path := if x.ltssm = 6 then { x with eqPhase := 0 } else x

/-- A path that follows its partners into a state. -/
def followedPath (st : Fin 13) (x : Path) : Path := if x.ltssm = st then x else enteredPath st (inState st (leftPath x))

theorem leaveL0_link {s : State} {p : PathId} (h : s.paths[p].formed = false) : LinkOnly p s (leaveL0 s p) := by
  unfold leaveL0
  split
  · exact modGroupSides_link h _
  · exact LinkOnly.refl p s

/-- A reading that no change of a side touches is the same once L0 is left. -/
theorem leaveL0_keeps {β : Type} (g : State → β) (hside : ∀ (t : State) i f, g (t.modSide i f) = g t) (s : State) (p : PathId) :
    g (leaveL0 s p) = g s := by
  unfold leaveL0
  split
  · exact modGroupSides_keeps g hside s p _
  · rfl

/-- A path whose equalisation is over. -/
def eqOver (x : Path) : Path := { x with eqPhase := 0 }

/-- A side whose part in equalisation is over. -/
def sideEqOver (y : Side) : Side := { endRequests y with eqSaved := none }

theorem leaveEqualization_eq (s : State) (p : PathId) : leaveEqualization s p = modGroupSides (modGroup s p eqOver) p sideEqOver := rfl

theorem leaveState_link {s : State} {p : PathId} (h : s.paths[p].formed = false) : LinkOnly p s (leaveState s p) := by
  have hdata := leaveL0_link h
  unfold leaveState
  split
  · have hpath := hdata.trans (modGroup_link (hdata.unformed h) (f := eqOver) fun _ => ⟨rfl, rfl⟩)
    exact hpath.trans (modGroupSides_link (hpath.unformed h) _)
  · exact hdata

theorem leaveState_path {s : State} {p : PathId} (h : s.paths[p].formed = false) : (leaveState s p).paths[p] = leftPath s.paths[p] := by
  have hpaths : (leaveL0 s p).paths = s.paths := leaveL0_keeps State.paths (fun _ _ _ => rfl) s p
  by_cases h6 : s.paths[p].ltssm = 6
  · rw [leaveState, if_pos h6, leftPath, if_pos h6, leaveEqualization_eq, modGroupSides_paths,
      modGroup_path ((leaveL0_link h).unformed h), hpaths]
    rfl
  · rw [leaveState, if_neg h6, leftPath, if_neg h6, hpaths]

theorem forward_link {p : PathId} {i : SideId} (hi : pathOf i = p) (s : State) : LinkOnly p s (forward s i) := by
  unfold forward
  split
  · exact LinkOnly.modSide ((pathOf_opposite i).trans hi) s _
  · exact LinkOnly.refl p s

theorem unparkLane_link {p : PathId} {l : LaneId} (hl : pathOfLane l = p) (s : State) : LinkOnly p s (unparkLane s l) :=
  ((LinkOnly.modLane hl s _).trans (forward_link ((pathOf_sideOf l 0).trans hl) _)).trans (forward_link ((pathOf_sideOf l 1).trans hl) _)

theorem parkLane_link {p : PathId} {l : LaneId} (hl : pathOfLane l = p) (s : State) : LinkOnly p s (parkLane s l) := by
  unfold parkLane
  dsimp only
  split
  · exact ((LinkOnly.modLane hl s _).trans (LinkOnly.modSide ((pathOf_sideOf l 0).trans hl) _ _)).trans
      (LinkOnly.modSide ((pathOf_sideOf l 1).trans hl) _ _)
  · exact unparkLane_link hl s

theorem forward_paths (s : State) (i : SideId) : (forward s i).paths = s.paths := by
  unfold forward
  split <;> rfl

theorem unparkLane_paths (s : State) (l : LaneId) : (unparkLane s l).paths = s.paths := by
  rw [unparkLane, forward_paths, forward_paths]
  rfl

theorem parkLane_paths (s : State) (l : LaneId) : (parkLane s l).paths = s.paths := by
  unfold parkLane
  dsimp only
  split
  · rfl
  · exact unparkLane_paths s l

/-- A path in Detect (R107, R116). -/
def detecting (x : Path) : Path := { x with posDue := true, widthNow := 0, eqPhase := 0 }

/-- A side whose transmitter is in electrical idle. -/
def txIdled (y : Side) : Side := { y with txIdle := true }

/-- A side whose receiver polarity is the host's (R347). -/
def hostPolarized (y : Side) : Side := { y with rxPol := y.rxHost }

/-- A lane that the partners have still to number (R102). -/
def unnumbered (x : Lane) : Lane := { x with joined := false }

/-- A path that takes its PCIE_CFG (R115). -/
def equalizing (x : Path) : Path := { x with pcieUse := x.pcieCfg, eqPhase := 0 }

section
variable {s : State} {p : PathId} (h : s.paths[p].formed = false)
include h

theorem enterDetect_link : LinkOnly p s (enterDetect s p) ∧ (enterDetect s p).paths[p] = enteredPath 0 s.paths[p] := by
  have hm : LinkOnly p s (modGroup s p detecting) := modGroup_link h fun _ => ⟨rfl, rfl⟩
  have hrate := hm.trans (setRate_link (hm.unformed h) 0)
  have heq : enterDetect s p = modGroupSides (setRate (modGroup s p detecting) p 0) p txIdled := rfl
  rw [heq]
  refine ⟨hrate.trans (modGroupSides_link (hrate.unformed h) _), ?_⟩
  rw [modGroupSides_paths, setRate_path (hm.unformed h), modGroup_path h]
  rfl

theorem enterPolling_link : LinkOnly p s (enterPolling s p) ∧ (enterPolling s p).paths[p] = enteredPath 1 s.paths[p] := by
  have hrate := setRate_link h 1
  have hsides := hrate.trans (modGroupSides_link (hrate.unformed h) hostPolarized)
  have heq : enterPolling s p = (groupLanes (modGroupSides (setRate s p 1) p hostPolarized) p).foldl
      (fun s l => takeBoth s l (deemphasis 1 false)) (modGroupSides (setRate s p 1) p hostPolarized) := rfl
  rw [heq]
  refine ⟨hsides.trans (LinkOnly.groupLanes (hsides.unformed h) fun t l hl => takeBoth_link hl t _), ?_⟩
  rw [takeBoth_lanes_paths, modGroupSides_paths, setRate_path h]
  rfl

theorem enterL0_link : LinkOnly p s (enterL0 s p) ∧ (enterL0 s p).paths[p] = s.paths[p] := by
  have hpark : LinkOnly p s ((groupLanes s p).foldl parkLane s) := LinkOnly.groupLanes h fun t l hl => parkLane_link hl t
  refine ⟨hpark.trans (modGroupSides_link (hpark.unformed h) _), ?_⟩
  rw [enterL0, modGroupSides_paths, foldl_keeps State.paths parkLane _ parkLane_paths]

theorem enterConfiguration_link : LinkOnly p s (enterConfiguration s p) ∧ (enterConfiguration s p).paths[p] = s.paths[p] := by
  have heq : enterConfiguration s p = (groupLanes s p).foldl (fun s l => s.modLane l unnumbered) s := rfl
  rw [heq]
  refine ⟨LinkOnly.groupLanes h fun t l hl => LinkOnly.modLane hl t _, ?_⟩
  rw [foldl_keeps State.paths (fun s l => s.modLane l unnumbered) _ fun _ _ => rfl]

theorem enterEqualization_link : LinkOnly p s (enterEqualization s p) ∧ (enterEqualization s p).paths[p] = enteredPath 6 s.paths[p] := by
  have hm : LinkOnly p s (modGroup s p equalizing) := modGroup_link h fun _ => ⟨rfl, rfl⟩
  have heq : enterEqualization s p = modGroupSides (modGroup s p equalizing) p (saveEq (runSet s.paths[p])) := rfl
  rw [heq]
  refine ⟨hm.trans (modGroupSides_link (hm.unformed h) _), ?_⟩
  rw [modGroupSides_paths, modGroup_path h]
  rfl

/-- A state entered changes its own path as `enteredPath` says, its lanes and sides, and nothing else. -/
theorem enterState_link (st : Fin 13) : LinkOnly p s (enterState s p st) ∧ (enterState s p st).paths[p] = enteredPath st s.paths[p] := by
  have hsides (f : Side → Side) : LinkOnly p s (modGroupSides s p f) ∧ (modGroupSides s p f).paths[p] = s.paths[p] :=
    ⟨modGroupSides_link h f, by rw [modGroupSides_paths]⟩
  fin_cases st
  · exact enterDetect_link h
  · exact enterPolling_link h
  · exact enterConfiguration_link h
  · exact enterL0_link h
  · exact hsides _
  · exact ⟨LinkOnly.refl p s, rfl⟩
  · exact enterEqualization_link h
  · exact ⟨LinkOnly.refl p s, rfl⟩
  · exact ⟨LinkOnly.refl p s, rfl⟩
  · exact ⟨LinkOnly.refl p s, rfl⟩
  · exact hsides _
  · exact ⟨LinkOnly.refl p s, rfl⟩
  · exact ⟨LinkOnly.refl p s, rfl⟩

/-- A state followed changes its own path as `followedPath` says, its lanes and sides, and nothing else. -/
theorem followState_link (st : Fin 13) :
    LinkOnly p s (followState s p st) ∧ (followState s p st).paths[p] = followedPath st s.paths[p] := by
  rw [followState_eq, followedPath]
  split
  · exact ⟨LinkOnly.refl p s, rfl⟩
  · have hleft := leaveState_link h
    have hshown := hleft.trans (modGroup_link (hleft.unformed h) (f := inState st) fun _ => ⟨rfl, rfl⟩)
    obtain ⟨hlink, hpath⟩ := enterState_link (hshown.unformed h) st
    refine ⟨hshown.trans hlink, ?_⟩
    rw [hpath, modGroup_path (hleft.unformed h), leaveState_path h]
end

/-- What entering a state leaves of a path. -/
theorem enteredPath_keeps (st : Fin 13) (x : Path) : (enteredPath st x).cfg = x.cfg ∧ (enteredPath st x).ltssm = x.ltssm ∧
    (enteredPath st x).st = x.st ∧ (enteredPath st x).eqDone = x.eqDone ∧ (x.posDue = true → (enteredPath st x).posDue = true) := by
  unfold enteredPath
  split
  · exact ⟨rfl, rfl, rfl, rfl, fun _ => rfl⟩
  · exact ⟨rfl, rfl, rfl, rfl, id⟩
  · exact ⟨rfl, rfl, rfl, rfl, id⟩
  · exact ⟨rfl, rfl, rfl, rfl, id⟩

/-- What leaving its state leaves of a path. -/
theorem leftPath_keeps (x : Path) : (leftPath x).cfg = x.cfg ∧ (leftPath x).st = x.st ∧ (leftPath x).eqDone = x.eqDone ∧
    (leftPath x).posDue = x.posDue := by
  unfold leftPath
  split
  · exact ⟨rfl, rfl, rfl, rfl⟩
  · exact ⟨rfl, rfl, rfl, rfl⟩

/-- A path that follows into a state shows it; its configuration, its state of R98, EQ_DONE and a position still to be learned stay. -/
theorem followedPath_keeps (st : Fin 13) (x : Path) : (followedPath st x).ltssm = st ∧ (followedPath st x).cfg = x.cfg ∧
    (followedPath st x).st = x.st ∧ (followedPath st x).eqDone = x.eqDone ∧ (x.posDue = true → (followedPath st x).posDue = true) := by
  unfold followedPath
  split
  · next hst => exact ⟨hst, rfl, rfl, rfl, id⟩
  · obtain ⟨hcfg, hltssm, hstate, hdone, hdue⟩ := enteredPath_keeps st (inState st (leftPath x))
    obtain ⟨kcfg, kstate, kdone, kdue⟩ := leftPath_keeps x
    exact ⟨hltssm, hcfg.trans kcfg, hstate.trans kstate, hdone.trans kdone, fun h => hdue (kdue.trans h)⟩

/-! ### From Recovery on -/

/-- What holds of a side survives every change that a state from Recovery on makes of it. -/
structure SurvivesFollowing (P : Side → Prop) : Prop where
  data : ∀ x, P x → P (leaveData x)
  requests : ∀ x, P x → P (sideEqOver x)
  margin : ∀ x, P x → P (endMargin x)
  saved : ∀ set x, P x → P (saveEq set x)
  idle : ∀ x, P x → P { x with txIdle := true }

theorem leaveState_side_holds {P : Side → Prop} (hP : SurvivesFollowing P) {s : State} (p : PathId) {j : SideId} (h : P s.sides[j]) :
    P (leaveState s p).sides[j] := by
  have hdata : P (leaveL0 s p).sides[j] := by
    unfold leaveL0
    split
    · exact modGroupSides_side_holds hP.data p h
    · exact h
  unfold leaveState
  split
  · refine modGroupSides_side_holds hP.requests p ?_
    rw [modGroup_keeps State.sides fun _ _ _ => rfl]
    exact hdata
  · exact hdata

theorem enterState_later {st : Fin 13} (hst : 4 ≤ st.val) {Q : State → Prop} {s : State} {p : PathId} (hself : Q s)
    (hmargin : Q (modGroupSides s p endMargin)) (heq : Q (enterEqualization s p))
    (hidle : Q (modGroupSides s p fun y => { y with txIdle := true })) : Q (enterState s p st) := by
  unfold enterState
  split
  · omega
  · omega
  · omega
  · omega
  · exact hmargin
  · exact heq
  · exact hidle
  · exact hself

/-- A state from Recovery on leaves of a side what survives its changes. -/
theorem followState_side_holds {P : Side → Prop} (hP : SurvivesFollowing P) {st : Fin 13} (hst : 4 ≤ st.val) {s : State} (p : PathId)
    {j : SideId} (h : P s.sides[j]) : P (followState s p st).sides[j] := by
  rw [followState_eq]
  split
  · exact h
  · have hshown : P (modGroup (leaveState s p) p (inState st)).sides[j] := by
      rw [modGroup_keeps State.sides fun _ _ _ => rfl]
      exact leaveState_side_holds hP p h
    refine enterState_later (Q := fun t => P t.sides[j]) hst hshown (modGroupSides_side_holds hP.margin p hshown) ?_
      (modGroupSides_side_holds hP.idle p hshown)
    refine modGroupSides_side_holds (hP.saved _) p ?_
    rw [modGroup_keeps State.sides fun _ _ _ => rfl]
    exact hshown

/-- A state from Recovery on changes no lane. -/
theorem followState_lanes {st : Fin 13} (hst : 4 ≤ st.val) (s : State) (p : PathId) : (followState s p st).lanes = s.lanes := by
  have hleft : (leaveState s p).lanes = s.lanes := by
    have hdata : (leaveL0 s p).lanes = s.lanes := leaveL0_keeps State.lanes (fun _ _ _ => rfl) s p
    unfold leaveState
    split
    · rw [leaveEqualization_eq, modGroupSides_lanes, modGroup_keeps State.lanes fun _ _ _ => rfl]
      exact hdata
    · exact hdata
  rw [followState_eq]
  split
  · rfl
  · have hshown : (modGroup (leaveState s p) p (inState st)).lanes = s.lanes :=
      (modGroup_keeps State.lanes (fun _ _ _ => rfl) _ _ _).trans hleft
    refine enterState_later (Q := fun t => t.lanes = s.lanes) hst hshown ((modGroupSides_lanes _ _ _).trans hshown) ?_
      ((modGroupSides_lanes _ _ _).trans hshown)
    rw [enterEqualization, modGroupSides_lanes, modGroup_keeps State.lanes fun _ _ _ => rfl]
    exact hshown

/-- A transmitter's coefficients and its ramp in given states. -/
def TxReads (v : Vector R40 4) (ramp : Option R40) (x : Side) : Prop := x.txeq = v ∧ x.txRamp = ramp

theorem txReads_survives (v : Vector R40 4) (ramp : Option R40) : SurvivesFollowing (TxReads v ramp) :=
  ⟨fun _ h => h, fun _ h => h, fun _ h => h, fun _ _ h => h, fun _ h => h⟩

/-- A state from Recovery on leaves every transmitter's coefficients and ramps. -/
theorem followState_tx {st : Fin 13} (hst : 4 ≤ st.val) (s : State) (p : PathId) (j : SideId) :
    TxReads s.sides[j].txeq s.sides[j].txRamp (followState s p st).sides[j] :=
  followState_side_holds (txReads_survives _ _) hst p ⟨rfl, rfl⟩

end Sys2Proof.Machine
end

section
/-! Margin commands and L0s (R117 to R119, R128). -/

namespace Sys2Proof.Machine

/-! ### Rows that change one side -/

/-- A row that changes one side and nothing else. -/
theorem does_modSide {c : Instr} {s : State} {i : SideId} {f : Side → Side} (hx : exec c s = done s (s.modSide i f)) :
    Does c s [.sides] fun t => t.sides = vmod s.sides i f :=
  does_of hx (fun _ hq => Part.untouched_modSide s i f (List.ne_of_not_mem_cons hq)) rfl

/-- A row that changes one side and raises its event. -/
theorem reports_modSide {c : Instr} {s : State} {i : SideId} {f : Side → Side} {code : Nat} {data : List Byte}
    (hx : exec c s = done s (raise (s.modSide i f) code data)) : Reports c s code data [.sides] fun t => t.sides = vmod s.sides i f :=
  reports_of hx (fun _ hq => Part.untouched_modSide s i f (List.ne_of_not_mem_cons hq)) rfl (by rw [settle_sides, raise_sides]; rfl)

/-! ### Margin commands -/

/-- At a margining position a receiver number names this side of a lane (Table 5.5). -/
def MarginNames (pos : Nat) (l : LaneId) (r : Fin 8) (i : SideId) : Prop :=
  (pos = 1 ∧ r = 2 ∧ i = sideOf l 0) ∨ (pos = 1 ∧ r = 3 ∧ i = sideOf l 1) ∨ (pos = 2 ∧ r = 4 ∧ i = sideOf l 0) ∨
    (pos = 2 ∧ r = 5 ∧ i = sideOf l 1)

theorem marginEnd_of_names {pos : Nat} {l : LaneId} {r : Fin 8} {i : SideId} (h : MarginNames pos l r i) :
    ∃ e, marginEnd pos r.val = some e ∧ i = sideOf l e := by
  rcases h with ⟨rfl, rfl, hi⟩ | ⟨rfl, rfl, hi⟩ | ⟨rfl, rfl, hi⟩ | ⟨rfl, rfl, hi⟩
  · exact ⟨0, rfl, hi⟩
  · exact ⟨1, rfl, hi⟩
  · exact ⟨0, rfl, hi⟩
  · exact ⟨1, rfl, hi⟩

/-! ### Electrical idle of one direction -/

/-- One lane enters electrical idle in a direction. -/
def laneL0s (d : Dir) (s : State) (l : LaneId) : State := enterIdle s (dirSide l d)

/-- Electrical idle is passed on in a direction of a lane. -/
def IdlePassedOn (d : Dir) (l : LaneId) (s : State) : Prop :=
  s.lanes[l].ei[endOf (dirSide l d)] = true ∧ s.sides[opposite (dirSide l d)].txIdle = true

theorem enterIdle_passes (s : State) (i : SideId) :
    (enterIdle s i).lanes[laneOf i].ei[endOf i] = true ∧ (enterIdle s i).sides[opposite i].txIdle = true := by
  refine ⟨?_, congrArg Side.txIdle (modSide_side _ (opposite i) _)⟩
  have hlane := modLane_lane s (laneOf i) fun x => { x with
    ei := vmod x.ei (endOf i) fun _ => true, lock := vmod x.lock (endOf i) fun _ => false
    fill := vmod x.fill (endOf i) fun _ => 0, seg := vmod x.seg (endOf i) fun _ => 0
    rr := vmod x.rr (endOf i) fun _ => false, align := vmod x.align (endOf i) fun _ => false
    reqDone := vmod x.reqDone (endOf i) fun _ => false, rrSent := false }
  exact (congrArg (fun x : Lane => x.ei[endOf i]) hlane).trans (vmod_same _ _ _)

theorem laneOf_dirSide (l : LaneId) (d : Dir) : laneOf (dirSide l d) = l := laneOf_sideOf l _

theorem laneL0s_passes (d : Dir) (s : State) (l : LaneId) : IdlePassedOn d l (laneL0s d s l) := by
  have h := enterIdle_passes s (dirSide l d)
  simp only [laneOf_dirSide] at h
  exact h

theorem laneOf_opposite (i : SideId) : laneOf (opposite i) = laneOf i := laneOf_sideOf _ _

theorem IdlePassedOn.laneL0s {d : Dir} {l : LaneId} {s : State} (h : IdlePassedOn d l s) (k : LaneId) : IdlePassedOn d l (laneL0s d s k) := by
  by_cases hk : l = k
  · subst hk
    exact laneL0s_passes d s l
  · obtain ⟨hei, htx⟩ := h
    have hside {i j : SideId} (hi : laneOf i = l) (hj : laneOf j = k) : i ≠ j := fun e => hk (by rw [← hi, e, hj])
    have hopp : laneOf (opposite (dirSide l d)) = l := by rw [laneOf_opposite, laneOf_dirSide]
    have hoppk : laneOf (opposite (dirSide k d)) = k := by rw [laneOf_opposite, laneOf_dirSide]
    refine ⟨?_, ?_⟩
    · have hlane : (Machine.laneL0s d s k).lanes[l] = s.lanes[l] := modLane_lane_other ((laneOf_dirSide k d).symm ▸ hk)
      rw [hlane]
      exact hei
    · have hother : (Machine.laneL0s d s k).sides[opposite (dirSide l d)] = s.sides[opposite (dirSide l d)] :=
        (modSide_side_other (hside hopp hoppk)).trans (modSide_side_other (hside hopp (laneOf_dirSide k d)))
      rw [hother]
      exact htx

/-- Lanes that enter electrical idle change lanes and sides alone. -/
theorem lanesL0s_cases (d : Dir) (s : State) (l : List LaneId) : ∃ la si, l.foldl (laneL0s d) s = { s with lanes := la, sides := si } := by
  refine foldl_holds (fun t => ∃ la si, t = { s with lanes := la, sides := si }) _ _ ?_ s ⟨s.lanes, s.sides, rfl⟩
  rintro _ k ⟨la, si, rfl⟩
  exact ⟨_, _, rfl⟩

/-- A path with one more L0s entry counted. -/
def l0sCounted (x : Path) : Path := { x with l0s := satInc x.l0s }

/-! ### The rows -/

section
variable {s : State} {p : PathId} (hlive : pcieLive s p = true) (hl0 : s.paths[p].ltssm = 3)
include hlive hl0

section
variable {lane : Fin 4} {r : Fin 8} {i : SideId} (hrate : 4 ≤ s.paths[p].rateNow.val) (hon : laneOn s (laneIn p lane) = true)
  (hr : MarginNames (marginPosition s.paths[p]) (laneIn p lane) r i)
include hrate hon hr

/-- A margin command in L0 at 16.0 and 32.0 GT/s is beyond the capabilities, waits for a sweep step, or is taken (R117 to R119). -/
theorem exec_marginCommand (cmd : MarginCmd) : exec (.marginCommand p lane r cmd) s = done s (
    if marginOk cmd = false then s.modSide i fun y => { y with marginAns := some .beyond }
    else if sweepStep s i then
      raise (s.modSide i fun y => { y with deferred := some cmd, marginAns := some .setUp }) 0x020B [by1 p.val, by1 i.val]
    else s.modSide i (takeMargin cmd)) := by
  obtain ⟨e, he, rfl⟩ := marginEnd_of_names hr
  have hno : ¬(pcieLive s p = false ∨ s.paths[p].ltssm ≠ 3 ∨ s.paths[p].rateNow.val < 4 ∨ laneOn s (laneIn p lane) = false) := by
    rw [hlive, hl0, hon]
    rintro (h | h | h | h)
    · cases h
    · exact h rfl
    · omega
    · cases h
  show execMarginCommand p lane r cmd s = _
  unfold execMarginCommand
  dsimp only
  rw [he]
  exact congrArg (done s) (if_neg hno)

theorem marginCommand_taken {cmd : MarginCmd} (hok : marginOk cmd = true) (hsweep : sweepStep s i = false) :
    Does (.marginCommand p lane r cmd) s [.sides] fun t => t.sides = vmod s.sides i (takeMargin cmd) := by
  have hx := exec_marginCommand hlive hl0 hrate hon hr cmd
  rw [hok, hsweep] at hx
  exact does_modSide hx

theorem marginCommand_beyond {cmd : MarginCmd} (hok : marginOk cmd = false) :
    Does (.marginCommand p lane r cmd) s [.sides] fun t => t.sides = vmod s.sides i fun x => { x with marginAns := some .beyond } := by
  have hx := exec_marginCommand hlive hl0 hrate hon hr cmd
  rw [if_pos hok] at hx
  exact does_modSide hx

theorem marginCommand_waits {cmd : MarginCmd} (hok : marginOk cmd = true) (hsweep : sweepStep s i = true) :
    Reports (.marginCommand p lane r cmd) s 0x020B [BitVec.ofNat 8 p.val, BitVec.ofNat 8 i.val] [.sides] fun t =>
      t.sides = vmod s.sides i fun x => { x with deferred := some cmd, marginAns := some .setUp } := by
  have hx := exec_marginCommand hlive hl0 hrate hon hr cmd
  rw [hok, hsweep] at hx
  exact reports_modSide hx

theorem goNormal_ends (hsweep : sweepStep s i = false) : Does (.marginCommand p lane r .goNormal) s [.sides] fun t =>
    t.sides[i].margin = none ∧ ∀ j : SideId, j ≠ i → t.sides[j] = s.sides[j] := by
  obtain ⟨t, hx, hsides, hkept⟩ := marginCommand_taken hlive hl0 hrate hon hr (cmd := .goNormal) rfl hsweep
  refine ⟨t, hx, ⟨?_, fun j hj => ?_⟩, hkept⟩
  · rw [hsides, vmod_same]
    rfl
  · rw [hsides]
    exact vmod_get_other _ _ _ _ hj.symm
end

/-- L0s passes electrical idle on in one direction of every lane of the link, counted and reported (R128). -/
theorem l0sEntry_passes (d : Dir) :
    Reports (.l0sEntry p d) s 0x0204 [BitVec.ofNat 8 p.val, if d = .down then 0 else 1] [.lanes, .sides, .paths] fun t =>
      PathsAre t (vmod s.paths p fun x => { x with l0s := satInc x.l0s }) ∧
      ∀ l : LaneId, l ∈ linkedLanes s p → t.lanes[l].ei[endOf (dirSide l d)] = true ∧ t.sides[opposite (dirSide l d)].txIdle = true := by
  have hcode : by1 (dirCode d) = if d = .down then 0 else 1 := by cases d <;> rfl
  have hno : ¬(pcieLive s p = false ∨ s.paths[p].ltssm ≠ 3) := by
    rw [hlive, hl0]
    decide
  have hx : exec (.l0sEntry p d) s = done s (raise (((linkedLanes s p).foldl (laneL0s d) s).modPath p l0sCounted) 0x0204
      [by1 p.val, by1 (dirCode d)]) := congrArg (done s) (if_neg hno)
  have hpassed := foldl_establishes (IdlePassedOn d) (laneL0s d) (laneL0s_passes d) (fun _ k _ h => h.laneL0s k) (linkedLanes s p) s
  obtain ⟨la, si, hidle⟩ := lanesL0s_cases d s (linkedLanes s p)
  rw [hidle, hcode] at hx
  rw [hidle] at hpassed
  refine reports_of hx (fun q hq => ?_) rfl ⟨?_, fun l hl => ?_⟩
  · cases q
    case lanes | sides | paths => exact absurd (by decide) hq
    all_goals rfl
  · have hpaths := pathsAre_settle s (raise (State.modPath { s with lanes := la, sides := si } p l0sCounted) 0x0204
      [by1 p.val, if d = .down then 0 else 1])
    rw [raise_paths] at hpaths
    exact hpaths
  · rw [settle_lanes, settle_sides, raise_lanes, raise_sides]
    exact hpassed l hl
end

/-- Settles O53: a margin command by what its check, a sweep step and its kind make of the side it names; an L0s entry as electrical idle
that each lane of the link passes on and none takes back. -/
theorem marginingAndL0sActInL0 : Obligations.MarginingAndL0sActInL0 := by
  unfold Obligations.MarginingAndL0sActInL0
  intro s p hlive hl0
  refine ⟨fun lane r i hrate hon hr => ⟨fun n hsweep hlo hhi => ?_, fun n hsweep hlo hhi => ?_, fun n hn => ?_, fun n hn => ?_,
    goNormal_ends hlive hl0 hrate hon hr, marginCommand_waits hlive hl0 hrate hon hr rfl⟩, l0sEntry_passes hlive hl0⟩
  · exact marginCommand_taken hlive hl0 hrate hon hr (cmd := .timing n) (by simp [marginOk, hlo, hhi]) hsweep
  · exact marginCommand_taken hlive hl0 hrate hon hr (cmd := .voltage n) (by simp [marginOk, hlo, hhi]) hsweep
  · exact marginCommand_beyond hlive hl0 hrate hon hr (cmd := .timing n) (by simp only [marginOk, Bool.and_eq_false_iff, decide_eq_false_iff_not]; omega)
  · exact marginCommand_beyond hlive hl0 hrate hon hr (cmd := .voltage n) (by simp only [marginOk, Bool.and_eq_false_iff, decide_eq_false_iff_not]; omega)

end Sys2Proof.Machine
end

section
/-! Equalisation (R109 to R114). -/

namespace Sys2Proof.Machine

/-! ### A phase entered -/

/-- A path in a phase of equalisation. -/
def inPhase (phase : Bool) (x : Path) : Path := { x with eqPhase := if phase then 3 else 2 }

/-- A side whose rejected requests are counted anew. -/
def rejectsCleared (y : Side) : Side := { y with rejects := 0, eqReject := false }

/-- `s` with a phase entered, before its lanes start. -/
def phaseEntered (s : State) (p : PathId) (phase : Bool) : State :=
  modGroupSides (modGroup (followState s p 6) p (inPhase phase)) p rejectsCleared

/-- Recovery.Equalization keeps the rate, and takes PCIE_CFG where it is entered (R115). -/
theorem followedPath_equalizes (x : Path) :
    (followedPath 6 x).rateNow = x.rateNow ∧ (x.ltssm ≠ 6 → (followedPath 6 x).pcieUse = x.pcieCfg) := by
  unfold followedPath
  split
  · next h6 => exact ⟨rfl, fun h => absurd h6 h⟩
  · next h6 =>
    rw [leftPath, if_neg h6]
    exact ⟨rfl, fun _ => rfl⟩

theorem runSet_congr {x y : Path} (hc : y.cfg = x.cfg) (hr : y.rateNow = x.rateNow) : runSet y = runSet x := by
  rw [runSet, runSet, hc, hr]

section
variable {s : State} {p : PathId} (hf : s.paths[p].formed = false)
include hf

theorem phaseSet_link (phase : Bool) : LinkOnly p s (modGroup (followState s p 6) p (inPhase phase)) := by
  obtain ⟨hlink, -⟩ := followState_link hf 6
  exact hlink.trans (modGroup_link (hlink.unformed hf) fun _ => ⟨rfl, rfl⟩)

theorem phaseEntered_link (phase : Bool) : LinkOnly p s (phaseEntered s p phase) :=
  (phaseSet_link hf phase).trans (modGroupSides_link ((phaseSet_link hf phase).unformed hf) _)

theorem phaseEntered_path (phase : Bool) : (phaseEntered s p phase).paths[p] = inPhase phase (followedPath 6 s.paths[p]) := by
  obtain ⟨hlink, hpath⟩ := followState_link hf 6
  rw [phaseEntered, modGroupSides_paths, modGroup_path (hlink.unformed hf), hpath]

omit hf in
theorem phaseEntered_lanes (phase : Bool) : (phaseEntered s p phase).lanes = s.lanes := by
  rw [phaseEntered, modGroupSides_lanes, modGroup_keeps State.lanes fun _ _ _ => rfl]
  exact followState_lanes (by decide) s p

/-- A phase entered clears the counts of rejected requests and leaves the transmitters (R112). -/
theorem phaseEntered_side (phase : Bool) {j : SideId} (hj : pathOf j = p) (hon : laneOn s (laneOf j) = true) :
    (phaseEntered s p phase).sides[j].rejects = 0 ∧ (phaseEntered s p phase).sides[j].txeq = s.sides[j].txeq := by
  have hset := phaseSet_link hf phase
  obtain ⟨htx, -⟩ := followState_tx (st := 6) (by decide) s p j
  rw [phaseEntered, modGroupSides_side (hset.unformed hf), if_pos ⟨hj, (hset.laneOn _).trans hon⟩,
    modGroup_keeps State.sides fun _ _ _ => rfl]
  exact ⟨rfl, htx⟩
end

/-! ### Lanes in a phase -/

/-- A transmitter that takes the preset announced for its lane, where one is. -/
def presetTaken (set : Fin 4) (k : Option Byte) (x : Side) : Side :=
  match k with
  | some k => txTaken set (presetOf k.toNat) x
  | none => x

theorem presetTaken_some (set : Fin 4) (k : Byte) (x : Side) : presetTaken set (some k) x = txTaken set (presetOf k.toNat) x := rfl

theorem presetTaken_rejects (set : Fin 4) (k : Option Byte) (x : Side) : (presetTaken set k x).rejects = x.rejects := by
  cases k with
  | some k => rfl
  | none => rfl

/-- A side whose lane enters a phase: the requester's requests start, the responder takes its preset. -/
def phaseSide (paths : Vector Path 4) (phase : Bool) (presets : List Byte) (j : SideId) (x : Side) : Side :=
  if endOf j = reqEnd phase then startRequests paths[pathOf j].pcieUse phase x
  else presetTaken (runSet paths[pathOf j]) presets[(laneOf j).val]? x

theorem lanePhase_eq (phase : Bool) (presets : List Byte) (s : State) (l : LaneId) : lanePhase phase presets s l =
    (s.modSide (sideOf l (reqEnd phase)) (startRequests s.paths[pathOfLane l].pcieUse phase)).modSide (sideOf l (rspEnd phase))
      (presetTaken (runSet s.paths[pathOfLane l]) presets[l.val]?) := by
  unfold lanePhase
  dsimp only
  cases presets[l.val]? with
  | some k => rfl
  | none => exact (modSide_fixed rfl).symm

theorem rspEnd_ne (phase : Bool) : reqEnd phase ≠ rspEnd phase := by cases phase <;> decide

theorem lanePhase_side (phase : Bool) (presets : List Byte) (s : State) (l : LaneId) (j : SideId) :
    (lanePhase phase presets s l).sides[j] = if laneOf j = l then phaseSide s.paths phase presets j s.sides[j] else s.sides[j] := by
  rw [lanePhase_eq, modSides_of_lane s l (rspEnd_ne phase)]
  split
  · next hl =>
    subst hl
    simp only [pathOfLane_laneOf, phaseSide]
  · rfl

theorem lanePhase_link {p : PathId} {l : LaneId} (hl : pathOfLane l = p) (phase : Bool) (presets : List Byte) (s : State) :
    LinkOnly p s (lanePhase phase presets s l) := by
  rw [lanePhase_eq]
  exact (LinkOnly.modSide ((pathOf_sideOf l _).trans hl) s _).trans (LinkOnly.modSide ((pathOf_sideOf l _).trans hl) _ _)

theorem lanePhase_paths (phase : Bool) (presets : List Byte) (s : State) (l : LaneId) : (lanePhase phase presets s l).paths = s.paths := by
  rw [lanePhase_eq]
  rfl

theorem lanePhase_lanes (phase : Bool) (presets : List Byte) (s : State) (l : LaneId) : (lanePhase phase presets s l).lanes = s.lanes := by
  rw [lanePhase_eq]
  rfl

theorem mem_linkedLanes {s : State} {p : PathId} (hf : s.paths[p].formed = false) {l : LaneId} :
    l ∈ linkedLanes s p ↔ (pathOfLane l = p ∧ laneOn s l = true) ∧ s.lanes[l].parked = false := by
  rw [linkedLanes, List.mem_filter, mem_groupLanes hf, Bool.not_eq_true']

theorem linkedLanes_nodup {s : State} {p : PathId} (hf : s.paths[p].formed = false) : (linkedLanes s p).Nodup :=
  (groupLanes_nodup hf).filter _

/-- Lanes of the link that enter a phase, one by one. -/
theorem lanesPhase_side {s : State} {p : PathId} (hf : s.paths[p].formed = false) (phase : Bool) (presets : List Byte) {j : SideId}
    (hj : laneOf j ∈ linkedLanes s p) : ((linkedLanes s p).foldl (lanePhase phase presets) s).sides[j] =
      phaseSide s.paths phase presets j s.sides[j] := by
  rw [foldl_lanes_side (I := fun t => t.paths = s.paths) (u := phaseSide s.paths phase presets)
    (fun t l ht => (lanePhase_paths phase presets t l).trans ht) (fun t l j ht => by rw [lanePhase_side, ht])
    (linkedLanes_nodup hf) rfl, if_pos hj]

/-- Requests start as PCIE_CFG says: from its mask or with its one preset, or not at all (R111). -/
theorem startRequests_starts (c : R40) (phase : Bool) (x : Side) : (startRequests c phase x).reqRun = decide (fld c 39 38 ≤ 1) ∧
    (fld c 39 38 = 1 → (startRequests c phase x).presets = [if phase then fld c 33 30 else fld c 37 34]) := by
  unfold startRequests
  dsimp only
  split
  · next h => exact ⟨by rw [h]; rfl, fun h1 => by omega⟩
  · next h => exact ⟨by rw [h]; rfl, fun _ => rfl⟩
  · next h0 h1 =>
    have hge : 2 ≤ fld c 39 38 := (Nat.two_le_iff _).mpr ⟨h0, h1⟩
    exact ⟨(decide_eq_false (by omega)).symm, fun h => absurd h h1⟩

/-- `s` with a phase entered and its lanes started. -/
def phaseStarted (s : State) (p : PathId) (phase : Bool) (presets : List Byte) : State :=
  (linkedLanes (phaseEntered s p phase) p).foldl (lanePhase phase presets) (phaseEntered s p phase)

theorem phaseStarted_paths (s : State) (p : PathId) (phase : Bool) (presets : List Byte) :
    (phaseStarted s p phase presets).paths = (phaseEntered s p phase).paths :=
  foldl_keeps State.paths _ _ (lanePhase_paths phase presets) _

theorem phaseStarted_lanes (s : State) (p : PathId) (phase : Bool) (presets : List Byte) :
    (phaseStarted s p phase presets).lanes = s.lanes :=
  (foldl_keeps State.lanes _ _ (lanePhase_lanes phase presets) _).trans (phaseEntered_lanes phase)

section
variable {s : State} {p : PathId} (hf : s.paths[p].formed = false) (phase : Bool) (presets : List Byte)
include hf

theorem phaseStarted_link : LinkOnly p s (phaseStarted s p phase presets) := by
  have hlink := phaseEntered_link hf phase
  exact hlink.trans (LinkOnly.foldl (fun t l hl => lanePhase_link ((mem_linkedLanes (hlink.unformed hf)).mp hl).1.1 phase presets t) _)

theorem phaseStarted_path : (phaseStarted s p phase presets).paths[p] = inPhase phase (followedPath 6 s.paths[p]) := by
  rw [phaseStarted_paths, phaseEntered_path hf]

section
variable {l : LaneId} (hl : pathOfLane l = p) (hon : laneOn s l = true) (hpark : s.lanes[l].parked = false)
include hl hon hpark

theorem phaseStarted_side (e : Fin 2) : (phaseStarted s p phase presets).sides[sideOf l e] =
    phaseSide (phaseEntered s p phase).paths phase presets (sideOf l e) (phaseEntered s p phase).sides[sideOf l e] := by
  have hlink := phaseEntered_link hf phase
  refine lanesPhase_side (hlink.unformed hf) phase presets ?_
  rw [laneOf_sideOf, mem_linkedLanes (hlink.unformed hf), phaseEntered_lanes]
  exact ⟨⟨hl, (hlink.laneOn l).trans hon⟩, hpark⟩

/-- The requester of a lane in the phase starts by the PCIE_CFG in use (R111). -/
theorem phaseStarted_requester : (phaseStarted s p phase presets).sides[sideOf l (reqEnd phase)] =
    startRequests (phaseStarted s p phase presets).paths[p].pcieUse phase (phaseEntered s p phase).sides[sideOf l (reqEnd phase)] := by
  have hp : pathOf (sideOf l (reqEnd phase)) = p := (pathOf_sideOf l _).trans hl
  rw [phaseStarted_side hf phase presets hl hon hpark, phaseSide, endOf_sideOf, if_pos rfl, phaseStarted_paths]
  simp only [hp]

/-- The responder of a lane takes its preset for the rate in use, its rejected requests counted anew (R112). -/
theorem phaseStarted_responder : (phaseStarted s p phase presets).sides[sideOf l (rspEnd phase)].rejects = 0 ∧
    ∀ k : Byte, presets[l.val]? = some k → (phaseStarted s p phase presets).sides[sideOf l (rspEnd phase)].txeq[runSet s.paths[p]] =
      txWith s.sides[sideOf l (rspEnd phase)].txeq[runSet s.paths[p]] 0 (presetOf k.toNat).1 (presetOf k.toNat).2.1
        (presetOf k.toNat).2.2 := by
  have hp : pathOf (sideOf l (rspEnd phase)) = p := (pathOf_sideOf l _).trans hl
  obtain ⟨-, hcfg, -⟩ := followedPath_keeps 6 s.paths[p]
  obtain ⟨hrate, -⟩ := followedPath_equalizes s.paths[p]
  have hset : runSet (phaseEntered s p phase).paths[p] = runSet s.paths[p] := by
    rw [phaseEntered_path hf]
    exact runSet_congr hcfg hrate
  have hside := phaseStarted_side hf phase presets hl hon hpark (rspEnd phase)
  rw [phaseSide, endOf_sideOf, if_neg (rspEnd_ne phase).symm] at hside
  simp only [hp, laneOf_sideOf, hset] at hside
  obtain ⟨hrejects, htx⟩ := phaseEntered_side hf phase hp ((congrArg (laneOn s) (laneOf_sideOf l _)).trans hon)
  rw [hside]
  refine ⟨?_, fun k hk => ?_⟩
  · rw [presetTaken_rejects, hrejects]
  · rw [hk, presetTaken_some, txTaken_txeq, htx]
end
end

/-! ### Echoes -/

/-- Going on leaves what has been judged; without steps left the requests end (R111). -/
theorem goOn_keeps (n : Nat) (x : Side) : (goOn n x).reqBest = x.reqBest ∧ (goOn n x).partner = x.partner ∧
    (goOn n x).reqSteps = x.reqSteps ∧ (x.presets = [] → (goOn n x).presets = []) ∧ (x.reqSteps = 0 → (goOn n x).reqRun = false) := by
  unfold goOn
  split
  · next t ht =>
    split
    · next a ha => exact ⟨rfl, rfl, rfl, id, fun h0 => by rw [if_pos h0] at ha; cases ha⟩
    · exact ⟨rfl, rfl, rfl, fun _ => rfl, fun _ => rfl⟩
  · exact ⟨rfl, rfl, rfl, fun _ => rfl, fun _ => rfl⟩

/-- A preset judged leaves those after it and the requests running; the best is kept by its figure where presets are compared (R111). -/
theorem judgePreset_judges (c : R40) (m k : Nat) (rest : List Nat) (x : Side) : (judgePreset c m k rest x).presets = rest ∧
    (judgePreset c m k rest x).reqRun = x.reqRun ∧ (judgePreset c m k rest x).reqSteps = x.reqSteps ∧
    (fld c 39 38 = 0 → (judgePreset c m k rest x).reqBest = match x.reqBest with
      | some b => if b.2 < m then some (k, m) else some b
      | none => some (k, m)) := by
  unfold judgePreset
  cases hbest : x.reqBest with
  | none => exact ⟨rfl, rfl, rfl, fun _ => rfl⟩
  | some b =>
    by_cases hm : b.2 < m
    · simp [hm]
    · by_cases hc : fld c 39 38 = 1
      · simp [hc]
      · simp [hm, hc, hbest]

/-- A preset echoed is judged; after the last one the requests go on or end (R111). -/
theorem judgeEcho_preset (c : R40) (n : Nat) (x : Side) {m k : Nat} {rest : List Nat} (hm : m = marginOf false x) (hk : x.presets = k :: rest)
    (hrun : x.reqRun = true) : (judgeEcho c n x).presets = rest ∧ (rest ≠ [] → (judgeEcho c n x).reqRun = true) ∧
      (rest = [] → x.reqSteps = 0 → (judgeEcho c n x).reqRun = false) ∧
      (fld c 39 38 = 0 → (judgeEcho c n x).reqBest = match x.reqBest with
        | some b => if b.2 < m then some (k, m) else some b
        | none => some (k, m)) := by
  have heq : judgeEcho c n x = if rest.isEmpty then goOn n (judgePreset c m k rest x) else judgePreset c m k rest x := by
    rw [judgeEcho, hk, hm]
  obtain ⟨hpresets, hreqs, hsteps, hbest⟩ := judgePreset_judges c m k rest x
  rw [heq]
  cases rest with
  | nil =>
    obtain ⟨kbest, -, -, kpresets, kend⟩ := goOn_keeps n (judgePreset c m k [] x)
    exact ⟨kpresets hpresets, fun h => absurd rfl h, fun _ h0 => kend (hsteps.trans h0), fun hc => kbest.trans (hbest hc)⟩
  | cons a l => exact ⟨hpresets, fun _ => hreqs.trans hrun, fun h => absurd h (List.cons_ne_nil a l), hbest⟩

/-- A coefficient step judged is counted, and kept where it raises the figure (R111). -/
theorem judgeStep_judges (m : Nat) (a : Fin 4 × Byte × Byte × Byte) {x : Side} {b : Nat × Nat} (hb : x.reqBest = some b) :
    (judgeStep m a x).reqSteps = x.reqSteps - 1 ∧ (judgeStep m a x).reqBest = some (b.1, max b.2 m) ∧
    (b.2 < m → (judgeStep m a x).partner = some a.2) ∧ (m ≤ b.2 → (judgeStep m a x).partner = x.partner) := by
  unfold judgeStep
  dsimp only
  rw [hb]
  by_cases hm : b.2 < m
  · rw [max_eq_right (Nat.le_of_lt hm)]
    simp [hm]
  · rw [max_eq_left (Nat.le_of_not_lt hm)]
    simp [hm]

/-- A coefficient step echoed is judged; its requests go on while steps are left (R111). -/
theorem judgeEcho_step (c : R40) (n : Nat) {x : Side} {m : Nat} {a : Fin 4 × Byte × Byte × Byte} {b : Nat × Nat}
    (hm : m = marginOf false x) (hk : x.presets = []) (ha : x.eqAsk = some a) (hb : x.reqBest = some b) :
    (judgeEcho c n x).reqSteps = x.reqSteps - 1 ∧ (x.reqSteps ≤ 1 → (judgeEcho c n x).reqRun = false) ∧
      (judgeEcho c n x).reqBest = some (b.1, max b.2 m) ∧ (b.2 < m → (judgeEcho c n x).partner = some a.2) ∧
      (m ≤ b.2 → (judgeEcho c n x).partner = x.partner) := by
  have heq : judgeEcho c n x = goOn n (judgeStep m a x) := by rw [judgeEcho, hk, ha, hm]
  obtain ⟨hsteps, hbest, hup, hdown⟩ := judgeStep_judges m a hb
  obtain ⟨kbest, kpartner, ksteps, -, kend⟩ := goOn_keeps n (judgeStep m a x)
  rw [heq]
  exact ⟨ksteps.trans hsteps, fun h1 => kend (by omega), kbest.trans hbest, fun h => kpartner.trans (hup h),
    fun h => kpartner.trans (hdown h)⟩

/-- What an echo of the request in progress, with a figure, makes of a side: of a preset, and of a coefficient step (R111). -/
def EchoJudged (c : R40) (m : Nat) (x y : Side) : Prop :=
  (∀ (k : Nat) (rest : List Nat), x.presets = k :: rest → y.presets = rest ∧ (rest ≠ [] → y.reqRun = true) ∧
    (rest = [] → x.reqSteps = 0 → y.reqRun = false) ∧
    (fld c 39 38 = 0 → y.reqBest = match x.reqBest with
      | some b => if b.2 < m then some (k, m) else some b
      | none => some (k, m))) ∧
  (∀ (a : Fin 4 × Byte × Byte × Byte) (b : Nat × Nat), x.presets = [] → x.eqAsk = some a → x.reqBest = some b →
    y.reqSteps = x.reqSteps - 1 ∧ (x.reqSteps ≤ 1 → y.reqRun = false) ∧ y.reqBest = some (b.1, max b.2 m) ∧
    (b.2 < m → y.partner = some a.2) ∧ (m ≤ b.2 → y.partner = x.partner))

theorem judgeEcho_judged (c : R40) (n : Nat) (x : Side) (hrun : x.reqRun = true) :
    EchoJudged c (marginOf false x) x (judgeEcho c n x) :=
  ⟨fun _ _ hk => judgeEcho_preset c n x rfl hk hrun, fun _ _ hk ha hb => judgeEcho_step c n rfl hk ha hb⟩

theorem requests_run {s : State} {i : SideId} (h : requests s i = true) : s.sides[i].reqRun = true := by
  simp only [requests, Bool.and_eq_true] at h
  exact h.1.2

theorem eqPartnerEcho_nothing {s : State} {i : SideId} {e : EqFields} (h : requests s i = false ∨ requestNow s.sides[i] ≠ some e) :
    Does (.eqPartnerEcho i e) s [] fun _ => True := by
  have hno : ¬(requests s i = true ∧ requestNow s.sides[i] = some e) := by
    rintro ⟨hreq, hnow⟩
    rcases h with h | h
    · rw [hreq] at h
      cases h
    · exact h hnow
  exact does_nothing (congrArg (done s) (if_neg hno))

/-- An echo of the request in progress is judged by the side's figure (R111). -/
theorem eqPartnerEcho_judged {s : State} {i : SideId} {e : EqFields} (hreq : requests s i = true)
    (hnow : requestNow s.sides[i] = some e) : Does (.eqPartnerEcho i e) s [.sides, .free] fun t =>
      (∀ j : SideId, j ≠ i → t.sides[j] = s.sides[j]) ∧
      EchoJudged s.paths[pathOf i].pcieUse (marginOf false s.sides[i]) s.sides[i] t.sides[i] := by
  have hx : exec (.eqPartnerEcho i e) s = done s (s.modSide i (judgeEcho s.paths[pathOf i].pcieUse s.openNat)).usedFree :=
    congrArg (done s) (if_pos ⟨hreq, hnow⟩)
  refine does_of hx (fun q hq => ?_) ⟨fun j hj => modSide_side_other hj, ?_⟩
  · cases q
    case sides | free => exact absurd (by decide) hq
    all_goals rfl
  · have hside := modSide_side s i (judgeEcho s.paths[pathOf i].pcieUse s.openNat)
    rw [settle_sides, usedFree_sides, hside]
    exact judgeEcho_judged _ _ _ (requests_run hreq)

theorem eqEchoTimeout_ends {s : State} {i : SideId} (hreq : requests s i = true) : Reports (.eqEchoTimeout i) s 0x0202
    ([BitVec.ofNat 8 (pathOf i).val, BitVec.ofNat 8 i.val] ++ be 4 (runRate s.paths[pathOf i]) ++
      [BitVec.ofNat 8 s.paths[pathOf i].eqPhase.val]) [.sides] fun t =>
    t.sides = vmod s.sides i fun x => { x with reqRun := false, presets := [], eqAsk := none, krAsk := none, reqTried := [] } :=
  reports_modSide (f := endRequests) (congrArg (done s) (if_pos hreq))

/-! ### A phase completed -/

/-- A path with a phase at a rate entered in EQ_DONE (Table 5.8). -/
def phaseDone (phase : Bool) (x : Path) : Path := { x with eqDone := x.eqDone ||| BitVec.ofNat 6 (2 ^ doneBit x.rateNow.val phase) }

/-- The bit of EQ_DONE that a phase sets at 8.0 GT/s and above. -/
theorem phaseDone_bit {phase : Bool} {x : Path} (hr : 3 ≤ x.rateNow.val) (k : Fin 6) :
    (phaseDone phase x).eqDone[k] = (x.eqDone[k] || (k.val == 11 - 2 * x.rateNow.val - b2n phase)) := by
  have hbit : doneBit x.rateNow.val phase = 11 - 2 * x.rateNow.val - b2n phase := by
    have hlt := x.rateNow.isLt
    unfold doneBit
    omega
  have hget : (BitVec.ofNat 6 (2 ^ doneBit x.rateNow.val phase))[k] = (k.val == 11 - 2 * x.rateNow.val - b2n phase) := by
    rw [hbit]
    rw [Fin.getElem_fin, BitVec.getElem_eq_testBit_toNat, BitVec.toNat_ofNat, Nat.testBit_mod_two_pow, Nat.testBit_two_pow,
      decide_eq_true k.isLt, Bool.true_and, Bool.beq_eq_decide_eq]
    simp only [eq_comm]
  show (x.eqDone ||| BitVec.ofNat 6 (2 ^ doneBit x.rateNow.val phase))[k] = _
  rw [← hget]
  simp

/-- A state with one event raised and with values of the manual's open ones used. -/
def openRaised (s : State) (c : Nat) (d : List Byte) : State := raise s.usedFree.usedFree.usedFree.usedFree c d

/-- A phase is reported with what the receiver of its path's lane 0 settled on (R110). -/
theorem reportPhase_settled {s : State} {p : PathId} {phase : Bool} {b : Nat × Nat} {v : Byte × Byte × Byte}
    (hb : s.sides[sideOf (laneIn p 0) (reqEnd phase)].reqBest = some b)
    (hv : s.sides[sideOf (laneIn p 0) (reqEnd phase)].partner = some v) : reportPhase phase s p = openRaised s 0x0201
      ([by1 p.val, by1 (reqEnd phase).val] ++ be 4 (runRate s.paths[p]) ++
        [by1 s.paths[p].eqPhase.val, by1 b.1, v.1, v.2.1, v.2.2]) := by
  unfold reportPhase
  dsimp only
  rw [hb, hv, List.append_assoc]
  rfl

/-- The link moves to Recovery after phase 3 (R110). -/
def phaseLeft (phase : Bool) (s : State) (p : PathId) : State := if phase then followState s p 4 else s

/-- No requests run on a side. -/
def Quiet (x : Side) : Prop := x.reqRun = false

theorem quiet_survives : SurvivesFollowing Quiet := ⟨fun _ h => h, fun _ _ => rfl, fun _ h => h, fun _ _ h => h, fun _ h => h⟩

section
variable {s : State} {p : PathId} (hf : s.paths[p].formed = false)
include hf

theorem phaseLeft_link (phase : Bool) : LinkOnly p s (phaseLeft phase s p) := by
  unfold phaseLeft
  split
  · exact (followState_link hf 4).1
  · exact LinkOnly.refl p s

theorem phaseLeft_path (phase : Bool) (h6 : s.paths[p].ltssm = 6) :
    (phaseLeft phase s p).paths[p].eqDone = s.paths[p].eqDone ∧ (phaseLeft phase s p).paths[p].ltssm = if phase then 4 else 6 := by
  unfold phaseLeft
  split
  · obtain ⟨-, hpath⟩ := followState_link hf 4
    obtain ⟨hltssm, -, -, hdone, -⟩ := followedPath_keeps 4 s.paths[p]
    rw [hpath]
    exact ⟨hdone, hltssm⟩
  · exact ⟨rfl, h6⟩

omit hf in
theorem phaseLeft_lanes (phase : Bool) : (phaseLeft phase s p).lanes = s.lanes := by
  unfold phaseLeft
  split
  · exact followState_lanes (by decide) s p
  · rfl

omit hf in
theorem phaseLeft_quiet (phase : Bool) {j : SideId} (h : Quiet s.sides[j]) : Quiet (phaseLeft phase s p).sides[j] := by
  unfold phaseLeft
  split
  · exact followState_side_holds quiet_survives (by decide) p h
  · exact h

/-- While no requests of the device run, its requesters in the phase are quiet (R110). -/
theorem requester_quiet (h6 : s.paths[p].ltssm = 6) (h0 : s.paths[p].eqPhase ≠ 0) (hbusy : eqBusy s p = false) {j : SideId}
    (hj : pathOf j = p) (hon : laneOn s (laneOf j) = true) (hend : endOf j = reqEnd (s.paths[p].eqPhase == 3)) : Quiet s.sides[j] := by
  rw [eqBusy, groupSides_unformed hf, List.any_eq_false] at hbusy
  have hno := hbusy j (mem_sidesOf.mpr hj)
  rw [hon, Bool.true_and] at hno
  simp only [requests, hj, h6, hend, beq_self_eq_true, Bool.and_true, Bool.true_and, Bool.and_eq_true, bne_iff_ne] at hno
  exact Bool.eq_false_iff.mpr fun hrun => hno ⟨h0, hrun⟩
end

theorem openRaised_sides (s : State) (c : Nat) (d : List Byte) : (openRaised s c d).sides = s.sides := by
  simp only [openRaised, raise_sides, usedFree_sides]

theorem openRaised_paths (s : State) (c : Nat) (d : List Byte) : (openRaised s c d).paths = s.paths := by
  simp only [openRaised, raise_paths, usedFree_paths]

theorem openRaised_noted (s : State) (c : Nat) (d : List Byte) {q : Part} (hq : q ≠ .free) : q.noted s (openRaised s c d) := by
  have hused (t : State) : q.untouched t t.usedFree := by
    cases q
    case free => exact absurd rfl hq
    all_goals rfl
  have hall := Part.untouched_trans (Part.untouched_trans (Part.untouched_trans (hused s) (hused _)) (hused _)) (hused _)
  exact Part.noted_of_untouched hall ((raise_noted _ c d).part q)

/-- The event stands in every later state with the same window and mailbox. -/
theorem openRaised_raised {s t : State} {c : Nat} {d : List Byte} (hwin : t.win = (openRaised s c d).win)
    (hmbx : t.mbx = (openRaised s c d).mbx) : Raised s t c d :=
  have hview (t : State) : eventView t.usedFree = eventView t := rfl
  raised_in (((hview _).trans (hview _)).trans ((hview _).trans (hview s))) hwin hmbx

/-- `s` with a phase completed and reported with data. -/
def phaseCompleted (s : State) (p : PathId) (phase : Bool) (d : List Byte) : State :=
  phaseLeft phase ((openRaised s 0x0201 d).modPath p (phaseDone phase)) p

section
variable {s : State} {p : PathId} (hf : s.paths[p].formed = false) (phase : Bool) (d : List Byte)
include hf

omit hf in
theorem phaseReported_path : ((openRaised s 0x0201 d).modPath p (phaseDone phase)).paths[p] = phaseDone phase s.paths[p] := by
  rw [modPath_path, openRaised_paths]

theorem phaseReported_unformed : ((openRaised s 0x0201 d).modPath p (phaseDone phase)).paths[p].formed = false := by
  rw [phaseReported_path]
  exact hf

theorem phaseCompleted_link : LinkOnly p (openRaised s 0x0201 d) (phaseCompleted s p phase d) :=
  (LinkOnly.modPath (f := phaseDone phase) fun _ => ⟨rfl, rfl⟩).trans (phaseLeft_link (phaseReported_unformed hf phase d) phase)

omit hf in
theorem phaseCompleted_lanes : (phaseCompleted s p phase d).lanes = (openRaised s 0x0201 d).lanes := phaseLeft_lanes phase

theorem phaseCompleted_path (h6 : s.paths[p].ltssm = 6) : (phaseCompleted s p phase d).paths[p].eqDone = (phaseDone phase s.paths[p]).eqDone ∧
    (phaseCompleted s p phase d).paths[p].ltssm = if phase then 4 else 6 := by
  have h := phaseLeft_path (phaseReported_unformed hf phase d) phase (by rw [phaseReported_path]; exact h6)
  rw [phaseReported_path] at h
  exact h

omit hf in
theorem phaseCompleted_quiet {j : SideId} (h : Quiet s.sides[j]) : Quiet (phaseCompleted s p phase d).sides[j] := by
  refine phaseLeft_quiet phase ?_
  rw [modPath_sides, openRaised_sides]
  exact h
end

/-! ### The rows -/

section
variable {s : State} {p : PathId} (hlive : pcieLive s p = true) (hf : s.paths[p].formed = false)
include hlive hf

omit hf in
theorem exec_eqPhaseEntry (phase : Bool) (presets : List Byte) (hrate : 3 ≤ s.paths[p].rateNow.val) (hbusy : eqBusy s p = false) :
    exec (.eqPhaseEntry p phase presets) s = done s (phaseStarted s p phase presets) := by
  have hno : ¬(pcieLive s p = false ∨ s.paths[p].rateNow.val < 3 ∨ eqBusy s p = true) := by
    rw [hlive, hbusy]
    rintro (h | h | h)
    · cases h
    · omega
    · cases h
  exact congrArg (done s) (if_neg hno)

/-- A phase entered starts requesters and responders (R109 to R112). -/
theorem eqPhaseEntry_starts (phase : Bool) (presets : List Byte) (hrate : 3 ≤ s.paths[p].rateNow.val) (hbusy : eqBusy s p = false) :
    Does (.eqPhaseEntry p phase presets) s [.paths, .sides] fun t =>
      t.paths[p].ltssm = 6 ∧ t.paths[p].eqPhase = (if phase then 3 else 2) ∧
      (s.paths[p].ltssm ≠ 6 → t.paths[p].pcieUse = s.paths[p].pcieCfg) ∧
      (∀ l : LaneId, pathOfLane l = p → laneOn s l = true → s.lanes[l].parked = false →
        t.sides[sideOf l (reqEnd phase)].reqRun = decide (fld t.paths[p].pcieUse 39 38 ≤ 1) ∧
        (fld t.paths[p].pcieUse 39 38 = 1 → t.sides[sideOf l (reqEnd phase)].presets =
          [if phase then fld t.paths[p].pcieUse 33 30 else fld t.paths[p].pcieUse 37 34]) ∧
        t.sides[sideOf l (rspEnd phase)].rejects = 0 ∧
        ∀ k : Byte, presets[l.val]? = some k → t.sides[sideOf l (rspEnd phase)].txeq[runSet s.paths[p]] =
          txWith s.sides[sideOf l (rspEnd phase)].txeq[runSet s.paths[p]] 0 (presetOf k.toNat).1 (presetOf k.toNat).2.1
            (presetOf k.toNat).2.2) ∧
      (∀ q : PathId, q ≠ p → { t.paths[q] with idleNs := s.paths[q].idleNs } = s.paths[q]) ∧
      ∀ j : SideId, pathOf j ≠ p → t.sides[j] = s.sides[j] := by
  have hx := exec_eqPhaseEntry hlive phase presets hrate hbusy
  have hlink := phaseStarted_link hf phase presets
  have hlanes := phaseStarted_lanes s p phase presets
  have hpath := phaseStarted_path hf phase presets
  have hreq {l : LaneId} := phaseStarted_requester hf phase presets (l := l)
  have hrsp {l : LaneId} := phaseStarted_responder hf phase presets (l := l)
  generalize phaseStarted s p phase presets = v at hx hlink hlanes hpath hreq hrsp
  obtain ⟨hltssm, -⟩ := followedPath_keeps 6 s.paths[p]
  obtain ⟨-, htaken⟩ := followedPath_equalizes s.paths[p]
  have huse : (settle s v).paths[p].pcieUse = v.paths[p].pcieUse := settle_path_field Path.pcieUse (fun _ _ => rfl) s v p
  refine does_of hx (fun q hq => ?_)
    ⟨?_, ?_, fun h6 => ?_, fun l hl hon hpark => ?_, fun q hq => hlink.toPathOnly.settle_other s hq, hlink.sides⟩
  · exact hlink.untouched_lanes hlanes (List.ne_of_not_mem_cons (List.not_mem_of_not_mem_cons hq)) (List.ne_of_not_mem_cons hq)
  · rw [settle_path_field Path.ltssm fun _ _ => rfl, hpath]
    exact hltssm
  · rw [settle_path_field Path.eqPhase fun _ _ => rfl, hpath]
    rfl
  · rw [huse, hpath]
    exact htaken h6
  · obtain ⟨hrun, hfixed⟩ := startRequests_starts v.paths[p].pcieUse phase (phaseEntered s p phase).sides[sideOf l (reqEnd phase)]
    rw [settle_sides, huse, hreq hl hon hpark]
    exact ⟨hrun, hfixed, hrsp hl hon hpark⟩
theorem exec_eqPhaseComplete {b : Nat × Nat} {v : Byte × Byte × Byte} {phase : Bool} (h6 : s.paths[p].ltssm = 6)
    (h0 : s.paths[p].eqPhase ≠ 0) (hbusy : eqBusy s p = false) (hphase : (s.paths[p].eqPhase == 3) = phase)
    (hb : s.sides[sideOf (laneIn p 0) (reqEnd phase)].reqBest = some b)
    (hv : s.sides[sideOf (laneIn p 0) (reqEnd phase)].partner = some v) :
    exec (.eqPhaseComplete p) s = done s (phaseCompleted s p phase ([by1 p.val, by1 (reqEnd phase).val] ++ be 4 (runRate s.paths[p]) ++
      [by1 s.paths[p].eqPhase.val, by1 b.1, v.1, v.2.1, v.2.2])) := by
  have hno : ¬(s.paths[p].ltssm ≠ 6 ∨ s.paths[p].eqPhase = 0 ∨ pcieLive s p = false ∨ eqBusy s p = true) := by
    rw [hlive, hbusy, h6]
    simpa using h0
  have hx : exec (.eqPhaseComplete p) s = done s (phaseLeft (s.paths[p].eqPhase == 3)
      (modGroup ((groupOf s p).foldl (reportPhase (s.paths[p].eqPhase == 3)) s) p (phaseDone (s.paths[p].eqPhase == 3))) p) :=
    congrArg (done s) (if_neg hno)
  rw [hx, hphase, groupOf_unformed hf, List.foldl_cons, List.foldl_nil, reportPhase_settled hb hv,
    modGroup_unformed (by rw [openRaised_paths]; exact hf)]
  rfl

/-- A phase that completes is reported and entered in EQ_DONE; phase 3 leads to Recovery (R110, R114). -/
theorem eqPhaseComplete_completes {b : Nat × Nat} {v : Byte × Byte × Byte} {phase : Bool} (h6 : s.paths[p].ltssm = 6)
    (h0 : s.paths[p].eqPhase ≠ 0) (hrate : 3 ≤ s.paths[p].rateNow.val) (hbusy : eqBusy s p = false)
    (hphase : (s.paths[p].eqPhase == 3) = phase) (hb : s.sides[sideOf (laneIn p 0) (reqEnd phase)].reqBest = some b)
    (hv : s.sides[sideOf (laneIn p 0) (reqEnd phase)].partner = some v) :
    Reports (.eqPhaseComplete p) s 0x0201 ([BitVec.ofNat 8 p.val, BitVec.ofNat 8 (reqEnd phase).val] ++ be 4 (runRate s.paths[p]) ++
        [BitVec.ofNat 8 s.paths[p].eqPhase.val, BitVec.ofNat 8 b.1, v.1, v.2.1, v.2.2]) [.paths, .sides, .free] fun t =>
      (∀ k : Fin 6, t.paths[p].eqDone[k] = (s.paths[p].eqDone[k] || (k.val == 11 - 2 * s.paths[p].rateNow.val - b2n phase))) ∧
      t.paths[p].ltssm = (if phase then 4 else 6) ∧
      (∀ l : LaneId, pathOfLane l = p → laneOn s l = true → s.lanes[l].parked = false →
        t.sides[sideOf l (reqEnd phase)].reqRun = false) ∧
      (∀ q : PathId, q ≠ p → { t.paths[q] with idleNs := s.paths[q].idleNs } = s.paths[q]) ∧
      ∀ j : SideId, pathOf j ≠ p → t.sides[j] = s.sides[j] := by
  have hx := exec_eqPhaseComplete hlive hf h6 h0 hbusy hphase hb hv
  obtain ⟨d, hd⟩ : ∃ d : List Byte, d = [by1 p.val, by1 (reqEnd phase).val] ++ be 4 (runRate s.paths[p]) ++
      [by1 s.paths[p].eqPhase.val, by1 b.1, v.1, v.2.1, v.2.2] := ⟨_, rfl⟩
  rw [← hd] at hx
  have hlink := phaseCompleted_link hf phase d
  have hlanes := phaseCompleted_lanes (s := s) (p := p) phase d
  have hraised : Raised s (phaseCompleted s p phase d) 0x0201 d :=
    openRaised_raised (hlink.untouched (q := .win) (by decide)) (hlink.untouched (q := .mbx) (by decide))
  have hquiet {j : SideId} := phaseCompleted_quiet (s := s) (p := p) phase d (j := j)
  obtain ⟨hdone, hltssm⟩ := phaseCompleted_path hf phase d h6
  generalize phaseCompleted s p phase d = w at hx hlink hlanes hraised hquiet hdone hltssm
  refine affects_of hx (fun q hq => ?_)
    ⟨hd ▸ hraised.settle s, fun k => ?_, ?_, fun l hl hon _ => hquiet (requester_quiet hf h6 h0 hbusy ?_ ?_ ?_), fun q hq => ?_, fun j hj => ?_⟩
  · simp only [List.mem_cons, List.not_mem_nil, or_false, not_or] at hq
    obtain ⟨hpaths, hsides, hfree⟩ := hq
    exact Part.noted_then_untouched (openRaised_noted s _ d hfree) (hlink.untouched_lanes hlanes hsides hpaths)
  · rw [settle_path_field Path.eqDone fun _ _ => rfl, hdone]
    exact phaseDone_bit hrate k
  · rw [settle_path_field Path.ltssm fun _ _ => rfl, hltssm]
  · exact (pathOf_sideOf l _).trans hl
  · rw [laneOf_sideOf]
    exact hon
  · rw [endOf_sideOf, hphase]
  · have hother := hlink.toPathOnly.settle_other s hq
    rw [openRaised_paths] at hother
    exact hother
  · rw [settle_sides, hlink.sides j hj, openRaised_sides]

section
variable {i : SideId} {cm1 c0 cp1 : Byte} (hi : pathOf i = p) (h6 : s.paths[p].ltssm = 6) (hon : laneOn s (laneOf i) = true)
  (hresp : (s.paths[p].eqPhase = 2 ∧ endOf i = 1) ∨ (s.paths[p].eqPhase = 3 ∧ endOf i = 0))
include hi h6 hon hresp

omit hf in
/-- A responder accepts a coefficient request whole, or counts it as rejected and reports the first one (R112). -/
theorem exec_coefficientRequest : exec (.coefficientRequest i cm1 c0 cp1) s = done s (
    if requestOk cm1.toNat c0.toNat cp1.toNat then
      (takeTx s i (runSet s.paths[p]) (2 * cm1.toNat, 2 * c0.toNat, 2 * cp1.toNat)).modSide i fun y => { y with eqReject := false }
    else if ((lanesOf p).filter (laneOn s)).all fun l => s.sides[sideOf l (endOf i)].rejects == 0 then
      raise (s.modSide i fun y => { y with rejects := satInc y.rejects, eqReject := true }) 0x0207
        ([by1 p.val, by1 (endOf i).val] ++ be 4 (runRate s.paths[p]) ++ [by1 s.paths[p].eqPhase.val] ++ be 2 1)
    else s.modSide i fun y => { y with rejects := satInc y.rejects, eqReject := true }) := by
  subst hi
  have hresponds : ((s.paths[pathOf i].eqPhase == 2 && endOf i == 1) || (s.paths[pathOf i].eqPhase == 3 && endOf i == 0)) = true := by
    simpa only [Bool.or_eq_true, Bool.and_eq_true, beq_iff_eq] using hresp
  have hno : ¬(pcieLive s (pathOf i) = false ∨ s.paths[pathOf i].ltssm ≠ 6 ∨
      ((s.paths[pathOf i].eqPhase == 2 && endOf i == 1) || (s.paths[pathOf i].eqPhase == 3 && endOf i == 0)) = false ∨
      laneOn s (laneOf i) = false) := by
    rw [hlive, h6, hresponds, hon]
    decide
  exact congrArg (done s) (if_neg hno)

omit hf in
theorem coefficientRequest_taken (hok : requestOk cm1.toNat c0.toNat cp1.toNat = true) :
    Does (.coefficientRequest i cm1 c0 cp1) s [.sides] fun t => t.sides = vmod s.sides i fun x => { x with
      txeq := vmod x.txeq (runSet s.paths[p]) fun r => txWith r 0 (2 * cm1.toNat) (2 * c0.toNat) (2 * cp1.toNat)
      txRamp := none, eqReject := false } := by
  have hx := exec_coefficientRequest hlive hi h6 hon hresp (cm1 := cm1) (c0 := c0) (cp1 := cp1)
  rw [if_pos hok, takeTx_eq, modSide_modSide] at hx
  exact does_modSide hx

omit hf in
theorem coefficientRequest_rejected (hok : requestOk cm1.toNat c0.toNat cp1.toNat = false) :
    Affects (.coefficientRequest i cm1 c0 cp1) s [.sides] fun t =>
      t.sides = (vmod s.sides i fun x => { x with rejects := satInc x.rejects, eqReject := true }) ∧
      ((∀ l : LaneId, pathOfLane l = p → s.sides[sideOf l (endOf i)].rejects = 0) → Raised s t 0x0207
        ([BitVec.ofNat 8 p.val, BitVec.ofNat 8 (endOf i).val] ++ be 4 (runRate s.paths[p]) ++
          [BitVec.ofNat 8 s.paths[p].eqPhase.val, 0, 1])) := by
  have hx := exec_coefficientRequest hlive hi h6 hon hresp (cm1 := cm1) (c0 := c0) (cp1 := cp1)
  rw [if_neg (Bool.not_eq_true _ ▸ hok)] at hx
  by_cases hfirst : (((lanesOf p).filter (laneOn s)).all fun l => s.sides[sideOf l (endOf i)].rejects == 0) = true
  · rw [if_pos hfirst, List.append_assoc _ [_] (be 2 1)] at hx
    obtain ⟨t, ht, ⟨hraised, hsides⟩, hkept⟩ := reports_modSide hx
    exact ⟨t, ht, ⟨hsides, fun _ => hraised⟩, hkept⟩
  · rw [if_neg hfirst] at hx
    obtain ⟨t, ht, hsides, hkept⟩ := does_modSide hx
    refine ⟨t, ht, ⟨hsides, fun hzero => absurd ?_ hfirst⟩, fun q hq => Part.noted_of_kept (hkept q hq)⟩
    simp only [List.all_eq_true, List.mem_filter, beq_iff_eq]
    exact fun l hl => hzero l (mem_lanesOf.mp hl.1)
end
end

theorem requestOk_iff (a b c : Nat) : requestOk a b c = true ↔ a + b + c = 32 ∧ a ≤ 8 ∧ c ≤ 12 ∧ 8 + a + c ≤ b := by
  simp only [requestOk, Bool.and_eq_true, beq_iff_eq, decide_eq_true_eq, and_assoc]

/-- Settles O52, row by row: a phase entered lane by lane, an echo by what judging it makes of its side, a phase completed as its event,
its bit and the state left, a coefficient request by whether R112 accepts it. -/
theorem equalisationRuns : Obligations.EqualisationRuns := by
  unfold Obligations.EqualisationRuns
  intro s p hlive hf
  refine ⟨eqPhaseEntry_starts hlive hf, fun i e h => eqPartnerEcho_nothing h, fun i e m hreq hnow hm => ?_,
    fun i hreq => eqEchoTimeout_ends hreq, fun b v e h6 h0 hrate hbusy he hb hv => ?_,
    fun i cm1 c0 cp1 hi h6 hon hresp => ⟨fun hok => ?_, fun hok => ?_⟩⟩
  · subst hm
    exact eqPartnerEcho_judged hreq hnow
  · by_cases h3 : s.paths[p].eqPhase = 3
    · simp only [if_pos h3] at he ⊢
      subst he
      exact eqPhaseComplete_completes hlive hf (phase := true) h6 h0 hrate hbusy (beq_iff_eq.mpr h3) hb hv
    · simp only [if_neg h3] at he ⊢
      subst he
      exact eqPhaseComplete_completes hlive hf (phase := false) h6 h0 hrate hbusy (beq_eq_false_iff_ne.mpr h3) hb hv
  · exact coefficientRequest_taken hlive hi h6 hon hresp ((requestOk_iff _ _ _).mpr hok)
  · exact coefficientRequest_rejected hlive hi h6 hon hresp (Bool.eq_false_iff.mpr fun h => hok ((requestOk_iff _ _ _).mp h))

end Sys2Proof.Machine
end

section
/-! Receivers detected, rate changes and compliance (R98, R105, R108, R113, R114, R130). -/

namespace Sys2Proof.Machine

/-! ### Receiver detection -/

/-- A path that has detected receivers behind its far-side transmitters. -/
def detected (found : BitVec 4) (x : Path) : Path := { x with found := BitVec.ofNat 4 (found.toNat % 2 ^ pcLanes x.cfg) }

/-- The near-side termination of a lane in use follows the receiver found (R105). -/
def laneTerm (found : BitVec 4) (s : State) (l : LaneId) : State :=
  if laneOn s l then s.modSide (sideOf l 0) fun y => { y with term := bit found (l.val % 4) } else s

/-- A side as detection leaves it, where its lane is in use. -/
def sideTerm (found : BitVec 4) (on : LaneId → Bool) (j : SideId) (y : Side) : Side :=
  if on (laneOf j) = true ∧ endOf j = 0 then { y with term := bit found ((laneOf j).val % 4) } else y

theorem laneTerm_side (found : BitVec 4) (s : State) (l : LaneId) (j : SideId) :
    (laneTerm found s l).sides[j] = if laneOf j = l then sideTerm found (laneOn s) j s.sides[j] else s.sides[j] := by
  unfold laneTerm sideTerm
  by_cases hj : laneOf j = l
  · subst hj
    rw [if_pos rfl]
    cases laneOn s (laneOf j) with
    | false => simp
    | true =>
      by_cases he : endOf j = 0
      · have hside : sideOf (laneOf j) 0 = j := he ▸ sideOf_laneOf_endOf j
        rw [if_pos rfl, if_pos ⟨rfl, he⟩, hside, modSide_side]
      · rw [if_pos rfl, if_neg fun h => he h.2, modSide_side_other fun e => he (by rw [e, endOf_sideOf])]
  · rw [if_neg hj]
    split
    · exact modSide_side_other fun e => hj (by rw [e, laneOf_sideOf])
    · rfl

theorem laneTerm_link {p : PathId} {l : LaneId} (hl : pathOfLane l = p) (found : BitVec 4) (s : State) :
    LinkOnly p s (laneTerm found s l) := by
  unfold laneTerm
  split
  · exact LinkOnly.modSide ((pathOf_sideOf l 0).trans hl) s _
  · exact LinkOnly.refl p s

/-- A reading that no change of a side touches is the same after a termination is set. -/
theorem laneTerm_keeps {β : Type} (g : State → β) (hside : ∀ (t : State) i f, g (t.modSide i f) = g t) (found : BitVec 4) (s : State)
    (l : LaneId) : g (laneTerm found s l) = g s := by
  unfold laneTerm
  split
  · exact hside _ _ _
  · rfl

/-- `s` with receivers detected on a path. -/
def terminated (found : BitVec 4) (s : State) (p : PathId) : State := (lanesOf p).foldl (laneTerm found) (s.modPath p (detected found))

theorem terminated_link (found : BitVec 4) (s : State) (p : PathId) : LinkOnly p s (terminated found s p) :=
  (LinkOnly.modPath (f := detected found) fun _ => ⟨rfl, rfl⟩).trans
    (LinkOnly.foldl (fun t _ hl => laneTerm_link (mem_lanesOf.mp hl) found t) _)

theorem terminated_lanes (found : BitVec 4) (s : State) (p : PathId) : (terminated found s p).lanes = s.lanes :=
  foldl_keeps State.lanes _ _ (laneTerm_keeps State.lanes (fun _ _ _ => rfl) found) _

theorem terminated_path (found : BitVec 4) (s : State) (p : PathId) : (terminated found s p).paths[p] = detected found s.paths[p] := by
  rw [terminated, foldl_keeps State.paths _ _ (laneTerm_keeps State.paths (fun _ _ _ => rfl) found), modPath_path]

theorem terminated_side (found : BitVec 4) (s : State) (p : PathId) (j : SideId) :
    (terminated found s p).sides[j] = if pathOf j = p then sideTerm found (laneOn s) j s.sides[j] else s.sides[j] := by
  have hlink : LinkOnly p s (s.modPath p (detected found)) := LinkOnly.modPath fun _ => ⟨rfl, rfl⟩
  have hon (t : State) (l : LaneId) (ht : laneOn t = laneOn s) : laneOn (laneTerm found t l) = laneOn s := by
    rw [← ht]
    exact laneTerm_keeps laneOn (fun _ _ _ => rfl) found t l
  rw [terminated, foldl_lanes_side (I := fun t => laneOn t = laneOn s) (u := sideTerm found (laneOn s)) hon
    (fun t l j ht => by rw [laneTerm_side, ht]) (lanesOf_nodup p) (funext hlink.laneOn), modPath_sides]
  simp only [mem_lanesOf, pathOfLane_laneOf]

section
variable {s : State} {p : PathId} (hlive : pcieLive s p = true) (hf : s.paths[p].formed = false)
include hlive hf

/-- Detection sets the near terminations from the receivers found (R105). -/
theorem receiverDetect_sets {found : BitVec 4} (h0 : s.paths[p].ltssm = 0) (href : s.paths[p].refclk = true)
    (hcal : calibrating s p = false) : Does (.receiverDetect p found) s [.paths, .sides] fun t =>
      (∀ q : PathId, q ≠ p → { t.paths[q] with idleNs := s.paths[q].idleNs } = s.paths[q]) ∧
      t.paths[p].found.toNat = found.toNat % 2 ^ pcLanes s.paths[p].cfg ∧
      (∀ l : LaneId, pathOfLane l = p → laneOn s l = true → t.sides[sideOf l 0].term = found.getLsbD (l.val % 4)) ∧
      ∀ i : SideId, (pathOf i ≠ p ∨ endOf i = 1 ∨ laneOn s (laneOf i) = false) → t.sides[i] = s.sides[i] := by
  have hno : ¬(pcieLive s p = false ∨ s.paths[p].ltssm ≠ 0 ∨ calibrating s p = true ∨
      (pcClk s.paths[p].cfg = true ∧ refclkOf s p = false ∧ s.paths[p].pllInt = false)) := by
    have hclk : refclkOf s p = true := by
      simp only [refclkOf, leaderOf_unformed hf, href]
    rw [hlive, h0, hcal, hclk]
    simp
  have hx : exec (.receiverDetect p found) s = done s (terminated found s p) := congrArg (done s) (if_neg hno)
  have hlink := terminated_link found s p
  have hlanes := terminated_lanes found s p
  have hpath := terminated_path found s p
  have hside := terminated_side found s p
  generalize terminated found s p = v at hx hlink hlanes hpath hside
  refine does_of hx (fun q hq => ?_) ⟨fun q hq => hlink.toPathOnly.settle_other s hq, ?_, fun l hl hon => ?_, fun i hi => ?_⟩
  · exact hlink.untouched_lanes hlanes (List.ne_of_not_mem_cons (List.not_mem_of_not_mem_cons hq)) (List.ne_of_not_mem_cons hq)
  · have hlt : found.toNat % 2 ^ pcLanes s.paths[p].cfg < 2 ^ 4 := lt_of_le_of_lt (Nat.mod_le _ _) found.isLt
    rw [settle_path_field Path.found fun _ _ => rfl, hpath]
    exact (BitVec.toNat_ofNat _ _).trans (Nat.mod_eq_of_lt hlt)
  · rw [settle_sides, hside, if_pos ((pathOf_sideOf l 0).trans hl), sideTerm, laneOf_sideOf, endOf_sideOf, if_pos ⟨hon, rfl⟩,
      ← bit_eq_getLsbD]
  · rw [settle_sides, hside]
    split
    · next hp =>
      rw [sideTerm, if_neg]
      rintro ⟨hon, hend⟩
      rcases hi with hi | hi | hi
      · exact hi hp
      · rw [hend] at hi
        exact absurd hi (by decide)
      · rw [hon] at hi
        cases hi
    · rfl
end

/-! ### A new rate -/

/-- A side as electrical idle for a new rate leaves it: its ramps ended, its transmitter idle (R108). -/
def landed (set : Fin 4) (y : Side) : Side := { landRamps set (leaveData y) with txIdle := true, pinned := false }

/-- `s` with a path taken to Recovery.Speed and to a rate, its sides through electrical idle. -/
def atNewRate (s : State) (p : PathId) (rate : Fin 6) : State :=
  setRate (modGroupSides (followState s p 5) p (landed (runSet s.paths[p]))) p rate

/-- A lane in electrical idle both ways. -/
def laneIdled (y : Lane) : Lane :=
  { y with ei := Vector.replicate 2 true, lock := Vector.replicate 2 false, fill := Vector.replicate 2 0 }

/-- `s` with the lanes in use of a path in electrical idle. -/
def lanesIdled (s : State) (p : PathId) : State := (groupLanes s p).foldl (fun s l => s.modLane l laneIdled) s

/-- The coefficients of a rate: de-emphasis, or the presets announced (R113). -/
def rateCoefficients (p : PathId) (rate : Fin 5) (presets : List (SideId × Byte)) (six : Bool) (s : State) : State :=
  if rate.val < 2 then (groupLanes s p).foldl (fun s l => takeBoth s l (deemphasis (rate.val + 1) six)) s
  else presets.foldl (loadPreset p) s

theorem landRamps_txeq_congr (set : Fin 4) {x y : Side} (ht : y.txeq = x.txeq) (hr : y.txRamp = x.txRamp) :
    (landRamps set y).txeq = (landRamps set x).txeq := by
  unfold landRamps
  cases hx : x.txRamp with
  | none =>
    simp only [hr, hx]
    exact ht
  | some v =>
    simp only [hr, hx]
    exact congrArg (fun w : Vector R40 4 => vmod w set fun _ => v) ht

/-- A side through electrical idle for a new rate: its transmitter idle, its coefficients those of its ramps' ends. -/
theorem landed_reads (set : Fin 4) {x y : Side} (h : TxReads x.txeq x.txRamp y) :
    (landed set y).txIdle = true ∧ (landed set y).txeq = (landRamps set x).txeq :=
  ⟨rfl, landRamps_txeq_congr set (y := leaveData y) h.1 h.2⟩

section
variable {s : State} {p : PathId} (hf : s.paths[p].formed = false)
include hf

theorem followState_landed_link : LinkOnly p s (modGroupSides (followState s p 5) p (landed (runSet s.paths[p]))) := by
  obtain ⟨hlink, -⟩ := followState_link hf 5
  exact hlink.trans (modGroupSides_link (hlink.unformed hf) _)

theorem atNewRate_link (rate : Fin 6) : LinkOnly p s (atNewRate s p rate) := by
  have hlink := followState_landed_link hf
  exact hlink.trans (setRate_link (hlink.unformed hf) rate)

theorem atNewRate_path (rate : Fin 6) : (atNewRate s p rate).paths[p] = atRate rate (followedPath 5 s.paths[p]) := by
  obtain ⟨-, hpath⟩ := followState_link hf 5
  rw [atNewRate, setRate_path ((followState_landed_link hf).unformed hf), modGroupSides_paths, hpath]

/-- At a new rate the transmitters in use are idle, their ramps written whole (R108, R196). -/
theorem atNewRate_side (rate : Fin 6) {j : SideId} (hj : pathOf j = p) (hon : laneOn s (laneOf j) = true) :
    (atNewRate s p rate).sides[j].txIdle = true ∧
      (atNewRate s p rate).sides[j].txeq = (landRamps (runSet s.paths[p]) s.sides[j]).txeq := by
  obtain ⟨hlink, -⟩ := followState_link hf 5
  have hunformed := (followState_landed_link hf).unformed hf
  have hside : (modGroupSides (followState s p 5) p (landed (runSet s.paths[p]))).sides[j] =
      landed (runSet s.paths[p]) (followState s p 5).sides[j] := by
    rw [modGroupSides_side (hlink.unformed hf), if_pos ⟨hj, (hlink.laneOn _).trans hon⟩]
  rw [atNewRate, setRate_side_field Side.txIdle (fun _ _ => rfl) hunformed, setRate_side_field Side.txeq (fun _ _ => rfl) hunformed, hside]
  exact landed_reads _ (followState_tx (by decide) s p j)

theorem lanesIdled_link : LinkOnly p s (lanesIdled s p) := LinkOnly.groupLanes hf fun t _ hl => LinkOnly.modLane hl t _

theorem lanesIdled_lane {l : LaneId} (hl : pathOfLane l = p) (hon : laneOn s l = true) :
    (lanesIdled s p).lanes[l] = laneIdled s.lanes[l] := by
  rw [lanesIdled, foldl_each (g := fun (t : State) (l : LaneId) => t.lanes[l]) (u := laneIdled) (fun t k b => ?_) (groupLanes_nodup hf),
    if_pos ((mem_groupLanes hf).mpr ⟨hl, hon⟩)]
  by_cases hb : b = k
  · subst hb
    rw [if_pos rfl, modLane_lane]
  · rw [if_neg hb, modLane_lane_other hb]
end

theorem lanesIdled_keeps {β : Type} (g : State → β) (hlane : ∀ (t : State) l f, g (t.modLane l f) = g t) (s : State) (p : PathId) :
    g (lanesIdled s p) = g s := foldl_keeps g (fun s l => s.modLane l laneIdled) _ (fun t l => hlane t l _) s

/-! ### Coefficients of a rate -/

theorem loadPreset_link (p : PathId) (s : State) (x : SideId × Byte) (hf : s.paths[p].formed = false) :
    LinkOnly p s (loadPreset p s x) := by
  unfold loadPreset
  split
  · next h =>
    simp only [groupOf_unformed hf, List.contains_cons, List.contains_nil, Bool.or_false, Bool.and_eq_true, beq_iff_eq] at h
    exact LinkOnly.modSide h.1 s _
  · exact LinkOnly.refl p s

/-- A reading that no setting taken by a transmitter touches. -/
theorem loadPreset_keeps {β : Type} (g : State → β) (htx : ∀ (t : State) i set c, g (takeTx t i set c) = g t) (p : PathId) (s : State)
    (x : SideId × Byte) : g (loadPreset p s x) = g s := by
  unfold loadPreset
  split
  · exact htx _ _ _ _
  · rfl

theorem rateCoefficients_keeps {β : Type} (g : State → β) (htx : ∀ (t : State) i set c, g (takeTx t i set c) = g t) (p : PathId)
    (rate : Fin 5) (presets : List (SideId × Byte)) (six : Bool) (s : State) : g (rateCoefficients p rate presets six s) = g s := by
  unfold rateCoefficients
  split
  · exact foldl_keeps g (fun s l => takeBoth s l (deemphasis (rate.val + 1) six)) _ (fun t l => (htx _ _ _ _).trans (htx t _ _ _)) s
  · exact foldl_keeps g _ _ (loadPreset_keeps g htx p) s

theorem rateCoefficients_link {p : PathId} (rate : Fin 5) (presets : List (SideId × Byte)) (six : Bool) {s : State}
    (hf : s.paths[p].formed = false) : LinkOnly p s (rateCoefficients p rate presets six s) := by
  unfold rateCoefficients
  split
  · exact LinkOnly.groupLanes hf fun t l hl => takeBoth_link hl t _
  · exact List.foldlRecOn presets (loadPreset p) (LinkOnly.refl p s) fun t ht x _ => ht.trans (loadPreset_link p t x (ht.unformed hf))

/-- A setting taken by one transmitter leaves every transmitter idle or not as it was. -/
theorem takeTx_txIdle (s : State) (i : SideId) (set : Fin 4) (c : Nat × Nat × Nat) (j : SideId) :
    (takeTx s i set c).sides[j].txIdle = s.sides[j].txIdle := modSide_side_field (f := txTaken set c) Side.txIdle (fun _ => rfl) j

/-- The one preset announced at 8.0 GT/s and above is loaded for the set of its rate (R108, R114). -/
theorem rateCoefficients_preset {p : PathId} {rate : Fin 5} {i : SideId} {k : Byte} {set : Fin 4} (six : Bool) {s : State}
    (hf : s.paths[p].formed = false) (hi : pathOf i = p) (hon : laneOn s (laneOf i) = true) (hrate : 2 ≤ rate.val)
    (hset : runSet s.paths[p] = set) : (rateCoefficients p rate [(i, k)] six s).sides[i].txeq[set] =
      txWith s.sides[i].txeq[set] 0 (presetOf k.toNat).1 (presetOf k.toNat).2.1 (presetOf k.toNat).2.2 := by
  subst hi
  have hin : ((groupOf s (pathOf i)).contains (pathOf i) && laneOn s (laneOf i)) = true := by
    rw [groupOf_unformed hf, hon]
    simp
  rw [rateCoefficients, if_neg (by omega), List.foldl_cons, List.foldl_nil, loadPreset, if_pos hin, takeTx_eq, modSide_side, hset,
    txTaken_txeq]

/-! ### A path falls quiet -/

/-- A path whose receivers all see electrical idle (R98). -/
def quieted (x : Path) : Path := if x.st = .active then stateTaken .idle x else x

/-- What a state of R98 taken leaves of a path. -/
theorem stateTaken_keeps (st : PathState) (x : Path) : (stateTaken st x).cfg = x.cfg ∧ (stateTaken st x).formed = x.formed ∧
    (stateTaken st x).ltssm = x.ltssm ∧ (stateTaken st x).rateNow = x.rateNow := by
  unfold stateTaken
  split
  · exact ⟨rfl, rfl, rfl, rfl⟩
  · exact ⟨rfl, rfl, rfl, rfl⟩

theorem quieted_keeps (x : Path) : ((quieted x).cfg = x.cfg ∧ (quieted x).formed = x.formed) ∧ (quieted x).ltssm = x.ltssm ∧
    (quieted x).rateNow = x.rateNow ∧ (x.st = .active → (quieted x).st = .idle) := by
  unfold quieted
  split
  · next h =>
    obtain ⟨hcfg, hformed, hltssm, hrate⟩ := stateTaken_keeps .idle x
    exact ⟨⟨hcfg, hformed⟩, hltssm, hrate, fun _ => stateTaken_st (by rw [h]; decide)⟩
  · next h => exact ⟨⟨rfl, rfl⟩, rfl, rfl, fun ha => absurd ha h⟩

theorem idleIfQuiet_quieted {s : State} {p : PathId} (hf : s.paths[p].formed = false)
    (hq : ∀ l : LaneId, pathOfLane l = p → laneOn s l = true → s.lanes[l].ei = Vector.replicate 2 true) :
    idleIfQuiet s p = s.modPath p quieted := by
  have hquiet : quietGroup s p = true := by
    simp only [quietGroup, groupOf_unformed hf, List.all_cons, List.all_nil, Bool.and_true, List.all_eq_true, Bool.or_eq_true,
      Bool.not_eq_true']
    intro l hl
    cases hon : laneOn s l with
    | false => exact Or.inl rfl
    | true =>
      rw [hq l (mem_lanesOf.mp hl) hon]
      exact Or.inr rfl
  unfold idleIfQuiet
  by_cases hst : s.paths[p].st = .active
  · rw [if_pos ⟨hst, hquiet⟩, setGroupState, groupOf_unformed hf, List.foldl_cons, List.foldl_nil, setPathState_taken (by decide)]
    rw [State.modPath, State.modPath, vmod, vmod, quieted, if_pos hst]
  · rw [if_neg fun h => hst h.1, modPath_fixed (f := quieted) (if_neg hst)]

/-! ### The rate change as a whole -/

/-- RATE_NOW of a rate from 2.5 GT/s on. -/
def rateCode (rate : Fin 5) : Fin 6 := ⟨rate.val + 1, by omega⟩

/-- `s` with a path taken to a rate, before its state of R98 follows. -/
def rateLoaded (s : State) (p : PathId) (rate : Fin 5) (presets : List (SideId × Byte)) : State :=
  rateCoefficients p rate presets s.paths[p].deemph6 (lanesIdled (atNewRate s p (rateCode rate)) p)

section
variable {s : State} {p : PathId} (hf : s.paths[p].formed = false) (rate : Fin 5) (presets : List (SideId × Byte))
include hf

theorem rateLanes_link : LinkOnly p s (lanesIdled (atNewRate s p (rateCode rate)) p) := by
  have hlink := atNewRate_link hf (rateCode rate)
  exact hlink.trans (lanesIdled_link (hlink.unformed hf))

theorem rateLanes_path :
    (lanesIdled (atNewRate s p (rateCode rate)) p).paths[p] = atRate (rateCode rate) (followedPath 5 s.paths[p]) := by
  rw [lanesIdled_keeps State.paths fun _ _ _ => rfl, atNewRate_path hf]

theorem rateLoaded_link : LinkOnly p s (rateLoaded s p rate presets) := by
  have hlink := rateLanes_link hf rate
  exact hlink.trans (rateCoefficients_link rate presets _ (hlink.unformed hf))

theorem rateLoaded_path : (rateLoaded s p rate presets).paths[p] = atRate (rateCode rate) (followedPath 5 s.paths[p]) := by
  rw [rateLoaded, rateCoefficients_keeps State.paths fun _ _ _ _ => rfl, rateLanes_path hf]

/-- Both directions of a lane in use are in electrical idle (R108). -/
theorem rateLoaded_lane {l : LaneId} (hl : pathOfLane l = p) (hon : laneOn s l = true) :
    (rateLoaded s p rate presets).lanes[l].ei = Vector.replicate 2 true ∧
      (rateLoaded s p rate presets).lanes[l].lock = Vector.replicate 2 false := by
  have hlink := atNewRate_link hf (rateCode rate)
  rw [rateLoaded, rateCoefficients_keeps State.lanes fun _ _ _ _ => rfl, lanesIdled_lane (hlink.unformed hf) hl ((hlink.laneOn l).trans hon)]
  exact ⟨rfl, rfl⟩

theorem rateLoaded_txIdle {j : SideId} (hj : pathOf j = p) (hon : laneOn s (laneOf j) = true) :
    (rateLoaded s p rate presets).sides[j].txIdle = true := by
  obtain ⟨hidle, -⟩ := atNewRate_side hf (rateCode rate) hj hon
  rw [rateLoaded, rateCoefficients_keeps (fun t : State => t.sides[j].txIdle) fun t i set c => takeTx_txIdle t i set c j,
    lanesIdled_keeps State.sides fun _ _ _ => rfl, hidle]

theorem rateLoaded_preset {i : SideId} {k : Byte} {set : Fin 4} (hi : pathOf i = p) (hon : laneOn s (laneOf i) = true)
    (hrate : 2 ≤ rate.val) (hset : runSet (atRate (rateCode rate) (followedPath 5 s.paths[p])) = set) :
    (rateLoaded s p rate [(i, k)]).sides[i].txeq[set] = txWith (landRamps (runSet s.paths[p]) s.sides[i]).txeq[set] 0
      (presetOf k.toNat).1 (presetOf k.toNat).2.1 (presetOf k.toNat).2.2 := by
  have hlink := rateLanes_link hf rate
  obtain ⟨-, htx⟩ := atNewRate_side hf (rateCode rate) hi hon
  rw [rateLoaded, rateCoefficients_preset _ (hlink.unformed hf) hi ((hlink.laneOn _).trans hon) hrate
    ((congrArg runSet (rateLanes_path hf rate)).trans hset), lanesIdled_keeps State.sides fun _ _ _ => rfl, htx]

/-- Its receivers all idle, an ACTIVE path enters IDLE (R98). -/
theorem rateLoaded_quieted : idleIfQuiet (rateLoaded s p rate presets) p = (rateLoaded s p rate presets).modPath p quieted := by
  have hlink := rateLoaded_link hf rate presets
  refine idleIfQuiet_quieted (hlink.unformed hf) fun l hl hon => ?_
  obtain ⟨hei, -⟩ := rateLoaded_lane hf rate presets hl ((hlink.laneOn l).symm.trans hon)
  exact hei
end

theorem not_forming {x : Path} (h : pcBond x.cfg = 0) : forming x = false := by
  rw [forming, h]
  rfl

section
variable {s : State} {p : PathId} (hlive : pcieLive s p = true) (hf : s.paths[p].formed = false) (hbond : pcBond s.paths[p].cfg = 0)
include hlive hf hbond

theorem exec_rateChange {rate : Fin 5} (presets : List (SideId × Byte)) (hrate : rateKb (rate.val + 1) ≤ pcRate s.paths[p].cfg) :
    exec (.rateChange p rate presets) s = done s (raise ((rateLoaded s p rate presets).modPath p quieted) 0x0203
      ([by1 p.val] ++ be 4 (rateKb (rate.val + 1)))) := by
  have hno : ¬(pcieLive s p = false ∨ forming s.paths[p] = true ∨ pcRate s.paths[p].cfg < rateKb (rate.val + 1)) := by
    rw [hlive, not_forming hbond]
    rintro (h | h | h)
    · cases h
    · cases h
    · omega
  have hx : exec (.rateChange p rate presets) s = done s (raise (idleIfQuiet (rateLoaded s p rate presets) p) 0x0203
      ([by1 (leaderOf (rateLoaded s p rate presets) p).val] ++ be 4 (rateKb (rate.val + 1)))) := congrArg (done s) (if_neg hno)
  rw [hx, rateLoaded_quieted hf, leaderOf_unformed ((rateLoaded_link hf rate presets).unformed hf)]

/-- A rate change takes both directions through electrical idle and loads an announced preset (R108, R113, R114). -/
theorem rateChange_reports {rate : Fin 5} (presets : List (SideId × Byte)) (hrate : rateKb (rate.val + 1) ≤ pcRate s.paths[p].cfg) :
    Reports (.rateChange p rate presets) s 0x0203 ([BitVec.ofNat 8 p.val] ++ be 4 (rateKb (rate.val + 1))) [.lanes, .sides, .paths] fun t =>
      t.paths[p].rateNow.val = rate.val + 1 ∧ t.paths[p].ltssm = 5 ∧ (s.paths[p].st = .active → t.paths[p].st = .idle) ∧
      (∀ l : LaneId, pathOfLane l = p → laneOn s l = true → t.lanes[l].ei = Vector.replicate 2 true ∧
        t.lanes[l].lock = Vector.replicate 2 false ∧ t.sides[sideOf l 0].txIdle = true ∧ t.sides[sideOf l 1].txIdle = true) ∧
      (∀ (i : SideId) (k : Byte), presets = [(i, k)] → pathOf i = p → laneOn s (laneOf i) = true → 2 ≤ rate.val →
        t.sides[i].txeq[runSet t.paths[p]] = txWith (landRamps (runSet s.paths[p]) s.sides[i]).txeq[runSet t.paths[p]] 0
          (presetOf k.toNat).1 (presetOf k.toNat).2.1 (presetOf k.toNat).2.2) ∧
      (∀ q : PathId, q ≠ p → { t.paths[q] with idleNs := s.paths[q].idleNs } = s.paths[q]) ∧
      (∀ k : LaneId, pathOfLane k ≠ p → t.lanes[k] = s.lanes[k]) ∧ ∀ j : SideId, pathOf j ≠ p → t.sides[j] = s.sides[j] := by
  have hx := exec_rateChange hlive hf hbond presets hrate
  have hpreset {i : SideId} {k : Byte} {set : Fin 4} (hp : presets = [(i, k)]) (hi : pathOf i = p) (hon : laneOn s (laneOf i) = true)
      (h2 : 2 ≤ rate.val) (hset : runSet (atRate (rateCode rate) (followedPath 5 s.paths[p])) = set) :
      (rateLoaded s p rate presets).sides[i].txeq[set] = txWith (landRamps (runSet s.paths[p]) s.sides[i]).txeq[set] 0
        (presetOf k.toNat).1 (presetOf k.toNat).2.1 (presetOf k.toNat).2.2 := by
    rw [hp]
    exact rateLoaded_preset hf rate hi hon h2 hset
  have hlink := rateLoaded_link hf rate presets
  have hpath := rateLoaded_path hf rate presets
  have hlane {l : LaneId} := rateLoaded_lane hf rate presets (l := l)
  have hidle {j : SideId} := rateLoaded_txIdle hf rate presets (j := j)
  generalize rateLoaded s p rate presets = v at hx hpreset hlink hpath hlane hidle
  have hall : LinkOnly p s (v.modPath p quieted) :=
    hlink.trans ((LinkOnly.modPath fun x => (quieted_keeps x).1))
  obtain ⟨hltssm, -, hst, -⟩ := followedPath_keeps 5 s.paths[p]
  obtain ⟨⟨hcfg, -⟩, kltssm, krate, kst⟩ := quieted_keeps (atRate (rateCode rate) (followedPath 5 s.paths[p]))
  obtain ⟨d, hd⟩ : ∃ d : List Byte, d = [by1 p.val] ++ be 4 (rateKb (rate.val + 1)) := ⟨_, rfl⟩
  rw [← hd] at hx
  have hfield {γ : Type} (g : Path → γ) (hg : ∀ x n, g { x with idleNs := n } = g x) :
      g (settle s (raise (v.modPath p quieted) 0x0203 d)).paths[p] = g (quieted (atRate (rateCode rate) (followedPath 5 s.paths[p]))) := by
    rw [settle_path_field g hg, raise_paths, modPath_path, hpath]
  refine hd ▸ reports_link hall hx ⟨?_, ?_, fun ha => ?_, fun l hl hon => ?_, fun i k hp hi hon h2 => ?_, fun q hq => ?_, fun k hk => ?_,
    fun j hj => ?_⟩
  · exact congrArg Fin.val ((hfield Path.rateNow fun _ _ => rfl).trans krate)
  · exact ((hfield Path.ltssm fun _ _ => rfl).trans kltssm).trans hltssm
  · exact (hfield Path.st fun _ _ => rfl).trans (kst (hst.trans ha))
  · obtain ⟨hei, hlock⟩ := hlane hl hon
    have htx (e : Fin 2) : v.sides[sideOf l e].txIdle = true :=
      hidle ((pathOf_sideOf l e).trans hl) ((congrArg (laneOn s) (laneOf_sideOf l e)).trans hon)
    rw [settle_lanes, settle_sides, raise_lanes, raise_sides]
    exact ⟨hei, hlock, htx 0, htx 1⟩
  · have hset := hfield runSet fun _ _ => rfl
    rw [runSet_congr hcfg krate] at hset
    rw [settle_sides, raise_sides]
    exact hpreset hp hi hon h2 hset.symm
  · exact (hall.toPathOnly.trans (PathOnly.raise p _ _ _)).settle_other s hq
  · rw [settle_lanes, raise_lanes]
    exact hall.lanes k hk
  · rw [settle_sides, raise_sides]
    exact hall.sides j hj

omit hlive hf hbond in
theorem rateChange_beyond {rate : Fin 5} (presets : List (SideId × Byte)) (hrate : pcRate s.paths[p].cfg < rateKb (rate.val + 1)) :
    Does (.rateChange p rate presets) s [] fun _ => True :=
  does_nothing (congrArg (done s) (if_pos (Or.inr (Or.inr hrate))))

end

/-! ### Compliance -/

/-- The coefficients of compliance: de-emphasis, or a preset (R130). -/
def complianceTx (rate : Fin 5) (preset : Byte) : Nat × Nat × Nat :=
  if rate.val < 2 then deemphasis (rate.val + 1) (preset == 0) else presetOf preset.toNat

/-- `s` with a path in Compliance at a rate, before its transmitters are set. -/
def inCompliance (s : State) (p : PathId) (rate : Fin 5) : State := setRate (followState s p 11) p (rateCode rate)

/-- `s` with a path in Compliance, before its event. -/
def compliant (s : State) (p : PathId) (rate : Fin 5) (preset : Byte) : State :=
  (groupLanes (inCompliance s p rate) p).foldl (fun s l => takeBoth s l (complianceTx rate preset)) (inCompliance s p rate)

section
variable {s : State} {p : PathId} (hf : s.paths[p].formed = false) (rate : Fin 5) (preset : Byte)
include hf

theorem inCompliance_link : LinkOnly p s (inCompliance s p rate) := by
  obtain ⟨hlink, -⟩ := followState_link hf 11
  exact hlink.trans (setRate_link (hlink.unformed hf) _)

theorem compliant_link : LinkOnly p s (compliant s p rate preset) := by
  have hlink := inCompliance_link hf rate
  exact hlink.trans (LinkOnly.groupLanes (hlink.unformed hf) fun t l hl => takeBoth_link hl t _)

theorem inCompliance_path : (inCompliance s p rate).paths[p] = atRate (rateCode rate) (followedPath 11 s.paths[p]) := by
  obtain ⟨hlink, hpath⟩ := followState_link hf 11
  rw [inCompliance, setRate_path (hlink.unformed hf), hpath]

theorem compliant_path : (compliant s p rate preset).paths[p] = atRate (rateCode rate) (followedPath 11 s.paths[p]) := by
  rw [compliant, takeBoth_lanes_paths, inCompliance_path hf]

/-- In Compliance every transmitter in use takes the coefficients announced (R130). -/
theorem compliant_txeq {i : SideId} {set : Fin 4} (hi : pathOf i = p) (hon : laneOn s (laneOf i) = true)
    (hset : runSet (atRate (rateCode rate) (followedPath 11 s.paths[p])) = set) : (compliant s p rate preset).sides[i].txeq[set] =
      txWith s.sides[i].txeq[set] 0 (complianceTx rate preset).1 (complianceTx rate preset).2.1 (complianceTx rate preset).2.2 := by
  have hlink := inCompliance_link hf rate
  obtain ⟨hfollow, -⟩ := followState_link hf 11
  obtain ⟨htx, -⟩ := followState_tx (st := 11) (by decide) s p i
  have hbefore : (inCompliance s p rate).sides[i].txeq = s.sides[i].txeq := by
    rw [inCompliance, setRate_side_field Side.txeq (fun _ _ => rfl) (hfollow.unformed hf), htx]
  have hrun : runSet (inCompliance s p rate).paths[pathOf i] = set := by
    simp only [hi, inCompliance_path hf, hset]
  rw [compliant, takeBoth_lanes_side (hlink.unformed hf), if_pos ⟨hi, (hlink.laneOn _).trans hon⟩, hrun, txTaken_txeq, hbefore]
end

section
variable {s : State} {p : PathId} (hlive : pcieLive s p = true) (hf : s.paths[p].formed = false) (hbond : pcBond s.paths[p].cfg = 0)
include hlive hf hbond

theorem exec_complianceEntry (rate : Fin 5) (preset : Byte) : exec (.complianceEntry p rate preset) s =
    done s (raise (compliant s p rate preset) 0x020A ([by1 p.val] ++ be 4 (rateKb (rate.val + 1)))) := by
  have hno : ¬(pcieLive s p = false ∨ forming s.paths[p] = true) := by
    rw [hlive, not_forming hbond]
    decide
  have hx : exec (.complianceEntry p rate preset) s = done s (raise (compliant s p rate preset) 0x020A
      ([by1 (leaderOf (compliant s p rate preset) p).val] ++ be 4 (rateKb (rate.val + 1)))) := congrArg (done s) (if_neg hno)
  rw [hx, leaderOf_unformed ((compliant_link hf rate preset).unformed hf)]

/-- Compliance takes its rate and its preset (R130). -/
theorem complianceEntry_reports (rate : Fin 5) (preset : Byte) : Reports (.complianceEntry p rate preset) s 0x020A
    ([BitVec.ofNat 8 p.val] ++ be 4 (rateKb (rate.val + 1))) [.lanes, .sides, .paths] fun t =>
      t.paths[p].ltssm = 11 ∧ t.paths[p].rateNow.val = rate.val + 1 ∧
      (∀ i : SideId, pathOf i = p → laneOn s (laneOf i) = true → 2 ≤ rate.val → t.sides[i].txeq[runSet t.paths[p]] =
        txWith s.sides[i].txeq[runSet t.paths[p]] 0 (presetOf preset.toNat).1 (presetOf preset.toNat).2.1 (presetOf preset.toNat).2.2) ∧
      (∀ q : PathId, q ≠ p → { t.paths[q] with idleNs := s.paths[q].idleNs } = s.paths[q]) ∧
      (∀ k : LaneId, pathOfLane k ≠ p → t.lanes[k] = s.lanes[k]) ∧ ∀ j : SideId, pathOf j ≠ p → t.sides[j] = s.sides[j] := by
  have hx := exec_complianceEntry hlive hf hbond rate preset
  have hlink := compliant_link hf rate preset
  have hpath := compliant_path hf rate preset
  have htx {i : SideId} {set : Fin 4} := compliant_txeq hf rate preset (i := i) (set := set)
  generalize compliant s p rate preset = v at hx hlink hpath htx
  obtain ⟨hltssm, -⟩ := followedPath_keeps 11 s.paths[p]
  obtain ⟨d, hd⟩ : ∃ d : List Byte, d = [by1 p.val] ++ be 4 (rateKb (rate.val + 1)) := ⟨_, rfl⟩
  rw [← hd] at hx
  have hfield {γ : Type} (g : Path → γ) (hg : ∀ x n, g { x with idleNs := n } = g x) :
      g (settle s (raise v 0x020A d)).paths[p] = g (atRate (rateCode rate) (followedPath 11 s.paths[p])) := by
    rw [settle_path_field g hg, raise_paths, hpath]
  refine hd ▸ reports_link hlink hx ⟨?_, ?_, fun i hi hon h2 => ?_, fun q hq => ?_, fun k hk => ?_, fun j hj => ?_⟩
  · exact (hfield Path.ltssm fun _ _ => rfl).trans hltssm
  · exact congrArg Fin.val (hfield Path.rateNow fun _ _ => rfl)
  · have hpreset : complianceTx rate preset = presetOf preset.toNat := if_neg (by omega)
    rw [settle_sides, raise_sides, ← hpreset]
    exact htx hi hon (hfield runSet fun _ _ => rfl).symm
  · exact (hlink.toPathOnly.trans (PathOnly.raise p _ _ _)).settle_other s hq
  · rw [settle_lanes, raise_lanes]
    exact hlink.lanes k hk
  · rw [settle_sides, raise_sides]
    exact hlink.sides j hj
end

end Sys2Proof.Machine
end

section
/-! Training sets (R95, R96, R106, R107, R116). -/

namespace Sys2Proof.Machine

/-! ### Position -/

/-- The position that a TS2 teaches (R116). -/
def taughtPosition (ts : TrainingSet) : Fin 4 := if ts.present1 = false then 1 else if ts.present2 = false then 2 else 3

/-- A path that has learned its position. -/
def positioned (ts : TrainingSet) (x : Path) : Path := { x with position := taughtPosition ts, posDue := false }

/-- A training set of a receiver teaches a path its position. -/
def teaches (i : SideId) (ts : TrainingSet) (x : Path) : Bool := x.posDue && ts.isTs2 && ts.rate25 && endOf i == 0

/-- `s` with its position learned from a training set, where the set teaches one. -/
def positionLearned (s : State) (i : SideId) (ts : TrainingSet) : State :=
  if teaches i ts s.paths[pathOf i] then learnPosition s (pathOf i) ts else s

theorem learnPosition_unformed {s : State} {p : PathId} (hf : s.paths[p].formed = false) (ts : TrainingSet) : learnPosition s p ts =
    if taughtPosition ts = 3 then
      raise (s.modPath p (positioned ts)) 0x0206 [by1 (leaderOf (s.modPath p (positioned ts)) p).val]
    else s.modPath p (positioned ts) := by
  rw [← modGroup_unformed hf (positioned ts)]
  rfl

theorem learnPosition_only {s : State} {p : PathId} (hf : s.paths[p].formed = false) (ts : TrainingSet) :
    PathOnly p s (learnPosition s p ts) ∧ (learnPosition s p ts).paths = (s.modPath p (positioned ts)).paths := by
  have honly : PathOnly p s (s.modPath p (positioned ts)) := PathOnly.modPath fun _ => rfl
  rw [learnPosition_unformed hf]
  split
  · exact ⟨honly.trans (PathOnly.raise p _ _ _), raise_paths _ _ _⟩
  · exact ⟨honly, rfl⟩

/-- What a training set that may teach its position leaves of a path. -/
def placed (i : SideId) (ts : TrainingSet) (x : Path) : Path := if teaches i ts x then positioned ts x else x

theorem positionLearned_only {s : State} {i : SideId} (hf : s.paths[pathOf i].formed = false) (ts : TrainingSet) :
    PathOnly (pathOf i) s (positionLearned s i ts) ∧
      (positionLearned s i ts).paths[pathOf i] = placed i ts s.paths[pathOf i] := by
  by_cases h : teaches i ts s.paths[pathOf i] = true
  · obtain ⟨honly, hpaths⟩ := learnPosition_only hf ts
    rw [positionLearned, placed, if_pos h, if_pos h, hpaths, modPath_path]
    exact ⟨honly, rfl⟩
  · rw [positionLearned, placed, if_neg h, if_neg h]
    exact ⟨PathOnly.refl _ s, rfl⟩

/-! ### Lock, polarity, number and width -/

/-- A lane whose receiver at an end has lock (R95). -/
def lockedAt (e : Fin 2) (x : Lane) : Lane := { x with lock := vmod x.lock e fun _ => true }

/-- `s` with a receiver's polarity learned from a training set of Polling (R107). -/
def polarityLearned (s : State) (i : SideId) (ts : TrainingSet) : State :=
  if ts.state = 1 ∧ s.sides[i].rxPol ≠ ts.inverted then raise (s.modSide i fun y => { y with rxPol := ts.inverted }) 0x0106 [by1 i.val]
  else s

/-- `s` with a lane's number learned from a training set of Configuration (R96). -/
def numberLearned (s : State) (i : SideId) (ts : TrainingSet) : State :=
  if ts.state = 2 then learnNumber s (laneOf i) ts.laneNumber else s

/-- A path of a trained width. -/
def ofWidth (w : Fin 6) (x : Path) : Path := { x with widthNow := w }

/-- What a training set that may give its width leaves of a path. -/
def widened (ts : TrainingSet) (x : Path) : Path := if ts.state = 2 ∧ ts.width ≠ 0 then ofWidth ts.width x else x

/-- `s` with the trained width learned from a training set of Configuration (R96). -/
def widthLearned (s : State) (i : SideId) (ts : TrainingSet) : State :=
  if ts.state = 2 ∧ ts.width ≠ 0 then modGroup s (pathOf i) (ofWidth ts.width) else s

theorem learnLane_eq (s : State) (i : SideId) (ts : TrainingSet) : learnLane s i ts =
    widthLearned (numberLearned (polarityLearned (s.modLane (laneOf i) (lockedAt (endOf i))) i ts) i ts) i ts := rfl

theorem polarityLearned_only (s : State) (i : SideId) (ts : TrainingSet) : PathOnly (pathOf i) s (polarityLearned s i ts) ∧
    (polarityLearned s i ts).paths = s.paths ∧ (polarityLearned s i ts).lanes = s.lanes := by
  unfold polarityLearned
  split
  · exact ⟨(PathOnly.modSide rfl s _).trans (PathOnly.raise _ _ _ _), by rw [raise_paths]; rfl, by rw [raise_lanes]; rfl⟩
  · exact ⟨PathOnly.refl _ s, rfl, rfl⟩

theorem polarityLearned_rxPol (s : State) (i : SideId) {ts : TrainingSet} (h1 : ts.state = 1) :
    (polarityLearned s i ts).sides[i].rxPol = ts.inverted := by
  unfold polarityLearned
  by_cases hpol : s.sides[i].rxPol = ts.inverted
  · rw [if_neg fun h => h.2 hpol, hpol]
  · rw [if_pos ⟨h1, hpol⟩, raise_sides, modSide_side]

/-- A reading of a lane that a change of a lane leaves is the same in every lane. -/
theorem modLane_lane_field {β : Type} (g : Lane → β) {s : State} {l : LaneId} {f : Lane → Lane} (h : ∀ x, g (f x) = g x) (k : LaneId) :
    g (s.modLane l f).lanes[k] = g s.lanes[k] := by
  by_cases hk : k = l
  · subst hk
    rw [modLane_lane, h]
  · rw [modLane_lane_other hk]

theorem forward_lanes (s : State) (i : SideId) : (forward s i).lanes = s.lanes := by
  unfold forward
  split <;> rfl

theorem unparkLane_lock (s : State) (l k : LaneId) : (unparkLane s l).lanes[k].lock = s.lanes[k].lock := by
  rw [unparkLane, forward_lanes, forward_lanes]
  exact modLane_lane_field Lane.lock (by exact fun _ => rfl) k

theorem numberLearned_only (s : State) (i : SideId) (ts : TrainingSet) : PathOnly (pathOf i) s (numberLearned s i ts) ∧
    (numberLearned s i ts).paths = s.paths ∧ ∀ k : LaneId, (numberLearned s i ts).lanes[k].lock = s.lanes[k].lock := by
  have hl : pathOfLane (laneOf i) = pathOf i := pathOfLane_laneOf i
  unfold numberLearned learnNumber
  split
  · split
    · exact ⟨(PathOnly.modLane hl s _).trans (unparkLane_link hl _).toPathOnly, unparkLane_paths _ _, fun k =>
        (unparkLane_lock _ _ k).trans (modLane_lane_field Lane.lock (by exact fun _ => rfl) k)⟩
    · exact ⟨PathOnly.modLane hl s _, rfl, modLane_lane_field Lane.lock (by exact fun _ => rfl)⟩
  · exact ⟨PathOnly.refl _ s, rfl, fun _ => rfl⟩

theorem widthLearned_only {s : State} {i : SideId} (hf : s.paths[pathOf i].formed = false) (ts : TrainingSet) :
    PathOnly (pathOf i) s (widthLearned s i ts) ∧ (widthLearned s i ts).lanes = s.lanes ∧ (widthLearned s i ts).paths[pathOf i] = widened ts s.paths[pathOf i] := by
  unfold widthLearned widened
  split
  · rw [modGroup_unformed hf]
    exact ⟨PathOnly.modPath fun _ => rfl, rfl, modPath_path _ _ _⟩
  · exact ⟨PathOnly.refl _ s, rfl, rfl⟩

theorem learnLane_only {s : State} {i : SideId} (hf : s.paths[pathOf i].formed = false) (ts : TrainingSet) :
    PathOnly (pathOf i) s (learnLane s i ts) ∧ (learnLane s i ts).lanes[laneOf i].lock[endOf i] = true ∧
      (learnLane s i ts).paths[pathOf i] = widened ts s.paths[pathOf i] := by
  rw [learnLane_eq]
  have hlock : PathOnly (pathOf i) s (s.modLane (laneOf i) (lockedAt (endOf i))) := PathOnly.modLane (pathOfLane_laneOf i) s _
  have hlocked : (s.modLane (laneOf i) (lockedAt (endOf i))).lanes[laneOf i].lock[endOf i] = true := by
    rw [modLane_lane]
    exact vmod_same _ _ _
  have hpaths : (s.modLane (laneOf i) (lockedAt (endOf i))).paths = s.paths := rfl
  generalize s.modLane (laneOf i) (lockedAt (endOf i)) = a at hlock hlocked hpaths ⊢
  obtain ⟨hpol, ppaths, planes⟩ := polarityLearned_only a i ts
  generalize polarityLearned a i ts = b at hpol ppaths planes ⊢
  obtain ⟨hnum, npaths, nlock⟩ := numberLearned_only b i ts
  generalize numberLearned b i ts = c at hnum npaths nlock ⊢
  have hcs : c.paths = s.paths := npaths.trans (ppaths.trans hpaths)
  obtain ⟨hwidth, wlanes, wpath⟩ := widthLearned_only (s := c) (i := i) (by rw [hcs, hf]) ts
  rw [hcs] at wpath
  refine ⟨hlock.trans (hpol.trans (hnum.trans hwidth)), ?_, wpath⟩
  rw [wlanes, nlock, planes]
  exact hlocked

/-- A training set of Polling teaches a receiver its polarity (R107). -/
theorem learnLane_rxPol (s : State) (i : SideId) {ts : TrainingSet} (h1 : ts.state = 1) :
    (learnLane s i ts).sides[i].rxPol = ts.inverted := by
  have h2 : ts.state ≠ 2 := by
    rw [h1]
    decide
  rw [learnLane_eq, widthLearned, if_neg fun h => h2 h.1, numberLearned, if_neg h2, polarityLearned_rxPol _ i h1]

/-! ### A training set as a whole -/

/-- A path with the de-emphasis that a training set asks for (R113). -/
def deemphasized (six : Bool) (x : Path) : Path := { x with deemph6 := six }

/-- `s` with a training set followed, before it is forwarded. -/
def setFollowed (s : State) (i : SideId) (ts : TrainingSet) : State :=
  learnLane (positionLearned (followState (modGroup s (pathOf i) (deemphasized ts.deemph6)) (pathOf i) ts.state) i ts) i ts

/-- A training set as it leaves on the side opposite a receiver (R106). -/
def setForwarded (s : State) (i : SideId) (ts : TrainingSet) : TrainingSet :=
  { forwardedSet s.paths[pathOf i] (endOf i == 0) ts with eq := eqFields s (opposite i) ts }

/-- A lane with a training set on its way out. -/
def sendsSet (e : Fin 2) (out : TrainingSet) (x : Lane) : Lane := { x with tsOut := vmod x.tsOut e fun _ => some out }

/-- A path that has followed a training set into its state, its position and its width learned. -/
def trainedPath (i : SideId) (ts : TrainingSet) (x : Path) : Path :=
  widened ts (placed i ts (followedPath ts.state (deemphasized ts.deemph6 x)))

theorem placed_keeps (i : SideId) (ts : TrainingSet) (x : Path) : (placed i ts x).ltssm = x.ltssm ∧ (placed i ts x).formed = x.formed := by
  unfold placed
  split
  · exact ⟨rfl, rfl⟩
  · exact ⟨rfl, rfl⟩

theorem widened_keeps (ts : TrainingSet) (x : Path) : (widened ts x).ltssm = x.ltssm ∧ (widened ts x).position = x.position := by
  unfold widened
  split
  · exact ⟨rfl, rfl⟩
  · exact ⟨rfl, rfl⟩

/-- What a training set leaves in the path it trains. -/
theorem trainedPath_reads (i : SideId) (ts : TrainingSet) (x : Path) : (trainedPath i ts x).ltssm = ts.state ∧
    (x.posDue = true → ts.isTs2 = true → ts.rate25 = true → endOf i = 0 → (trainedPath i ts x).position = taughtPosition ts) ∧
    (ts.state = 2 → ts.width ≠ 0 → (trainedPath i ts x).widthNow = ts.width) := by
  obtain ⟨hltssm, -, -, -, hdue⟩ := followedPath_keeps ts.state (deemphasized ts.deemph6 x)
  rw [trainedPath]
  generalize followedPath ts.state (deemphasized ts.deemph6 x) = y at hltssm hdue ⊢
  obtain ⟨wltssm, wposition⟩ := widened_keeps ts (placed i ts y)
  obtain ⟨pltssm, -⟩ := placed_keeps i ts y
  refine ⟨wltssm.trans (pltssm.trans hltssm), fun hx h2 h25 he => ?_, fun h2 hw => ?_⟩
  · have ht : teaches i ts y = true := by
      rw [teaches, hdue hx, h2, h25, he]
      rfl
    rw [wposition, placed, if_pos ht]
    rfl
  · rw [widened, if_pos ⟨h2, hw⟩]
    rfl

section
variable {s : State} {i : SideId} (hf : s.paths[pathOf i].formed = false) (ts : TrainingSet)
include hf

theorem setFollowed_only : PathOnly (pathOf i) s (setFollowed s i ts) ∧ (setFollowed s i ts).lanes[laneOf i].lock[endOf i] = true ∧
    (setFollowed s i ts).paths[pathOf i] = trainedPath i ts s.paths[pathOf i] := by
  have hasked : LinkOnly (pathOf i) s (modGroup s (pathOf i) (deemphasized ts.deemph6)) := modGroup_link hf fun _ => ⟨rfl, rfl⟩
  obtain ⟨hfollow, fpath⟩ := followState_link (hasked.unformed hf) ts.state
  have hlink := hasked.trans hfollow
  rw [modGroup_path hf] at fpath
  unfold setFollowed
  generalize followState (modGroup s (pathOf i) (deemphasized ts.deemph6)) (pathOf i) ts.state = b at hlink fpath ⊢
  obtain ⟨hpos, ppath⟩ := positionLearned_only (hlink.unformed hf) ts
  obtain ⟨-, pformed⟩ := placed_keeps i ts b.paths[pathOf i]
  have hformed : (positionLearned b i ts).paths[pathOf i].formed = false := by
    rw [ppath, pformed, hlink.unformed hf]
  obtain ⟨hlane, hlock, lpath⟩ := learnLane_only hformed ts
  rw [ppath, fpath] at lpath
  exact ⟨hlink.toPathOnly.trans (hpos.trans hlane), hlock, lpath⟩

omit hf in
theorem exec_trainingSetReceived (hlive : pcieLive s (pathOf i) = true) (hbond : pcBond s.paths[pathOf i].cfg = 0)
    (hon : laneOn s (laneOf i) = true) (hdom : domOn s (i.val + 1) = true) (h12 : ts.state ≠ 12)
    (hei : s.lanes[laneOf i].ei[endOf i] = false) (htest : underTest s.sides[i] = false)
    (hbusy : ts.state = 4 → eqBusy s (pathOf i) = false) : exec (.trainingSetReceived i ts) s =
      done s ((setFollowed s i ts).modLane (laneOf i) (sendsSet (endOf i) (setForwarded (setFollowed s i ts) i ts))) := by
  have hno : ¬(pcieLive s (pathOf i) = false ∨ laneOn s (laneOf i) = false ∨ domOn s (i.val + 1) = false ∨
      forming s.paths[pathOf i] = true ∨ ts.state = 12 ∨ s.lanes[laneOf i].ei[endOf i] = true ∨ underTest s.sides[i] = true ∨
      (ts.state = 4 ∧ eqBusy s (pathOf i) = true)) := by
    rw [hlive, hon, hdom, not_forming hbond, hei, htest]
    rintro (h | h | h | h | h | h | h | ⟨h4, h⟩)
    · cases h
    · cases h
    · cases h
    · cases h
    · exact h12 h
    · cases h
    · cases h
    · rw [hbusy h4] at h
      cases h
  exact congrArg (done s) (if_neg hno)
end

/-- What is forwarded of a training set depends on no lane and on no idle time. -/
theorem setForwarded_settle (o v : State) (l : LaneId) (f : Lane → Lane) (i : SideId) (ts : TrainingSet) :
    setForwarded (settle o (v.modLane l f)) i ts = setForwarded v i ts := by
  have hset : forwardedSet (settle o (v.modLane l f)).paths[pathOf i] (endOf i == 0) ts = forwardedSet v.paths[pathOf i] (endOf i == 0) ts :=
    settle_path_field (fun x => forwardedSet x (endOf i == 0) ts) (fun _ _ => rfl) o (v.modLane l f) (pathOf i)
  have heq : eqFields (settle o (v.modLane l f)) (opposite i) ts = eqFields v (opposite i) ts := by
    simp only [eqFields, requests, settle_sides, Fin.getElem_fin, settle_path]
    rfl
  rw [setForwarded, hset, heq, setForwarded]

/-- A training set gives lock, the partner's state and the forwarded set, and teaches the position (R95, R96, R106, R107, R116). -/
theorem trainingSetReceived_trains {s : State} {p : PathId} (hlive : pcieLive s p = true) (hf : s.paths[p].formed = false)
    (hbond : pcBond s.paths[p].cfg = 0) {i : SideId} (ts : TrainingSet) (hi : pathOf i = p) (hon : laneOn s (laneOf i) = true)
    (hdom : domOn s (i.val + 1) = true) (h12 : ts.state ≠ 12) (hei : s.lanes[laneOf i].ei[endOf i] = false)
    (htest : underTest s.sides[i] = false) (hbusy : ts.state = 4 → eqBusy s p = false) :
    Affects (.trainingSetReceived i ts) s [.lanes, .sides, .paths] fun t =>
      t.paths[p].ltssm = ts.state ∧ t.lanes[laneOf i].lock[endOf i] = true ∧
      t.lanes[laneOf i].tsOut[endOf i] = some { forwardedSet t.paths[p] (endOf i == 0) ts with eq := eqFields t (opposite i) ts } ∧
      (s.paths[p].posDue = true → ts.isTs2 = true → ts.rate25 = true → endOf i = 0 →
        t.paths[p].position = if ts.present1 = false then 1 else if ts.present2 = false then 2 else 3) ∧
      (ts.state = 1 → t.sides[i].rxPol = ts.inverted) ∧
      (ts.state = 2 → ts.width ≠ 0 → t.paths[p].widthNow = ts.width) ∧
      (∀ q : PathId, q ≠ p → { t.paths[q] with idleNs := s.paths[q].idleNs } = s.paths[q]) ∧
      (∀ k : LaneId, pathOfLane k ≠ p → t.lanes[k] = s.lanes[k]) ∧ ∀ j : SideId, pathOf j ≠ p → t.sides[j] = s.sides[j] := by
  subst hi
  have hx := exec_trainingSetReceived ts hlive hbond hon hdom h12 hei htest hbusy
  obtain ⟨honly, hlock, hpath⟩ := setFollowed_only hf ts
  have hpol : ts.state = 1 → (setFollowed s i ts).sides[i].rxPol = ts.inverted := learnLane_rxPol _ i
  obtain ⟨hltssm, hposition, hwidth⟩ := trainedPath_reads i ts s.paths[pathOf i]
  generalize setFollowed s i ts = v at hx honly hlock hpath hpol
  obtain ⟨out, hout⟩ : ∃ out, out = setForwarded v i ts := ⟨_, rfl⟩
  rw [← hout] at hx
  have hall := honly.trans (PathOnly.modLane (pathOfLane_laneOf i) v (sendsSet (endOf i) out))
  have hfield {γ : Type} (g : Path → γ) (hg : ∀ x n, g { x with idleNs := n } = g x) :
      g (settle s (v.modLane (laneOf i) (sendsSet (endOf i) out))).paths[pathOf i] = g (trainedPath i ts s.paths[pathOf i]) := by
    rw [settle_path_field g hg, ← hpath]
    rfl
  refine affects_of hx (fun q hq => hall.part hq) ⟨?_, ?_, ?_, fun hdue h2 h25 he => ?_, hpol, fun h2 hw => ?_,
    fun q hq => hall.settle_other s hq, hall.lanes, hall.sides⟩
  · exact (hfield Path.ltssm fun _ _ => rfl).trans hltssm
  · rw [settle_lanes, modLane_lane]
    exact hlock
  · rw [settle_lanes, modLane_lane, sendsSet, vmod_same, hout]
    exact congrArg some (setForwarded_settle s v _ _ i ts).symm
  · exact (hfield Path.position fun _ _ => rfl).trans (hposition hdue h2 h25 he)
  · exact (hfield Path.widthNow fun _ _ => rfl).trans (hwidth h2 hw)

/-- Settles O50: each step is a change of its own path, lanes and sides, whose readings are those of a few functions of a path, a lane or
a side. -/
theorem pcieTrainingIsFollowed : Obligations.PcieTrainingIsFollowed := by
  unfold Obligations.PcieTrainingIsFollowed
  intro s p hlive hf hbond
  refine ⟨fun found h0 href hcal => receiverDetect_sets hlive hf h0 href hcal, fun i ts hi hon hdom h12 hei htest hbusy =>
    trainingSetReceived_trains hlive hf hbond ts hi hon hdom h12 hei htest hbusy,
    fun rate presets hrate => rateChange_reports hlive hf hbond presets hrate, fun rate presets hrate => rateChange_beyond presets hrate,
    complianceEntry_reports hlive hf hbond⟩

end Sys2Proof.Machine
end

section
/-! Split training of backplane lanes: updates and status, requests that end, both partners ready (R139 to R142). -/

namespace Sys2Proof.Machine

/-! ### Elements replaced -/

theorem vmod_congr {α : Type} {n : Nat} {v : Vector α n} {i : Fin n} {f g : α → α} (h : f v[i] = g v[i]) : vmod v i f = vmod v i g :=
  congrArg (fun x => v.set i.val x i.isLt) h

theorem vmod_fixed {α : Type} {n : Nat} {v : Vector α n} {i : Fin n} {f : α → α} (h : f v[i] = v[i]) : vmod v i f = v := by
  rw [vmod, h, Fin.getElem_fin, Vector.set_getElem_self]

/-- Both ends of a lane written, one after the other. -/
theorem vmod_both {α : Type} (v : Vector α 2) (x : α) : vmod (vmod v 0 fun _ => x) 1 (fun _ => x) = Vector.replicate 2 x := by
  refine Vector.ext fun k hk => ?_
  rw [vmod_get_nat, vmod_get_nat, Vector.getElem_replicate]
  have : k = 0 ∨ k = 1 := by omega
  rcases this with rfl | rfl <;> rfl

/-! ### Rows that go on after their event -/

/-- A row that raises its event on one change and then makes another, none of either outside the parts named. -/
theorem reports_then {c : Instr} {s u v : State} {code : Nat} {data : List Byte} {changed : List Part} {P : State → Prop}
    (hx : exec c s = done s v) (hu : ∀ p : Part, p ∉ changed → p.untouched s u) (hview : eventView u = eventView s)
    (hv : ∀ p : Part, p ∉ changed → p.untouched (raise u code data) v) (hwin : Part.win ∉ changed) (hmbx : Part.mbx ∉ changed)
    (hP : P (settle s v)) : Reports c s code data changed P :=
  affects_of hx (fun p hp => Part.noted_then_untouched (Part.noted_of_untouched (hu p hp) ((raise_noted u code data).part p)) (hv p hp))
    ⟨(raised_in hview (hv .win hwin) (hv .mbx hmbx)).settle s, hP⟩

theorem Part.untouched_modLane (s : State) (l : LaneId) (f : Lane → Lane) {p : Part} (hp : p ≠ .lanes) : p.untouched s (s.modLane l f) := by
  cases p
  case lanes => exact absurd rfl hp
  all_goals rfl

theorem LaneOnly.view {l : LaneId} {s t : State} (h : LaneOnly l s t) : eventView t = eventView s := by
  rw [h.rest]
  rfl

/-! ### A side in training -/

theorem not_untrained {s : State} {i : SideId} (ht : trains s i = true) : ¬trains s i = false :=
  Bool.eq_false_iff.not.mpr (not_not_intro ht)

/-! ### Coefficient updates -/

/-- The updates that their limits allow, and the setting each leads to (Table 6.2). -/
def KrUpdates (r : KrRequest) (pre post pre' post' : Nat) : Prop :=
  (r = .preDec ∧ pre + 2 ≤ 16 ∧ pre + post ≤ 38 ∧ pre' = pre + 2 ∧ post' = post) ∨
  (r = .preInc ∧ 2 ≤ pre ∧ pre' = pre - 2 ∧ post' = post) ∨
  (r = .postDec ∧ post + 2 ≤ 24 ∧ pre + post ≤ 38 ∧ pre' = pre ∧ post' = post + 2) ∨
  (r = .postInc ∧ 2 ≤ post ∧ pre' = pre ∧ post' = post - 2) ∨
  (r = .preset ∧ pre' = 0 ∧ post' = 0) ∨ (r = .init ∧ pre' = 3 ∧ post' = 18)

/-- The updates that a limit stops, and the report of each (Table 6.2). -/
def KrStopped (r : KrRequest) (pre post : Nat) (report : Fin 4) : Prop :=
  (r = .preDec ∧ (16 < pre + 2 ∨ 38 < pre + post) ∧ report = 2) ∨ (r = .preInc ∧ pre < 2 ∧ report = 3) ∨
  (r = .postDec ∧ (24 < post + 2 ∨ 38 < pre + post) ∧ report = 2) ∨ (r = .postInc ∧ post < 2 ∧ report = 3) ∨
  (r = .mainInc ∧ report = 3) ∨ (r = .mainDec ∧ report = 2)

theorem krUpdate_updates {r : KrRequest} {pre post pre' post' : Nat} (h : KrUpdates r pre post pre' post') :
    krUpdate r pre post = (pre', post', 1) := by
  rcases h with ⟨rfl, hpre, hsum, rfl, rfl⟩ | ⟨rfl, hpre, rfl, rfl⟩ | ⟨rfl, hpost, hsum, rfl, rfl⟩ | ⟨rfl, hpost, rfl, rfl⟩ |
    ⟨rfl, rfl, rfl⟩ | ⟨rfl, rfl, rfl⟩
  · exact if_neg (by omega)
  · exact if_neg (by omega)
  · exact if_neg (by omega)
  · exact if_neg (by omega)
  · rfl
  · rfl

theorem krUpdate_stopped {r : KrRequest} {pre post : Nat} {report : Fin 4} (h : KrStopped r pre post report) :
    krUpdate r pre post = (pre, post, report) := by
  rcases h with ⟨rfl, hlim, rfl⟩ | ⟨rfl, hpre, rfl⟩ | ⟨rfl, hlim, rfl⟩ | ⟨rfl, hpost, rfl⟩ | ⟨rfl, rfl⟩ | ⟨rfl, rfl⟩
  · exact if_pos (by omega)
  · exact if_pos hpre
  · exact if_pos (by omega)
  · exact if_pos hpost
  · rfl
  · rfl

theorem KrStopped.report_ne {r : KrRequest} {pre post : Nat} {report : Fin 4} (h : KrStopped r pre post report) : report ≠ 1 := by
  rcases h with ⟨_, _, rfl⟩ | ⟨_, _, rfl⟩ | ⟨_, _, rfl⟩ | ⟨_, _, rfl⟩ | ⟨_, rfl⟩ | ⟨_, rfl⟩ <;> decide

/-- What a coefficient update makes of its responder (R140). -/
def coefficientTaken (r : KrRequest) (y : Side) : Side :=
  let report := (krUpdate r (fld y.txeq[(0 : Fin 4)] 23 19) (fld y.txeq[(0 : Fin 4)] 11 7)).2.2
  { y with krReport := report, txeq := vmod y.txeq 0 (krTxeq r), txRamp := if report = 1 then none else y.txRamp }

/-- A transmitter moved to a setting by an update. -/
def coefficientsMoved (pre' post' : Nat) (x : Side) : Side := { x with
  txeq := vmod x.txeq 0 fun r => txWith r 0 pre' (64 - pre' - post') post', txRamp := none, krReport := 1 }

theorem coefficientTaken_updates {r : KrRequest} {x : Side} {pre' post' : Nat}
    (h : KrUpdates r (fld x.txeq[(0 : Fin 4)] 23 19) (fld x.txeq[(0 : Fin 4)] 11 7) pre' post') :
    coefficientTaken r x = coefficientsMoved pre' post' x := by
  have hu := krUpdate_updates h
  have htx : vmod x.txeq 0 (krTxeq r) = vmod x.txeq 0 fun v => txWith v 0 pre' (64 - pre' - post') post' :=
    vmod_congr (by rw [krTxeq, hu]; rfl)
  simp only [coefficientTaken, hu, htx, if_true]
  rfl

theorem coefficientTaken_stopped {r : KrRequest} {x : Side} {report : Fin 4}
    (h : KrStopped r (fld x.txeq[(0 : Fin 4)] 23 19) (fld x.txeq[(0 : Fin 4)] 11 7) report) :
    coefficientTaken r x = { x with krReport := report } := by
  have hu := krUpdate_stopped h
  have htx : vmod x.txeq 0 (krTxeq r) = x.txeq := vmod_fixed (by rw [krTxeq, hu]; exact if_neg h.report_ne)
  simp only [coefficientTaken, hu, htx, if_neg h.report_ne]

/-- A receiver of a polarity. -/
def polarized (inv : Bool) (y : Side) : Side := { y with rxPol := inv }

section
variable {s : State} {i : SideId} (ht : trains s i = true)
include ht

theorem exec_krCoeffUpdate (r : KrRequest) (inv : Bool) : exec (.krCoeffUpdate i r inv) s = done s
    (((learnPolarity s i inv).modLane (laneOf i) (lockedAt (endOf i))).modSide i (coefficientTaken r)) :=
  congrArg (done s) (if_neg (not_untrained ht))

/-- An update in the lane's polarity changes its side and gives the lane lock. -/
theorem krCoeffUpdate_takes {r : KrRequest} {f : Side → Side} (hf : coefficientTaken r s.sides[i] = f s.sides[i]) :
    Does (.krCoeffUpdate i r s.sides[i].rxPol) s [.lanes, .sides] fun t =>
      t.lanes = vmod s.lanes (laneOf i) (lockedAt (endOf i)) ∧ t.sides = vmod s.sides i f := by
  have hx := exec_krCoeffUpdate ht r s.sides[i].rxPol
  rw [learnPolarity, if_pos rfl] at hx
  refine does_of hx (fun q hq => ?_) ⟨rfl, vmod_congr hf⟩
  cases q
  case lanes | sides => exact absurd (by decide) hq
  all_goals rfl

omit ht in
theorem learnPolarity_new {inv : Bool} (h : inv ≠ s.sides[i].rxPol) :
    learnPolarity s i inv = raise (s.modSide i (polarized inv)) 0x0106 [by1 i.val] := if_neg h.symm

/-- A frame marker of the other polarity teaches it, with event 0x0106 (R95, R139). -/
theorem krCoeffUpdate_learns (r : KrRequest) {inv : Bool} (hinv : inv ≠ s.sides[i].rxPol) :
    Reports (.krCoeffUpdate i r inv) s 0x0106 [BitVec.ofNat 8 i.val] [.lanes, .sides] fun t =>
      t.sides[i].rxPol = inv ∧ ∀ j : SideId, j ≠ i → t.sides[j] = s.sides[j] := by
  have hx := exec_krCoeffUpdate ht r inv
  rw [learnPolarity_new hinv] at hx
  refine reports_then (u := s.modSide i (polarized inv)) hx (fun q hq => ?_) rfl (fun q hq => ?_) (by decide) (by decide)
    ⟨?_, fun j hj => ?_⟩
  · exact Part.untouched_modSide s i _ fun e => hq (by simp [e])
  · cases q
    case lanes | sides => exact absurd (by decide) hq
    all_goals rfl
  · rw [settle_sides, modSide_side, modLane_sides, raise_sides, modSide_side]
    rfl
  · rw [settle_sides, modSide_side_other hj, modLane_sides, raise_sides, modSide_side_other hj]

end

/-! ### Status -/

/-- Going on keeps what has been judged; without steps left the requests end (R141). -/
theorem krGoOn_keeps (n : Nat) (x : Side) : (krGoOn n x).reported = x.reported ∧ (krGoOn n x).reqBest = x.reqBest ∧
    (krGoOn n x).partner = x.partner ∧ (krGoOn n x).reqSteps = x.reqSteps ∧ (x.reqSteps = 0 → (krGoOn n x).reqRun = false) := by
  unfold krGoOn
  split
  · next a ha => exact ⟨rfl, rfl, rfl, rfl, fun h0 => by rw [if_pos h0] at ha; cases ha⟩
  · exact ⟨rfl, rfl, rfl, rfl, fun _ => rfl⟩

/-- What a partner's status, with a figure, makes of a side whose request it answers (R141). -/
def StatusJudged (st : KrStatus) (m : Nat) (x y : Side) : Prop :=
  y.reported = some (st.pre, st.main, st.post) ∧
  (x.reqRun = false → y = { x with reported := some (st.pre, st.main, st.post) }) ∧
  (x.reqRun = true → x.krAsk = some .init → y.reqBest = some (0, m) ∧ y.partner = some (st.pre, st.main, st.post)) ∧
  (∀ (q : KrRequest) (b : Nat × Nat), x.reqRun = true → x.krAsk = some q → q ≠ .init → x.reqBest = some b →
    y.reqSteps = x.reqSteps - 1 ∧ (x.reqSteps ≤ 1 → y.reqRun = false) ∧
    y.reqBest = (if b.2 < m then some (0, m) else some b) ∧
    y.partner = if b.2 < m then some (st.pre, st.main, st.post) else x.partner)

/-- A side whose single request has been judged, before it goes on: the setting kept where the figure is better. -/
def requestJudged (st : KrStatus) (m : Nat) (q : KrRequest) (better : Bool) (x : Side) : Side :=
  let y := { x with reported := some (st.pre, st.main, st.post), reqSteps := x.reqSteps - 1 }
  if better then { y with reqBest := some (0, m), partner := some (st.pre, st.main, st.post), reqTried := [] }
  else { y with reqTried := ((List.finRange 4).filter fun n => krStep n == q) ++ x.reqTried }

theorem judgeKr_quiet (st : KrStatus) (n : Nat) {x : Side} (h : x.reqRun = false) :
    judgeKr st n x = { x with reported := some (st.pre, st.main, st.post) } := if_pos h

theorem judgeKr_init (st : KrStatus) (n : Nat) {x : Side} (h : x.reqRun = true) (ha : x.krAsk = some .init) :
    judgeKr st n x = krGoOn n { x with reported := some (st.pre, st.main, st.post), reqBest := some (0, marginOf false x)
                                       partner := some (st.pre, st.main, st.post) } := by
  rw [judgeKr, if_neg (by simp [h]), ha]

theorem judgeKr_request (st : KrStatus) (n : Nat) {x : Side} {q : KrRequest} (h : x.reqRun = true) (ha : x.krAsk = some q)
    (hq : q ≠ .init) : judgeKr st n x = krGoOn n (requestJudged st (marginOf false x) q
      (match x.reqBest with | some b => decide (b.2 < marginOf false x) | none => true) x) := by
  unfold judgeKr
  rw [if_neg (by simp [h])]
  split
  · next hinit => exact absurd (Option.some.inj (ha.symm.trans hinit)) hq
  · next r _ hr =>
    obtain rfl : q = r := Option.some.inj (ha.symm.trans hr)
    rfl
  · next hnone => rw [ha] at hnone; cases hnone

theorem requestJudged_keeps (st : KrStatus) (m : Nat) (q : KrRequest) (better : Bool) (x : Side) :
    (requestJudged st m q better x).reported = some (st.pre, st.main, st.post) ∧
    (requestJudged st m q better x).reqSteps = x.reqSteps - 1 ∧
    (requestJudged st m q better x).reqBest = (if better then some (0, m) else x.reqBest) ∧
    (requestJudged st m q better x).partner = if better then some (st.pre, st.main, st.post) else x.partner := by
  cases better <;> exact ⟨rfl, rfl, rfl, rfl⟩

theorem judgeKr_reported (st : KrStatus) (n : Nat) (x : Side) : (judgeKr st n x).reported = some (st.pre, st.main, st.post) := by
  cases hrun : x.reqRun with
  | false => rw [judgeKr_quiet st n hrun]
  | true =>
    cases hask : x.krAsk with
    | none => rw [judgeKr, if_neg (by simp [hrun]), hask]; rfl
    | some q =>
      by_cases hq : q = .init
      · rw [judgeKr_init st n hrun (hq ▸ hask)]
        exact (krGoOn_keeps n _).1
      · rw [judgeKr_request st n hrun hask hq]
        exact (krGoOn_keeps n _).1.trans (requestJudged_keeps st _ q _ x).1

theorem judgeKr_judged (st : KrStatus) (n : Nat) (x : Side) : StatusJudged st (marginOf false x) x (judgeKr st n x) := by
  refine ⟨judgeKr_reported st n x, judgeKr_quiet st n, fun hrun hask => ?_, fun q b hrun hask hq hbest => ?_⟩
  · rw [judgeKr_init st n hrun hask]
    obtain ⟨-, kbest, kpartner, -, -⟩ := krGoOn_keeps n { x with
      reported := some (st.pre, st.main, st.post), reqBest := some (0, marginOf false x), partner := some (st.pre, st.main, st.post) }
    exact ⟨kbest, kpartner⟩
  · rw [judgeKr_request st n hrun hask hq, hbest]
    obtain ⟨-, hsteps, hbest', hpartner⟩ := requestJudged_keeps st (marginOf false x) q (decide (b.2 < marginOf false x)) x
    obtain ⟨-, kbest, kpartner, ksteps, kend⟩ :=
      krGoOn_keeps n (requestJudged st (marginOf false x) q (decide (b.2 < marginOf false x)) x)
    rw [hbest] at hbest'
    simp only [decide_eq_true_eq] at hbest' hpartner
    exact ⟨ksteps.trans hsteps, fun h1 => kend (by omega), kbest.trans hbest', kpartner.trans hpartner⟩

/-- A lane whose requests at an end are finished and that waits there for receiver ready (R141, R142). -/
def requestsDone (e : Fin 2) (x : Lane) : Lane :=
  { x with seg := vmod x.seg e fun _ => 3, reqDone := vmod x.reqDone e fun _ => true }

/-- `s` with the requests on a receiver ended, three open values later. -/
def requestsEnded (s : State) (i : SideId) : State :=
  (s.usedFree.usedFree.usedFree.modLane (laneOf i) (requestsDone (endOf i))).modSide i endRequests

theorem requestsEnded_only (s : State) (i : SideId) : LaneOnly (laneOf i) s (requestsEnded s i) :=
  (LaneOnly.usedFree _ s).trans <| (LaneOnly.usedFree _ _).trans <| (LaneOnly.usedFree _ _).trans <|
    (LaneOnly.modLane _ (by exact fun _ => rfl) (by exact fun _ => rfl)).trans (LaneOnly.modSide _ _ i _)

section
variable {s : State} {i : SideId} (ht : trains s i = true)
include ht

/-- A lane whose partner at an end reports its receiver ready or not (R142). -/
theorem krStatusUpdate_judges (st : KrStatus) : Does (.krStatusUpdate i st) s [.lanes, .sides, .free] fun t =>
    t.lanes = (vmod s.lanes (laneOf i) fun x => { x with rr := vmod x.rr (endOf i) fun _ => st.partnerRdy }) ∧
    StatusJudged st (marginOf false s.sides[i]) s.sides[i] t.sides[i] ∧ ∀ j : SideId, j ≠ i → t.sides[j] = s.sides[j] := by
  have hx : exec (.krStatusUpdate i st) s = done s (((s.modLane (laneOf i) fun x => { x with
      rr := vmod x.rr (endOf i) fun _ => st.partnerRdy }).modSide i (judgeKr st s.openNat)).usedFree) :=
    congrArg (done s) (if_neg (not_untrained ht))
  refine does_of hx (fun q hq => ?_) ⟨rfl, ?_, fun j hj => modSide_side_other (s := s) hj⟩
  · cases q
    case lanes | sides | free => exact absurd (by decide) hq
    all_goals rfl
  · rw [settle_sides, usedFree_sides, modSide_side]
    exact judgeKr_judged st _ _

/-! ### Requests that end -/

theorem krUpdateTimeout_ends (hrun : s.sides[i].reqRun = true) : Reports (.krUpdateTimeout i) s 0x0211
    ([BitVec.ofNat 8 i.val] ++ be 4 (runRate s.paths[pathOf i])) [.sides] fun t => t.sides = vmod s.sides i endRequests :=
  reports_modSide (congrArg (done s) (if_pos (by rw [ht, hrun]; rfl)))

omit ht in
theorem krUpdateTimeout_nothing (hrun : s.sides[i].reqRun = false) : Does (.krUpdateTimeout i) s [] fun _ => True :=
  does_nothing (congrArg (done s) (if_neg (by rw [hrun, Bool.and_false]; exact Bool.false_ne_true)))

theorem krRequestsFinished_waits {v : Byte × Byte × Byte} {b : Nat × Nat} (hseg : s.lanes[laneOf i].seg[endOf i] = 2)
    (hrun : s.sides[i].reqRun = false) (hv : s.sides[i].partner = some v) (hb : s.sides[i].reqBest = some b) :
    Reports (.krRequestsFinished i) s 0x0210
      ([BitVec.ofNat 8 i.val] ++ be 4 (runRate s.paths[pathOf i]) ++ [v.1, v.2.1, v.2.2, BitVec.ofNat 8 b.2]) [.lanes, .sides, .free] fun t =>
      t.lanes = vmod s.lanes (laneOf i) (requestsDone (endOf i)) ∧ t.sides = vmod s.sides i endRequests := by
  have hno : ¬(trains s i = false ∨ s.lanes[laneOf i].seg[endOf i] ≠ 2 ∨ s.sides[i].reqRun = true) := by
    rw [ht, hseg, hrun]
    decide
  have hx : exec (.krRequestsFinished i) s = done s (raise (requestsEnded s i) 0x0210
      ([BitVec.ofNat 8 i.val] ++ be 4 (runRate s.paths[pathOf i]) ++ [v.1, v.2.1, v.2.2, BitVec.ofNat 8 b.2])) := by
    refine congrArg (done s) ((if_neg hno).trans ?_)
    dsimp only
    rw [hv, hb]
    exact congrArg (raise (requestsEnded s i) 0x0210) (List.append_assoc _ [v.1, v.2.1, v.2.2] _)
  have honly := requestsEnded_only s i
  refine reports_of hx (fun q hq => honly.untouched hq) honly.view ⟨?_, ?_⟩
  · rw [settle_lanes, raise_lanes]
    rfl
  · rw [settle_sides, raise_sides]
    rfl

end

/-! ### Both partners ready -/

theorem startData_lane (s : State) (i : SideId) : (startData s i).lanes[laneOf i].seg = (vmod s.lanes[laneOf i].seg (endOf i) fun _ => 4) ∧
    (startData s i).lanes[laneOf i].lock = vmod s.lanes[laneOf i].lock (endOf i) fun _ => true := by
  have h : (startData s i).lanes[laneOf i] = _ := modLane_lane s (laneOf i) _
  exact ⟨by rw [h], by rw [h]⟩

theorem startData_side_other (s : State) {i j : SideId} (h : j ≠ i) : (startData s i).sides[j] = s.sides[j] := modSide_side_other (s := s) h

/-- A lane both of whose receivers have reached data. -/
def bothInData (s : State) (l : LaneId) : State := startData (startData s (sideOf l 0)) (sideOf l 1)

theorem bothInData_only (s : State) (l : LaneId) : LaneOnly l s (bothInData s l) := by
  have h (t : State) (e : Fin 2) : LaneOnly l t (startData t (sideOf l e)) := by
    have h := startData_only t (sideOf l e)
    rwa [laneOf_sideOf] at h
  exact (h s 0).trans (h _ 1)

theorem bothInData_lane (s : State) (l : LaneId) : (bothInData s l).lanes[l].seg = Vector.replicate 2 4 ∧
    (bothInData s l).lanes[l].lock = Vector.replicate 2 true := by
  have h (t : State) (e : Fin 2) : (startData t (sideOf l e)).lanes[l].seg = (vmod t.lanes[l].seg e fun _ => 4) ∧
      (startData t (sideOf l e)).lanes[l].lock = vmod t.lanes[l].lock e fun _ => true := by
    have h := startData_lane t (sideOf l e)
    simpa only [laneOf_sideOf, endOf_sideOf] using h
  rw [bothInData, (h _ 1).1, (h _ 1).2, (h s 0).1, (h s 0).2]
  exact ⟨vmod_both _ 4, vmod_both _ true⟩

theorem bothInData_side_other (s : State) {l : LaneId} {j : SideId} (h : laneOf j ≠ l) : (bothInData s l).sides[j] = s.sides[j] := by
  have hne (e : Fin 2) : j ≠ sideOf l e := fun hj => h (by rw [hj, laneOf_sideOf])
  rw [bothInData, startData_side_other _ (hne 1), startData_side_other _ (hne 0)]

/-- Each side of a lane is a given one of them or the one across. -/
theorem sideOf_laneOf (i : SideId) (e : Fin 2) : sideOf (laneOf i) e = if e = endOf i then i else opposite i := by
  by_cases he : e = endOf i
  · rw [if_pos he, he, sideOf_laneOf_endOf]
  · have hne : endOf (opposite i) ≠ endOf i := fun h => opposite_ne i (side_ext (laneOf_opposite i) h)
    have hend : e = endOf (opposite i) := by omega
    rw [if_neg he, hend, ← laneOf_opposite i, sideOf_laneOf_endOf]

/-- A property of both sides of a lane holds of each of its ends. -/
theorem of_sides {P : SideId → Prop} {i : SideId} (hi : P i) (ho : P (opposite i)) (e : Fin 2) : P (sideOf (laneOf i) e) := by
  rw [sideOf_laneOf]
  split
  · exact hi
  · exact ho

/-- The lane forwards once both partners are ready and both receivers finished (R142). -/
theorem krReceiverReady_forwards {s : State} {l : LaneId} (ht : ∀ e, trains s (sideOf l e) = true)
    (hdone : s.lanes[l].reqDone = Vector.replicate 2 true) (hrr : s.lanes[l].rr = Vector.replicate 2 true) :
    Does (.krReceiverReady l) s [.lanes, .sides, .free] fun t =>
      t.lanes[l].seg = Vector.replicate 2 4 ∧ t.lanes[l].lock = Vector.replicate 2 true ∧ t.lanes[l].rrSent = true ∧
      (∀ k : LaneId, k ≠ l → t.lanes[k] = s.lanes[k]) ∧ ∀ j : SideId, laneOf j ≠ l → t.sides[j] = s.sides[j] := by
  have hready : (trains s (sideOf l 0) && trains s (sideOf l 1) && s.lanes[l].reqDone[0] && s.lanes[l].reqDone[1] &&
      s.lanes[l].rr[0] && s.lanes[l].rr[1]) = true := by
    rw [ht, ht, hdone, hrr]
    decide
  have hx : exec (.krReceiverReady l) s = done s ((bothInData s l).modLane l fun x => { x with rrSent := true }) :=
    congrArg (done s) (if_pos hready)
  obtain ⟨hseg, hlock⟩ := bothInData_lane s l
  have honly := (bothInData_only s l).trans (LaneOnly.modLane _ (f := fun x => { x with rrSent := true }) (fun _ => rfl) fun _ => rfl)
  refine does_of hx (fun q hq => honly.untouched hq) ⟨?_, ?_, ?_, honly.others, fun j hj => bothInData_side_other s hj⟩
  · rw [settle_lanes, modLane_lane]
    exact hseg
  · rw [settle_lanes, modLane_lane]
    exact hlock
  · rw [settle_lanes, modLane_lane]

/-- Settles O55, row by row: an update by whether a limit stops it, a status by what judging it makes of its side, the end of the requests
by its event, and receiver ready as both receivers entering data. -/
theorem krTrainingRuns : Obligations.KrTrainingRuns := by
  unfold Obligations.KrTrainingRuns
  intro s i ht
  refine ⟨fun pre post v hv hpre hpost => ⟨fun r pre' post' h => ?_, fun r report h => ?_⟩,
    fun r inv hinv => krCoeffUpdate_learns ht r hinv, fun st m hm => ?_, krUpdateTimeout_ends ht, krUpdateTimeout_nothing,
    fun v b hseg hrun hv hb => krRequestsFinished_waits ht hseg hrun hv hb,
    fun ho hdone hrr => krReceiverReady_forwards (of_sides (P := fun j => trains s j = true) ht ho) hdone hrr⟩
  · subst hv hpre hpost
    exact krCoeffUpdate_takes ht (coefficientTaken_updates (by rw [fld_eq_extract, fld_eq_extract]; exact h))
  · subst hv hpre hpost
    exact krCoeffUpdate_takes ht (f := fun x => { x with krReport := report })
      (coefficientTaken_stopped (by rw [fld_eq_extract, fld_eq_extract]; exact h))
  · subst hm
    obtain ⟨t, hx, ⟨hlanes, ⟨hrep, hquiet, hinit, hstep⟩, hothers⟩, hkept⟩ := krStatusUpdate_judges ht st
    exact ⟨t, hx, ⟨hlanes, hrep, hquiet, hinit, hstep, hothers⟩, hkept⟩

end Sys2Proof.Machine
end

section
/-! Auto-negotiation and restarts of backplane lanes (R136 to R138, R143). -/

namespace Sys2Proof.Machine

/-! ### Changes of the lanes of one path -/

/-- `t` is `s` but for the lanes of one path, of which `g` reads the same, the sides, and the open values used. -/
structure LanesKeep {β : Type} (g : Lane → β) (p : PathId) (s t : State) : Prop where
  rest : t = { s with sides := t.sides, lanes := t.lanes, free := t.free }
  others : ∀ k : LaneId, pathOfLane k ≠ p → t.lanes[k] = s.lanes[k]
  reads : ∀ k : LaneId, g t.lanes[k] = g s.lanes[k]

section
variable {β : Type} {g : Lane → β} {p : PathId} {s t u : State}

theorem LanesKeep.refl (s : State) : LanesKeep g p s s := ⟨rfl, fun _ _ => rfl, fun _ => rfl⟩

theorem LanesKeep.trans (h : LanesKeep g p s t) (k : LanesKeep g p t u) : LanesKeep g p s u := by
  refine ⟨?_, fun j hj => (k.others j hj).trans (h.others j hj), fun j => (k.reads j).trans (h.reads j)⟩
  have hu := k.rest
  rw [h.rest] at hu
  exact hu

theorem LanesKeep.foldl {α : Type} {f : State → α → State} {l : List α} (h : ∀ t, ∀ a ∈ l, LanesKeep g p t (f t a)) (s : State) :
    LanesKeep g p s (l.foldl f s) :=
  List.foldlRecOn l f (LanesKeep.refl s) fun t ht a ha => ht.trans (h t a ha)

theorem LanesKeep.modLane {l : LaneId} (hl : pathOfLane l = p) (s : State) {f : Lane → Lane} (hf : ∀ x, g (f x) = g x) :
    LanesKeep g p s (s.modLane l f) :=
  ⟨rfl, fun _ hk => modLane_lane_other fun e => hk (e ▸ hl), modLane_lane_field g hf⟩

theorem LanesKeep.modSide (s : State) (i : SideId) (f : Side → Side) : LanesKeep g p s (s.modSide i f) :=
  ⟨rfl, fun _ _ => rfl, fun _ => rfl⟩

theorem LanesKeep.usedFree (s : State) : LanesKeep g p s s.usedFree := ⟨rfl, fun _ _ => rfl, fun _ => rfl⟩

theorem LanesKeep.forward (s : State) (i : SideId) : LanesKeep g p s (forward s i) := by
  unfold Machine.forward
  split
  · exact LanesKeep.modSide s _ _
  · exact LanesKeep.refl s

/-- What reads less of the lanes is kept too. -/
theorem LanesKeep.reading {γ : Type} (k : β → γ) (h : LanesKeep g p s t) : LanesKeep (fun x => k (g x)) p s t :=
  ⟨h.rest, h.others, fun j => congrArg k (h.reads j)⟩

theorem LanesKeep.paths (h : LanesKeep g p s t) : t.paths = s.paths := by rw [h.rest]

theorem LanesKeep.untouched (h : LanesKeep g p s t) {q : Part} (hq : q ∉ [Part.lanes, .sides, .free]) : q.untouched s t := by
  rw [h.rest]
  cases q
  case lanes | sides | free => exact absurd (by decide) hq
  all_goals rfl

/-- Where no open value is used, the lanes and sides alone change. -/
theorem LanesKeep.untouched_silent (h : LanesKeep g p s t) (hf : t.free = s.free) {q : Part} (hq : q ∉ [Part.lanes, .sides]) :
    q.untouched s t := by
  by_cases hfree : q = .free
  · subst hfree
    exact hf
  · exact h.untouched (by simp_all)

theorem LanesKeep.view (h : LanesKeep g p s t) : eventView t = eventView s := by
  rw [h.rest]
  rfl
end

/-! ### Receivers that start -/

/-- An element written unless a condition holds. -/
theorem vmod_unless {α : Type} {n : Nat} (b : Bool) (v : Vector α n) (i j : Fin n) (x : α) :
    (if b then v else vmod v i fun _ => x)[j] = if j = i then (if b then v[j] else x) else v[j] := by
  cases b with
  | true => simp only [if_true, ite_self]
  | false =>
    by_cases h : j = i
    · subst h
      rw [if_neg Bool.false_ne_true, if_pos rfl, if_neg Bool.false_ne_true]
      exact vmod_same v j _
    · rw [if_neg Bool.false_ne_true, if_neg h]
      exact vmod_get_other v i j _ (Ne.symm h)

/-- The two elements written, each unless its own condition holds. -/
theorem vmod_unless_both {α : Type} (b : Vector Bool 2) (v : Vector α 2) (x : α) (e : Fin 2) :
    (if b[(1 : Fin 2)] then (if b[(0 : Fin 2)] then v else vmod v 0 fun _ => x)
      else vmod (if b[(0 : Fin 2)] then v else vmod v 0 fun _ => x) 1 fun _ => x)[e] = if b[e] then v[e] else x := by
  rw [vmod_unless, vmod_unless]
  have he : e = 0 ∨ e = 1 := by omega
  rcases he with rfl | rfl
  · rw [if_neg (by decide), if_pos rfl]
  · rw [if_pos rfl, if_neg (show ¬(1 : Fin 2) = 0 by decide)]

/-- What a start in the datapath leaves of a lane: the result of auto-negotiation, BP_CFG and electrical idle. -/
def negotiated (x : Lane) : BitVec 3 × Bool × R40 × Vector Bool 2 × BitVec 2 := (x.anTech, x.mismatch, x.bpCfg, x.ei, x.anFec)

theorem startTraining_keeps (s : State) (i : SideId) : LanesKeep negotiated (pathOf i) s (startTraining s i) :=
  (LanesKeep.modLane (pathOfLane_laneOf i) s (by exact fun _ => rfl)).trans (LanesKeep.modSide _ i _)

theorem startData_keeps (s : State) (i : SideId) : LanesKeep negotiated (pathOf i) s (startData s i) :=
  (LanesKeep.modLane (pathOfLane_laneOf i) s (by exact fun _ => rfl)).trans
    ((LanesKeep.modSide _ i _).trans (LanesKeep.usedFree _))

theorem startDatapath_keeps (s : State) (i : SideId) : LanesKeep negotiated (pathOf i) s (startDatapath s i) := by
  unfold startDatapath
  split
  · exact startTraining_keeps s i
  · exact startData_keeps s i

/-- A lane with one of its receivers in training (R141, R142). -/
def laneTrains (e : Fin 2) (x : Lane) : Lane := { x with
  seg := vmod x.seg e fun _ => 2, rr := vmod x.rr e fun _ => false, reqDone := vmod x.reqDone e fun _ => false
  align := vmod x.align e fun _ => false, rrSent := false }

theorem startTraining_lanes (s : State) (i : SideId) : (startTraining s i).lanes = vmod s.lanes (laneOf i) (laneTrains (endOf i)) := rfl

/-- The segment in which a receiver of a lane starts its mode's datapath (R137). -/
def startSegment (s : State) (l : LaneId) : Fin 5 :=
  if pcMode s.paths[pathOfLane l].cfg = 2 ∧ bit s.lanes[l].bpCfg 36 = false then 2 else 4

theorem startDatapath_segment (s : State) (i : SideId) :
    (startDatapath s i).lanes[laneOf i].seg = vmod s.lanes[laneOf i].seg (endOf i) fun _ => startSegment s (laneOf i) := by
  have hp : s.paths[pathOfLane (laneOf i)] = s.paths[pathOf i] := congrArg (fun p : PathId => s.paths[p]) (pathOfLane_laneOf i)
  rw [startDatapath, startSegment, hp]
  by_cases h : pcMode s.paths[pathOf i].cfg = 2 ∧ bit s.lanes[laneOf i].bpCfg 36 = false
  · simp only [if_pos h, startTraining_lanes]
    rw [vmod_same]
    rfl
  · simp only [if_neg h]
    exact (startData_lane s i).1

/-- A receiver of a lane that has negotiated starts where it sees signal. -/
def endResolved (l : LaneId) (s : State) (e : Fin 2) : State :=
  if s.lanes[l].ei[e] then s else forward (startDatapath s (sideOf l e)) (sideOf l e)

theorem laneResolved_eq (s : State) (l : LaneId) : laneResolved s l = endResolved l (endResolved l s 0) 1 := by
  simp only [laneResolved, List.foldl_cons, List.foldl_nil, endResolved, endOf_sideOf]
  rfl

theorem endResolved_idle {l : LaneId} {s : State} {e : Fin 2} (h : s.lanes[l].ei[e] = true) : endResolved l s e = s := if_pos h

theorem endResolved_starts {l : LaneId} {s : State} {e : Fin 2} (h : s.lanes[l].ei[e] = false) :
    endResolved l s e = forward (startDatapath s (sideOf l e)) (sideOf l e) := if_neg (Bool.eq_false_iff.mp h)

theorem endResolved_keeps (l : LaneId) (s : State) (e : Fin 2) : LanesKeep negotiated (pathOfLane l) s (endResolved l s e) := by
  cases he : s.lanes[l].ei[e] with
  | true =>
    rw [endResolved_idle he]
    exact LanesKeep.refl s
  | false =>
    rw [endResolved_starts he, ← pathOf_sideOf l e]
    exact (startDatapath_keeps s _).trans (LanesKeep.forward _ _)

theorem endResolved_other {l k : LaneId} (h : k ≠ l) (s : State) (e : Fin 2) : (endResolved l s e).lanes[k] = s.lanes[k] := by
  cases he : s.lanes[l].ei[e] with
  | true => rw [endResolved_idle he]
  | false =>
    rw [endResolved_starts he, forward_lanes]
    exact (startDatapath_only s _).others k (by rwa [laneOf_sideOf])

theorem endResolved_segment (l : LaneId) (s : State) (e : Fin 2) : (endResolved l s e).lanes[l].seg =
    if s.lanes[l].ei[e] then s.lanes[l].seg else vmod s.lanes[l].seg e fun _ => startSegment s l := by
  cases he : s.lanes[l].ei[e] with
  | true => rw [endResolved_idle he, if_pos rfl]
  | false =>
    have h := startDatapath_segment s (sideOf l e)
    simp only [laneOf_sideOf, endOf_sideOf] at h
    rw [endResolved_starts he, forward_lanes, h, if_neg Bool.false_ne_true]

theorem laneResolved_keeps (s : State) (l : LaneId) : LanesKeep negotiated (pathOfLane l) s (laneResolved s l) := by
  rw [laneResolved_eq]
  exact (endResolved_keeps l s 0).trans (endResolved_keeps l _ 1)

theorem laneResolved_other {l k : LaneId} (h : k ≠ l) (s : State) : (laneResolved s l).lanes[k] = s.lanes[k] := by
  rw [laneResolved_eq, endResolved_other h, endResolved_other h]

theorem startSegment_congr {s t : State} {l : LaneId} (hp : t.paths = s.paths) (hn : negotiated t.lanes[l] = negotiated s.lanes[l]) :
    startSegment t l = startSegment s l := by
  have hb : t.lanes[l].bpCfg = s.lanes[l].bpCfg := congrArg (fun x => x.2.2.1) hn
  rw [startSegment, startSegment, hp, hb]

theorem ei_congr {s t : State} {l : LaneId} (hn : negotiated t.lanes[l] = negotiated s.lanes[l]) : t.lanes[l].ei = s.lanes[l].ei :=
  congrArg (fun x => x.2.2.2.1) hn

theorem laneResolved_segment (s : State) (l : LaneId) (e : Fin 2) : (laneResolved s l).lanes[l].seg[e] =
    if s.lanes[l].ei[e] then s.lanes[l].seg[e] else startSegment s l := by
  have hkeeps := endResolved_keeps l s 0
  rw [laneResolved_eq, endResolved_segment, startSegment_congr hkeeps.paths (hkeeps.reads l), ei_congr (hkeeps.reads l),
    endResolved_segment, vmod_unless_both]

/-! ### Auto-negotiation that completes -/

/-- A lane with the FEC that its link's auto-negotiation resolved (R138). -/
def fecSet (fec : Fin 3) (x : Lane) : Lane := { x with anFec := BitVec.ofNat 2 fec.val }

theorem laneOn_of_backplane {s : State} {l : LaneId} (h : backplaneLane s l = true) : laneOn s l = true := by
  simp only [backplaneLane, Bool.and_eq_true] at h
  obtain ⟨⟨_, hon⟩, _⟩ := h
  exact hon

theorem mem_anLanes {s : State} {l : LaneId} (h : laneOn s l = true) : l ∈ anLanes s l := by
  unfold anLanes
  split
  · exact List.mem_filter.mpr ⟨mem_lanesOf.mpr rfl, h⟩
  · exact List.mem_singleton_self l

theorem path_of_anLanes {s : State} {l k : LaneId} (h : k ∈ anLanes s l) : pathOfLane k = pathOfLane l := by
  unfold anLanes at h
  split at h
  · exact mem_lanesOf.mp (List.mem_filter.mp h).1
  · rw [List.mem_singleton.mp h]

theorem anLanes_nodup (s : State) (l : LaneId) : (anLanes s l).Nodup := by
  unfold anLanes
  split
  · exact (lanesOf_nodup _).filter _
  · exact List.nodup_singleton l

theorem anLanes_alone {s : State} {l : LaneId} (h : oneLink s.paths[pathOfLane l].cfg = false) : anLanes s l = [l] :=
  if_neg (Bool.eq_false_iff.mp h)

/-- `s` with the FEC in the lanes that negotiate together. -/
def fecResolved (s : State) (l : LaneId) (fec : Fin 3) : State := (anLanes s l).foldl (fun s k => s.modLane k (fecSet fec)) s

/-- `s` with the lanes that negotiate together in the datapath, where their receivers see signal (R137). -/
def lanesResolved (s : State) (l : LaneId) : State := (anLanes s l).foldl laneResolved s

/-- Nothing but the FEC changes of a lane. -/
theorem fecResolved_keeps (s : State) (l : LaneId) (fec : Fin 3) :
    LanesKeep (fecSet 0) (pathOfLane l) s (fecResolved s l fec) :=
  LanesKeep.foldl (f := fun t k => t.modLane k (fecSet fec)) (fun t _ hk => LanesKeep.modLane (path_of_anLanes hk) t fun _ => rfl) s

theorem fecResolved_fec {s : State} {l : LaneId} (hon : laneOn s l = true) (fec : Fin 3) :
    (fecResolved s l fec).lanes[l].anFec = BitVec.ofNat 2 fec.val := by
  have hset (t : State) (a b : LaneId) : (t.modLane a (fecSet fec)).lanes[b].anFec =
      if b = a then BitVec.ofNat 2 fec.val else t.lanes[b].anFec := by
    by_cases h : b = a
    · subst h
      rw [if_pos rfl, modLane_lane]
      rfl
    · rw [if_neg h, modLane_lane_other h]
  have h := foldl_each (g := fun (t : State) (k : LaneId) => t.lanes[k].anFec) (u := fun _ => BitVec.ofNat 2 fec.val) hset
    (anLanes_nodup s l) s l
  exact h.trans (if_pos (mem_anLanes hon))

theorem lanesResolved_keeps (s : State) (l : LaneId) : LanesKeep negotiated (pathOfLane l) s (lanesResolved s l) :=
  LanesKeep.foldl (fun t k hk => path_of_anLanes hk ▸ laneResolved_keeps t k) s

/-- A receiver with signal starts in the datapath, one without stays (R137). -/
theorem lanesResolved_segment {s : State} {l : LaneId} (hon : laneOn s l = true) (e : Fin 2) :
    (lanesResolved s l).lanes[l].seg[e] = if s.lanes[l].ei[e] then s.lanes[l].seg[e] else startSegment s l := by
  have hsame (t : State) (a : LaneId) (ht : t.paths = s.paths ∧ ∀ k : LaneId, negotiated t.lanes[k] = negotiated s.lanes[k]) :
      (laneResolved t a).paths = s.paths ∧ ∀ k : LaneId, negotiated (laneResolved t a).lanes[k] = negotiated s.lanes[k] :=
    ⟨(laneResolved_keeps t a).paths.trans ht.1, fun k => ((laneResolved_keeps t a).reads k).trans (ht.2 k)⟩
  have hstep (t : State) (a b : LaneId) (ht : t.paths = s.paths ∧ ∀ k : LaneId, negotiated t.lanes[k] = negotiated s.lanes[k]) :
      (laneResolved t a).lanes[b].seg[e] =
        if b = a then (if s.lanes[b].ei[e] then t.lanes[b].seg[e] else startSegment s b) else t.lanes[b].seg[e] := by
    by_cases h : b = a
    · subst h
      rw [if_pos rfl, laneResolved_segment, startSegment_congr ht.1 (ht.2 b), ei_congr (ht.2 b)]
    · rw [if_neg h, laneResolved_other h]
  have h := foldl_each_while (g := fun (t : State) (k : LaneId) => t.lanes[k].seg[e])
    (u := fun k x => if s.lanes[k].ei[e] then x else startSegment s k) hsame hstep (anLanes_nodup s l) ⟨rfl, fun _ => rfl⟩ l
  exact h.trans (if_pos (mem_anLanes hon))

/-- `s` with the lanes that negotiate together resolved (R137, R138). -/
def linkResolved (s : State) (l : LaneId) (fec : Fin 3) : State := lanesResolved (fecResolved s l fec) l

theorem linkResolved_keeps (s : State) (l : LaneId) (fec : Fin 3) :
    LanesKeep (fun x => (x.anTech, x.mismatch)) (pathOfLane l) s (linkResolved s l fec) :=
  ((fecResolved_keeps s l fec).reading fun x => (x.anTech, x.mismatch)).trans
    ((lanesResolved_keeps _ l).reading fun x => (x.1, x.2.1))

section
variable {s : State} {l : LaneId} (hon : laneOn s l = true)
include hon

theorem fecResolved_on (fec : Fin 3) : laneOn (fecResolved s l fec) l = true :=
  (laneOn_congr (by rw [(fecResolved_keeps s l fec).paths])).trans hon

theorem linkResolved_fec (fec : Fin 3) : (linkResolved s l fec).lanes[l].anFec = BitVec.ofNat 2 fec.val := by
  have h := ((lanesResolved_keeps (fecResolved s l fec) l).reading fun x => x.2.2.2.2).reads l
  exact h.trans (fecResolved_fec hon fec)

theorem linkResolved_segment (fec : Fin 3) (e : Fin 2) : (linkResolved s l fec).lanes[l].seg[e] =
    if s.lanes[l].ei[e] then s.lanes[l].seg[e] else startSegment s l := by
  have hkeeps := fecResolved_keeps s l fec
  have hei : (fecResolved s l fec).lanes[l].ei = s.lanes[l].ei := (hkeeps.reading Lane.ei).reads l
  have hseg : (fecResolved s l fec).lanes[l].seg = s.lanes[l].seg := (hkeeps.reading Lane.seg).reads l
  have hcfg : (fecResolved s l fec).lanes[l].bpCfg = s.lanes[l].bpCfg := (hkeeps.reading Lane.bpCfg).reads l
  rw [linkResolved, lanesResolved_segment (fecResolved_on hon fec), hei, hseg, startSegment, hcfg, hkeeps.paths]
  rfl

end

/-! ### AN_COMPLETE -/

/-- A lane with the result of its auto-negotiation (R137). -/
def laneAnswered (tech : Fin 7) (fec : Fin 3) (x : Lane) : Lane :=
  { x with anTech := BitVec.ofNat 3 tech.val, anFec := BitVec.ofNat 2 fec.val }

/-- A lane that waits for pages after a mismatch (R138). -/
def laneMismatched (x : Lane) : Lane := { x with mismatch := true }

/-- `s` with a lane idled by a mismatch (R138). -/
def mismatched (s : State) (l : LaneId) : State :=
  ((s.modLane l laneMismatched).modSide (sideOf l 0) txIdled).modSide (sideOf l 1) txIdled

theorem modLane_modLane (s : State) (l : LaneId) (f g : Lane → Lane) : (s.modLane l f).modLane l g = s.modLane l fun x => g (f x) := by
  simp [State.modLane, vmod]

section
variable {s : State} {l : LaneId} {tech : Fin 7} {fec : Fin 3} (hb : backplaneLane s l = true) (hoff : s.lanes[l].bpCfg.getLsbD 37 = false)
  (hseg : s.lanes[l].seg[(0 : Fin 2)] = 1 ∨ s.lanes[l].seg[(1 : Fin 2)] = 1) (hw : anWaits s l = false)
include hb hoff hseg hw

theorem exec_anComplete : exec (.anComplete l tech fec) s = done s (
    if tech.val ≠ wantedTech s.paths[pathOfLane l].cfg then
      raise (mismatched (s.modLane l (laneAnswered tech fec)) l) 0x0212 [by1 l.val, by1 tech.val]
    else linkResolved (if (fec.val != 0) == pcFec s.paths[pathOfLane l].cfg then s.modLane l (laneAnswered tech fec)
      else raise (s.modLane l (laneAnswered tech fec)) 0x0213 [by1 l.val, by1 fec.val]) l fec) := by
  have hno : ¬(backplaneLane s l = false ∨ bit s.lanes[l].bpCfg 37 = true ∨
      (s.lanes[l].seg[(0 : Fin 2)] ≠ 1 ∧ s.lanes[l].seg[(1 : Fin 2)] ≠ 1) ∨ anWaits s l = true) := by
    rw [hb, bit_eq_getLsbD, hoff, hw]
    rintro (h | h | ⟨h0, h1⟩ | h)
    · cases h
    · cases h
    · exact hseg.elim h0 h1
    · cases h
  exact congrArg (done s) (if_neg hno)

/-- Another technology idles the lane (R138). -/
theorem anComplete_mismatches (htech : tech.val ≠ wantedTech s.paths[pathOfLane l].cfg) :
    Reports (.anComplete l tech fec) s 0x0212 [BitVec.ofNat 8 l.val, BitVec.ofNat 8 tech.val] [.lanes, .sides] fun t =>
      t.lanes = (vmod s.lanes l fun x => laneMismatched (laneAnswered tech fec x)) ∧
      t.sides[sideOf l 0] = txIdled s.sides[sideOf l 0] ∧ t.sides[sideOf l 1] = txIdled s.sides[sideOf l 1] ∧
      ∀ i : SideId, laneOf i ≠ l → t.sides[i] = s.sides[i] := by
  have hx := exec_anComplete hb hoff hseg hw (tech := tech) (fec := fec)
  rw [if_pos htech, mismatched, modLane_modLane] at hx
  have hside (j : SideId) := modSides_of_lane (s.modLane l fun x => laneMismatched (laneAnswered tech fec x)) l
    (show (0 : Fin 2) ≠ 1 by decide) txIdled txIdled j
  simp only [ite_self] at hside
  refine reports_of hx (fun q hq => ?_) rfl ⟨?_, ?_, ?_, fun i hi => ?_⟩
  · cases q
    case lanes | sides => exact absurd (by decide) hq
    all_goals rfl
  · rw [settle_lanes, raise_lanes]
    rfl
  · rw [settle_sides, raise_sides, hside, if_pos (laneOf_sideOf l 0)]
    rfl
  · rw [settle_sides, raise_sides, hside, if_pos (laneOf_sideOf l 1)]
    rfl
  · rw [settle_sides, raise_sides, hside, if_neg hi]
    rfl

/-- The configured technology with the configured FEC takes each receiver with signal into the datapath (R137). -/
theorem anComplete_resolves (htech : tech.val = wantedTech s.paths[pathOfLane l].cfg)
    (hfec : (fec.val != 0) = pcFec s.paths[pathOfLane l].cfg) : Does (.anComplete l tech fec) s [.lanes, .sides, .free] fun t =>
      t.lanes[l].anTech = BitVec.ofNat 3 tech.val ∧ t.lanes[l].anFec = BitVec.ofNat 2 fec.val ∧
      t.lanes[l].mismatch = s.lanes[l].mismatch ∧
      (∀ e : Fin 2, t.lanes[l].seg[e] = if s.lanes[l].ei[e] then s.lanes[l].seg[e] else startSegment s l) ∧
      ∀ k : LaneId, pathOfLane k ≠ pathOfLane l → t.lanes[k] = s.lanes[k] := by
  have hx := exec_anComplete hb hoff hseg hw (tech := tech) (fec := fec)
  rw [if_neg (not_not_intro htech), if_pos (beq_iff_eq.mpr hfec)] at hx
  have hon : laneOn (s.modLane l (laneAnswered tech fec)) l = true := laneOn_of_backplane hb
  have hlane : (s.modLane l (laneAnswered tech fec)).lanes[l] = laneAnswered tech fec s.lanes[l] := modLane_lane s l _
  have hkeeps := linkResolved_keeps (s.modLane l (laneAnswered tech fec)) l fec
  have hreads := hkeeps.reads l
  rw [hlane] at hreads
  refine does_of hx (fun q hq => ?_) ⟨congrArg Prod.fst hreads, linkResolved_fec hon fec, congrArg Prod.snd hreads, fun e => ?_,
    fun k hk => (hkeeps.others k hk).trans (modLane_lane_other fun h => hk (by rw [h]))⟩
  · exact Part.untouched_trans (Part.untouched_modLane s l _ fun e => hq (by simp [e])) (hkeeps.untouched hq)
  · rw [settle_lanes, linkResolved_segment hon fec e, startSegment, hlane]
    rfl

/-- Another FEC is reported, and the lane goes on (R138). -/
theorem anComplete_reports (htech : tech.val = wantedTech s.paths[pathOfLane l].cfg)
    (hfec : (fec.val != 0) ≠ pcFec s.paths[pathOfLane l].cfg) :
    Reports (.anComplete l tech fec) s 0x0213 [BitVec.ofNat 8 l.val, BitVec.ofNat 8 fec.val] [.lanes, .sides, .free] fun t =>
      t.lanes[l].anFec = BitVec.ofNat 2 fec.val := by
  have hx := exec_anComplete hb hoff hseg hw (tech := tech) (fec := fec)
  rw [if_neg (not_not_intro htech), if_neg (mt beq_iff_eq.mp hfec)] at hx
  have hon : laneOn (raise (s.modLane l (laneAnswered tech fec)) 0x0213 [by1 l.val, by1 fec.val]) l = true :=
    (laneOn_congr (by rw [raise_paths]; rfl)).trans (laneOn_of_backplane hb)
  exact reports_then (u := s.modLane l (laneAnswered tech fec)) hx
    (fun q hq => Part.untouched_modLane s l _ fun e => hq (by simp [e])) rfl (fun q hq => (linkResolved_keeps _ l fec).untouched hq)
    (by decide) (by decide) (linkResolved_fec hon fec)

end

/-! ### Negotiating again -/

/-- A lane with both segments in detect and BP_CFG as its path now has it (R136, R143, R153). -/
def laneRestarted (cfg : R40) (x : Lane) : Lane := { x with
  seg := Vector.replicate 2 0, rr := Vector.replicate 2 false, align := Vector.replicate 2 false, rrSent := false
  reqDone := Vector.replicate 2 false, bpCfg := cfg, mismatch := false }

/-- A lane whose receiver at an end negotiates if it sees signal. -/
def endNegotiates (e : Fin 2) (x : Lane) : Lane := if x.ei[e] then x else { x with seg := vmod x.seg e fun _ => 1 }

/-- A lane both of whose receivers negotiate if they see signal. -/
def laneNegotiates (x : Lane) : Lane := endNegotiates 1 (endNegotiates 0 x)

/-- `s` with both sides of a lane changed alike. -/
def bothSides (f : Side → Side) (s : State) (l : LaneId) : State := [sideOf l 0, sideOf l 1].foldl (fun s i => s.modSide i f) s

/-- `s` with the receivers of a lane that see signal in auto-negotiation. -/
def endsNegotiate (s : State) (l : LaneId) : State :=
  ([sideOf l 0, sideOf l 1].filter fun i => !s.lanes[l].ei[endOf i]).foldl (fun s i =>
    s.modLane l fun x => { x with seg := vmod x.seg (endOf i) fun _ => 1 }) s

/-- `s` with a lane's transmitters in electrical idle behind lane 0, or forwarding what its receivers see. -/
def pagesSent (s : State) (l : LaneId) : State :=
  if anWaits s l then bothSides txIdled s l else [sideOf l 0, sideOf l 1].foldl forward s

theorem modLane_fixed {s : State} {l : LaneId} {f : Lane → Lane} (h : f s.lanes[l] = s.lanes[l]) : s.modLane l f = s := by
  rw [State.modLane, vmod_fixed h]

theorem modLane_congr {s : State} {l : LaneId} {f g : Lane → Lane} (h : f s.lanes[l] = g s.lanes[l]) : s.modLane l f = s.modLane l g := by
  rw [State.modLane, State.modLane, vmod_congr h]

theorem endNegotiates_eq (e : Fin 2) (x : Lane) :
    endNegotiates e x = { x with seg := if x.ei[e] then x.seg else vmod x.seg e fun _ => 1 } := by
  unfold endNegotiates
  split <;> rfl

theorem endNegotiates_ei (e : Fin 2) (x : Lane) : (endNegotiates e x).ei = x.ei := by
  rw [endNegotiates_eq]

theorem endsNegotiate_eq (s : State) (l : LaneId) : endsNegotiate s l = s.modLane l laneNegotiates := by
  have hend (t : State) (e : Fin 2) (ht : t.lanes[l].ei = s.lanes[l].ei) :
      (if (!s.lanes[l].ei[endOf (sideOf l e)]) = true then
        t.modLane l fun x => { x with seg := vmod x.seg (endOf (sideOf l e)) fun _ => 1 } else t) = t.modLane l (endNegotiates e) := by
    simp only [endOf_sideOf, ← ht]
    cases he : t.lanes[l].ei[e] with
    | true => exact (modLane_fixed (f := endNegotiates e) (if_pos he)).symm
    | false => exact modLane_congr (if_neg (Bool.eq_false_iff.mp he)).symm
  have hei : (s.modLane l (endNegotiates 0)).lanes[l].ei = s.lanes[l].ei := by rw [modLane_lane, endNegotiates_ei]
  rw [endsNegotiate, List.foldl_filter, List.foldl_cons, List.foldl_cons, List.foldl_nil, hend s 0 rfl, hend _ 1 hei, modLane_modLane]
  rfl

theorem negotiateAgain_eq {s : State} {l : LaneId} (h : s.paths[pathOfLane l].bpCfg.getLsbD 37 = false) : negotiateAgain s l =
    pagesSent (endsNegotiate (bothSides (fun x => endRequests (leaveData x))
      (s.modLane l (laneRestarted s.paths[pathOfLane l].bpCfg)) l) l) l := by
  have hoff : bit s.paths[pathOfLane l].bpCfg 37 = false := (bit_eq_getLsbD _ _).trans h
  unfold negotiateAgain
  simp only [hoff, Bool.false_eq_true, if_false]
  rfl

/-- `t` is `s` but for the sides. -/
def SidesOnly (s t : State) : Prop := t = { s with sides := t.sides }

theorem SidesOnly.trans {s t u : State} (h : SidesOnly s t) (k : SidesOnly t u) : SidesOnly s u := by
  unfold SidesOnly at *
  rw [h] at k
  exact k

theorem SidesOnly.forward (s : State) (i : SideId) : SidesOnly s (forward s i) := by
  unfold Machine.forward
  split <;> rfl

theorem pagesSent_only (s : State) (l : LaneId) : SidesOnly s (pagesSent s l) := by
  unfold pagesSent
  split
  · rfl
  · exact (SidesOnly.forward s _).trans (SidesOnly.forward _ _)

/-- A lane that negotiates again changes as the lane does, and the sides (R136). -/
theorem negotiateAgain_only {s : State} {l : LaneId} (h : s.paths[pathOfLane l].bpCfg.getLsbD 37 = false) :
    SidesOnly (s.modLane l fun x => laneNegotiates (laneRestarted s.paths[pathOfLane l].bpCfg x)) (negotiateAgain s l) := by
  rw [negotiateAgain_eq h, endsNegotiate_eq]
  refine SidesOnly.trans ?_ (pagesSent_only _ l)
  rw [← modLane_modLane]
  rfl

/-- Each receiver of a restarted lane stands in auto-negotiation where it sees signal, else in detect. -/
theorem laneNegotiates_restarted (cfg : R40) (x : Lane) : laneNegotiates (laneRestarted cfg x) = { x with
    seg := Vector.ofFn fun e : Fin 2 => if x.ei[e] then 0 else 1
    rr := Vector.replicate 2 false, align := Vector.replicate 2 false, rrSent := false
    reqDone := Vector.replicate 2 false, bpCfg := cfg, mismatch := false } := by
  have hseg : (laneNegotiates (laneRestarted cfg x)).seg = Vector.ofFn fun e : Fin 2 => if x.ei[e] then 0 else 1 := by
    refine Vector.ext fun k hk => ?_
    have hread : (laneNegotiates (laneRestarted cfg x)).seg[(⟨k, hk⟩ : Fin 2)] = if x.ei[(⟨k, hk⟩ : Fin 2)] then 0 else 1 := by
      rw [laneNegotiates, endNegotiates_eq 1, endNegotiates_eq 0]
      refine (vmod_unless_both x.ei (Vector.replicate 2 0) 1 ⟨k, hk⟩).trans ?_
      rw [Fin.getElem_fin (Vector.replicate 2 0), Vector.getElem_replicate]
    rw [Vector.getElem_ofFn]
    exact hread
  rw [← hseg, laneNegotiates, endNegotiates_eq 1, endNegotiates_eq 0]
  rfl

theorem negotiateAgain_lanes {s : State} {l : LaneId} (h : s.paths[pathOfLane l].bpCfg.getLsbD 37 = false) :
    (negotiateAgain s l).lanes = vmod s.lanes l fun _ => laneNegotiates (laneRestarted s.paths[pathOfLane l].bpCfg s.lanes[l]) := by
  rw [negotiateAgain_only h]
  exact vmod_congr (f := fun x => laneNegotiates (laneRestarted s.paths[pathOfLane l].bpCfg x)) rfl

theorem SidesOnly.untouched {s t : State} (h : SidesOnly s t) {q : Part} (hq : q ≠ .sides) : q.untouched s t := by
  rw [h]
  cases q
  case sides => exact absurd rfl hq
  all_goals rfl

theorem negotiateAgain_untouched {s : State} {l : LaneId} (h : s.paths[pathOfLane l].bpCfg.getLsbD 37 = false) {q : Part}
    (hq : q ∉ [Part.lanes, .sides]) : q.untouched s (negotiateAgain s l) :=
  Part.untouched_trans (Part.untouched_modLane s l _ fun e => hq (by simp [e]))
    ((negotiateAgain_only h).untouched fun e => hq (by simp [e]))

theorem SidesOnly.view {s t : State} (h : SidesOnly s t) : eventView t = eventView s := by
  rw [h]
  rfl

/-! ### Training again -/

/-- A lane that takes its path's BP_CFG where auto-negotiation is off (R153). -/
def cfgTaken (cfg : R40) (x : Lane) : Lane := if bit x.bpCfg 37 then { x with bpCfg := cfg } else x

theorem cfgTaken_keeps (cfg : R40) (x : Lane) : (cfgTaken cfg x).ei = x.ei ∧ (cfgTaken cfg x).seg = x.seg := by
  unfold cfgTaken
  split <;> exact ⟨rfl, rfl⟩

/-- A lane whose receiver at an end trains if it sees signal. -/
def endTrains (e : Fin 2) (x : Lane) : Lane := if x.ei[e] then x else laneTrains e x

/-- A lane both of whose receivers train if they see signal. -/
def endsTrain (x : Lane) : Lane := endTrains 1 (endTrains 0 x)

/-- `s` with the receivers of a lane that see signal in training. -/
def trainedAgain (s : State) (l : LaneId) : State :=
  ([sideOf l 0, sideOf l 1].filter fun i => !s.lanes[l].ei[endOf i]).foldl startTraining s

theorem endTrains_eq (e : Fin 2) (x : Lane) : endTrains e x = { x with
    seg := if x.ei[e] then x.seg else vmod x.seg e fun _ => 2, rr := if x.ei[e] then x.rr else vmod x.rr e fun _ => false
    reqDone := if x.ei[e] then x.reqDone else vmod x.reqDone e fun _ => false
    align := if x.ei[e] then x.align else vmod x.align e fun _ => false, rrSent := if x.ei[e] then x.rrSent else false } := by
  unfold endTrains
  split <;> rfl

/-- `t` is `s` but for the sides, one lane's change, which leaves what it negotiated, and no open value is used. -/
structure LaneChanged (l : LaneId) (f : Lane → Lane) (s t : State) : Prop where
  keeps : LanesKeep negotiated (pathOfLane l) s t
  free : t.free = s.free
  lanes : t.lanes = vmod s.lanes l f

theorem trainedAgain_changed (s : State) (l : LaneId) : LaneChanged l endsTrain s (trainedAgain s l) := by
  have hend (t : State) (e : Fin 2) (ht : t.lanes[l].ei = s.lanes[l].ei) : LaneChanged l (endTrains e) t
      (if (!s.lanes[l].ei[endOf (sideOf l e)]) = true then startTraining t (sideOf l e) else t) := by
    simp only [endOf_sideOf, ← ht]
    cases he : t.lanes[l].ei[e] with
    | true => exact ⟨LanesKeep.refl t, rfl, (vmod_fixed (f := endTrains e) (if_pos he)).symm⟩
    | false =>
      have hlanes := startTraining_lanes t (sideOf l e)
      rw [laneOf_sideOf, endOf_sideOf] at hlanes
      have hkeeps := startTraining_keeps t (sideOf l e)
      rw [pathOf_sideOf] at hkeeps
      exact ⟨hkeeps, rfl, hlanes.trans (vmod_congr (if_neg (Bool.eq_false_iff.mp he)).symm)⟩
  rw [trainedAgain, List.foldl_filter, List.foldl_cons, List.foldl_cons, List.foldl_nil]
  have h0 := hend s 0 rfl
  have h1 := hend _ 1 (ei_congr (h0.keeps.reads l))
  refine ⟨h0.keeps.trans h1.keeps, h1.free.trans h0.free, ?_⟩
  rw [h1.lanes, h0.lanes]
  exact congrArg State.lanes (modLane_modLane s l (endTrains 0) (endTrains 1))

theorem endsTrain_reads (x : Lane) (e : Fin 2) : if x.ei[e] then (endsTrain x).seg[e] = x.seg[e]
    else (endsTrain x).seg[e] = 2 ∧ (endsTrain x).rr[e] = false ∧ (endsTrain x).reqDone[e] = false := by
  have hseg : (endsTrain x).seg[e] = if x.ei[e] then x.seg[e] else 2 := by
    rw [endsTrain, endTrains_eq 1, endTrains_eq 0]
    exact vmod_unless_both x.ei x.seg 2 e
  have hrr : (endsTrain x).rr[e] = if x.ei[e] then x.rr[e] else false := by
    rw [endsTrain, endTrains_eq 1, endTrains_eq 0]
    exact vmod_unless_both x.ei x.rr false e
  have hdone : (endsTrain x).reqDone[e] = if x.ei[e] then x.reqDone[e] else false := by
    rw [endsTrain, endTrains_eq 1, endTrains_eq 0]
    exact vmod_unless_both x.ei x.reqDone false e
  rw [hseg, hrr, hdone]
  cases x.ei[e] with
  | true => exact if_pos rfl
  | false => exact ⟨rfl, rfl, rfl⟩

theorem endsTrain_rrSent {x : Lane} {e : Fin 2} (h : x.ei[e] = false) : (endsTrain x).rrSent = false := by
  rw [endsTrain, endTrains_eq 1, endTrains_eq 0]
  have he : e = 0 ∨ e = 1 := by omega
  rcases he with rfl | rfl
  · simp only [h, Bool.false_eq_true, if_false, ite_self]
  · simp only [h, Bool.false_eq_true, if_false]

/-! ### Pages and restarts -/

section
variable {s : State} {i : SideId} (hb : backplaneLane s (laneOf i) = true)
include hb

omit hb in
theorem anPagesReceived_nothing (h : s.lanes[laneOf i].mismatch = false) : Does (.anPagesReceived i) s [] fun _ => True :=
  does_nothing (congrArg (done s) (if_pos (Or.inr h)))

/-- Pages after a mismatch start auto-negotiation again (R138). -/
theorem anPagesReceived_restarts {again : Lane} (hone : oneLink s.paths[pathOfLane (laneOf i)].cfg = false)
    (hoff : s.paths[pathOfLane (laneOf i)].bpCfg.getLsbD 37 = false) (h : s.lanes[laneOf i].mismatch = true)
    (hagain : again = laneNegotiates (laneRestarted s.paths[pathOfLane (laneOf i)].bpCfg s.lanes[laneOf i])) :
    Does (.anPagesReceived i) s [.lanes, .sides] fun t => t.lanes = vmod s.lanes (laneOf i) fun _ => again := by
  have hno : ¬(backplaneLane s (laneOf i) = false ∨ s.lanes[laneOf i].mismatch = false) := by
    rw [hb, h]
    decide
  have hx : exec (.anPagesReceived i) s = done s ((anLanes s (laneOf i)).foldl negotiateAgain s) := congrArg (done s) (if_neg hno)
  rw [anLanes_alone hone] at hx
  exact does_of (v := negotiateAgain s (laneOf i)) hx (fun _ hq => negotiateAgain_untouched hoff hq)
    (hagain ▸ negotiateAgain_lanes hoff)

variable (hei : s.lanes[laneOf i].ei[endOf i] = false)
  (hseg : s.lanes[laneOf i].seg[(0 : Fin 2)] = 4 ∨ s.lanes[laneOf i].seg[(1 : Fin 2)] = 4) (htest : underTest s.sides[i] = false)
include hei hseg htest

theorem exec_krRestart (dme : Bool) : exec (.krRestart i dme) s = done s (
    if dme then
      (if bit s.lanes[laneOf i].bpCfg 37 then s
       else raise ((anLanes s (laneOf i)).foldl negotiateAgain s) 0x0215 [by1 i.val])
    else if pcMode s.paths[pathOf i].cfg ≠ 2 ∨ bit s.lanes[laneOf i].bpCfg 36 = true then s
    else raise (trainedAgain (s.modLane (laneOf i) (cfgTaken s.paths[pathOf i].bpCfg)) (laneOf i)) 0x0215 [by1 i.val]) := by
  have hno : ¬(backplaneLane s (laneOf i) = false ∨ s.lanes[laneOf i].ei[endOf i] = true ∨
      (s.lanes[laneOf i].seg[(0 : Fin 2)] ≠ 4 ∧ s.lanes[laneOf i].seg[(1 : Fin 2)] ≠ 4) ∨ underTest s.sides[i] = true) := by
    rw [hb, hei, htest]
    rintro (h | h | ⟨h0, h1⟩ | h)
    · cases h
    · cases h
    · exact hseg.elim h0 h1
    · cases h
  have hcfg : (if bit s.lanes[laneOf i].bpCfg 37 then s.modLane (laneOf i) fun x => { x with bpCfg := s.paths[pathOf i].bpCfg } else s) =
      s.modLane (laneOf i) (cfgTaken s.paths[pathOf i].bpCfg) := by
    by_cases h : bit s.lanes[laneOf i].bpCfg 37 = true
    · rw [if_pos h]
      exact modLane_congr (if_pos h).symm
    · rw [if_neg h]
      exact (modLane_fixed (f := cfgTaken s.paths[pathOf i].bpCfg) (if_neg h)).symm
  rw [← hcfg]
  exact congrArg (done s) (if_neg hno)

/-- Pages after data start auto-negotiation again (R143). -/
theorem krRestart_negotiates {again : Lane} (hone : oneLink s.paths[pathOfLane (laneOf i)].cfg = false)
    (hoff : s.paths[pathOfLane (laneOf i)].bpCfg.getLsbD 37 = false) (hon : s.lanes[laneOf i].bpCfg.getLsbD 37 = false)
    (hagain : again = laneNegotiates (laneRestarted s.paths[pathOfLane (laneOf i)].bpCfg s.lanes[laneOf i])) :
    Reports (.krRestart i true) s 0x0215 [BitVec.ofNat 8 i.val] [.lanes, .sides] fun t =>
      t.lanes = vmod s.lanes (laneOf i) fun _ => again := by
  have hx := exec_krRestart hb hei hseg htest true
  rw [if_pos rfl, if_neg (by rw [bit_eq_getLsbD, hon]; decide), anLanes_alone hone] at hx
  refine reports_of (u := negotiateAgain s (laneOf i)) hx (fun _ hq => negotiateAgain_untouched hoff hq)
    (negotiateAgain_only hoff).view ?_
  rw [settle_lanes, raise_lanes, hagain]
  exact negotiateAgain_lanes hoff

/-- Training frames after data train each receiver with signal again (R143). -/
theorem krRestart_trains (hmode : pcMode s.paths[pathOf i].cfg = 2) (htrain : s.lanes[laneOf i].bpCfg.getLsbD 36 = false) :
    Reports (.krRestart i false) s 0x0215 [BitVec.ofNat 8 i.val] [.lanes, .sides] fun t =>
      (∀ e : Fin 2, if s.lanes[laneOf i].ei[e] then t.lanes[laneOf i].seg[e] = s.lanes[laneOf i].seg[e]
        else t.lanes[laneOf i].seg[e] = 2 ∧ t.lanes[laneOf i].rr[e] = false ∧ t.lanes[laneOf i].reqDone[e] = false) ∧
      t.lanes[laneOf i].rrSent = false ∧ ∀ k : LaneId, k ≠ laneOf i → t.lanes[k] = s.lanes[k] := by
  have hno : ¬(pcMode s.paths[pathOf i].cfg ≠ 2 ∨ bit s.lanes[laneOf i].bpCfg 36 = true) := by
    rw [hmode, bit_eq_getLsbD, htrain]
    decide
  have hx := exec_krRestart hb hei hseg htest false
  rw [if_neg Bool.false_ne_true, if_neg hno] at hx
  have hchanged := trainedAgain_changed (s.modLane (laneOf i) (cfgTaken s.paths[pathOf i].bpCfg)) (laneOf i)
  have hlanes : (trainedAgain (s.modLane (laneOf i) (cfgTaken s.paths[pathOf i].bpCfg)) (laneOf i)).lanes =
      vmod s.lanes (laneOf i) fun x => endsTrain (cfgTaken s.paths[pathOf i].bpCfg x) :=
    hchanged.lanes.trans (congrArg State.lanes (modLane_modLane s (laneOf i) (cfgTaken s.paths[pathOf i].bpCfg) endsTrain))
  obtain ⟨hcei, hcseg⟩ := cfgTaken_keeps s.paths[pathOf i].bpCfg s.lanes[laneOf i]
  refine reports_of hx (fun q hq => ?_) hchanged.keeps.view ?_
  · exact Part.untouched_trans (Part.untouched_modLane s _ _ fun e => hq (by simp [e]))
      (hchanged.keeps.untouched_silent hchanged.free hq)
  · rw [settle_lanes, raise_lanes, hlanes, vmod_same]
    refine ⟨fun e => ?_, endsTrain_rrSent (e := endOf i) (by rw [hcei, hei]), fun k hk => vmod_get_other _ _ _ _ hk.symm⟩
    have h := endsTrain_reads (cfgTaken s.paths[pathOf i].bpCfg s.lanes[laneOf i]) e
    rwa [hcei, hcseg] at h

end

/-- Settles O54: auto-negotiation that completes by what it resolved, and pages and frames that come again by what restarts of each lane. -/
theorem backplaneLanesNegotiate : Obligations.BackplaneLanesNegotiate := by
  unfold Obligations.BackplaneLanesNegotiate
  intro s l hb
  refine ⟨fun tech fec hoff hseg hw =>
      ⟨anComplete_mismatches hb hoff hseg hw, fun htech hfec => ?_, anComplete_reports hb hoff hseg hw⟩,
    fun i hi hmis => ?_, fun i again hi hone hoff hagain => ⟨fun hmis => ?_, fun hei hseg htest hon => ?_⟩,
    fun i hi hei hseg htest hmode htrain => ?_⟩
  · obtain ⟨t, hx, ⟨htech', hfec', hmis, hseg', hothers⟩, hkept⟩ := anComplete_resolves hb hoff hseg hw htech hfec
    refine ⟨t, hx, ⟨htech', hfec', hmis, fun e he => ?_, fun e he => ?_, hothers⟩, hkept⟩
    · rw [hseg', if_pos he]
    · rw [hseg', if_neg (Bool.eq_false_iff.mp he), startSegment, bit_eq_getLsbD]
  · subst hi
    exact anPagesReceived_nothing hmis
  · subst hi
    exact anPagesReceived_restarts hb hone hoff hmis (hagain.trans (laneNegotiates_restarted _ _).symm)
  · subst hi
    exact krRestart_negotiates hb hei hseg htest hone hoff hon (hagain.trans (laneNegotiates_restarted _ _).symm)
  · subst hi
    have hpath : s.paths[pathOfLane (laneOf i)] = s.paths[pathOf i] := congrArg (fun p : PathId => s.paths[p]) (pathOfLane_laneOf i)
    exact krRestart_trains hb hei hseg htest (hpath ▸ hmode) htrain

end Sys2Proof.Machine
end

section
/-! Path lines: CAL, KERF and SWEEP lines, PIN_MEAS lines, PATTERN and LOOP lines (R147, R177 to R182, R186, R394, R452 to R455). -/

namespace Sys2Proof.Machine

/-! ### Lines that are empty, or change one side -/

/-- A line whose action leaves everything as it was. -/
theorem begins_empty {c : Instr} {s u : State} {tbl : Fin 9} {idx : Nat} (hx : exec c s = done s (lineBegun u tbl idx)) :
    Begins c s u tbl idx [] fun _ => True :=
  begins_of hx trivial List.not_mem_nil fun q _ => q.untouched_refl _

/-- A line whose action changes the sides alone. -/
theorem begins_sides {c : Instr} {s u v : State} {tbl : Fin 9} {idx : Nat} {P : State → Prop} (hx : exec c s = done s v)
    (hv : v = { lineBegun u tbl idx with sides := v.sides }) (hP : P (settle s v)) : Begins c s u tbl idx [.sides] P := by
  refine begins_of hx hP (by decide) fun q hq => ?_
  rw [hv]
  cases q
  case sides => exact absurd (by decide) hq
  all_goals rfl

/-! ### CAL and KERF lines -/

/-- A side with the counts of a CAL line (R186). -/
def calCounted (c : SideCount) (x : Side) : Side := { x with
  measUi := x.measUi + c.compared, measErr := x.measErr + c.errors, measErr1 := x.measErr1 + c.errors1 }

section
variable {s u : State} {p : PathId} {idx : Nat} {l : Line} {c : SideCount}

theorem exec_calLine (hb : LineBegins s u (pathTable p) idx 0x60 l) : exec (.calLine p idx [c]) s = done s (
    if reaches u p l c.side && inData u c.side && !sweepHolds u c.side then
      if u.sides[c.side].margin.isSome then countMargin (lineBegun u (pathTable p) idx) c
      else (lineBegun u (pathTable p) idx).modSide c.side (calCounted c)
    else lineBegun u (pathTable p) idx) :=
  congrArg (done s) (startLine_begins hb (calCounts p [c]))

theorem calLine_counts (hb : LineBegins s u (pathTable p) idx 0x60 l) (hr : reaches u p l c.side = true) (hd : inData u c.side = true)
    (hs : sweepHolds u c.side = false) (hm : u.sides[c.side].margin = none) :
    Begins (.calLine p idx [c]) s u (pathTable p) idx [.sides] fun t => t.sides = vmod u.sides c.side (calCounted c) := by
  have hx := exec_calLine hb (c := c)
  rw [hr, hd, hs, hm] at hx
  exact begins_sides (v := (lineBegun u (pathTable p) idx).modSide c.side (calCounted c)) hx rfl rfl

theorem calLine_empty (hb : LineBegins s u (pathTable p) idx 0x60 l)
    (h : reaches u p l c.side = false ∨ inData u c.side = false ∨ sweepHolds u c.side = true) :
    Begins (.calLine p idx [c]) s u (pathTable p) idx [] fun _ => True := by
  have hno : ¬(reaches u p l c.side && inData u c.side && !sweepHolds u c.side) = true := by
    simp only [Bool.and_eq_true, Bool.not_eq_true']
    rintro ⟨⟨hr, hd⟩, hs⟩
    rw [hr, hd, hs] at h
    rcases h with h | h | h <;> cases h
  have hx := exec_calLine hb (c := c)
  rw [if_neg hno] at hx
  exact begins_empty hx

theorem kerfLine_empty (hb : LineBegins s u (pathTable p) idx 0x61 l) : Begins (.kerfLine p idx) s u (pathTable p) idx [] fun _ => True :=
  begins_empty (congrArg (done s) (startLine_begins hb fun _ s => s))

/-! ### SWEEP lines -/

theorem lineAt_before {t : Fin 9} {action : Nat} (hb : LineBegins s u t idx action l) : lineAt s t.val idx = some l := by
  have hat := lineAt_of_begins hb
  obtain ⟨_, _, _, hu, _⟩ := hb
  have hseq : u.seq = s.seq := by rw [hu, elapseTo_seq]
  rwa [lineAt, hseq] at hat

/-- No entry of a line that begins has had its action missed. -/
theorem begun_acts {t : Fin 9} {action : Nat} (hb : LineBegins s u t idx action l) :
    ((lineBegun u t idx).seq.running.any fun r => r.table == t && r.idx == idx && !r.acts) = false := by
  obtain ⟨_, _, hrun, hu, _⟩ := hb
  have hseq : u.seq = s.seq := by rw [hu, elapseTo_seq]
  have hnone : (u.seq.running.any fun r => r.table == t && r.idx == idx && !r.acts) = false := by
    rw [hseq, List.any_eq_false]
    intro r hr h
    rw [Bool.and_eq_true] at h
    exact List.any_eq_false.mp hrun r hr h.1
  have hpush : (lineBegun u t idx).seq.running = u.seq.running ++ [{ table := t, idx, tokens := true, acts := true }] := rfl
  rw [hpush, List.any_append, hnone, Bool.false_or, List.any_cons, List.any_nil]
  simp only [Bool.not_true, Bool.and_false, Bool.or_self]

/-- A SWEEP line that begins flags no point as missed (R182). -/
theorem exec_sweepLine (hb : LineBegins s u (pathTable p) idx 0x62 l) {counts : List SideCount} {v : State}
    (hv : sweepCounts p counts l (lineBegun u (pathTable p) idx) = v) (hseq : v.seq = (lineBegun u (pathTable p) idx).seq) :
    exec (.sweepLine p idx counts) s = done s v := by
  have hstart := (startLine_begins hb (sweepCounts p counts)).trans hv
  have hacts := begun_acts hb
  rw [← hseq] at hacts
  refine congrArg (done s) ?_
  rw [hstart, lineAt_before hb]
  dsimp only
  rw [hacts, Bool.and_false]
  exact if_neg Bool.false_ne_true

theorem satAdd_zero {w : Nat} (n : Nat) : satAdd (0 : BitVec w) n = BitVec.ofNat w (min n (2 ^ w - 1)) := by
  simp [satAdd]

/-- The cell that a point's first counts on a side make (R182). -/
def firstCell (k : Nat) (c : SideCount) : SweepCell :=
  { point := k, side := c.side, compared := BitVec.ofNat 40 (min c.compared (2 ^ 40 - 1))
    errors := BitVec.ofNat 40 (min c.errors (2 ^ 40 - 1)) }

theorem addCount_first {v : State} (h : v.sweep.cells = []) (k : Nat) (c : SideCount) :
    addCount v k c = v.modSweep fun w => { w with cells := [firstCell k c] } := by
  simp only [addCount, State.modSweep, h, satAdd_zero]
  rfl

theorem sweepLine_counts {k : Nat} (hb : LineBegins s u (pathTable p) idx 0x62 l) (ho : l.operand = 0xFFFF) (hst : u.sweep.st = 3)
    (hk : u.sweep.point = some k) (hmoved : u.sweep.moved = true) (hcells : u.sweep.cells = []) (hr : reaches u p l c.side = true)
    (hplan : u.sweep.masks[pathOf c.side].getLsbD (c.side.val % 8) = true) :
    Begins (.sweepLine p idx [c]) s u (pathTable p) idx [.sweep] fun t => t.sweep = { u.sweep with cells := [firstCell k c] } := by
  have hpoint : sweepPoint (lineBegun u (pathTable p) idx) l = some k := by
    rw [sweepPoint, if_pos ho]
    exact (if_pos hst).trans hk
  have hreach : reaches (lineBegun u (pathTable p) idx) p l c.side = true := hr
  have hin : bit (lineBegun u (pathTable p) idx).sweep.masks[pathOf c.side] (c.side.val % 8) = true := (bit_eq_getLsbD _ _).trans hplan
  have hv : sweepCounts p [c] l (lineBegun u (pathTable p) idx) =
      (lineBegun u (pathTable p) idx).modSweep fun w => { w with cells := [firstCell k c] } := by
    simp only [sweepCounts, hpoint, if_pos ho]
    rw [if_pos (show (lineBegun u (pathTable p) idx).sweep.moved = true from hmoved)]
    simp only [List.filter_cons, List.filter_nil, hreach, hin, Bool.and_self, Bool.not_true, Bool.false_and, Bool.and_false, if_true,
      Bool.false_eq_true, if_false, List.foldl_cons, List.foldl_nil]
    exact addCount_first (v := lineBegun u (pathTable p) idx) hcells k c
  refine begins_of (exec_sweepLine hb hv rfl) rfl (by decide) fun q hq => ?_
  cases q
  case sweep => exact absurd (by decide) hq
  all_goals rfl

end

/-! ### PIN_MEAS lines -/

/-- A side with a latency measured where none is pinned (R178). -/
def latencyFree (lat : BitVec 22) (x : Side) : Side :=
  { x with pinLat := lat, pinErr := 0, pinned := false, pinValid := true, pinAge := 0 }

/-- A side with a latency measured `d` from its target, and its interpolator moved (R177, R178). -/
def latencyHeld (lat : BitVec 22) (d moved : Int) (x : Side) : Side := { x with
  pinLat := lat, pinErr := BitVec.ofInt 8 (clampI (-127) 127 d), pinned := decide (-6 ≤ d) && decide (d ≤ 6), pinValid := true
  pinAge := 0, pinPhase := x.pinPhase + (if 0 < d then -moved else moved) }

/-- A state with the event of a direction that comes to be pinned, or is no longer (R178). -/
def latencyNoted (i : SideId) (lat : BitVec 22) (d : Int) (was : Bool) (w : State) : State :=
  if (decide (-6 ≤ d) && decide (d ≤ 6)) && !was then raise w 0x0410 ([by1 i.val] ++ be 4 lat.toNat)
  else if was && !(decide (-6 ≤ d) && decide (d ≤ 6)) then raise w 0x0411 ([by1 i.val] ++ sbe 1 (clampI (-127) 127 d))
  else w

theorem latencyNoted_near {d : Int} (h : -6 ≤ d) (h' : d ≤ 6) (i : SideId) (lat : BitVec 22) (was : Bool) (w : State) :
    latencyNoted i lat d was w = if was then w else raise w 0x0410 ([by1 i.val] ++ be 4 lat.toNat) := by
  rw [latencyNoted, decide_eq_true h, decide_eq_true h']
  cases was <;> rfl

theorem latencyHeld_pinned {d : Int} (h : -6 ≤ d) (h' : d ≤ 6) (lat : BitVec 22) (moved : Int) (x : Side) :
    (latencyHeld lat d moved x).pinned = true := by
  rw [latencyHeld, decide_eq_true h, decide_eq_true h', Bool.and_true]

theorem toInt_ofInt_near {d : Int} (h : -6 ≤ d) (h' : d ≤ 6) : (BitVec.ofInt 8 (clampI (-127) 127 d)).toInt = d := by
  have hc : clampI (-127) 127 d = d := by
    unfold clampI
    omega
  rw [hc, BitVec.toInt_ofInt]
  exact Int.bmod_eq_of_le (by omega) (by omega)

section
variable {s u : State} {p : PathId} {idx : Nat} {l : Line} {i : SideId} {m : PinMeasure} {lat : BitVec 22}
  (hb : LineBegins s u (pathTable p) idx 0x63 l) (hm : m.side = i) (hlat : lat = BitVec.ofInt 22 ((m.lat.toNat : Int) + u.store.pinCal[i]))
  (hr : reaches u p l i = true) (hei : u.lanes[laneOf i].ei[endOf i] = false) (hlock : u.lanes[laneOf i].lock[endOf i] = true)
include hb hm hlat hr hei hlock

theorem exec_pinMeasLine {d : Int} (hd : d = (lat.toNat : Int) - pinTarget u.paths[p] u.lanes[laneOf i].pin) :
    ∃ moved, exec (.pinMeasLine p idx [m]) s = done s (
      if pcPinned u.paths[p].cfg = false ∨ runRate u.paths[p] ≠ pcRate u.paths[p].cfg then
        (lineBegun u (pathTable p) idx).modSide i (latencyFree lat)
      else latencyNoted i lat d u.sides[i].pinned ((lineBegun u (pathTable p) idx).modSide i (latencyHeld lat d moved))) := by
  subst hm hlat hd
  have hno : ¬(reaches u p l m.side = false ∨ u.lanes[laneOf m.side].ei[endOf m.side] = true ∨
      u.lanes[laneOf m.side].lock[endOf m.side] = false) := by
    rw [hr, hei, hlock]
    decide
  exact ⟨_, congrArg (done s) ((startLine_begins hb fun l s => [m].foldl (measurePin p l) s).trans (if_neg hno))⟩

/-- A path that is not pinned reports its latency (R178). -/
theorem pinMeasLine_reports (hfree : pcPinned u.paths[p].cfg = false) :
    Begins (.pinMeasLine p idx [m]) s u (pathTable p) idx [.sides] fun t => t.sides = vmod u.sides i (latencyFree lat) := by
  obtain ⟨moved, hx⟩ := exec_pinMeasLine hb hm hlat hr hei hlock rfl
  exact begins_sides (v := (lineBegun u (pathTable p) idx).modSide i (latencyFree lat))
    (hx.trans (congrArg (done s) (if_pos (Or.inl hfree)))) rfl rfl

/-- Within 6 units of its target a direction is pinned, with event 0x0410 as it comes to be (R177, R178). -/
theorem pinMeasLine_pins {goal : Nat} (hpin : pcPinned u.paths[p].cfg = true) (hrate : runRate u.paths[p] = pcRate u.paths[p].cfg)
    (hgoal : goal = pinTarget u.paths[p] u.lanes[laneOf i].pin) (hle : lat.toNat ≤ goal + 6) (hge : goal ≤ lat.toNat + 6) :
    Begins (.pinMeasLine p idx [m]) s u (pathTable p) idx [.sides] fun t =>
      t.sides[i].pinned = true ∧ t.sides[i].pinLat = lat ∧ t.sides[i].pinValid = true ∧
      t.sides[i].pinErr.toInt = (lat.toNat : Int) - goal ∧ (∀ j : SideId, j ≠ i → t.sides[j] = u.sides[j]) ∧
      (u.sides[i].pinned = false → Raised u t 0x0410 ([BitVec.ofNat 8 i.val] ++ be 4 lat.toNat)) := by
  subst hgoal
  obtain ⟨d, hd⟩ : ∃ d : Int, d = (lat.toNat : Int) - pinTarget u.paths[p] u.lanes[laneOf i].pin := ⟨_, rfl⟩
  have hlow : -6 ≤ d := by omega
  have hhigh : d ≤ 6 := by omega
  have hno : ¬(pcPinned u.paths[p].cfg = false ∨ runRate u.paths[p] ≠ pcRate u.paths[p].cfg) := by
    rw [hpin, hrate]
    simp
  obtain ⟨moved, hx⟩ := exec_pinMeasLine hb hm hlat hr hei hlock hd
  rw [if_neg hno, latencyNoted_near hlow hhigh] at hx
  rw [← hd]
  have hreads (t : State) (ht : t.sides = ((lineBegun u (pathTable p) idx).modSide i (latencyHeld lat d moved)).sides) :
      t.sides[i].pinned = true ∧ t.sides[i].pinLat = lat ∧ t.sides[i].pinValid = true ∧ t.sides[i].pinErr.toInt = d ∧
        ∀ j : SideId, j ≠ i → t.sides[j] = u.sides[j] := by
    rw [ht, modSide_side]
    exact ⟨latencyHeld_pinned hlow hhigh _ _ _, rfl, rfl, toInt_ofInt_near hlow hhigh, fun j hj => modSide_side_other hj⟩
  generalize hw : (lineBegun u (pathTable p) idx).modSide i (latencyHeld lat d moved) = w at hx hreads
  cases hwas : u.sides[i].pinned with
  | true =>
    rw [if_pos hwas] at hx
    obtain ⟨hpinned, hlat', hvalid, herr, hothers⟩ := hreads w rfl
    exact begins_sides hx (hw ▸ rfl) ⟨hpinned, hlat', hvalid, herr, hothers, fun h => nomatch h⟩
  | false =>
    rw [if_neg (Bool.eq_false_iff.mp hwas)] at hx
    obtain ⟨hpinned, hlat', hvalid, herr, hothers⟩ := hreads (raise w 0x0410 ([by1 i.val] ++ be 4 lat.toNat)) (raise_sides _ _ _)
    subst hw
    have hview : eventView ((lineBegun u (pathTable p) idx).modSide i (latencyHeld lat d moved)) = eventView u := rfl
    refine begins_noted_of hx (raise_seq _ _ _) (fun q hq hne => Part.noted_of_untouched ?_ ((raise_noted _ _ _).part q))
      ⟨hpinned, hlat', hvalid, herr, hothers, fun _ => (raised_in hview rfl rfl).settle s⟩
    cases q
    case sides => exact absurd (by decide) hq
    case seq => exact absurd rfl hne
    all_goals rfl

end

/-! ### PATTERN and LOOP lines -/

/-- A side and the one across are the two sides of its lane, in either order. -/
theorem lane_sides (i : SideId) : (sideOf (laneOf i) 0 = i ∧ sideOf (laneOf i) 1 = opposite i) ∨
    (sideOf (laneOf i) 0 = opposite i ∧ sideOf (laneOf i) 1 = i) := by
  rw [sideOf_laneOf, sideOf_laneOf]
  by_cases he : endOf i = 0
  · exact Or.inl ⟨if_pos he.symm, if_neg (by omega)⟩
  · exact Or.inr ⟨if_neg (Ne.symm he), if_pos (by omega)⟩

/-- A transmitter is in electrical idle under its own side's test and that of the side across (R454). -/
def testIdle (own other : Side) : Bool :=
  if own.loopDep = 1 then true else if underTest own then false else if underTest other then true else own.txIdle

/-- A side whose transmitter is in electrical idle, or is not. -/
def idled (b : Bool) (x : Side) : Side := { x with txIdle := b }

/-- `s` with the transmitters of two sides as their tests have them. -/
def testPair (s : State) (a b : SideId) : State :=
  (s.modSide a (idled (testIdle s.sides[a] s.sides[b]))).modSide b (idled (testIdle s.sides[b] s.sides[a]))

theorem testTransmit_eq (s : State) (l : LaneId) : testTransmit s l = testPair s (sideOf l 0) (sideOf l 1) := rfl

theorem testPair_sides (s : State) {a b : SideId} (h : a ≠ b) :
    (testPair s a b).sides[a] = idled (testIdle s.sides[a] s.sides[b]) s.sides[a] ∧
    (testPair s a b).sides[b] = idled (testIdle s.sides[b] s.sides[a]) s.sides[b] ∧
    ∀ j : SideId, j ≠ a → j ≠ b → (testPair s a b).sides[j] = s.sides[j] := by
  unfold testPair
  refine ⟨?_, ?_, fun j ha hb => ?_⟩
  · rw [modSide_side_other h, modSide_side]
  · rw [modSide_side, modSide_side_other h.symm]
  · rw [modSide_side_other hb, modSide_side_other ha]

theorem testTransmit_sides (s : State) (i : SideId) :
    (testTransmit s (laneOf i)).sides[i] = idled (testIdle s.sides[i] s.sides[opposite i]) s.sides[i] ∧
    (testTransmit s (laneOf i)).sides[opposite i] = idled (testIdle s.sides[opposite i] s.sides[i]) s.sides[opposite i] ∧
    ∀ j : SideId, j ≠ i → j ≠ opposite i → (testTransmit s (laneOf i)).sides[j] = s.sides[j] := by
  rw [testTransmit_eq]
  rcases lane_sides i with ⟨h0, h1⟩ | ⟨h0, h1⟩
  · rw [h0, h1]
    exact testPair_sides s (opposite_ne i).symm
  · rw [h0, h1]
    obtain ⟨hother, hown, hrest⟩ := testPair_sides s (opposite_ne i)
    exact ⟨hown, hother, fun j hj ho => hrest j ho hj⟩

theorem testIdle_own {own : Side} (h : underTest own = true) (other : Side) : testIdle own other = (own.loopDep == 1) := by
  rw [testIdle, h]
  by_cases h1 : own.loopDep = 1
  · rw [if_pos h1, h1]
    rfl
  · rw [if_neg h1, if_pos rfl, beq_eq_false_iff_ne.mpr h1]

theorem testIdle_across {own other : Side} (h : underTest own = false) (ho : underTest other = true) : testIdle own other = true := by
  have h1 : own.loopDep ≠ 1 := by
    intro h1
    rw [underTest, h1] at h
    cases h
  rw [testIdle, if_neg h1, h, ho]
  rfl

/-- A side taken by a test: not pinned, and its transmitter idle at depth 1 (R452, R454). -/
def tested (x : Side) : Side := { x with pinned := false, txIdle := x.loopDep == 1 }

/-- What puts a side under a test takes its transmitter, and idles the one across (R454). -/
theorem testSide_starts {f : Side → Side} {s : State} {i : SideId} (hnew : underTest (f s.sides[i]) = true)
    (hold : underTest s.sides[i] = false) (hother : underTest s.sides[opposite i] = false) :
    testSide f s i = { s with sides := (testSide f s i).sides } ∧
    (testSide f s i).sides[i] = tested (f s.sides[i]) ∧
    (testSide f s i).sides[opposite i] = { s.sides[opposite i] with txIdle := true } ∧
    ∀ j : SideId, j ≠ i → j ≠ opposite i → (testSide f s i).sides[j] = s.sides[j] := by
  have hne : f s.sides[i] ≠ s.sides[i] := fun h => by rw [h, hold] at hnew; cases hnew
  have hv : testSide f s i = testTransmit (s.modSide i fun x => { f x with pinned := false }) (laneOf i) :=
    (if_neg hne).trans (if_neg (by rw [hold]; exact Bool.false_ne_true))
  obtain ⟨hown, hacross, hrest⟩ := testTransmit_sides (s.modSide i fun x => { f x with pinned := false }) i
  rw [modSide_side, modSide_side_other (opposite_ne i)] at hown hacross
  rw [hv]
  refine ⟨rfl, hown.trans ?_, hacross.trans ?_, fun j hj ho => (hrest j hj ho).trans (modSide_side_other hj)⟩
  · rw [testIdle_own (own := { f s.sides[i] with pinned := false }) hnew]
    rfl
  · rw [testIdle_across (other := { f s.sides[i] with pinned := false }) hother hnew]
    rfl

theorem by1_extract {w : Nat} (x : BitVec w) : by1 x.toNat = x.extractLsb' 0 8 := by
  rw [by1, BitVec.extractLsb', Nat.shiftRight_zero]

/-- A side with a loop-back depth (R452). -/
def withLoop (depth : Byte) (x : Side) : Side := { x with loopDep := depth }

theorem not_underTest {x : Side} (h : underTest x = false) : x.loopDep = 0 ∧ x.patSel = 0 := by
  simpa [underTest] using h

/-- A side with no test put under a pattern. -/
theorem withPattern_tested {sel : Byte} {x : Side} (hsel : sel ≠ 0) (h : underTest x = false) : underTest (withPattern sel x) = true ∧
    tested (withPattern sel x) =
      { x with patSel := sel, chkLock := false, chkBits := 0, chkErrs := 0, pinned := false, txIdle := false } := by
  obtain ⟨hdepth, hpat⟩ := not_underTest h
  have hnew : withPattern sel x = { x with patSel := sel, chkLock := false, chkBits := 0, chkErrs := 0 } :=
    if_neg fun he => hsel (he.symm.trans hpat)
  have hidle : (x.loopDep == 1) = false := by
    rw [hdepth]
    decide
  rw [hnew]
  exact ⟨by rw [underTest, bne_iff_ne.mpr hsel, Bool.or_true], by rw [tested, hidle]⟩

section
variable {s u : State} {p : PathId} {idx action : Nat} {l : Line} {c : Instr} {f : Line → Side → Side}
  (hb : LineBegins s u (pathTable p) idx action l)
  (hc : exec c s = done s (startLine (pathTable p) idx action (fun l s =>
    if s.paths[p].test then (namedSides s p l).foldl (testSide (f l)) s else s) s))
include hb hc

theorem testLine_empty (h : u.paths[p].test = false) : Begins c s u (pathTable p) idx [] fun _ => True := by
  refine begins_empty (hc.trans (congrArg (done s) ((startLine_begins hb _).trans (if_neg ?_))))
  exact Bool.eq_false_iff.mp h

theorem testLine_tests {i : SideId} (h : u.paths[p].test = true) (hi : namedSides u p l = [i])
    (hnew : underTest (f l u.sides[i]) = true) (hold : underTest u.sides[i] = false) (hother : underTest u.sides[opposite i] = false) :
    Begins c s u (pathTable p) idx [.sides] fun t =>
      t.sides[i] = tested (f l u.sides[i]) ∧
      t.sides[opposite i] = { u.sides[opposite i] with txIdle := true } ∧
      ∀ j : SideId, j ≠ i → j ≠ opposite i → t.sides[j] = u.sides[j] := by
  have hnamed : namedSides (lineBegun u (pathTable p) idx) p l = [i] := hi
  have hx := hc.trans (congrArg (done s) ((startLine_begins hb _).trans (if_pos h)))
  rw [hnamed, List.foldl_cons, List.foldl_nil] at hx
  obtain ⟨hrest, hsides⟩ := testSide_starts (s := lineBegun u (pathTable p) idx) hnew hold hother
  exact begins_sides hx hrest hsides

end

section
variable {s u : State} {p : PathId} {idx : Nat} {l : Line} {i : SideId}

/-- A PATTERN line of a path under test puts its select on the side it names (R394, R455). -/
theorem patternLine_selects {sel : Byte} (hb : LineBegins s u (pathTable p) idx 0x64 l) (h : u.paths[p].test = true)
    (hi : namedSides u p l = [i]) (hsel : sel = l.operand.extractLsb' 0 8) (h0 : sel ≠ 0) (hold : underTest u.sides[i] = false)
    (hother : underTest u.sides[opposite i] = false) : Begins (.patternLine p idx) s u (pathTable p) idx [.sides] fun t =>
      t.sides[i] = { u.sides[i] with patSel := sel, chkLock := false, chkBits := 0, chkErrs := 0, pinned := false, txIdle := false } ∧
      t.sides[opposite i] = { u.sides[opposite i] with txIdle := true } ∧
      ∀ j : SideId, j ≠ i → j ≠ opposite i → t.sides[j] = u.sides[j] := by
  obtain rfl := hsel.trans (by1_extract _).symm
  obtain ⟨hunder, htested⟩ := withPattern_tested h0 hold
  rw [← htested]
  exact testLine_tests (f := fun l => withPattern (by1 l.operand.toNat)) hb rfl h hi hunder hold hother

/-- A LOOP line of a path under test puts its depth on the side it names (R394, R452). -/
theorem loopLine_loops {depth : Byte} (hb : LineBegins s u (pathTable p) idx 0x65 l) (h : u.paths[p].test = true)
    (hi : namedSides u p l = [i]) (hdepth : depth = l.operand.extractLsb' 0 8) (h0 : depth ≠ 0) (hold : underTest u.sides[i] = false)
    (hother : underTest u.sides[opposite i] = false) : Begins (.loopLine p idx) s u (pathTable p) idx [.sides] fun t =>
      t.sides[i] = { u.sides[i] with loopDep := depth, pinned := false, txIdle := depth == 1 } ∧
      t.sides[opposite i] = { u.sides[opposite i] with txIdle := true } ∧
      ∀ j : SideId, j ≠ i → j ≠ opposite i → t.sides[j] = u.sides[j] := by
  obtain rfl := hdepth.trans (by1_extract _).symm
  have hunder : underTest (withLoop (by1 l.operand.toNat) u.sides[i]) = true := by
    rw [underTest, withLoop, bne_iff_ne.mpr h0, Bool.true_or]
  exact testLine_tests (f := fun l => withLoop (by1 l.operand.toNat)) hb rfl h hi hunder hold hother

end

/-- Settles O46, line by line: what a CAL, SWEEP or PIN_MEAS line adds to its side or point, and what a test does to a lane's two sides. -/
theorem pathLinesActOnTheirSides : Obligations.PathLinesActOnTheirSides := by
  unfold Obligations.PathLinesActOnTheirSides
  refine ⟨fun s u p idx l c => ⟨calLine_counts, calLine_empty, kerfLine_empty, fun k => sweepLine_counts⟩,
    fun s u p idx l i => ⟨fun m goal lat hb hm hlat hr hei hlock => ⟨pinMeasLine_reports hb hm hlat hr hei hlock,
      pinMeasLine_pins hb hm hlat hr hei hlock⟩, fun hb => ⟨?_, fun sel h hi hsel h0 => patternLine_selects hb h hi hsel h0⟩,
      fun hb => ⟨?_, fun depth h hi hdepth h0 => loopLine_loops hb h hi hdepth h0⟩⟩⟩
  · exact testLine_empty (f := fun l => withPattern (by1 l.operand.toNat)) hb rfl
  · exact testLine_empty (f := fun l => withLoop (by1 l.operand.toNat)) hb rfl

end Sys2Proof.Machine
end

section
/-! Rows that change the TIME island, and may raise events; a change of the sweep (R155 to R174, R181). -/

namespace Sys2Proof.Machine

theorem Part.untouched_modTime (s : State) (f : TimeIsl → TimeIsl) {p : Part} (hp : p ≠ .time) : p.untouched s (s.modTime f) := by
  cases p
  case time => exact absurd rfl hp
  all_goals rfl

theorem Part.untouched_modSweep (s : State) (f : Sweep → Sweep) {p : Part} (hp : p ≠ .sweep) : p.untouched s (s.modSweep f) := by
  cases p
  case sweep => exact absurd rfl hp
  all_goals rfl

/-! ### Rows without an event, or with one -/

/-- A row that changes the TIME island alone. -/
theorem does_modTime {c : Instr} {s : State} (f : TimeIsl → TimeIsl) (hx : exec c s = done s (s.modTime f)) :
    Does c s [.time] fun t => t.time = f s.time :=
  does_of hx (fun _ hp => Part.untouched_modTime s f (by simpa using hp)) rfl

/-- A line whose action changes the TIME island alone. -/
theorem begins_modTime {c : Instr} {s u : State} {tbl : Fin 9} {idx : Nat} (f : TimeIsl → TimeIsl)
    (hx : exec c s = done s ((lineBegun u tbl idx).modTime f)) : Begins c s u tbl idx [.time] fun t => t.time = f u.time :=
  begins_of hx rfl (by decide) fun _ hp => Part.untouched_modTime _ f (by simpa using hp)

/-- A line whose action changes the TIME island and raises an event. -/
theorem begins_modTime_raise {c : Instr} {s u : State} {tbl : Fin 9} {idx : Nat} (f : TimeIsl → TimeIsl) {code : Nat} {data : List Byte}
    (hx : exec c s = done s (raise ((lineBegun u tbl idx).modTime f) code data)) :
    Begins c s u tbl idx [.time] fun t => t.time = f u.time := by
  refine begins_noted_of hx (by rw [raise_seq, modTime_seq]) (fun p hp hne => ?_) (by rw [settle_time, raise_time]; rfl)
  refine Part.noted_of_untouched ?_ ((raise_noted _ code data).part p)
  exact Part.untouched_trans (Part.untouched_modSeq u _ hne) (Part.untouched_modTime _ f (by simpa using hp))

/-- A change of the TIME island that leaves spine time leaves what decides where an event stands. -/
theorem eventView_modTime {s : State} {f : TimeIsl → TimeIsl} (h : (f s.time).spine = s.time.spine) :
    eventView (s.modTime f) = eventView s := by
  simp only [eventView, ringsOpen, domOn, State.now, modTime_time, modTime_pow, modTime_win, modTime_mbx, h]

/-- A row that changes the TIME island, leaving spine time, and raises an event on that. -/
theorem reports_modTime {c : Instr} {s : State} {code : Nat} {data : List Byte} (f : TimeIsl → TimeIsl)
    (hx : exec c s = done s (raise (s.modTime f) code data)) (hspine : (f s.time).spine = s.time.spine) :
    Reports c s code data [.time] fun t => t.time = f s.time :=
  reports_of hx (fun _ hp => Part.untouched_modTime s f (by simpa using hp)) (eventView_modTime hspine)
    (by rw [settle_time, raise_time, modTime_time])

/-! ### Rows that change the TIME island and raise events -/

/-- `t` is `s` but for the TIME island, the values that the manual leaves open, and events. -/
def TimeNoted (s t : State) : Prop := Noted s { t with time := s.time, free := s.free }

theorem TimeNoted.refl (s : State) : TimeNoted s s := Noted.refl s

theorem TimeNoted.modTime (s : State) (f : TimeIsl → TimeIsl) : TimeNoted s (s.modTime f) := Noted.refl s

theorem TimeNoted.usedFree (s : State) : TimeNoted s s.usedFree := Noted.refl s

theorem TimeNoted.trans {s t u : State} (h : TimeNoted s t) (k : TimeNoted t u) : TimeNoted s u :=
  Noted.trans h ⟨congrArg (fun v : State => { v with time := s.time, free := s.free }) k.1, k.2⟩

theorem TimeNoted.raise (s : State) (c : Nat) (d : List Byte) : TimeNoted s (raise s c d) := by
  have h : { Machine.raise s c d with time := s.time, free := s.free } = Machine.raise s c d := by
    rw [← raise_time s c d, ← raise_free s c d]
  rw [TimeNoted, h]
  exact raise_noted s c d

/-- Every other part is noted. -/
theorem TimeNoted.part {s t : State} (h : TimeNoted s t) {p : Part} (hp : p ∉ [Part.time, .free]) : p.noted s t := by
  refine Part.noted_then_untouched (Noted.part h p) ?_
  cases p
  case time | free => exact absurd (by decide) hp
  all_goals rfl

end Sys2Proof.Machine
end

section
/-! Time commands (R174, R356 to R358), and D50, which follows the source of time (R400). -/

namespace Sys2Proof.Machine

/-! ### The TIME island alone -/

/-- A time command that leaves TIME_CFG and spine time changes the TIME island alone. -/
theorem performs_modTime {c : Instr} {op : Nat} {r : Req} {s : State} {h : Req → State → Result} (f : TimeIsl → TimeIsl)
    (hx : exec c s = done s (command op h r s)) (hr : Ready s r) (hf : h r (begun s r) = okay ((begun s r).modTime f))
    (hcfg : (f s.time).cfg = s.time.cfg) (hspine : (f s.time).spine = s.time.spine) :
    Performs c op r s [] [.time] fun t => t.time = f s.time := by
  have hset : DomainsSettled ((begun s r).modTime f) :=
    settled_congr (begun_settled hr) rfl rfl rfl rfl rfl rfl rfl rfl (by rw [modTime_time, begun_time, hcfg])
  have hpres (hi : r.issuer ≠ .twoWire) : present ((begun s r).modTime f) 4 = true := begun_present hr hi
  refine performs_of hx hr hf hset rfl (begun_mbx s r) rfl ?_ ?_ hpres ?_ fun q hq hwin hmbx hsvc => ?_
  · rw [modTime_time, begun_time, hspine]
  · rw [modTime_pow, begun_pow]
  · rw [settle_time, writeReply_time _ _ hpres, modTime_time, begun_time]
  · have hno : q ∉ [Part.win, .mbx, .svc] := by simp [hwin, hmbx, hsvc]
    refine Part.same_settle s (Part.untouched_trans (Part.untouched_begun s r (by simp [hwin, hsvc])) ?_) hno
    exact Part.untouched_trans (Part.untouched_modTime _ f (by simpa using hq)) (Part.untouched_writeReply hpres _ _ _ _ _ hno)

section
variable {s : State} {r : Req} (hr : Ready s r)
include hr

/-- TIME_SET decides a step, from a source that does not forbid it (R357). -/
theorem timeSet_performs {d : Int} (hlen : r.len = 10) (hsrc : timeSource s.time = 0 ∨ timeSource s.time = 2)
    (hd : d = if timeSource s.time = 2 then signedOf 80 (num r.payload 0 10 + 2 ^ 80 - s.now.toNat) / 2 ^ 40 * 2 ^ 40
      else signedOf 80 (num r.payload 0 10 + 2 ^ 80 - s.now.toNat)) :
    Performs (.timeSet r) 0x0403 r s [] [.time] fun t => t.time =
      { s.time with step := some d, st := if s.time.st = 0 then 1 else s.time.st, tscale := 3 } := by
  refine performs_modTime (fun t => { t with step := some d, st := if t.st = 0 then 1 else t.st, tscale := 3 }) rfl hr ?_ rfl rfl
  have hlen' : ¬ r.len.toNat ≠ 10 := by simp [hlen]
  have hfree : ¬ (timeSource s.time = 1 ∨ timeSource s.time = 3) := by omega
  have hnow : (begun s r).now = s.now := by rw [State.now, State.now, begun_time]
  simp only [doTimeSet, if_neg hlen', begun_time, if_neg hfree, hnow, ← hd]

/-- DELAY_SET writes one of the five corrections (R356). -/
theorem delaySet_performs {w : Fin 5} (hlen : r.len = 5) (hw : num r.payload 0 1 = w.val)
    (hok : delayOk w.val (signedOf 32 (num r.payload 1 4)) = true) :
    Performs (.delaySet r) 0x0404 r s [] [.time] fun t => t.time =
      { s.time with delays := vmod s.time.delays w fun _ => signedOf 32 (num r.payload 1 4) } := by
  refine performs_modTime (fun t => { t with delays := vmod t.delays w fun _ => signedOf 32 (num r.payload 1 4) }) rfl hr ?_ rfl rfl
  simp only [doDelaySet, hw, hok, hlen, vmodN_eq_vmod]
  rfl

/-- PTP_IP_SET writes the source address (R356). -/
theorem ptpIpSet_performs (hlen : r.len = 4) (hok : ptpIpOk (num r.payload 0 4) = true) :
    Performs (.ptpIpSet r) 0x0405 r s [] [.time] fun t => t.time = { s.time with ptpIp := BitVec.ofNat 32 (num r.payload 0 4) } := by
  refine performs_modTime (fun t => { t with ptpIp := BitVec.ofNat 32 (num r.payload 0 4) }) rfl hr ?_ rfl rfl
  simp only [doPtpIpSet, hok, hlen]
  rfl

/-- PULL_SET gives the pull a target while no source is selected (R358). -/
theorem pullSet_performs (hlen : r.len = 2) (hsrc : timeSource s.time = 0) :
    Performs (.pullSet r) 0x0406 r s [] [.time] fun t => t.time =
      { s.time with pullGoal := some (BitVec.ofNat 16 (num r.payload 0 2)) } := by
  refine performs_modTime (fun t => { t with pullGoal := some (BitVec.ofNat 16 (num r.payload 0 2)) }) rfl hr ?_ rfl rfl
  simp only [doPullSet, hlen, begun_time, hsrc]
  rfl
end

/-! ### The domain of the balls of time -/

/-- Of the conditions of Table 16.2 only that of D50 reads the TIME island. -/
theorem domWanted_modTime (s : State) (f : TimeIsl → TimeIsl) {d : Nat} (hd : d ≠ 50) : domWanted (s.modTime f) d = domWanted s d := by
  unfold domWanted
  dsimp only
  by_cases h0 : d = 0
  · rw [if_pos h0, if_pos h0]
  · rw [if_neg h0, if_neg h0]
    by_cases h32 : d ≤ 32
    · rw [if_pos h32, if_pos h32]
      rfl
    · rw [if_neg h32, if_neg h32]
      by_cases h36 : d ≤ 36
      · rw [if_pos h36, if_pos h36]
        rfl
      · rw [if_neg h36, if_neg h36]
        split
        case h_14 => exact absurd rfl hd
        all_goals rfl

/-- Where every domain below D50 follows its condition, D50 alone is switched. -/
theorem settleDomains_last {s : State} (h : ∀ i : Fin 49, domWanted s (i.val + 1) = domOn s (i.val + 1)) :
    settleDomains s = settleDomain s 50 := by
  have hnums : (upto 50).map (fun i => i + 1) = (upto 49).map (fun i => i + 1) ++ [50] := rfl
  have hrest : ((upto 49).map fun i => i + 1).foldl settleDomain s = s := by
    refine List.foldlRecOn (motive := fun t => t = s) _ settleDomain rfl ?_
    rintro _ rfl d hd
    obtain ⟨i, hi, rfl⟩ := List.mem_map.mp hd
    exact settleDomain_of_eq (h ⟨i, List.mem_range.mp hi⟩)
  rw [settleDomains, hnums, List.foldl_append, hrest]
  rfl

/-- D50 switched changes the domains and, where it goes off, what PPS_OUT and SYNC_OUT carry. -/
theorem settleDomain_balls (s : State) : ∃ ds pps ch, settleDomain s 50 =
    { s with pow := { s.pow with domains := ds }, time := { s.time with ppsOut := pps, chainOut := ch } } := by
  unfold settleDomain
  split
  · exact ⟨_, _, _, rfl⟩
  · dsimp only
    split
    · exact ⟨_, _, _, rfl⟩
    · exact ⟨_, _, _, rfl⟩

/-! ### TIME_CFG_SET -/

/-- A reply is the bookkeeping that `Part.same` leaves out. -/
theorem Part.same_reply {s x v : State} {r : Req} {op rtag : BitVec 16} {lat : Byte} {rep : Reply} (hr : Ready s r)
    (hx : ∀ q : Part, q ∈ [Part.win, .mbx, .svc] → q.untouched (begun s r) x) (hpres : r.issuer ≠ .twoWire → present x 4 = true)
    {q : Part} (hq : q ∈ [Part.win, .mbx, .svc]) (hv : q.untouched (writeReply x r.issuer op r.tag rtag lat rep) v) :
    q.same s (settle s v) := by
  obtain ⟨_, m, _, e, hm⟩ := writeReply_cases x r.issuer hpres op r.tag rtag lat rep
  obtain ⟨_, _, _, hb, hss⟩ := begun_cases s r
  have hwin : x.win = (begun s r).win := hx .win (by decide)
  have hmbx : x.mbx = s.mbx := (hx .mbx (by decide)).trans (begun_mbx s r)
  have hsvc : x.svc = (begun s r).svc := hx .svc (by decide)
  rw [e] at hv
  simp only [List.mem_cons, List.not_mem_nil, or_false] at hq
  rcases hq with rfl | rfl | rfl
  · have hw : v.win = _ := hv
    simp only [Part.same, settle_win, hw, hwin, hb]
  · have hw : v.mbx = _ := hv
    have hslot : replySlot x = replySlot s := by simp only [replySlot, hwin, hb]
    rw [hmbx, hslot] at hm
    simp only [Part.same, settle_mbx, hw, hmbx]
    exact ⟨trivial, fun a ha => hm a hr.wf ha⟩
  · have hw : v.svc = _ := hv
    simp only [Part.same, settle_svc, hw, hsvc, hb]
    refine ⟨trivial, fun k => ?_⟩
    obtain ⟨_, _, hk⟩ := hss k
    simp only [Fin.getElem_fin, hk]

/-- A time command ends with its reply and, where it has selected another source, with D50 switched. -/
theorem finish_source {s : State} {r : Req} (hr : Ready s r) (f : TimeIsl → TimeIsl) (op : BitVec 16) :
    finish r.issuer op r r.tag 0 (okay ((begun s r).modTime f)) =
      settleDomain (writeReply ((begun s r).modTime f) r.issuer op r.tag r.tag 0 ⟨0, []⟩) 50 := by
  have hpres (hi : r.issuer ≠ .twoWire) : present ((begun s r).modTime f) 4 = true := begun_present hr hi
  obtain ⟨_, _, _, e, _⟩ := writeReply_cases ((begun s r).modTime f) r.issuer hpres op r.tag r.tag 0 ⟨0, []⟩
  refine settleDomains_last (s := writeReply ((begun s r).modTime f) r.issuer op r.tag r.tag 0 ⟨0, []⟩) fun i => ?_
  have hlt := i.isLt
  rw [e]
  refine Eq.trans (domWanted_congr (s := (begun s r).modTime f) rfl rfl rfl rfl rfl rfl rfl rfl _) ?_
  rw [domWanted_modTime _ _ (by omega)]
  exact begun_settled hr ⟨i.val, by omega⟩

/-- A time command that leaves spine time but may select another source changes the TIME island, and D50 may follow. -/
theorem performs_source {c : Instr} {op : Nat} {r : Req} {s : State} {h : Req → State → Result} {P : State → Prop}
    (f : TimeIsl → TimeIsl) (hx : exec c s = done s (command op h r s)) (hr : Ready s r)
    (hf : h r (begun s r) = okay ((begun s r).modTime f)) (hspine : (f s.time).spine = s.time.spine)
    (hP : ∀ (t : State) pps ch, t.time = { f s.time with ppsOut := pps, chainOut := ch } → P t) :
    Performs c op r s [] [.time, .pow] P := by
  have hpres (hi : r.issuer ≠ .twoWire) : present ((begun s r).modTime f) 4 = true := begun_present hr hi
  have hfin := finish_source hr f (BitVec.ofNat 16 op)
  have htime := writeReply_time ((begun s r).modTime f) _ hpres (BitVec.ofNat 16 op) r.tag r.tag 0 ⟨0, []⟩
  have hsame {v : State} {q : Part} := Part.same_reply (v := v) (q := q) (op := BitVec.ofNat 16 op) (rtag := r.tag) (lat := 0)
    (rep := ⟨0, []⟩) hr (fun q' h' => Part.untouched_modTime _ f (by rintro rfl; simp at h')) hpres
  have hother {q : Part} := Part.untouched_writeReply hpres (BitVec.ofNat 16 op) r.tag r.tag 0 ⟨0, []⟩ (p := q)
  refine ⟨_, hx, ?_, ?_, fun q hq => ?_⟩
  all_goals rw [command_taken hr, hf]
  · refine finish_replied s ?_ ?_ ?_ ?_ hpres fun k _ => ?_
    · rw [modTime_mbx, begun_mbx, hr.wf]
    · rw [modTime_win, begun_rplHead]
    · rw [modTime_time, begun_time, hspine]
    · rw [modTime_pow, begun_pow]
      exact Or.inr hr.run
    · rw [modTime_svc, begun_addr]
  all_goals
    rw [hfin]
    generalize writeReply ((begun s r).modTime f) r.issuer (BitVec.ofNat 16 op) r.tag r.tag 0 ⟨0, []⟩ = y at htime hsame hother ⊢
    obtain ⟨ds, pps, ch, hy⟩ := settleDomain_balls y
  · refine hP _ pps ch ?_
    rw [settle_time, hy, htime, modTime_time, begun_time]
  · have hout : q.untouched y (settleDomain y 50) := by
      rw [hy]
      cases q
      case time | pow => exact absurd (by decide) hq
      all_goals rfl
    by_cases hno : q ∈ [Part.win, .mbx, .svc]
    · exact hsame hno hout
    · refine Part.same_settle s (Part.untouched_trans (Part.untouched_begun s r (by simp_all)) ?_) hno
      exact Part.untouched_trans (Part.untouched_modTime _ f (by simp_all)) (Part.untouched_trans (hother hno) hout)

/-- What TIME_CFG_SET does to the TIME island (R174, R358). -/
def cfgWritten (v : R40) (t : TimeIsl) : TimeIsl :=
  let t' := { t with cfg := v, pullGoal := if fld v 39 38 = 0 then t.pullGoal else none }
  if fld v 39 38 = fld t.cfg 39 38 ∧ fld v 19 12 = fld t.cfg 19 12 then t' else restartMeasurement t'

theorem cfgWritten_kept (v : R40) (t : TimeIsl) :
    (cfgWritten v t).cfg = v ∧ (cfgWritten v t).spine = t.spine ∧ (cfgWritten v t).freqAdj = t.freqAdj := by
  by_cases h : fld v 39 38 = fld t.cfg 39 38 ∧ fld v 19 12 = fld t.cfg 19 12
  · rw [cfgWritten, if_pos h]
    exact ⟨rfl, rfl, rfl⟩
  · rw [cfgWritten, if_neg h]
    exact ⟨rfl, rfl, rfl⟩

theorem cfgWritten_same {v : R40} {t : TimeIsl} (h : fld v 39 38 = fld t.cfg 39 38) (h' : fld v 19 12 = fld t.cfg 19 12) :
    (cfgWritten v t).st = t.st := by
  rw [cfgWritten, if_pos ⟨h, h'⟩]

/-- Another source, domain or transport starts the measurement again (R174). -/
theorem cfgWritten_other {v : R40} {t : TimeIsl} (h : fld v 39 38 ≠ fld t.cfg 39 38 ∨ fld v 19 12 ≠ fld t.cfg 19 12) :
    (cfgWritten v t).st = (if fld v 39 38 = 0 then 1 else 2) ∧ (cfgWritten v t).first = true ∧ (cfgWritten v t).meas = [] := by
  rw [cfgWritten, if_neg (by tauto)]
  exact ⟨rfl, rfl, rfl⟩

/-- TIME_CFG_SET writes TIME_CFG (R174, R356). -/
theorem timeCfgSet_performs {s : State} {r : Req} {v : R40} (hr : Ready s r) (hlen : r.len = 5)
    (hv : v = pack 40 [(fld (img r.payload 0) 39 11, 11)]) (hthresh : fld (img r.payload 0) 27 20 ≠ 0) :
    Performs (.timeCfgSet r) 0x0402 r s [] [.time, .pow] fun t =>
      t.time.cfg = v ∧ t.time.spine = s.time.spine ∧ t.time.freqAdj = s.time.freqAdj ∧
      (fld v 39 38 = fld s.time.cfg 39 38 → fld v 19 12 = fld s.time.cfg 19 12 → t.time.st = s.time.st) ∧
      (fld v 39 38 ≠ fld s.time.cfg 39 38 ∨ fld v 19 12 ≠ fld s.time.cfg 19 12 →
        t.time.st = (if fld v 39 38 = 0 then 1 else 2) ∧ t.time.first = true ∧ t.time.meas = []) := by
  have hf : doTimeCfgSet r (begun s r) = okay ((begun s r).modTime (cfgWritten v)) := by
    have hgood : ¬ (r.len.toNat ≠ 5 ∨ fld (img r.payload 0) 27 20 = 0) := by simp [hlen, hthresh]
    subst hv
    simp only [doTimeCfgSet, if_neg hgood]
    rfl
  obtain ⟨hcfg, hspine, hfreq⟩ := cfgWritten_kept v s.time
  refine performs_source (cfgWritten v) rfl hr hf hspine fun t pps ch ht => ?_
  rw [ht]
  exact ⟨hcfg, hspine, hfreq, cfgWritten_same, cfgWritten_other⟩

/-- Settles O14: TIME_CFG_SET may switch D50 as well, every other time command changes the TIME island alone. -/
theorem timeSettingsTakeEffect : Obligations.TimeSettingsTakeEffect := by
  intro s r hr
  refine ⟨fun v => timeCfgSet_performs hr, fun hlen hsrc => timeSet_performs hr hlen (Or.inl hsrc) ?_,
    fun hlen hsrc => timeSet_performs hr hlen (Or.inr hsrc) ?_, fun w => delaySet_performs hr, ptpIpSet_performs hr,
    pullSet_performs hr⟩
  · rw [if_neg (by omega)]
  · rw [if_pos hsrc]

end Sys2Proof.Machine
end

section
/-! Sweep points (R181 to R183). -/

namespace Sys2Proof.Machine

/-- Margin commands that waited for a sweep change the sides alone. -/
theorem releaseMargins_sides (s : State) : ∃ si, releaseMargins s = { s with sides := si } := by
  refine foldl_holds (fun t => ∃ si, t = { s with sides := si }) _ _ ?_ s ⟨s.sides, rfl⟩
  rintro _ i ⟨si, rfl⟩
  exact ⟨_, rfl⟩

section
variable {s : State}

/-- The first point of an armed sweep starts at S0, with event 0x0420 (R181). -/
theorem sweepPointStart_first (hst : s.sweep.st = 2) (hdue : pointStamp s 0 ≤ s.now.toNat) :
    Reports .sweepPointStart s 0x0420 ([s.sweep.plan] ++ stampBytes s.sweep.s0) [.sweep] fun t =>
      t.sweep = { s.sweep with st := 3, point := some 0, moved := false, done := 0 } := by
  have hx : exec .sweepPointStart s = done s (raise
      (s.modSweep fun w => { w with st := 3, point := some 0, moved := false, done := 0 }) 0x0420
      ([s.sweep.plan] ++ stampBytes s.sweep.s0)) := by
    simp only [exec, execSweepPointStart, hst, if_neg (Nat.not_lt.mpr hdue), if_true]
  exact reports_of hx (fun p hp => Part.untouched_modSweep s _ (by simpa using hp)) rfl (by rw [settle_sweep, raise_sweep, modSweep_sweep])

/-- What a point that ends comes to where no break has flagged it (R181). -/
theorem exec_sweepPointStart {k : Nat} (hst : s.sweep.st = 3) (hk : s.sweep.point = some k) (hend : s.sweep.ending = none)
    (hdue : pointStamp s (k + 1) ≤ s.now.toNat) : exec .sweepPointStart s = done s (
      if s.sweep.npoints ≤ k + 1 then
        raise (releaseMargins (s.modSweep fun w => { w with st := 4, point := none, moved := false, done := k + 1 })) 0x0421 [s.sweep.plan]
      else s.modSweep fun w => { w with point := some (k + 1), moved := false, done := k + 1 }) := by
  have h32 : ¬ s.sweep.st = 2 := by rw [hst]; decide
  simp only [exec, execSweepPointStart, if_neg h32, if_pos hst, hk, if_neg (Nat.not_lt.mpr hdue), hend]
  rfl

/-- The next point starts as the one before ends (R181). -/
theorem sweepPointStart_next {k : Nat} (hst : s.sweep.st = 3) (hk : s.sweep.point = some k) (hend : s.sweep.ending = none)
    (hdue : pointStamp s (k + 1) ≤ s.now.toNat) (hmore : k + 1 < s.sweep.npoints) : Does .sweepPointStart s [.sweep] fun t =>
      t.sweep = { s.sweep with point := some (k + 1), moved := false, done := k + 1 } := by
  have hx := exec_sweepPointStart hst hk hend hdue
  rw [if_neg (by omega)] at hx
  exact does_of hx (fun p hp => Part.untouched_modSweep s _ (by simpa using hp)) rfl

/-- After the last point the plan is complete, with event 0x0421 (R183). -/
theorem sweepPointStart_last {k : Nat} (hst : s.sweep.st = 3) (hk : s.sweep.point = some k) (hend : s.sweep.ending = none)
    (hdue : pointStamp s (k + 1) ≤ s.now.toNat) (hlast : s.sweep.npoints ≤ k + 1) :
    Reports .sweepPointStart s 0x0421 [s.sweep.plan] [.sweep, .sides] fun t =>
      t.sweep = { s.sweep with st := 4, point := none, moved := false, done := k + 1 } := by
  have hx := exec_sweepPointStart hst hk hend hdue
  obtain ⟨si, hsi⟩ := releaseMargins_sides (s.modSweep fun w => { w with st := 4, point := none, moved := false, done := k + 1 })
  rw [if_pos hlast, hsi] at hx
  refine reports_of hx (fun p hp => ?_) rfl (by rw [settle_sweep, raise_sweep, modSweep_sweep])
  cases p
  case sweep | sides => exact absurd (by decide) hp
  all_goals rfl

end

/-- Settles O38: the sweep's own part moves point by point, the sides only where the plan ends and margin commands are released. -/
theorem sweepPointsAdvance : Obligations.SweepPointsAdvance := fun _ =>
  ⟨sweepPointStart_first, fun _ hst hk hend hdue => ⟨sweepPointStart_next hst hk hend hdue, sweepPointStart_last hst hk hend hdue⟩⟩

end Sys2Proof.Machine
end

section
/-! HOLDOVER (R158, R160), and the marks of the sync chain (R172, R173, R459). -/

namespace Sys2Proof.Machine

/-! ### HOLDOVER -/

/-- The TIME island in HOLDOVER from LOCKING or LOCKED (R160). -/
def heldOver (now : Stamp) (t : TimeIsl) : TimeIsl :=
  { t with st := 4, freqAdj := heldFreq now t, meas := [], lockRun := 0, lockedAt := none, lockHist := [] }

theorem enterHoldover_eq {s : State} (h : s.time.st = 2 ∨ s.time.st = 3) : enterHoldover s =
    raise (s.usedFree.modTime (heldOver s.now)) 0x0402 [by1 (timeSource s.time), by1 s.openNat] := by
  rw [enterHoldover, if_pos h]
  rfl

theorem enterHoldover_time {s : State} (h : s.time.st = 2 ∨ s.time.st = 3) : (enterHoldover s).time = heldOver s.now s.time := by
  rw [enterHoldover_eq h, raise_time, modTime_time, usedFree_time]

theorem enterHoldover_sweep (s : State) : (enterHoldover s).sweep = s.sweep := by
  by_cases h : s.time.st = 2 ∨ s.time.st = 3
  · rw [enterHoldover_eq h, raise_sweep, modTime_sweep, usedFree_sweep]
  · rw [enterHoldover, if_neg h]

theorem enterHoldover_noted (s : State) : TimeNoted s (enterHoldover s) := by
  by_cases h : s.time.st = 2 ∨ s.time.st = 3
  · rw [enterHoldover_eq h]
    exact ((TimeNoted.usedFree s).trans (TimeNoted.modTime _ _)).trans (TimeNoted.raise _ _ _)
  · rw [enterHoldover, if_neg h]
    exact TimeNoted.refl s

/-! ### Marks -/

section
variable {s : State} {stamp : Stamp} {code : BitVec 80}

/-- What a follower's mark comes to while no chain loop runs. -/
theorem exec_chainMark (h41 : domOn s 41 = true) (h50 : domOn s 50 = true) (hsrc : timeSource s.time = 3)
    (hloop : s.test.loopSync = false) : exec (.chainMarkReceived stamp code) s =
      done s (if chainCodeOk code then goodMark stamp code s else discardCode s) := by
  have hserve : ¬ (domOn s 41 = false ∨ domOn s 50 = false ∨ timeSource s.time ≠ 3 ∨ s.test.loopSync = true) := by
    simp [h41, h50, hsrc, hloop]
  exact congrArg (done s) (if_neg hserve)

/-- In the sync chain loop the ball is ignored (R459). -/
theorem chainMark_ignored (hloop : s.test.loopSync = true) : Does (.chainMarkReceived stamp code) s [] fun _ => True :=
  does_nothing (congrArg (done s) (if_pos (Or.inr (Or.inr (Or.inr hloop)))))

theorem chainMark_discarded (h41 : domOn s 41 = true) (h50 : domOn s 50 = true) (hsrc : timeSource s.time = 3)
    (hloop : s.test.loopSync = false) (hbad : chainCodeOk code = false) : Does (.chainMarkReceived stamp code) s [.time] fun t =>
      t.time = { s.time with chainDiscarded := satInc s.time.chainDiscarded } := by
  refine does_modTime (fun t => { t with chainDiscarded := satInc t.chainDiscarded }) ?_
  rw [exec_chainMark h41 h50 hsrc hloop, hbad]
  rfl

/-- What a good code, heard while the chain stands and no sweep runs, does to the TIME island (R172). -/
def markHeard (stamp : Stamp) (code : BitVec 80) (e : Nat) (t : TimeIsl) : TimeIsl := { t with
  mark := true, missed := 0, goodE := BitVec.ofNat 80 e
  hop := BitVec.ofNat 4 (min 15 ((code.extractLsb' 16 4).toNat + 1)), upHold := false
  meas := t.meas ++ [(e : Int) - (stamp.toNat : Int)], st := if t.st = 3 then 3 else 2 }

theorem goodMark_eq {e : Nat} (hlost : s.time.lost = false) (hsweep : s.sweep.point = none)
    (hheld : code.extractLsb' 13 3 ≠ (4 : BitVec 3))
    (he : e = microStamp ((code.extractLsb' 40 40).toNat * 1000000 + (code.extractLsb' 20 20).toNat)) :
    goodMark stamp code s = s.modTime (markHeard stamp code e) := by
  have hheld' : (fld code 15 13 == 4) = false := by
    rw [fld_eq_extract, beq_eq_false_iff_ne]
    exact fun h => hheld (BitVec.eq_of_toNat_eq h)
  have he' : microStamp (fld code 79 40 * 10 ^ 6 + fld code 39 20) = e := by
    rw [he, fld_eq_extract, fld_eq_extract]
    rfl
  have hhop : fld code 19 16 = (code.extractLsb' 16 4).toNat := fld_eq_extract code 19 16
  simp only [goodMark, hheld', he', hhop, hlost, Bool.false_and, Bool.false_eq_true, if_false, addMeasure, hsweep,
    State.modTime, markHeard]

theorem chainMark_heard {e : Nat} (h41 : domOn s 41 = true) (h50 : domOn s 50 = true) (hsrc : timeSource s.time = 3)
    (hloop : s.test.loopSync = false) (hok : chainCodeOk code = true) (hlost : s.time.lost = false) (hsweep : s.sweep.point = none)
    (hheld : code.extractLsb' 13 3 ≠ (4 : BitVec 3))
    (he : e = microStamp ((code.extractLsb' 40 40).toNat * 1000000 + (code.extractLsb' 20 20).toNat)) :
    Does (.chainMarkReceived stamp code) s [.time] fun t => t.time = markHeard stamp code e s.time := by
  refine does_modTime (markHeard stamp code e) ?_
  rw [exec_chainMark h41 h50 hsrc hloop, hok, if_pos rfl, goodMark_eq hlost hsweep hheld he]

end

/-! ### The chain lost -/

section
variable {s : State}

/-- The chain is found lost, with its event (R173). -/
def chainGivenUp (s : State) : State := raise (s.modTime fun t => { t with lost := true }) 0x0404 (stampBytes s.time.goodE)

/-- After two missing marks the chain is lost (R173). -/
theorem exec_chainLost (h41 : domOn s 41 = true) (hsrc : timeSource s.time = 3) (hlost : s.time.lost = false)
    (hmissed : 2 ≤ s.time.missed.toNat) : exec .chainLost s = done s (breakSweepLater (enterHoldover (chainGivenUp s))) := by
  have hdue : ¬ (domOn s 41 = false ∨ timeSource s.time ≠ 3 ∨ s.time.lost = true ∨ s.time.missed.toNat < 2) := by
    simp [h41, hsrc, hlost]
    omega
  exact congrArg (done s) (if_neg hdue)

theorem breakSweepLater_none {v : State} (h : v.sweep.point = none) : breakSweepLater v = v := by
  simp only [breakSweepLater, h]

theorem chainGivenUp_time (s : State) : (chainGivenUp s).time = { s.time with lost := true } := by
  rw [chainGivenUp, raise_time, modTime_time]

theorem chainGivenUp_noted (s : State) : TimeNoted s (chainGivenUp s) := (TimeNoted.modTime s _).trans (TimeNoted.raise _ _ _)

theorem chainGivenUp_sweep (s : State) : (chainGivenUp s).sweep = s.sweep := by
  rw [chainGivenUp, raise_sweep, modTime_sweep]

theorem chainLost_reports (h41 : domOn s 41 = true) (hsrc : timeSource s.time = 3) (hlost : s.time.lost = false)
    (hmissed : 2 ≤ s.time.missed.toNat) (h2 : s.time.st ≠ 2) (h3 : s.time.st ≠ 3) (hsweep : s.sweep.point = none) :
    Reports .chainLost s 0x0404 (stampBytes s.time.goodE) [.time] fun t => t.time = { s.time with lost := true } := by
  have hquiet : enterHoldover (chainGivenUp s) = chainGivenUp s := by
    have hst : ¬ ((chainGivenUp s).time.st = 2 ∨ (chainGivenUp s).time.st = 3) := by
      rw [chainGivenUp_time]
      exact fun h => h.elim h2 h3
    rw [enterHoldover, if_neg hst]
  refine reports_modTime (fun t => { t with lost := true }) ?_ rfl
  rw [exec_chainLost h41 hsrc hlost hmissed, hquiet, breakSweepLater_none ((congrArg Sweep.point (chainGivenUp_sweep s)).trans hsweep)]
  rfl

/-- A chain lost while LOCKING or LOCKED is HOLDOVER too (R158, R173). -/
theorem chainLost_holds (h41 : domOn s 41 = true) (hsrc : timeSource s.time = 3) (hlost : s.time.lost = false)
    (hmissed : 2 ≤ s.time.missed.toNat) (hst : s.time.st = 2 ∨ s.time.st = 3) (hsweep : s.sweep.point = none) :
    Affects .chainLost s [.time, .free] fun t => t.time.lost = true ∧ t.time.st = 4 := by
  have hx := exec_chainLost h41 hsrc hlost hmissed
  rw [breakSweepLater_none (by rw [enterHoldover_sweep, chainGivenUp_sweep, hsweep])] at hx
  have hnoted := (chainGivenUp_noted s).trans (enterHoldover_noted _)
  refine affects_of hx (fun p hp => hnoted.part hp) ?_
  rw [settle_time, enterHoldover_time (by rw [chainGivenUp_time]; exact hst), chainGivenUp_time]
  exact ⟨rfl, rfl⟩

end

/-- Settles O29: a mark is discarded, ignored or heard, and a lost chain is HOLDOVER where the clock had locked or was locking. -/
theorem chainMarksAreJudged : Obligations.ChainMarksAreJudged := fun _ h41 hsrc =>
  ⟨fun _ _ h50 hloop => chainMark_discarded h41 h50 hsrc hloop, fun _ _ => chainMark_ignored,
    fun _ _ _ h50 hloop hok hlost hsweep => chainMark_heard h41 h50 hsrc hloop hok hlost hsweep, chainLost_reports h41 hsrc,
    chainLost_holds h41 hsrc⟩

end Sys2Proof.Machine
end

section
/-! PPS_IN, PPS_OUT and SYNC_OUT, and the reload of spine time (R159, R162 to R171, R462). -/

namespace Sys2Proof.Machine

/-! ### PPS -/

/-- The offset of an instant to the nearest whole second is the one that reaches it from within half a second (R166). -/
theorem nearestSecond {p off : Int} (hsec : (p + off) % 2 ^ 40 = 0) (hlo : -2 ^ 39 < off) (hhi : off ≤ 2 ^ 39) :
    (p + 2 ^ 39) / 2 ^ 40 * 2 ^ 40 - p = off := by omega

section
variable {s : State} {stamp : Stamp}

/-- PPS_IN that is not the source is stamped and no more (R166). -/
theorem ppsInEdge_stamps (h41 : domOn s 41 = true) (h50 : domOn s 50 = true) (hsrc : timeSource s.time ≠ 2) :
    Does (.ppsInEdge stamp) s [.time] fun t => t.time = { s.time with ppsStamp := stamp } := by
  have hon : ¬ (domOn s 41 = false ∨ domOn s 50 = false) := by simp [h41, h50]
  refine does_modTime (fun t => { t with ppsStamp := stamp }) (congrArg (done s) ((if_neg hon).trans (if_pos hsrc)))

/-- The TIME island with an edge of PPS_IN measured (R159, R166). -/
def edgeMeasured (stamp : Stamp) (off : Int) (t : TimeIsl) : TimeIsl :=
  { t with ppsStamp := stamp, meas := t.meas ++ [off], st := if t.st = 3 then 3 else 2 }

/-- The TIME island with an edge of PPS_IN rejected (R166). -/
def edgeRejected (stamp : Stamp) (t : TimeIsl) : TimeIsl := { t with ppsStamp := stamp, ppsRejected := satInc t.ppsRejected }

/-- An edge of PPS_IN as the source is measured or, far from a whole second while LOCKING or LOCKED, rejected (R166). -/
theorem exec_ppsInEdge {off : Int} (h41 : domOn s 41 = true) (h50 : domOn s 50 = true) (hsrc : timeSource s.time = 2)
    (hsec : ((stamp.toNat : Int) - quarterNs s.time.delays[3] + off) % 2 ^ 40 = 0) (hlo : -2 ^ 39 < off) (hhi : off ≤ 2 ^ 39) :
    exec (.ppsInEdge stamp) s = done s (
      if (s.time.st = 2 ∨ s.time.st = 3) ∧ 2 ^ 40 < 10 * off.natAbs then
        raise (s.modTime (edgeRejected stamp)) 0x0408 (ns4 (offsetNs off))
      else s.modTime (edgeMeasured stamp off)) := by
  have hon : ¬ (domOn s 41 = false ∨ domOn s 50 = false) := by simp [h41, h50]
  have hoff := nearestSecond hsec hlo hhi
  have hsrc' : ¬ timeSource (s.modTime fun t => { t with ppsStamp := stamp }).time ≠ 2 := fun h => h hsrc
  refine congrArg (done s) ((if_neg hon).trans ((if_neg hsrc').trans ?_))
  simp only [modTime_time, hoff]
  rfl

theorem ppsInEdge_measures {off : Int} (h41 : domOn s 41 = true) (h50 : domOn s 50 = true) (hsrc : timeSource s.time = 2)
    (hsec : ((stamp.toNat : Int) - quarterNs s.time.delays[3] + off) % 2 ^ 40 = 0) (hlo : -2 ^ 39 < off) (hhi : off ≤ 2 ^ 39)
    (h : (s.time.st ≠ 2 ∧ s.time.st ≠ 3) ∨ 10 * off.natAbs ≤ 2 ^ 40) :
    Does (.ppsInEdge stamp) s [.time] fun t => t.time = edgeMeasured stamp off s.time := by
  have hx := exec_ppsInEdge h41 h50 hsrc hsec hlo hhi
  rw [if_neg (by rintro ⟨hst, hfar⟩; rcases h with ⟨h2, h3⟩ | hnear; exacts [hst.elim h2 h3, by omega])] at hx
  exact does_modTime _ hx

theorem ppsInEdge_rejects {off : Int} (h41 : domOn s 41 = true) (h50 : domOn s 50 = true) (hsrc : timeSource s.time = 2)
    (hsec : ((stamp.toNat : Int) - quarterNs s.time.delays[3] + off) % 2 ^ 40 = 0) (hlo : -2 ^ 39 < off) (hhi : off ≤ 2 ^ 39)
    (hst : s.time.st = 2 ∨ s.time.st = 3) (hfar : 2 ^ 40 < 10 * off.natAbs) :
    Reports (.ppsInEdge stamp) s 0x0408 (ns4 (offsetNs off)) [.time] fun t => t.time = edgeRejected stamp s.time := by
  have hx := exec_ppsInEdge h41 h50 hsrc hsec hlo hhi
  rw [if_pos ⟨hst, hfar⟩] at hx
  exact reports_modTime _ hx rfl

end

/-! ### Lines -/

section
variable {s u : State} {idx : Nat} {l : Line}

/-- A PPS line gives PPS_OUT its rise and fall (R167). -/
theorem ppsLine_pulses (hb : LineBegins s u 8 idx 0x21 l) : Begins (.ppsLine idx) s u 8 idx [.time] fun t => t.time = { u.time with
    ppsOut := some (BitVec.ofNat 80 (tickStamp u (l.start + 1)), BitVec.ofNat 80 (tickStamp u (l.start + 1 + l.duration))) } :=
  begins_modTime (fun t => { t with
    ppsOut := some (BitVec.ofNat 80 (tickStamp u (l.start + 1)), BitVec.ofNat 80 (tickStamp u (l.start + 1 + l.duration))) })
    (congrArg (done s) (startLine_begins hb _))

/-- What SYNC_OUT carries of a CHAIN line's frame for a whole microsecond, and when it leaves (R168, R170). -/
def frameOf (u : State) (us : Nat) : BitVec 80 × Stamp := (chainCode u us, BitVec.ofInt 80 ((microStamp us : Nat) - chainDelay u.time))

/-- The TIME island with a CHAIN line's frame on SYNC_OUT. -/
def frameSent (u : State) (us : Nat) (t : TimeIsl) : TimeIsl := { t with chainOut := some (frameOf u us) }

/-- A CHAIN line that begins sends its frame, measures its reflection and, in the sync chain loop, hears its own mark. -/
theorem exec_chainLine (hb : LineBegins s u 8 idx 0x22 l) (reflection : Option (BitVec 22)) {us : Nat}
    (hus : us = chainMicros (tickStamp u l.start)) : exec (.chainLine idx reflection) s = done s (
      loopMark (chainCode u us) (hopMeasure reflection ((lineBegun u 8 idx).modTime (frameSent u us)))) := by
  subst hus
  exact congrArg (done s) (startLine_begins hb _)

/-- A mark that the loop brings back changes of the TIME island no more than the mark, the count of missing ones and the count of
codes discarded (R462). -/
theorem loopMark_cases (code : BitVec 80) (s : State) : ∃ mk ms cd,
    loopMark code s = s.modTime (fun t => { t with mark := mk, missed := ms, chainDiscarded := cd }) ∧
    (s.test.loopSync = true → chainCodeOk code = true → mk = true ∧ ms = 0) := by
  unfold loopMark
  split
  · next h => exact ⟨s.time.mark, s.time.missed, s.time.chainDiscarded, rfl, fun h' => by rw [h] at h'; cases h'⟩
  · split
    · exact ⟨true, 0, s.time.chainDiscarded, rfl, fun _ _ => ⟨rfl, rfl⟩⟩
    · next h => exact ⟨s.time.mark, s.time.missed, _, rfl, fun _ h' => absurd h' h⟩

theorem inTime_some {d : BitVec 22} (h : d.toNat ≤ 560000) : inTime (some d) = some d := by
  simp [inTime, h]

theorem inTime_none {r : Option (BitVec 22)} {d : BitVec 22} (h : r = none ∨ (r = some d ∧ 560000 < d.toNat)) : inTime r = none := by
  rcases h with rfl | ⟨rfl, hd⟩
  · rfl
  · simp [inTime, hd]

/-- What a mark whose reflection came in time does to the TIME island (R171). -/
def reflected (d : BitVec 22) (t : TimeIsl) : TimeIsl :=
  let h := (BitVec.ofNat 22 (d.toNat / 2) :: t.hops).take 16
  { t with hops := h, hopD := BitVec.ofNat 22 (meanOf (h.map fun x => x.toNat)) }

theorem hopMeasure_reflected {r : Option (BitVec 22)} {d : BitVec 22} (h : inTime r = some d) (s : State) :
    hopMeasure r s = s.modTime (reflected d) := by
  simp only [hopMeasure, h]
  rfl

/-- What a mark with no reflection in time does to the TIME island (R171). -/
def unreflected (t : TimeIsl) : TimeIsl := { t with hopD := 0, hops := [], noRefl := true }

theorem hopMeasure_unreflected {r : Option (BitVec 22)} (h : inTime r = none) (s : State) : hopMeasure r s =
    if s.time.noRefl then s.modTime unreflected else raise (s.modTime unreflected) 0x040A [] := by
  simp only [hopMeasure, h]
  rfl

theorem loopMark_off {s : State} (h : s.test.loopSync = false) (code : BitVec 80) : loopMark code s = s := if_pos h

/-- The hop delay of a mark whose reflection came in time (R171). -/
theorem chainLine_measures (hb : LineBegins s u 8 idx 0x22 l) {us : Nat} {d : BitVec 22} (hus : us = chainMicros (tickStamp u l.start))
    (hd : d.toNat ≤ 560000) : Begins (.chainLine idx (some d)) s u 8 idx [.time] fun t =>
      t.time.chainOut = some (frameOf u us) ∧ t.time.hops = (BitVec.ofNat 22 (d.toNat / 2) :: u.time.hops).take 16 ∧
      (u.test.loopSync = true → chainCodeOk (chainCode u us) = true → t.time.mark = true ∧ t.time.missed = 0) := by
  have hx := exec_chainLine hb (some d) hus
  rw [hopMeasure_reflected (inTime_some hd)] at hx
  obtain ⟨mk, ms, cd, hloop, hheard⟩ :=
    loopMark_cases (chainCode u us) (((lineBegun u 8 idx).modTime (frameSent u us)).modTime (reflected d))
  rw [hloop] at hx
  refine begins_of hx ⟨rfl, rfl, hheard⟩ (by decide) fun p hp => ?_
  cases p
  case time => exact absurd (by decide) hp
  all_goals rfl

/-- A CHAIN line's mark with no reflection in time: D is 0, and event 0x040A is raised where it has not been (R171). -/
theorem chainLine_unreflected (hb : LineBegins s u 8 idx 0x22 l) {us : Nat} {d : BitVec 22} {r : Option (BitVec 22)}
    (hus : us = chainMicros (tickStamp u l.start)) (hloop : u.test.loopSync = false)
    (hr : r = none ∨ (r = some d ∧ 560000 < d.toNat)) :
    Begins (.chainLine idx r) s u 8 idx [.time] fun t => t.time = { u.time with
      chainOut := some (frameOf u us), hopD := 0, hops := [], noRefl := true } := by
  have hx := exec_chainLine hb r hus
  rw [hopMeasure_unreflected (inTime_none hr)] at hx
  by_cases hraised : ((lineBegun u 8 idx).modTime (frameSent u us)).time.noRefl = true
  · rw [if_pos hraised, loopMark_off (by exact hloop)] at hx
    exact begins_modTime (fun t => unreflected (frameSent u us t)) hx
  · rw [if_neg hraised, loopMark_off (by rw [raise_test]; exact hloop)] at hx
    exact begins_modTime_raise (fun t => unreflected (frameSent u us t)) hx

end

/-! ### Reload -/

/-- The reload on an exit from REST sets spine time to T0 and the holdover count since (R162, R163). -/
theorem spineTimeReload_reloads {s : State} {c : BitVec 64} (h41 : domOn s 41 = true) (hfirst : s.seq.firstDue = true)
    (hrun : s.pow.dev = .run) (hexit : s.pow.exitDue = true) (hst : s.time.stSaved = 2) :
    Does (.spineTimeReload c) s [.time] fun t => t.time = { s.time with
      spine := BitVec.ofNat 112 (reloaded s.time c), restored := true, st := 4, freqAdj := s.time.f0, lockRun := 0, lockedAt := none
      lockHist := [] } := by
  have hdue : reloadDue s = true := by simp [reloadDue, h41, hfirst, hrun, hexit]
  refine does_of (congrArg (done s) (if_pos hdue)) (fun p hp => Part.untouched_modTime s _ (by simpa using hp)) ?_
  simp only [settle_time, modTime_time, hst, true_or, if_true]

/-- Settles O31, row by row. -/
theorem ppsChainAndReload : Obligations.PpsChainAndReload := by
  refine ⟨fun s stamp off h41 h50 => ⟨ppsInEdge_stamps h41 h50, fun hsrc hsec hlo hhi =>
    ⟨ppsInEdge_measures h41 h50 hsrc hsec hlo hhi, ppsInEdge_rejects h41 h50 hsrc hsec hlo hhi⟩⟩,
    fun s => ⟨fun u idx l => ppsLine_pulses,
      fun u idx us l d hb hus => ⟨chainLine_measures hb hus, fun r => chainLine_unreflected hb hus⟩,
      fun c => spineTimeReload_reloads⟩⟩

end Sys2Proof.Machine
end

section
/-! IEEE 1588 messages and the servo (R158 to R161, R164, R236). -/

namespace Sys2Proof.Machine

/-! ### Messages, and a source that is lost -/

section
variable {s : State}

/-- The clock of a source that is lost: IEEE 1588's master is dropped where its announce timeout expired (R158, R164). -/
def sourceDropped (announce : Bool) (t : TimeIsl) : TimeIsl := if announce = true ∧ timeSource t = 1 then dropMaster t else t

theorem heldOver_sourceDropped (now : Stamp) (announce : Bool) (t : TimeIsl) : heldOver now (sourceDropped announce t) =
    { sourceDropped announce t with
      st := 4, freqAdj := heldFreq now t, meas := [], lockRun := 0, lockedAt := none, lockHist := [] } := by
  unfold sourceDropped
  split <;> rfl

/-- Dropping the master leaves the source, the state and spine time. -/
theorem sourceDropped_kept (announce : Bool) (t : TimeIsl) : timeSource (sourceDropped announce t) = timeSource t ∧
    (sourceDropped announce t).st = t.st ∧ (sourceDropped announce t).spine = t.spine := by
  unfold sourceDropped
  split <;> exact ⟨rfl, rfl, rfl⟩

theorem exec_sourceLost {announce : Bool} (h41 : domOn s 41 = true) (hsrc : timeSource s.time = 1 ∨ timeSource s.time = 2) :
    exec (.sourceLost announce) s = done s (enterHoldover (s.modTime (sourceDropped announce))) := by
  have hserve : (domOn s 41 && (timeSource s.time == 1 || timeSource s.time == 2)) = true := by
    simpa [h41] using hsrc
  exact congrArg (done s) (if_pos hserve)

/-- A lost source is HOLDOVER, with event 0x0402 (R158, R160). -/
theorem sourceLost_holds {announce : Bool} (h41 : domOn s 41 = true) (hsrc : timeSource s.time = 1 ∨ timeSource s.time = 2)
    (hst : s.time.st = 2 ∨ s.time.st = 3) :
    Reports (.sourceLost announce) s 0x0402 [by1 (timeSource s.time), by1 (Config.freeNat s.free)] [.time, .free] fun t =>
      t.free = s.free + 1 ∧ t.time = { sourceDropped announce s.time with
        st := 4, freqAdj := heldFreq s.now s.time, meas := [], lockRun := 0, lockedAt := none, lockHist := [] } := by
  obtain ⟨hsame, hstate, hspine⟩ := sourceDropped_kept announce s.time
  have hnow : (s.modTime (sourceDropped announce)).now = s.now := by rw [State.now, State.now, modTime_time, hspine]
  have hx := exec_sourceLost (announce := announce) h41 hsrc
  rw [enterHoldover_eq (by rw [modTime_time, hstate]; exact hst), modTime_time, hsame, hnow] at hx
  have hview : eventView ((s.modTime (sourceDropped announce)).usedFree.modTime (heldOver s.now)) = eventView s :=
    (eventView_modTime (s := (s.modTime (sourceDropped announce)).usedFree) rfl).trans (eventView_modTime (s := s) hspine)
  refine reports_of hx (fun p hp => ?_) hview ⟨?_, ?_⟩
  · cases p
    case time | free => exact absurd (by decide) hp
    all_goals rfl
  · rw [settle_free, raise_free]
    rfl
  · rw [settle_time, raise_time, ← heldOver_sourceDropped]
    rfl

/-- A message that the PTP clock does not serve is counted (R164). -/
theorem ptpMessage_ignored {m : PtpMsg} (h41 : domOn s 41 = true) (hlink : s.svc.link = true)
    (h : timeSource s.time ≠ 1 ∨ ptpSupported s.time m = false) : Does (.ptpMessageReceived m) s [.time] fun t =>
      t.time = { s.time with ptpIgnored := satInc s.time.ptpIgnored } := by
  have hon : ¬ (domOn s 41 = false ∨ s.svc.link = false) := by simp [h41, hlink]
  have hno : ¬ (timeSource s.time = 1 ∧ ptpSupported s.time m = true) := by
    rintro ⟨hsrc, hok⟩
    rw [hok] at h
    exact h.elim (fun hs => hs hsrc) (by decide)
  exact does_modTime (fun t => { t with ptpIgnored := satInc t.ptpIgnored }) (congrArg (done s) ((if_neg hon).trans (if_neg hno)))

/-- A one-step Sync of the selected master is kept until its Delay_Resp (R164). -/
theorem ptpMessage_sync {m x : PtpMsg} (h41 : domOn s 41 = true) (hlink : s.svc.link = true) (hsrc : timeSource s.time = 1)
    (hok : ptpSupported s.time m = true) (hmaster : s.time.master = some x) (hclock : x.clock = m.clock) (hkind : m.kind = .syncOneStep) :
    Does (.ptpMessageReceived m) s [.time] fun t => t.time = { s.time with sync := some (m.seqId, m.rxStamp, some m.origin) } := by
  have hon : ¬ (domOn s 41 = false ∨ s.svc.link = false) := by simp [h41, hlink]
  have hours : onPtp m s = s.modTime fun t => { t with sync := some (m.seqId, m.rxStamp, some m.origin) } := by
    simp only [onPtp, hkind, hmaster, hclock, beq_self_eq_true, if_true]
  exact does_modTime (fun t => { t with sync := some (m.seqId, m.rxStamp, some m.origin) }) (congrArg (done s)
    ((if_neg hon).trans ((if_pos ⟨hsrc, hok⟩).trans hours)))

theorem delayReqDue_waits (h41 : domOn s 41 = true) (hsrc : timeSource s.time = 1) (hmaster : s.time.master.isSome = true) :
    Does .delayReqDue s [.time] fun t => t.time = { s.time with reqDue := true } :=
  does_modTime (fun t => { t with reqDue := true }) (congrArg (done s) (if_pos ⟨h41, hsrc, hmaster⟩))

end

/-! ### The parts of the servo -/

/-- `t` is `s` but for the TIME island, the window, the mailbox, the values that the manual leaves open, and events. -/
def ServoOnly (s t : State) : Prop := ∃ ti w m fr ev sk sg ns lo, t = { s with
  time := ti, win := w, mbx := m, free := fr, svc := { s.svc with evt := ev, evtSkip := sk }
  store := { s.store with staged := sg, stageNs := ns, logLost := lo } }

/-- FREQ_ADJ lies within its bound (R155). -/
def FreqBounded (t : TimeIsl) : Prop := -1000000 ≤ t.freqAdj ∧ t.freqAdj ≤ 1000000

/-- What a part of the servo that follows the decision between a step and a frequency leaves: that decision, the offset it was made
on, and FREQ_ADJ within its bound. -/
structure ServoKeeps (s t : State) : Prop where
  only : ServoOnly s t
  decided : (t.time.meas, t.time.offset, t.time.step, t.time.first) = (s.time.meas, s.time.offset, s.time.step, s.time.first)
  bounded : FreqBounded s.time → FreqBounded t.time

theorem ServoOnly.refl (s : State) : ServoOnly s s := ⟨_, _, _, _, _, _, _, _, _, rfl⟩

theorem ServoOnly.trans {s t u : State} (h : ServoOnly s t) (k : ServoOnly t u) : ServoOnly s u := by
  obtain ⟨_, _, _, _, _, _, _, _, _, rfl⟩ := h
  obtain ⟨_, _, _, _, _, _, _, _, _, rfl⟩ := k
  exact ⟨_, _, _, _, _, _, _, _, _, rfl⟩

theorem ServoOnly.modTime (s : State) (f : TimeIsl → TimeIsl) : ServoOnly s (s.modTime f) := ⟨_, _, _, _, _, _, _, _, _, rfl⟩

theorem ServoOnly.usedFree (s : State) : ServoOnly s s.usedFree := ⟨_, _, _, _, _, _, _, _, _, rfl⟩

theorem ServoOnly.raise (s : State) (c : Nat) (d : List Byte) : ServoOnly s (raise s c d) :=
  ⟨_, _, _, _, _, _, _, _, _, (raise_noted s c d).1⟩

theorem ServoOnly.seq {s t : State} (h : ServoOnly s t) : t.seq = s.seq := by
  obtain ⟨_, _, _, _, _, _, _, _, _, rfl⟩ := h
  rfl

/-- Every other part is noted. -/
theorem ServoOnly.part {s t : State} (h : ServoOnly s t) {p : Part} (hp : p ∉ [Part.time, .win, .mbx, .free]) : p.noted s t := by
  obtain ⟨_, _, _, _, _, _, _, _, _, rfl⟩ := h
  cases p
  case time | win | mbx | free => exact absurd (by decide) hp
  case paths => exact fun _ => rfl
  all_goals rfl

namespace ServoKeeps

theorem refl (s : State) : ServoKeeps s s := ⟨ServoOnly.refl s, rfl, id⟩

theorem trans {s t u : State} (h : ServoKeeps s t) (k : ServoKeeps t u) : ServoKeeps s u :=
  ⟨h.only.trans k.only, k.decided.trans h.decided, fun hs => k.bounded (h.bounded hs)⟩

theorem modTime {s : State} {f : TimeIsl → TimeIsl} (hd : ((f s.time).meas, (f s.time).offset, (f s.time).step, (f s.time).first) =
    (s.time.meas, s.time.offset, s.time.step, s.time.first)) (hb : FreqBounded s.time → FreqBounded (f s.time)) :
    ServoKeeps s (s.modTime f) := ⟨ServoOnly.modTime s f, hd, hb⟩

theorem lockRun (s : State) (n : Nat) : ServoKeeps s (s.modTime fun t => { t with lockRun := n }) := modTime rfl id

theorem pull (s : State) (n : BitVec 16) : ServoKeeps s (s.modTime fun t => { t with pull := n, pullNs := 0, pullLim := false }) :=
  modTime rfl id

theorem freqAdj {s : State} {n : Int} (h : FreqBounded s.time → -1000000 ≤ n ∧ n ≤ 1000000) :
    ServoKeeps s (s.modTime fun t => { t with freqAdj := n }) := modTime rfl h

theorem of_time {s t : State} (h : ServoOnly s t) (ht : t.time = s.time) : ServoKeeps s t :=
  ⟨h, by rw [ht], fun hs => by rwa [ht]⟩

theorem raise (s : State) (c : Nat) (d : List Byte) : ServoKeeps s (raise s c d) := of_time (ServoOnly.raise s c d) (raise_time s c d)

theorem usedFree (s : State) : ServoKeeps s s.usedFree := of_time (ServoOnly.usedFree s) rfl

theorem traceStep (s : State) (subject corr : Nat) (code : Int) : ServoKeeps s (traceStep s subject corr code) := by
  obtain ⟨w, m, h⟩ := trace_cases s 2 subject (corr * 256 + fieldOf 8 code) s.now
  rw [Machine.traceStep, h]
  exact of_time ⟨_, _, _, _, _, _, _, _, _, rfl⟩ rfl

theorem ite {c : Prop} [Decidable c] {s t v : State} (ht : c → ServoKeeps s t) (hv : ¬c → ServoKeeps s v) :
    ServoKeeps s (if c then t else v) := by
  split
  · next h => exact ht h
  · next h => exact hv h

end ServoKeeps

theorem traceStep_time (s : State) (subject corr : Nat) (code : Int) : (traceStep s subject corr code).time = s.time := by
  obtain ⟨w, m, h⟩ := trace_cases s 2 subject (corr * 256 + fieldOf 8 code) s.now
  rw [traceStep, h]

theorem movePull_keeps (up : Bool) (s : State) : ServoKeeps s (movePull up s) :=
  (ServoKeeps.pull s _).trans (ServoKeeps.traceStep _ _ _ _)

theorem movePull_freqAdj (up : Bool) (s : State) : (movePull up s).time.freqAdj = s.time.freqAdj := by
  unfold movePull
  rw [traceStep_time]
  rfl

/-- The pull's move takes its nominal effect from FREQ_ADJ, which comes nearer to 0 by it (R161). -/
theorem servoPull_keeps (s : State) : ServoKeeps s (servoPull s) := by
  refine .ite (fun _ => .refl s) fun hfar =>
    .ite (fun _ => .ite (fun _ => (ServoKeeps.modTime rfl id).trans (.raise _ _ _)) fun _ => .refl s) fun _ =>
    .ite (fun _ => (movePull_keeps _ s).trans (.freqAdj fun hb => ?_)) fun _ => .refl s
  obtain ⟨hlo, hhi⟩ := hb
  rw [movePull_freqAdj] at hlo hhi
  by_cases hup : 0 < s.time.freqAdj
  · rw [if_pos (decide_eq_true hup)]
    omega
  · rw [if_neg (by simpa using hup)]
    omega

/-- What `judgeLock` does once it has counted the line as one of `run` below LOCK_THRESH in a row (R159). -/
def lockJudged (off : Int) (thresh mag run : Nat) (now : Stamp) (v : State) : State :=
  if v.time.st = 3 then
    if 4 * thresh * 2 ^ 40 < mag then v.modTime fun t => { t with st := 2, lockedAt := none, lockHist := [] } else v
  else if v.time.st = 2 ∧ 16 ≤ run then
    raise (v.modTime fun t => { t with st := 3, lockedAt := some now, lockHist := [] }) 0x0401
      ([by1 (timeSource v.time)] ++ ns4 (offsetNs off))
  else v

theorem judgeLock_eq (off : Int) (s : State) : ∃ run, judgeLock off s =
    lockJudged off (fld s.time.cfg 27 20) (off.natAbs * 10 ^ 9) run s.now (s.modTime fun t => { t with lockRun := run }) := ⟨_, rfl⟩

theorem lockJudged_keeps (off : Int) (thresh mag run : Nat) (now : Stamp) (v : State) :
    ServoKeeps v (lockJudged off thresh mag run now v) :=
  .ite (fun _ => .ite (fun _ => .modTime rfl id) fun _ => .refl _)
    fun _ => .ite (fun _ => (ServoKeeps.modTime rfl id).trans (.raise _ _ _)) fun _ => .refl _

theorem judgeLock_keeps (off : Int) (s : State) : ServoKeeps s (judgeLock off s) := by
  obtain ⟨run, h⟩ := judgeLock_eq off s
  rw [h]
  exact (ServoKeeps.lockRun s run).trans (lockJudged_keeps _ _ _ _ _ _)

theorem keepHistory_keeps (s : State) : ServoKeeps s (keepHistory s) := by
  unfold keepHistory
  split
  · exact (ServoKeeps.modTime rfl id).trans (ServoKeeps.usedFree _)
  · exact ServoKeeps.refl s

/-! ### SERVO lines -/

/-- The TIME island with its measurements taken as one mean offset. -/
def offsetTaken (off : Int) (t : TimeIsl) : TimeIsl := { t with meas := [], offset := offsetNs off }

/-- What the mean offset asks for at once: a step, or another frequency (R159). -/
def correct (off : Int) (s : State) : State :=
  if s.time.first = true ∨ (fld s.time.cfg 35 28 ≠ 0 ∧ fld s.time.cfg 35 28 * 2 ^ 40 < off.natAbs * 10 ^ 6) then decideStep off s
  else filterFreq s

theorem servo_of_meas {s : State} {off : Int} (h : s.time.meas ≠ []) (hoff : off = roundDiv s.time.meas.sum s.time.meas.length) :
    servo s = keepHistory (servoPull (judgeLock off (correct off (s.modTime (offsetTaken off))))) := by
  unfold servo
  split
  · next hnil => exact absurd hnil h
  · rw [hoff]
    rfl

theorem servo_of_none {s : State} (h : s.time.meas = []) (hsrc : timeSource s.time ≠ 0) : servo s = s := by
  simp only [servo, h, hsrc, false_and, if_false]

theorem correct_only (off : Int) (s : State) : ServoOnly s (correct off s) := by
  unfold correct
  split
  · exact ServoOnly.modTime s _
  · exact (ServoOnly.modTime s _).trans (ServoOnly.usedFree _)

theorem correct_taken (off : Int) (s : State) :
    (correct off s).time.meas = s.time.meas ∧ (correct off s).time.offset = s.time.offset := by
  unfold correct
  split <;> exact ⟨rfl, rfl⟩

/-- The first offset, and one beyond STEP_LIMIT, ask for a step (R159). -/
theorem correct_steps {off : Int} {s : State}
    (h : s.time.first = true ∨ (fld s.time.cfg 35 28 ≠ 0 ∧ fld s.time.cfg 35 28 * 2 ^ 40 < off.natAbs * 10 ^ 6)) :
    (correct off s).time.step = some off ∧ (correct off s).time.first = false := by
  rw [correct, if_pos h]
  exact ⟨rfl, rfl⟩

/-- Another offset, with no STEP_LIMIT, sets FREQ_ADJ within its bound (R159). -/
theorem correct_filters {off : Int} {s : State} (hfirst : s.time.first = false) (hlimit : fld s.time.cfg 35 28 = 0) :
    (correct off s).time.step = s.time.step ∧ FreqBounded (correct off s).time := by
  have hno : ¬ (s.time.first = true ∨ (fld s.time.cfg 35 28 ≠ 0 ∧ fld s.time.cfg 35 28 * 2 ^ 40 < off.natAbs * 10 ^ 6)) := by
    simp [hfirst, hlimit]
  rw [correct, if_neg hno]
  refine ⟨rfl, ?_⟩
  show -1000000 ≤ clampI (-1000000) 1000000 s.openInt ∧ clampI (-1000000) 1000000 s.openInt ≤ 1000000
  rw [clampI]
  omega

section
variable {s u : State} {idx : Nat} {l : Line} (hb : LineBegins s u 8 idx 0x20 l)
include hb

/-- A SERVO line with nothing measured from a source changes nothing (R159). -/
theorem servoLine_empty (h : u.time.meas = []) (hsrc : timeSource u.time ≠ 0) : Begins (.servoLine idx) s u 8 idx [] fun _ => True :=
  begins_empty ((congrArg (done s) (startLine_begins hb _)).trans (congrArg (done s) (servo_of_none (s := lineBegun u 8 idx) h hsrc)))

/-- A SERVO line takes the mean of the offsets measured: it decides a step, or sets FREQ_ADJ within its bound (R159). -/
theorem servoLine_corrects {off : Int} (h : u.time.meas ≠ []) (hoff : off = roundDiv u.time.meas.sum u.time.meas.length) :
    Begins (.servoLine idx) s u 8 idx [.time, .win, .mbx, .free] fun t =>
      t.time.meas = [] ∧ t.time.offset = offsetNs off ∧
      ((u.time.first = true ∨ ((u.time.cfg.extractLsb' 28 8).toNat ≠ 0 ∧
          (u.time.cfg.extractLsb' 28 8).toNat * 2 ^ 40 < off.natAbs * 10 ^ 6) → t.time.step = some off ∧ t.time.first = false) ∧
        (u.time.first = false → (u.time.cfg.extractLsb' 28 8).toNat = 0 →
          t.time.step = u.time.step ∧ -1000000 ≤ t.time.freqAdj ∧ t.time.freqAdj ≤ 1000000)) := by
  have hx : exec (.servoLine idx) s = done s (keepHistory (servoPull (judgeLock off
      (correct off ((lineBegun u 8 idx).modTime (offsetTaken off)))))) :=
    (congrArg (done s) (startLine_begins hb _)).trans (congrArg (done s) (servo_of_meas (s := lineBegun u 8 idx) h hoff))
  have hlimit : (u.time.cfg.extractLsb' 28 8).toNat = fld u.time.cfg 35 28 := (fld_eq_extract u.time.cfg 35 28).symm
  have htaken := correct_taken off ((lineBegun u 8 idx).modTime (offsetTaken off))
  have hsteps := correct_steps (off := off) (s := (lineBegun u 8 idx).modTime (offsetTaken off))
  have hfilters := correct_filters (off := off) (s := (lineBegun u 8 idx).modTime (offsetTaken off))
  have honly := (ServoOnly.modTime (lineBegun u 8 idx) (offsetTaken off)).trans (correct_only off _)
  generalize correct off ((lineBegun u 8 idx).modTime (offsetTaken off)) = v at hx htaken hsteps hfilters honly
  have hkeeps := ((judgeLock_keeps off v).trans (servoPull_keeps _)).trans (keepHistory_keeps _)
  generalize keepHistory (servoPull (judgeLock off v)) = w at hx hkeeps
  obtain ⟨hrest, hdecided, hbounded⟩ := hkeeps
  simp only [Prod.mk.injEq] at hdecided
  obtain ⟨hmeas, hoffset, hstep, hfirst⟩ := hdecided
  refine begins_noted_of hx (honly.trans hrest).seq (fun p hp hne => ?_) ?_
  · exact Part.noted_of_untouched (Part.untouched_modSeq u _ hne) ((honly.trans hrest).part hp)
  · rw [settle_time, hmeas, hoffset, hstep, hfirst, hlimit]
    refine ⟨htaken.1, htaken.2, hsteps, fun hf hl => ?_⟩
    obtain ⟨hkept, hbound⟩ := hfilters hf hl
    exact ⟨hkept, hbounded hbound⟩

end

/-- Settles O28: messages move the TIME island alone, and a SERVO line's decision stands through what follows it in the line. -/
theorem ptpMessagesSteerTheServo : Obligations.PtpMessagesSteerTheServo :=
  ⟨fun _ => ⟨fun h41 hsrc hst _ => sourceLost_holds h41 hsrc hst, fun _ => ptpMessage_ignored, fun _ _ => ptpMessage_sync,
      delayReqDue_waits⟩,
    fun _ _ _ _ hb => ⟨servoLine_empty hb, fun _ => servoLine_corrects hb⟩⟩

end Sys2Proof.Machine
end

section
/-! REST entered: the REST line and the commit point (R162, R408, R411, R412). -/

namespace Sys2Proof.Machine

/-! ### REST lines -/

theorem abortSweep_idle {s : State} (h2 : s.sweep.st ≠ 2) (h3 : s.sweep.st ≠ 3) (cause : Nat) : abortSweep s cause = s :=
  if_neg fun h => h.elim h2 h3

section
variable {s u : State} {idx : Nat} {l : Line} {c : BitVec 64} (hb : LineBegins s u 0 idx 0x14 l)
include hb

/-- What a REST line that begins comes to (R408). -/
theorem exec_restLine : exec (.restLine idx c) s = done s (
    if u.win.restPend && u.pow.rest == .none then
      (latchTime c (abortSweep (lineBegun u 0 idx) 3)).modPow fun p => { p with rest := .saving }
    else lineBegun u 0 idx) :=
  congrArg (done s) (startLine_begins hb _)

theorem restLine_empty (h : u.win.restPend = false) : Begins (.restLine idx c) s u 0 idx [] fun _ => True := by
  have hx := exec_restLine hb (c := c)
  rw [h] at hx
  exact begins_empty hx

/-- With REST_PEND and no sweep to abandon, T0, C0 and the clock's state are latched and the save begins (R162, R408). -/
theorem restLine_saves (hpend : u.win.restPend = true) (hrest : u.pow.rest = .none) (h2 : u.sweep.st ≠ 2) (h3 : u.sweep.st ≠ 3) :
    Begins (.restLine idx c) s u 0 idx [.pow, .time] fun t => PowIs t { u.pow with rest := .saving } ∧
      t.time = { u.time with
        t0 := u.time.spine, c0 := c, stSaved := u.time.st
        f0 := if u.time.st = 3 then heldFreq u.now u.time else u.time.freqAdj } := by
  have hx := exec_restLine hb (c := c)
  rw [hpend, hrest, abortSweep_idle (s := lineBegun u 0 idx) h2 h3] at hx
  refine begins_of hx ⟨by rw [PowIs, settle_pow]; rfl, rfl⟩ (by decide) fun p hp => ?_
  cases p
  case pow | time => exact absurd (by decide) hp
  all_goals rfl

end

/-! ### The upstream buffers -/

/-- The commit point marked in AO memory (R411). -/
def commitMarked (us : BitVec 16) (s : State) : State := s.modPow fun p => { p with rest := .committed, saved := true, saveUs := us }

/-- The state in which the device switches off: events written, the rings and the upstream buffers empty (R323, R412, R441). -/
def upstreamGone (us : BitVec 16) (s : State) : State :=
  let v := discardRings (discardUpstream (flushCoalesced (fun _ => true) (commitMarked us s)))
  (raise v 0x0A01 ([count1 s.svc.cpl.length, count1 s.svc.upw.length, count1 s.svc.sig.length, count1 s.svc.evt.length] ++
    be 2 us.toNat ++ be 5 v.seq.sheet.toNat)).modSvc fun b => { b with evt := [] }

/-- The credit that a completion or a refusal returns (R412). -/
def creditBack (s : State) (o : OutRec) : State := match o.credit with | some c => giveBack s o.session c | none => s

theorem creditBack_svc (s : State) (o : OutRec) : ∃ b, creditBack s o = { s with svc := b } := by
  unfold creditBack
  split
  · exact ⟨_, rfl⟩
  · exact ⟨s.svc, rfl⟩

theorem discardUpstream_eq (s : State) : discardUpstream s =
    (s.svc.cpl.foldl creditBack s).modSvc fun b => { b with cpl := [], upw := [], sig := [], evt := [] } := rfl

theorem EventOnly.modSvc (s : State) (f : Bridge → Bridge) : EventOnly s (s.modSvc f) := ⟨s.win, s.mbx, f s.svc, s.store, rfl⟩

/-- What waits upstream beside events. -/
def waiting (s : State) : List OutRec × List OutRec × List OutRec := (s.svc.cpl, s.svc.upw, s.svc.sig)

/-- Discarding what waits upstream changes the bridge alone (R412). -/
theorem discardUpstream_only (s : State) : EventOnly s (discardUpstream s) := by
  have hcredits : EventOnly s (s.svc.cpl.foldl creditBack s) := by
    refine foldl_holds (EventOnly s) creditBack _ (fun t o h => h.trans ?_) s (EventOnly.refl s)
    obtain ⟨b, hb⟩ := creditBack_svc t o
    exact ⟨t.win, t.mbx, b, t.store, hb⟩
  rw [discardUpstream_eq]
  exact hcredits.trans (EventOnly.modSvc _ _)

theorem Noted.waiting {s t : State} (h : Noted s t) : waiting t = waiting s := by
  rw [h.1]
  rfl

/-- The rings' entries discarded count as lost, with an event (R323). -/
theorem discardRings_only (s : State) : EventOnly s (discardRings s) ∧ waiting (discardRings s) = waiting s := by
  unfold discardRings
  dsimp only
  split
  · exact ⟨EventOnly.refl s, rfl⟩
  · exact ⟨EventOnly.trans ⟨_, _, _, _, rfl⟩ (raise_only _ _ _), (raise_noted _ _ _).waiting⟩

theorem upstreamGone_only (us : BitVec 16) (s : State) : EventOnly (commitMarked us s) (upstreamGone us s) := by
  have h := ((flushCoalesced_only (fun _ => true) (commitMarked us s)).trans (discardUpstream_only _)).trans (discardRings_only _).1
  unfold upstreamGone
  generalize discardRings (discardUpstream (flushCoalesced (fun _ => true) (commitMarked us s))) = v at h ⊢
  exact (h.trans (raise_only v _ _)).trans (EventOnly.modSvc _ _)

/-- Nothing waits upstream once the commit point has discarded it (R412). -/
theorem upstreamGone_empty (us : BitVec 16) (s : State) : (upstreamGone us s).svc.cpl = [] ∧ (upstreamGone us s).svc.upw = [] ∧
    (upstreamGone us s).svc.sig = [] ∧ (upstreamGone us s).svc.evt = [] := by
  have h : waiting (discardRings (discardUpstream (flushCoalesced (fun _ => true) (commitMarked us s)))) = ([], [], []) := by
    rw [(discardRings_only _).2, discardUpstream_eq]
    rfl
  unfold upstreamGone
  generalize discardRings (discardUpstream (flushCoalesced (fun _ => true) (commitMarked us s))) = v at h ⊢
  rw [← (raise_noted v 0x0A01 _).waiting, waiting, Prod.mk.injEq, Prod.mk.injEq] at h
  obtain ⟨hcpl, hupw, hsig⟩ := h
  simp only [modSvc_svc]
  exact ⟨hcpl, hupw, hsig, trivial⟩

/-! ### Mailbox memory -/

theorem turnOff_mbx {d : Nat} (h : d ≠ 37) (s : State) : (turnOff s d).mbx = s.mbx := by
  unfold turnOff
  split
  · rw [domainLost_mbx _ d h, modPow_mbx]
  · rfl

/-- Mailbox memory is lost with D37 (R402). -/
theorem allOff_mem {s : State} (h : domOn s 37 = true) : (allOff s).mbx.mem = [] := by
  have hstep (t : State) (d : Nat) (ht : domOn t 37 = true ∨ t.mbx.mem = []) :
      domOn (turnOff t d) 37 = true ∨ (turnOff t d).mbx.mem = [] := by
    by_cases hd : d = 37
    · subst hd
      refine Or.inr ?_
      by_cases hon : domOn t 37 = true
      · rw [turnOff, if_pos hon]
        rfl
      · rw [turnOff, if_neg hon]
        exact ht.resolve_left hon
    · rw [turnOff_mbx hd, domOn_turnOff, if_neg (by omega)]
      exact ht
  have hlost : domOn (allOff s) 37 = true ∨ (allOff s).mbx.mem = [] := by
    rw [allOff_eq]
    exact foldl_holds (fun t => domOn t 37 = true ∨ t.mbx.mem = []) turnOff _ hstep s (Or.inl h)
  have hoff : domOn (allOff s) 37 = false := domOn_allOff s 36
  exact hlost.resolve_left (by rw [hoff]; decide)

/-- The switch-off leaves the bridge, loses mailbox memory where D37 was on, and has the next sheet be a first one (R411). -/
theorem switchOff_lost (v : State) : (switchOff v).svc = v.svc ∧ (switchOff v).seq.firstDue = true ∧
    (domOn v 37 = true → (switchOff v).mbx.mem = []) := by
  have hsvc : (allOff v).svc = v.svc := by
    obtain ⟨_, _, _, _, _, _, _, _, _, h⟩ := allOff_only v
    rw [h]
  have hmem : domOn v 37 = true → (allOff v).mbx.mem = [] := allOff_mem
  unfold switchOff
  generalize allOff v = a at hsvc hmem ⊢
  exact ⟨hsvc, rfl, hmem⟩

/-! ### The commit point -/

/-- A device that is switched off, in REST (R408, R411). -/
def inRest (v : State) : State :=
  ((v.modStore fun t => { t with ram := [], ramLen := 0 }).modWin fun w => { w with
    devState := 3, gulcyUp := false, coreClk := false, sheets := false, restPend := false, tj := 0, vin := 0, wdCount := 0 }).modPow
    fun p => { p with dev := .rest }

theorem exec_restCommit {s : State} (us : BitVec 16) (hrest : s.pow.rest = .saving) (hrun : s.pow.dev = .run) :
    exec (.restCommit us) s = done s (inRest (switchOff (upstreamGone us s))) := by
  have hdue : ¬ (s.pow.rest ≠ .saving ∨ s.pow.dev ≠ .run) := by simp [hrest, hrun]
  exact congrArg (done s) (if_neg hdue)

theorem domOn_inRest (v : State) (d : Nat) : domOn (inRest v) d = domOn v d := rfl

/-- The commit point ends in REST (R411, R412). -/
theorem restCommit_rests {s : State} (us : BitVec 16) (hrest : s.pow.rest = .saving) (hrun : s.pow.dev = .run) (h37 : domOn s 37 = true) :
    ∃ t, exec (.restCommit us) s = .next t ∧
      t.pow.dev = .rest ∧ t.pow.rest = .committed ∧ t.pow.saved = true ∧ t.pow.saveUs = us ∧
      (∀ i : Fin 50, domOn t (i.val + 1) = false) ∧ t.win.devState = 3 ∧ t.win.gulcyUp = false ∧ t.win.sheets = false ∧
      t.mbx.mem = [] ∧ t.store.ram = [] ∧ t.store.ramLen = 0 ∧
      t.seq.running = [] ∧ t.seq.stopped = true ∧ t.seq.firstDue = true ∧
      t.svc.cpl = [] ∧ t.svc.upw = [] ∧ t.svc.sig = [] ∧ t.svc.evt = [] ∧ t.time.t0 = s.time.t0 ∧ t.time.c0 = s.time.c0 ∧
      t.pending = s.pending := by
  have hx := exec_restCommit us hrest hrun
  obtain ⟨hcpl, hupw, hsig, hevt⟩ := upstreamGone_empty us s
  obtain ⟨w, m, b, st, hgone⟩ := upstreamGone_only us s
  have hpow : (upstreamGone us s).pow = { s.pow with rest := .committed, saved := true, saveUs := us } := by rw [hgone]; rfl
  have htime : (upstreamGone us s).time = s.time := by rw [hgone]; rfl
  have hpend : (upstreamGone us s).pending = s.pending := by rw [hgone]; rfl
  generalize upstreamGone us s = v at hx hcpl hupw hsig hevt hpow htime hpend
  have hon : domOn v 37 = true := by
    rw [domOn_eq, hpow]
    rwa [domOn_eq] at h37
  obtain ⟨⟨ds, hds⟩, hdom, -, hlatched, hrunning, hstopped, -, hpending⟩ := switchOff_off v
  obtain ⟨hsvc, hfirst, hmem⟩ := switchOff_lost v
  rw [hpow] at hds
  rw [htime] at hlatched
  generalize switchOff v = x at hx hds hdom hlatched hrunning hstopped hpending hsvc hfirst hmem
  simp only [Prod.mk.injEq] at hlatched
  obtain ⟨ht0, hc0, -⟩ := hlatched
  refine ⟨_, hx, rfl, ?_, ?_, ?_, fun i => ?_, rfl, rfl, rfl, hmem hon, rfl, rfl, hrunning, hstopped, hfirst, ?_, ?_, ?_, ?_, ht0, hc0,
    hpending.trans hpend⟩
  · exact congrArg Power.rest hds
  · exact congrArg Power.saved hds
  · exact congrArg Power.saveUs hds
  · rw [domOn_settle, domOn_inRest]
    exact hdom i
  · exact (congrArg Bridge.cpl hsvc).trans hcpl
  · exact (congrArg Bridge.upw hsvc).trans hupw
  · exact (congrArg Bridge.sig hsvc).trans hsig
  · exact (congrArg Bridge.evt hsvc).trans hevt

/-- Settles O35: the REST line latches and begins the save, the commit point empties what waits, switches off and rests. -/
theorem restIsEntered : Obligations.RestIsEntered := fun _ =>
  ⟨fun _ _ _ _ hb => ⟨restLine_empty hb, restLine_saves hb⟩, restCommit_rests⟩

end Sys2Proof.Machine
end

section
/-! Commands that change lane sides, the sweep, the Veneer logic or the scan engine, and no condition of a domain. -/

namespace Sys2Proof.Machine

theorem Part.untouched_modVen (s : State) (f : Veneer → Veneer) {p : Part} (hp : p ≠ .ven) : p.untouched s (s.modVen f) := by
  cases p
  case ven => exact absurd rfl hp
  all_goals rfl

theorem Part.untouched_modLine (s : State) (l : Fin 4) (f : ScanLine → ScanLine) {p : Part} (hp : p ≠ .scan) :
    p.untouched s (s.modLine l f) := by
  cases p
  case scan => exact absurd rfl hp
  all_goals rfl

/-- Domains still follow their conditions after a change of the sides, the sweep, the values that the manual leaves open, and of what
no condition reads of the Veneer logic and the scan engine (Table 16.2). -/
theorem settled_of_settings {s t : State} (hs : DomainsSettled s)
    (h : ∀ q : Part, q ∉ [Part.sides, .sweep, .ven, .scan, .free] → q.untouched s t)
    (hven : (t.ven.cfg, t.ven.mst, t.ven.irq) = (s.ven.cfg, s.ven.mst, s.ven.irq))
    (hscan : ∀ l : Fin 4, t.scan.lines[l].cfg = s.scan.lines[l].cfg) : DomainsSettled t := by
  have hpow : t.pow = s.pow := h .pow (by decide)
  have hpaths : t.paths = s.paths := h .paths (by decide)
  have hseq : t.seq = s.seq := h .seq (by decide)
  have hsvc : t.svc = s.svc := h .svc (by decide)
  have htest : t.test = s.test := h .test (by decide)
  have htime : t.time = s.time := h .time (by decide)
  have hsame : SameConditions s t :=
    { dev := by rw [hpow], active := by rw [hseq], mode := by rw [hsvc], ven := hven, scan := hscan
      loops := by rw [htest], sync := by rw [htest], source := by rw [htime] }
  intro d
  rw [domWanted_same hsame (fun q => by rw [hpaths]) fun q _ => by rw [hpaths], hs d, domOn, domOn, hpow]

/-- A command that changes of the sides, the sweep, the Veneer logic and the scan engine no more than it names. -/
theorem performs_settings {c : Instr} {op : Nat} {r : Req} {s x : State} {p : List Byte} {f : Req → State → Result}
    {changed : List Part} {P : State → Prop} (hx : exec c s = done s (command op f r s)) (hr : Ready s r)
    (hf : f r (begun s r) = okWith x p) (hch : changed ⊆ [.sides, .sweep, .ven, .scan])
    (hq : ∀ q : Part, q ∉ changed → q.untouched (begun s r) x) (hset : DomainsSettled x)
    (hP : ∀ t : State, t.sides = x.sides → t.sweep = x.sweep → t.ven = x.ven → t.scan = x.scan → P t) :
    Performs c op r s p changed P := by
  have hother (q : Part) (h : q ∉ [Part.sides, .sweep, .ven, .scan]) : q.untouched (begun s r) x := hq q fun hm => h (hch hm)
  have hpow : x.pow = (begun s r).pow := hother .pow (by decide)
  have htime : x.time = (begun s r).time := hother .time (by decide)
  have hmbx : x.mbx = (begun s r).mbx := hother .mbx (by decide)
  have hpres (h : r.issuer ≠ .twoWire) : present x 4 = true := (present_congr hpow 4).trans (begun_present hr h)
  refine performs_of hx hr hf hset (hother .win (by decide)) (by rw [hmbx, begun_mbx]) (hother .svc (by decide))
    (by rw [htime, begun_time]) (by rw [hpow, begun_pow]) hpres (hP _ ?_ ?_ ?_ ?_) fun q hqc hwin hmbx hsvc => ?_
  · rw [settle_sides, writeReply_sides _ _ hpres]
  · rw [settle_sweep, writeReply_sweep _ _ hpres]
  · rw [settle_ven, writeReply_ven _ _ hpres]
  · rw [settle_scan, writeReply_scan _ _ hpres]
  · have hno : q ∉ [Part.win, .mbx, .svc] := by simp [hwin, hmbx, hsvc]
    refine Part.same_settle s (Part.untouched_trans (Part.untouched_begun s r (by simp [hwin, hsvc])) ?_) hno
    exact Part.untouched_trans (hq q hqc) (Part.untouched_writeReply hpres _ _ _ _ _ hno)

/-- A weaker account of what a command does. -/
theorem Performs.mono {c : Instr} {op : Nat} {r : Req} {s : State} {p : List Byte} {changed : List Part} {P Q : State → Prop}
    (h : Performs c op r s p changed P) (hPQ : ∀ t, P t → Q t) : Performs c op r s p changed Q := by
  obtain ⟨t, hx, hrep, ht, hkeep⟩ := h
  exact ⟨t, hx, hrep, hPQ t ht, hkeep⟩

section
variable {c : Instr} {op : Nat} {r : Req} {s : State} {h : Req → State → Result}

/-- A command that changes lane sides alone. -/
theorem performs_sides {x : State} {P : State → Prop} (hx : exec c s = done s (command op h r s)) (hr : Ready s r)
    (hf : h r (begun s r) = okay x) (hq : ∀ q : Part, q ≠ .sides → q.untouched (begun s r) x)
    (hP : ∀ t : State, t.sides = x.sides → P t) : Performs c op r s [] [.sides] P := by
  have hven : x.ven = (begun s r).ven := hq .ven (by decide)
  have hscan : x.scan = (begun s r).scan := hq .scan (by decide)
  have hset : DomainsSettled x :=
    settled_of_settings (begun_settled hr) (fun q h => hq q (by simp_all)) (by rw [hven]) fun _ => by rw [hscan]
  exact performs_settings hx hr hf (by simp) (fun q h => hq q (by simpa using h)) hset fun t ht _ _ _ => hP t ht

/-- A command that changes the sweep alone. -/
theorem performs_modSweep (f : Sweep → Sweep) (hx : exec c s = done s (command op h r s)) (hr : Ready s r)
    (hf : h r (begun s r) = okay ((begun s r).modSweep f)) : Performs c op r s [] [.sweep] fun t => t.sweep = f s.sweep := by
  have hset : DomainsSettled ((begun s r).modSweep f) :=
    settled_of_settings (begun_settled hr) (fun q h => Part.untouched_modSweep _ f (by simp_all)) rfl fun _ => rfl
  refine performs_settings hx hr hf (by simp) (fun q h => Part.untouched_modSweep _ f (by simpa using h)) hset fun t _ ht _ _ => ?_
  rw [ht, modSweep_sweep, begun_sweep]

/-- A command that changes the Veneer logic alone, and of that not what the domains D45 and D46 follow. -/
theorem performs_modVen (f : Veneer → Veneer) (hx : exec c s = done s (command op h r s)) (hr : Ready s r)
    (hf : h r (begun s r) = okay ((begun s r).modVen f))
    (hkeep : ((f s.ven).cfg, (f s.ven).mst, (f s.ven).irq) = (s.ven.cfg, s.ven.mst, s.ven.irq)) :
    Performs c op r s [] [.ven] fun t => t.ven = f s.ven := by
  have hset : DomainsSettled ((begun s r).modVen f) := by
    refine settled_of_settings (begun_settled hr) (fun q h => Part.untouched_modVen _ f (by simp_all)) ?_ fun _ => rfl
    rw [modVen_ven, begun_ven, hkeep]
  refine performs_settings hx hr hf (by simp) (fun q h => Part.untouched_modVen _ f (by simpa using h)) hset fun t _ _ ht _ => ?_
  rw [ht, modVen_ven, begun_ven]

/-- A command that changes one scan line alone, and not its SCAN_CFG, which D47 follows. -/
theorem performs_modLine (l : Fin 4) (f : ScanLine → ScanLine) (hx : exec c s = done s (command op h r s)) (hr : Ready s r)
    (hf : h r (begun s r) = okay ((begun s r).modLine l f)) (hkeep : ∀ x, (f x).cfg = x.cfg) :
    Performs c op r s [] [.scan] fun t => t.scan = { s.scan with lines := vmod s.scan.lines l f } := by
  have hset : DomainsSettled ((begun s r).modLine l f) := by
    refine settled_of_settings (begun_settled hr) (fun q h => Part.untouched_modLine _ l f (by simp_all)) rfl fun k => ?_
    rw [modLine_scan, Fin.getElem_fin, vmod_get_nat]
    split
    · exact hkeep _
    · rfl
  refine performs_settings hx hr hf (by simp) (fun q h => Part.untouched_modLine _ l f (by simpa using h)) hset fun t _ _ _ ht => ?_
  rw [ht, modLine_scan, begun_scan]

/-- A command that changes the sides, the sweep and open values, and raises events. -/
theorem performs_settings_noted {x y : State} {p : List Byte} {P : State → Prop} (hx : exec c s = done s (command op h r s))
    (hr : Ready s r) (hf : h r (begun s r) = okWith x p)
    (hq : ∀ q : Part, q ∉ [Part.sides, .sweep, .free] → q.untouched (begun s r) y) (hn : Noted y x)
    (hP : ∀ t : State, t.sweep = y.sweep → P t) :
    Performs c op r s p [.sweep, .sides, .win, .mbx, .svc, .store, .free] P := by
  have hven : y.ven = (begun s r).ven := hq .ven (by decide)
  have hscan : y.scan = (begun s r).scan := hq .scan (by decide)
  have hwin : y.win = (begun s r).win := hq .win (by decide)
  have hmbx : y.mbx = (begun s r).mbx := hq .mbx (by decide)
  have hsvc : y.svc = (begun s r).svc := hq .svc (by decide)
  have hpow : x.pow = (begun s r).pow := (hn.untouched (p := .pow) (by decide)).trans (hq .pow (by decide))
  have htime : x.time = (begun s r).time := (hn.untouched (p := .time) (by decide)).trans (hq .time (by decide))
  have hset : DomainsSettled x := hn.settled
    (settled_of_settings (begun_settled hr) (fun q h => hq q (by simp_all)) (by rw [hven]) fun _ => by rw [hscan])
  have hpres (h : r.issuer ≠ .twoWire) : present x 4 = true := (present_congr hpow 4).trans (begun_present hr h)
  have hfin := finish_settled hset r.issuer hpres (BitVec.ofNat 16 op) r r.tag 0 ⟨0, p⟩
  refine ⟨_, hx, ?_, hP _ ?_, fun q hqc => ?_⟩
  all_goals rw [command_taken hr, hf]
  · refine finish_replied s (hn.wf ?_) ?_ ?_ ?_ hpres fun k _ => ?_
    · rw [hmbx, begun_mbx, hr.wf]
    · rw [hn.rplHead, hwin, begun_rplHead]
    · rw [htime, begun_time]
    · rw [hpow, begun_pow]
      exact Or.inr hr.run
    · rw [hn.sessions, hsvc, begun_addr]
  · rw [okWith, hfin, settle_sweep, writeReply_sweep _ _ hpres]
    exact hn.untouched (p := .sweep) (by decide)
  · have hev : q ∉ [Part.win, .mbx, .svc, .store] := by simp_all
    have hno : q ∉ [Part.win, .mbx, .svc] := by simp_all
    rw [okWith, hfin]
    refine Part.same_settle s (Part.untouched_trans (Part.untouched_begun s r (by simp_all)) ?_) hno
    exact Part.untouched_trans (Part.untouched_trans (hq q (by simp_all)) (hn.untouched hev))
      (Part.untouched_writeReply hpres _ _ _ _ _ hno)
end

end Sys2Proof.Machine
end

section
/-! Images written to a lane side, and what the calender commands do with them (R196, R202, R350, R351). -/

namespace Sys2Proof.Machine

/-! ### Images -/

theorem laneOn_begun (s : State) (r : Req) (l : LaneId) : laneOn (begun s r) l = laneOn s l := by
  simp only [laneOn, pathOn, begun_paths]

theorem noTraffic_begun (s : State) (r : Req) (i : SideId) : noTraffic (begun s r) i = noTraffic s i := by
  simp only [noTraffic, laneOn_begun, begun_paths, begun_lanes]

theorem writeRefused_begun (s : State) (r : Req) (i : SideId) (set : Fin 4) (mask : Nat) :
    writeRefused (begun s r) i set mask = writeRefused s i set mask := by
  simp only [writeRefused, noTraffic_begun, inTraining, laneOn_begun, begun_paths, begun_lanes]

theorem setArg_begun (s : State) (r : Req) (i : SideId) (b : Nat) : setArg (begun s r) i b = setArg s i b := by
  simp only [setArg, begun_paths]

theorem writeImages_begun (s : State) (r : Req) (i : SideId) (set : Fin 4) (want : CalImages) (mask : Nat) :
    (writeImages (begun s r) i set want mask).sides = (writeImages s i set want mask).sides := by
  simp only [writeImages, noTraffic_begun, modSide_sides, begun_sides, begun_paths]

section
variable {s : State} {i : SideId} {set : Fin 4} {want : CalImages} {mask : Nat}

theorem writeImages_other {j : SideId} (h : j ≠ i) : (writeImages s i set want mask).sides[j] = s.sides[j] :=
  modSide_side_other h

/-- Without traffic images are written whole (R196). -/
theorem writeImages_quiet (h : noTraffic s i = true) : (writeImages s i set want mask).sides[i] =
    relimit (runSet s.paths[pathOf i]) (writeWhole s.sides[i] set want (maskCorrs mask)) := by
  rw [writeImages, modSide_side, if_pos h]

/-- With traffic images of the running set become ramps (R196). -/
theorem writeImages_running (h : noTraffic s i = false) (hset : set = runSet s.paths[pathOf i]) :
    (writeImages s i set want mask).sides[i] =
      relimit (runSet s.paths[pathOf i]) (rampTo s.sides[i] set want (maskCorrs mask)) := by
  rw [writeImages, modSide_side, if_neg (by rw [h]; decide), if_pos (beq_iff_eq.mpr hset)]
end

/-- The images a command gives for a side: those its mask selects from the payload, the side's own beside them (R350). -/
def selectedImages (b : List Byte) (mask : Nat) (x : Side) (set : Fin 4) : CalImages :=
  { rxeq := if mask % 2 = 1 then img b 4 else x.rxeq[set]
    dfeA := if mask / 2 % 2 = 1 then img b 9 else x.dfeA[set]
    dfeB := if mask / 4 % 2 = 1 then img b 14 else x.dfeB[set]
    trim := if mask / 8 % 2 = 1 then img b 19 else x.trim
    soff := if mask / 16 % 2 = 1 then img b 24 else x.soff }

theorem selectedImages_all (b : List Byte) (x : Side) (set : Fin 4) : selectedImages b 31 x set = payloadImages b := rfl

/-- CAL_TRIM.SEEDED set (R350). -/
def markSeeded (x : Side) : Side := { x with trim := setFld x.trim 20 20 1 }

theorem markSeeded_seeded (x : Side) : bit (markSeeded x).trim 20 = true := by
  rw [bit_eq_getLsbD, markSeeded, getLsbD_setFld _ (by omega) _ _ (by omega), if_pos ⟨le_rfl, le_rfl⟩]
  decide

theorem markSeeded_relimit (set : Fin 4) (x : Side) :
    (markSeeded (relimit set x)).rxeq = x.rxeq ∧ (markSeeded (relimit set x)).soff = x.soff := by
  cases x
  exact ⟨rfl, rfl⟩

/-- CAL_SEED and CAL_SET with images in range, to a side that is not DORMANT and that R196 does not guard, write them. -/
theorem doCalWrite_writes {s : State} {r : Req} {i : SideId} {set : Fin 4} {mask : Nat} {want : CalImages}
    (hi : num r.payload 0 1 = i.val) (hff : num r.payload 1 1 ≠ 0xFF) (hset : setArg s i (num r.payload 1 1) = some set)
    (hmask : mask % 32 ≠ 0) (hwant : want = cleanImages (selectedImages r.payload mask s.sides[i] set) (bit s.sides[i].trim 20))
    (hok : imagesOk want = true) (hst : s.paths[pathOf i].st ≠ .dormant) (href : writeRefused s i set mask = false) (seed : Bool) :
    doCalWrite r s mask seed =
      okay (if seed then (writeImages s i set want mask).modSide i markSeeded else writeImages s i set want mask) := by
  have hgood : ¬ (num r.payload 1 1 = 0xFF ∨ mask % 32 = 0 ∨ imagesOk want = false) := by simp [hff, hmask, hok]
  have hbusy : ¬ (isDormant s (pathOf i) || writeRefused s i set mask) = true := by simp_all [isDormant]
  rw [selectedImages] at hwant
  simp only [doCalWrite, sideArg_of hi, hset, pow_zero, pow_one, Nat.reducePow, Nat.div_one, imageReg, payloadImages, imagesOf]
  rw [← hwant, if_neg hgood, if_neg hbusy]
  rfl

/-! ### CAL_SET and CAL_SEED -/

section
variable {s : State} {r : Req} (hr : Ready s r) {i : SideId} {set : Fin 4} {want : CalImages} (hlen : r.len = 29)
  (hi : num r.payload 0 1 = i.val) (hff : num r.payload 1 1 ≠ 0xFF) (hset : setArg s i (num r.payload 1 1) = some set)
  (hok : imagesOk want = true) (hst : s.paths[pathOf i].st ≠ .dormant)
include hr hlen hi hff hset hok hst

/-- CAL_SET writes the images its MASK selects (R196, R350). -/
theorem calSet_performs {mask : Nat} (hm : mask = num r.payload 2 1 % 32) (hmask : mask ≠ 0)
    (hwant : want = cleanImages (selectedImages r.payload mask s.sides[i] set) (bit s.sides[i].trim 20))
    (href : writeRefused s i set mask = false) :
    Performs (.calSet r) 0x0303 r s [] [.sides] fun t => t.sides = (writeImages s i set want mask).sides := by
  have hf : doCalSet r (begun s r) = okay (writeImages (begun s r) i set want mask) := by
    rw [doCalSet, if_neg (by simp [hlen]), ← hm, doCalWrite_writes hi hff (by rw [setArg_begun, hset]) (by omega)
      (by rw [begun_sides, hwant]) hok (by rwa [begun_paths]) (by rw [writeRefused_begun, href]) false]
    rfl
  refine performs_sides rfl hr hf (fun q hq => Part.untouched_modSide _ _ _ hq) fun t ht => ?_
  rw [ht, writeImages_begun]

/-- CAL_SEED writes every image and marks the side seeded (R196, R350). -/
theorem calSeed_performs (hwant : want = cleanImages (payloadImages r.payload) (bit s.sides[i].trim 20))
    (href : writeRefused s i set 31 = false) :
    Performs (.calSeed r) 0x0302 r s [] [.sides] fun t =>
      t.sides = ((writeImages s i set want 31).modSide i markSeeded).sides := by
  have hf : doCalSeed r (begun s r) = okay ((writeImages (begun s r) i set want 31).modSide i markSeeded) := by
    rw [doCalSeed, if_neg (by simp [hlen]), doCalWrite_writes hi hff (by rw [setArg_begun, hset]) (by omega)
      (by rw [begun_sides, selectedImages_all, hwant]) hok (by rwa [begun_paths]) (by rw [writeRefused_begun, href]) true]
    rfl
  refine performs_sides rfl hr hf (fun q hq => ?_) fun t ht => ?_
  · exact Part.untouched_trans (Part.untouched_modSide _ _ _ hq) (Part.untouched_modSide _ _ _ hq)
  · rw [ht, modSide_sides, writeImages_begun, modSide_sides]
end

/-! ### CAL_CFG_SET -/

theorem subjectSides_nodup {n : Nat} {l : List SideId} (h : subjectSides n = some l) : l.Nodup := by
  unfold subjectSides at h
  split_ifs at h <;> cases h
  · exact (List.nodup_finRange 32).filter _
  · exact (List.nodup_finRange 32).filter _
  · exact List.nodup_finRange 32

/-- CAL_CFG written on a side, without its reserved bits (R202). -/
def calCfgWritten (v : R40) (x : Side) : Side := { x with calCfg := pack 40 [(fld v 39 12, 12)] }

/-- CAL_CFG written on each side of a subject (R351). -/
def writeCalCfg (l : List SideId) (v : R40) (s : State) : State := l.foldl (fun s i => s.modSide i (calCfgWritten v)) s

theorem writeCalCfg_untouched (l : List SideId) (v : R40) (s : State) {q : Part} (hq : q ≠ .sides) :
    q.untouched s (writeCalCfg l v s) :=
  foldl_holds (fun t => q.untouched s t) _ l (fun _ _ h => Part.untouched_trans h (Part.untouched_modSide _ _ _ hq)) s
    (Part.untouched_refl s q)

theorem writeCalCfg_side {l : List SideId} (hl : l.Nodup) (v : R40) (s : State) (i : SideId) :
    (writeCalCfg l v s).sides[i] = if i ∈ l then calCfgWritten v s.sides[i] else s.sides[i] := by
  refine foldl_each (g := fun (t : State) i => t.sides[i]) (u := calCfgWritten v) (fun t a b => ?_) hl s i
  split
  · next h => rw [h, modSide_side]
  · next h => exact modSide_side_other h

/-- CAL_CFG_SET reaches every side its SUBJECT names (R351). -/
theorem calCfgSet_performs {s : State} {r : Req} (hr : Ready s r) {l : List SideId} {v : R40} (hlen : r.len = 6)
    (hl : subjectSides (num r.payload 0 1) = some l) (hv : v = img r.payload 1) (hwin : 4 ≤ fld v 32 28) (h1 : fld v 27 16 ≠ 0)
    (h2 : fld v 15 12 ≠ 0) (hst : ∀ i ∈ l, s.paths[pathOf i].st ≠ .dormant) :
    Performs (.calCfgSet r) 0x0304 r s [] [.sides] fun t => ∀ i : SideId,
      t.sides[i] = if i ∈ l then calCfgWritten v s.sides[i] else s.sides[i] := by
  have hgood : ¬ (fld v 32 28 < 4 ∨ fld v 27 16 = 0 ∨ fld v 15 12 = 0) := by omega
  have hbusy : ¬ (l.any fun i => isDormant (begun s r) (pathOf i)) = true := by simpa [isDormant] using hst
  have hf : doCalCfgSet r (begun s r) = okay (writeCalCfg l v (begun s r)) := by
    subst hv
    rw [doCalCfgSet, if_neg (by simp [hlen])]
    simp only [hl, if_neg hgood, if_neg hbusy]
    rfl
  refine performs_sides rfl hr hf (fun q hq => writeCalCfg_untouched _ _ _ hq) fun t ht i => ?_
  rw [ht, writeCalCfg_side (subjectSides_nodup hl), begun_sides]

/-! ### AUX_CAL_SET -/

/-- Taps set whole touch the taps and the shadows of one window alone (R200). -/
theorem setTaps_keeps {β : Type} (g : Veneer → β) (h : ∀ v e l, g { v with early := e, late := l } = g v) (w : Fin 16) (t : R40)
    (v : Veneer) : g (setTaps w t v) = g { v with tap := vmod v.tap w fun _ => t } :=
  foldl_keeps g _ _ (fun _ _ => h _ _ _) _

/-- VTAP written in the Veneer logic (R202). -/
def tapWritten (w : Fin 16) (v : R40) (x : Veneer) : Veneer :=
  if bit v 3 then setTaps w v { x with tapNext := x.tapNext.filter fun p => p.1 != w }
  else { x with tap := vmod x.tap w fun t => setFld t 3 3 0, tapNext := (x.tapNext.filter fun p => p.1 != w) ++ [(w, v)] }

theorem writeTap_eq (s : State) (w : Fin 16) (v : R40) :
    writeTap s w v = s.modVen (tapWritten w (pack 40 [(fld v 39 3, 3)])) := rfl

section
variable {w : Fin 16} {v : R40} (x : Veneer)

/-- With ADAPT 1 the taps are set at once (R202). -/
theorem tapWritten_now (h : bit v 3 = true) : (tapWritten w v x).tap = vmod x.tap w fun _ => v := by
  rw [tapWritten, if_pos h]
  exact setTaps_keeps Veneer.tap (fun _ _ _ => rfl) w v _

/-- With ADAPT 0 they wait (R202). -/
theorem tapWritten_waits (h : bit v 3 = false) : (tapWritten w v x).tap = (vmod x.tap w fun t => setFld t 3 3 0) ∧
    (w, v) ∈ (tapWritten w v x).tapNext := by
  rw [tapWritten, if_neg (by simp [h])]
  exact ⟨rfl, by simp⟩

theorem tapWritten_other {k : Fin 16} (h : k ≠ w) : (tapWritten w v x).tap[k] = x.tap[k] := by
  by_cases hv : bit v 3 = true
  · rw [tapWritten_now x hv]
    exact vmod_get_other _ _ _ _ h.symm
  · rw [(tapWritten_waits x (by simpa using hv)).1]
    exact vmod_get_other _ _ _ _ h.symm

theorem tapWritten_config : ((tapWritten w v x).cfg, (tapWritten w v x).mst, (tapWritten w v x).irq) = (x.cfg, x.mst, x.irq) := by
  unfold tapWritten
  split
  · exact setTaps_keeps (fun x => (x.cfg, x.mst, x.irq)) (fun _ _ _ => rfl) w v _
  · rfl
end

/-- SCAN_CAL written on a line (R202). -/
def scanCalWritten (v : R40) (x : ScanLine) : ScanLine :=
  if bit v 33 then { x with cal := setFld (setFld x.cal 39 34 (fld v 39 34)) 33 33 1, calNext := none }
  else { x with cal := setFld x.cal 33 33 0, calNext := some v }

theorem writeScanCal_eq (s : State) (l : Fin 4) (v : R40) : writeScanCal s l v = s.modLine l (scanCalWritten v) := rfl

theorem scanCalWritten_cfg (v : R40) (x : ScanLine) : (scanCalWritten v x).cfg = x.cfg := by
  unfold scanCalWritten
  split <;> rfl

section
variable {s : State} {r : Req} (hr : Ready s r) (hlen : r.len = 7)
include hr hlen

/-- AUX_CAL_SET of a window writes VTAP (R202). -/
theorem auxCalSet_window {w : Fin 16} {v : R40} (h0 : num r.payload 0 1 = 0) (hw : num r.payload 1 1 = w.val)
    (hv : v = pack 40 [(fld (img r.payload 2) 39 3, 3)]) :
    Performs (.auxCalSet r) 0x0306 r s [] [.ven] fun t => t.ven = tapWritten w v s.ven := by
  refine performs_modVen (tapWritten w v) rfl hr ?_ (tapWritten_config s.ven)
  subst hv
  rw [doAuxCalSet, if_neg (by simp [hlen])]
  simp only [h0, hw, w.isLt, dif_pos, writeTap_eq]

/-- AUX_CAL_SET of a scan line writes SCAN_CAL (R202). -/
theorem auxCalSet_line {l : Fin 4} (h1 : num r.payload 0 1 = 1) (hl : num r.payload 1 1 = l.val) :
    Performs (.auxCalSet r) 0x0306 r s [] [.scan] fun t =>
      t.scan = { s.scan with lines := vmod s.scan.lines l (scanCalWritten (img r.payload 2)) } := by
  refine performs_modLine l (scanCalWritten (img r.payload 2)) rfl hr ?_ (scanCalWritten_cfg _)
  rw [doAuxCalSet, if_neg (by simp [hlen])]
  simp only [h1, hl, l.isLt, dif_pos, writeScanCal_eq]
end

end Sys2Proof.Machine
end

section
/-! The sweep's commands (R181, R183, R352 to R354). -/

namespace Sys2Proof.Machine

theorem sheetN_begun (s : State) (r : Req) : sheetN (begun s r) = sheetN s := by
  simp only [sheetN, begun_seq]

theorem holdsPlan_begun (s : State) (r : Req) (b : List Byte) : holdsPlan (begun s r) b = holdsPlan s b := by
  simp only [holdsPlan, begun_sweep]

/-- A plan in the state aborted, with no point in progress (R183). -/
def endedPlan (w : Sweep) : Sweep := { w with st := 5, point := none, moved := false, ending := none }

/-- A plan aborted, before its event 0x0422: margin commands that waited are released (R119, R183). -/
def sweepAborted (s : State) : State :=
  releaseMargins ((if s.sweep.done = 0 then s.usedFree else s).modSweep endedPlan)

/-- The point that event 0x0422 names as completed last; which it is where none was is open. -/
def lastPoint (s : State) : Nat := if s.sweep.done = 0 then s.openNat else s.sweep.done - 1

/-- A plan armed or running ends aborted, and event 0x0422 gives the cause (R183, R354). -/
theorem abortSweep_raises {s : State} (h : s.sweep.st = 2 ∨ s.sweep.st = 3) (cause : Nat) :
    abortSweep s cause = raise (sweepAborted s) 0x0422 [s.sweep.plan, by1 cause, by1 (lastPoint s)] := by
  have hplan : (if s.sweep.done = 0 then s.usedFree else s).sweep.plan = s.sweep.plan := by split <;> rfl
  rw [abortSweep, if_pos h]
  simp only [hplan]
  rfl

/-- An abort changes the sweep, the sides with margin commands that waited, and the count of open values. -/
theorem sweepAborted_cases (s : State) : ∃ si n, sweepAborted s = { s with sweep := endedPlan s.sweep, sides := si, free := n } := by
  unfold sweepAborted
  split
  · obtain ⟨si, h⟩ := releaseMargins_sides (s.usedFree.modSweep endedPlan)
    exact ⟨si, s.free + 1, h⟩
  · obtain ⟨si, h⟩ := releaseMargins_sides (s.modSweep endedPlan)
    exact ⟨si, s.free, h⟩

theorem sweepAborted_sweep (s : State) : (sweepAborted s).sweep = endedPlan s.sweep := by
  obtain ⟨_, _, h⟩ := sweepAborted_cases s
  rw [h]

theorem sweepAborted_untouched (s : State) {q : Part} (hq : q ∉ [Part.sides, .sweep, .free]) : q.untouched s (sweepAborted s) := by
  obtain ⟨_, _, h⟩ := sweepAborted_cases s
  rw [h]
  cases q
  case sides | sweep | free => exact absurd (by decide) hq
  all_goals rfl

/-- The plan that SWEEP_PLAN's payload defines, on the sides of four masks (R352). -/
def planOf (b : List Byte) (masks : Vector Byte 4) : Sweep :=
  { st := 1, plan := by1 (num b 0 1), d := num b 1 1, npoints := num b 2 2, s0 := BitVec.ofNat 80 (num b 4 10), masks := masks }

/-- Points written, in place of earlier ones of their index (R353). -/
def pointsWritten (ps : List (Nat × Int × Int)) (w : Sweep) : Sweep :=
  { w with points := (w.points.filter fun q => !(ps.any fun x => x.1 == q.1)) ++ ps }

section
variable {s : State} {r : Req} (hr : Ready s r)
include hr

/-- SWEEP_PLAN defines a plan while none is armed or runs (R352). -/
theorem sweepPlan_performs {masks : Vector Byte 4} (hlen : r.len = 18) (hd : 1 ≤ num r.payload 1 1) (hn : 1 ≤ num r.payload 2 2)
    (hn' : num r.payload 2 2 ≤ 256) (hsides : num r.payload 14 4 ≠ 0) (hs0 : isBoundary (sheetN s) (num r.payload 4 10) = true)
    (hmasks : masks = Vector.ofFn fun p : Fin 4 => by1 (num r.payload (14 + p.val) 1))
    (hon : ∀ i : SideId, bit masks[pathOf i] (i.val % 8) = true → laneOn s (laneOf i) = true) (h2 : s.sweep.st ≠ 2)
    (h3 : s.sweep.st ≠ 3) :
    Performs (.sweepPlan r) 0x0310 r s [] [.sweep] fun t => t.sweep = planOf r.payload masks := by
  have hgood : ¬ (r.len.toNat ≠ 18 ∨ num r.payload 1 1 = 0 ∨ num r.payload 2 2 = 0 ∨ 256 < num r.payload 2 2 ∨
      num r.payload 14 4 = 0 ∨ isBoundary (sheetN (begun s r)) (num r.payload 4 10) = false ∨
      ((List.finRange 32).any fun i => bit masks[pathOf i] (i.val % 8) && !laneOn (begun s r) (laneOf i)) = true) := by
    rintro (h | h | h | h | h | h | h)
    · exact h (by rw [hlen]; rfl)
    · omega
    · omega
    · omega
    · exact hsides h
    · exact absurd h (by rw [sheetN_begun, hs0]; decide)
    · exact absurd h (by simpa [laneOn_begun] using hon)
  have hfree : ¬ ((begun s r).sweep.st = 2 ∨ (begun s r).sweep.st = 3) := by simp [h2, h3]
  refine performs_modSweep (fun _ => planOf r.payload masks) rfl hr ?_
  subst hmasks
  rw [doSweepPlan, if_neg hgood, if_neg hfree]
  rfl

/-- SWEEP_POINTS writes points of a plan that is being defined (R353). -/
theorem sweepPoints_performs {k first : Nat} {ps : List (Nat × Int × Int)} (hk1 : 1 ≤ k) (hk26 : k ≤ 26) (hk : num r.payload 2 1 = k)
    (hfirst : num r.payload 1 1 = first) (hlen : r.len.toNat = 4 + 2 * k) (hps : ps = pointPairs first k (r.payload.drop 4))
    (hrange : ∀ x ∈ ps, -64 ≤ x.2.1 ∧ x.2.1 ≤ 64 ∧ -127 ≤ x.2.2) (hfit : first + k ≤ s.sweep.npoints) (hst : s.sweep.st = 1)
    (hplan : s.sweep.plan.toNat = num r.payload 0 1) :
    Performs (.sweepPoints r) 0x0311 r s [] [.sweep] fun t => t.sweep = pointsWritten ps s.sweep := by
  have hgood : ¬ (k = 0 ∨ 26 < k ∨ r.len.toNat ≠ 4 + 2 * k) := by omega
  have hin : ¬ (ps.any fun p => decide (p.2.1 < -64) || decide (64 < p.2.1) || decide (p.2.2 < -127)) = true := by
    simp only [List.any_eq_true, Bool.or_eq_true, decide_eq_true_eq, not_exists, not_and]
    intro x hx
    have := hrange x hx
    omega
  have hfit' : ¬ (holdsPlan (begun s r) r.payload && decide ((begun s r).sweep.npoints < first + k)) = true := by
    simp only [begun_sweep, Bool.and_eq_true, decide_eq_true_eq, not_and]
    omega
  have hfree : ¬ ((begun s r).sweep.st ≠ 1 ∨ (begun s r).sweep.plan.toNat ≠ num r.payload 0 1) := by simp [hst, hplan]
  refine performs_modSweep (pointsWritten ps) rfl hr ?_
  subst hk hfirst hps
  rw [doSweepPoints, if_neg hgood, if_neg hin, if_neg hfit', if_neg hfree]
  rfl

/-- SWEEP_ARM arms a plan whose points are all written and whose S0 lies beyond the next sheet (R352, R353). -/
theorem sweepArm_performs (hlen : r.len = 1) (hplan : holdsPlan s r.payload = true)
    (hpoints : ∀ k < s.sweep.npoints, ∃ x ∈ s.sweep.points, x.1 = k)
    (hs0 : boundaryStamp (sheetN s) (boundaryAt (sheetN s) s.seq.base.toNat + 2) < s.sweep.s0.toNat) :
    Performs (.sweepArm r) 0x0312 r s [] [.sweep] fun t => t.sweep = { s.sweep with st := 2 } := by
  have hgood : ¬ (r.len.toNat ≠ 1 ∨ holdsPlan (begun s r) r.payload = false) := by simp [hlen, holdsPlan_begun, hplan]
  have hall : ¬ ((upto (begun s r).sweep.npoints).any fun k => !((begun s r).sweep.points.any fun p => p.1 == k)) = true := by
    simpa [upto] using hpoints
  have hlate : ¬ (begun s r).sweep.s0.toNat ≤
      boundaryStamp (sheetN (begun s r)) (boundaryAt (sheetN (begun s r)) (begun s r).seq.base.toNat + 2) := by
    rw [sheetN_begun, begun_seq, begun_sweep]
    omega
  refine performs_modSweep (fun w => { w with st := 2 }) rfl hr ?_
  rw [doSweepArm, if_neg hgood, if_neg hall, if_neg hlate]

/-- SWEEP_ABORT ends an armed or running plan, and answers with the state it had (R354). -/
theorem sweepAbort_performs (hlen : r.len = 1) (hplan : holdsPlan s r.payload = true) (hst : s.sweep.st = 2 ∨ s.sweep.st = 3) :
    Performs (.sweepAbort r) 0x0313 r s [by1 s.sweep.st.val] [.sweep, .sides, .win, .mbx, .svc, .store, .free] fun t =>
      t.sweep = endedPlan s.sweep := by
  have hgood : ¬ (r.len.toNat ≠ 1 ∨ holdsPlan (begun s r) r.payload = false) := by simp [hlen, holdsPlan_begun, hplan]
  have hf : doSweepAbort r (begun s r) = okWith (abortSweep (begun s r) 4) [by1 s.sweep.st.val] := by
    rw [doSweepAbort, if_neg hgood, begun_sweep]
  rw [abortSweep_raises (by rwa [begun_sweep])] at hf
  refine performs_settings_noted rfl hr hf (fun q hq => sweepAborted_untouched _ hq) (raise_noted _ _ _) fun t ht => ?_
  rw [ht, sweepAborted_sweep, begun_sweep]
end

/-- Settles O13: the calender commands change sides, taps or one line alone, the sweep's commands its plan, and an abort raises event
0x0422 with cause 4 as well. -/
theorem calenderAndSweepSettingsTakeEffect : Obligations.CalenderAndSweepSettingsTakeEffect := by
  refine ⟨fun s r hr => ⟨fun i set mask want hlen hi hff hset hm hmask hwant hok hst href => ?_,
    fun i set want hlen hi hff hset hwant hok hst href => ?_, fun l v => calCfgSet_performs hr, fun w v hlen h0 hw hv => ?_,
    fun l hlen h1 hl => auxCalSet_line hr hlen h1 hl⟩,
    fun s r hr => ⟨fun masks => sweepPlan_performs hr, fun k first ps => sweepPoints_performs hr, sweepArm_performs hr,
      sweepAbort_performs hr⟩⟩
  · refine (calSet_performs hr hlen hi hff hset hok hst hm hmask hwant href).mono fun t ht => ?_
    rw [ht]
    exact ⟨fun j hj => writeImages_other hj, writeImages_quiet, writeImages_running⟩
  · refine (calSeed_performs hr hlen hi hff hset hok hst hwant href).mono fun t ht => ?_
    rw [ht, modSide_side]
    refine ⟨markSeeded_seeded _, fun j hj => (modSide_side_other hj).trans (writeImages_other hj), fun hq => ?_⟩
    rw [writeImages_quiet hq]
    exact markSeeded_relimit _ _
  · refine (auxCalSet_window hr hlen h0 hw hv).mono fun t ht => ?_
    rw [ht]
    refine ⟨fun h => ?_, fun h => ?_, fun k hk => tapWritten_other s.ven hk⟩
    · rw [tapWritten_now s.ven h]
      exact vmod_get s.ven.tap w _
    · obtain ⟨htap, hnext⟩ := tapWritten_waits (w := w) s.ven h
      rw [htap]
      exact ⟨hnext, vmod_get s.ven.tap w _⟩

end Sys2Proof.Machine
end

section
/-! What an event leaves beside its entry: SEQ, EVT records, the log staging (R223, R321, R438). -/

namespace Sys2Proof.Machine

/-! ### What each part of an event reads and leaves -/

/-- What an event's place, its EVT records and its log entry find: SEQ, the bridge, the store, the domains. -/
theorem placeEvent_kept (s : State) (e : EventEntry) :
    ((placeEvent s e).mbx.evtSeq, (placeEvent s e).svc, (placeEvent s e).store, (placeEvent s e).pow) =
      (s.mbx.evtSeq, s.svc, s.store, s.pow) := by
  unfold placeEvent ringEvent
  split <;> split <;> rfl

theorem evtRecord_kept (e : EventEntry) (s : State) (k : SessionId) :
    ((evtRecord e s k).mbx.evtSeq, (evtRecord e s k).store) = (s.mbx.evtSeq, s.store) := by
  unfold evtRecord
  split
  · rfl
  · unfold noteEvent
    dsimp only
    split <;> rfl

theorem evtRecords_kept (s : State) (c : Nat) (e : EventEntry) :
    ((evtRecords s c e).mbx.evtSeq, (evtRecords s c e).store) = (s.mbx.evtSeq, s.store) := by
  unfold evtRecords
  split
  · exact foldl_keeps (fun t : State => (t.mbx.evtSeq, t.store)) _ _ (evtRecord_kept e) s
  · rfl

theorem stageLog_kept (s : State) (c : Nat) (e : EventEntry) :
    ((stageLog s c e).mbx.evtSeq, (stageLog s c e).svc) = (s.mbx.evtSeq, s.svc) := by
  unfold stageLog
  split
  · rfl
  · split <;> rfl

/-- A logged event is staged where the AO domain has room (R438). -/
theorem stageLog_staged {s : State} {c : Nat} (e : EventEntry) (hlog : logged c = true) (hroom : s.store.staged.length < 56) :
    (stageLog s c e).store.staged = s.store.staged ++ [e] := by
  rw [stageLog, if_neg (by simp [hlog]), if_pos hroom]
  rfl

/-! ### EVT records -/

/-- The EVT record of an event for one session (R223). -/
def evtRecordOf (e : EventEntry) (k : SessionId) : OutRec :=
  { session := k, bytes := [0x14, 0] ++ be 2 40 ++ [0, 0, 0, 0] ++ eventBytes e, credit := none }

/-- Where the buffer has room for a record to each of some sessions, each gets its own. -/
theorem foldl_evtRecord (e : EventEntry) (l : List SessionId) (s : State) (h : s.svc.evt.length + l.length ≤ 16) :
    l.foldl (evtRecord e) s = s.modSvc fun b => { b with evt := b.evt ++ l.map (evtRecordOf e) } := by
  induction l generalizing s with
  | nil => simp [State.modSvc]
  | cons k t ih =>
    simp only [List.length_cons] at h
    have hone : evtRecord e s k = s.modSvc fun b => { b with evt := b.evt ++ [evtRecordOf e k] } := if_pos (by omega)
    rw [List.foldl_cons, hone, ih _ (by simp; omega)]
    simp [State.modSvc]

/-- A bound session that enables an event's class, or wrote what failed, is among those its record goes to (R223). -/
theorem mem_evtTargets {s : State} {c : Nat} {d : List Byte} {k : SessionId} (haddr : s.svc.sessions[k].addr.isSome = true)
    (hwriter : c = 0x0608 → d.head? = some (BitVec.ofNat 8 k.val)) (hmask : c ≠ 0x0608 → s.svc.sessions[k].mask.getLsbD (c / 256 - 1) = true) :
    k ∈ evtTargets s c d := by
  have hk := k.isLt
  simp only [evtTargets, List.mem_filter, List.mem_finRange, true_and, haddr, Bool.true_and]
  by_cases hc : c = 0x0608
  · obtain ⟨d', rfl⟩ : ∃ d', d = BitVec.ofNat 8 k.val :: d' := by
      have := hwriter hc
      cases d <;> simp_all
    have hnum : num (BitVec.ofNat 8 k.val :: d') 0 1 = k.val := by
      simp [num, slice, ofBe]
      omega
    rw [if_pos hc, hnum, decide_eq_true rfl]
  · rw [if_neg hc, bit_eq_getLsbD, hmask hc]

theorem evtTargets_length (s : State) (c : Nat) (d : List Byte) : (evtTargets s c d).length ≤ 4 :=
  (List.length_filter_le _ _).trans (by simp)

/-- With room for four records each session an event goes to gets its own. -/
theorem evtRecords_built {s : State} {c : Nat} (e : EventEntry) {k : SessionId} (h44 : domOn s 44 = true)
    (hroom : s.svc.evt.length ≤ 12) (hk : k ∈ evtTargets s c e.data) : evtRecordOf e k ∈ (evtRecords s c e).svc.evt := by
  have hlen := evtTargets_length s c e.data
  rw [evtRecords, if_pos h44, foldl_evtRecord e _ s (by omega)]
  exact List.mem_append_right _ (List.mem_map_of_mem hk)

/-! ### An entry written at once -/

/-- An event that is not coalesced takes SEQ, is placed, recorded for its sessions and staged, in this order. -/
theorem raise_eq {c : Nat} {d : List Byte} (hl : limitOf c d = .none) (s : State) : raise s c d =
    stageLog (evtRecords (placeEvent (s.modMbx fun m => { m with evtSeq := m.evtSeq + 1 }) (entryOf s c d)) c (entryOf s c d)) c
      (entryOf s c d) := by
  rw [raise, hl]
  rfl

section
variable {s : State} {c : Nat} {d : List Byte} (hl : limitOf c d = .none)
include hl

theorem raise_evtSeq : (raise s c d).mbx.evtSeq = s.mbx.evtSeq + 1 := by
  have hplace := placeEvent_kept (s.modMbx fun m => { m with evtSeq := m.evtSeq + 1 }) (entryOf s c d)
  rw [raise_eq hl, (Prod.mk.inj (stageLog_kept _ _ _)).1, (Prod.mk.inj (evtRecords_kept _ _ _)).1, (Prod.mk.inj hplace).1]
  rfl

theorem raise_record {k : SessionId} (h44 : domOn s 44 = true) (hroom : s.svc.evt.length ≤ 12) (hk : k ∈ evtTargets s c d) :
    evtRecordOf (entryOf s c d) k ∈ (raise s c d).svc.evt := by
  have hplace := placeEvent_kept (s.modMbx fun m => { m with evtSeq := m.evtSeq + 1 }) (entryOf s c d)
  simp only [Prod.mk.injEq] at hplace
  obtain ⟨-, hsvc, -, hpow⟩ := hplace
  rw [raise_eq hl, (Prod.mk.inj (stageLog_kept _ _ _)).2]
  refine evtRecords_built _ ?_ ?_ ?_
  · rw [domOn, hpow]
    exact h44
  · rw [hsvc]
    exact hroom
  · rw [evtTargets, hsvc]
    exact hk

theorem raise_staged (hlog : logged c = true) (hroom : s.store.staged.length < 56) :
    (raise s c d).store.staged = s.store.staged ++ [entryOf s c d] := by
  have hplace := placeEvent_kept (s.modMbx fun m => { m with evtSeq := m.evtSeq + 1 }) (entryOf s c d)
  simp only [Prod.mk.injEq] at hplace
  obtain ⟨-, -, hstore, -⟩ := hplace
  have hkept := (Prod.mk.inj (evtRecords_kept (placeEvent (s.modMbx fun m => { m with evtSeq := m.evtSeq + 1 }) (entryOf s c d)) c
    (entryOf s c d))).2.trans hstore
  rw [raise_eq hl, stageLog_staged _ hlog]
  all_goals rw [hkept]
  · rfl
  · exact hroom
end

/-- Settles O7: where the entry stands and what it leaves alone hold of every event, SEQ, the EVT records and the staging of one that is
written at once. -/
theorem eventsAreRecorded : Obligations.EventsAreRecorded := by
  intro s c d _
  refine ⟨raise_raised s c d, (raise_noted s c d).part, fun hl => ⟨raise_evtSeq hl, ?_, raise_staged hl⟩⟩
  intro k h44 haddr hroom hwriter hmask
  exact ⟨_, raise_record hl h44 hroom (mem_evtTargets haddr hwriter hmask), rfl, rfl⟩

end Sys2Proof.Machine
end

section
/-! The service port's link, patience and the lease (R205, R229, R234). -/

namespace Sys2Proof.Machine

/-- A change of the bridge leaves what decides where an event stands. -/
theorem eventView_modSvc (s : State) (f : Bridge → Bridge) : eventView (s.modSvc f) = eventView s := rfl

/-- A row that changes the bridge alone. -/
theorem does_modSvc {c : Instr} {s : State} (f : Bridge → Bridge) (hx : exec c s = done s (s.modSvc f)) :
    Does c s [.svc] fun t => t.svc = f s.svc :=
  does_of hx (fun _ hp => Part.untouched_modSvc s f (by simpa using hp)) rfl

/-- A row that changes the bridge and raises an event on that. -/
theorem reports_modSvc {c : Instr} {s : State} {code : Nat} {data : List Byte} (f : Bridge → Bridge)
    (hx : exec c s = done s (raise (s.modSvc f) code data)) :
    Reports c s code data [.svc] fun t => SvcNoted t (f s.svc) :=
  reports_of hx (fun _ hp => Part.untouched_modSvc s f (by simpa using hp)) (eventView_modSvc s f)
    (Part.noted_settle (p := .svc) s ((raise_noted (s.modSvc f) code data).part .svc))

/-- With no record held the bridge has nothing to serve. -/
theorem afterBridge_empty {s : State} (h : s.svc.recs = []) : afterBridge s = s := by
  simp [afterBridge, serveLocals, h]

/-! ### The link -/

section
variable {s : State}

/-- The link comes up where the port's mode meets its partner, outside a loop-back (R204, R205). -/
theorem svcLinkChange_up {x : PortLink} (hloop : s.test.loopSvc = 0) (h42 : domOn s 42 = true) (hdown : s.svc.link = false)
    (hmode : s.svc.mode ≠ 0) (hup : bringsUp s.svc.mode x = true) :
    Reports (.svcLinkChange x) s 0x060C [by1 s.svc.mode.val, 1] [.svc] fun t => SvcNoted t { s.svc with link := true } := by
  have hcan : (s.svc.mode != 0 && s.test.loopSvc == 0 && domOn s 42) = true := by simp [hmode, hloop, h42]
  refine reports_modSvc (fun b => { b with link := true }) (congrArg (done s) ?_)
  simp only [hup, hcan, if_true, setLink, hdown, Bool.false_eq_true, if_false]
  rfl

/-- A PHY at another speed than 1000 Mb/s is reported though the link is down already (R204). -/
theorem svcLinkChange_slow {speed : Fin 3} (hspeed : speed ≠ 2) (hmode : s.svc.mode = 3) (hloop : s.test.loopSvc = 0)
    (h42 : domOn s 42 = true) (hdown : s.svc.link = false) :
    Reports (.svcLinkChange (.phy speed)) s 0x060C [3, 0] [] fun _ => True := by
  refine reports_of (u := s) (congrArg (done s) ?_) (fun p _ => p.untouched_refl s) rfl trivial
  simp [bringsUp, slowPhy, hspeed, hmode, hloop, h42, hdown]
  rfl

/-- A link that goes down cuts the frames that have not wholly left (R205). -/
theorem svcLinkChange_down (hup : s.svc.link = true) {f : Bridge → Bridge} (hcut : cutFrames s = s.modSvc f)
    (hmode : (f s.svc).mode = s.svc.mode) : Reports (.svcLinkChange .down) s 0x060C [by1 s.svc.mode.val, 0] [.svc] fun t =>
      SvcNoted t { f s.svc with link := false } := by
  refine reports_modSvc (fun b => { f b with link := false }) (congrArg (done s) ?_)
  simp only [bringsUp, slowPhy, Bool.false_and, Bool.false_eq_true, if_false, setLink, hup, Bool.true_eq_false, hcut, modSvc_svc, hmode]
  rfl

/-- Frames that have left are not undone. -/
theorem cutFrames_left (h : ∀ f ∈ s.svc.leaving, f.ends ≤ s.now.toNat) :
    cutFrames s = s.modSvc fun b => { b with leaving := [] } := by
  have hnone : s.svc.leaving.filter (fun f => decide (s.now.toNat < f.ends)) = [] := by
    simpa [List.filter_eq_nil_iff] using h
  rw [cutFrames, hnone, List.foldl_nil]

/-- A session's frame without records that has not left counts as not sent (R205). -/
theorem cutFrames_one {f : Leaving} {k : SessionId} (hf : s.svc.leaving = [f]) (hends : s.now.toNat < f.ends) (hk : f.session = some k)
    (hout : f.out = []) : cutFrames s = s.modSvc fun b => { b with
      leaving := [], sent := b.sent.drop 1, sessions := vmod b.sessions k fun x => { x with upSeq := x.upSeq - 1, news := true } } := by
  have hone : s.svc.leaving.filter (fun f => decide (s.now.toNat < f.ends)) = [f] := by
    simp [hf, hends]
  rw [cutFrames, hone, List.foldl_cons, List.foldl_nil]
  have hback (b : Bridge) : putBack [] b = b := rfl
  simp only [unsend, hk, hout, List.foldl_nil, List.any_nil, Bool.false_and, Bool.false_eq_true, if_false, State.modSession,
    State.modSvc, hback]

end

/-! ### Patience -/

/-- A refusal that finds room in its queue (R226). -/
theorem refuse_room {s : State} (h : (s.svc.cpl.filter fun o => o.refusal).length < 16) (k : SessionId) (st : Nat) (tag : BitVec 16)
    (wait : Nat) (addr : R40) (size : Nat) (credit : Option (Fin 4)) : refuse s k st tag wait addr size credit =
      s.modSvc fun b => { b with cpl := b.cpl ++
        [{ session := k, bytes := cplBytes st tag 3 wait addr size [], credit := credit, refusal := true }] } := if_pos h

/-- The bridge once a request out of patience has been refused, and counted (R229). -/
def patienceRefused (x : Rec) (b : Bridge) : Bridge := { b with
  recs := b.recs.erase x
  sessions := vmod b.sessions x.session fun y => { y with counts := vmod y.counts 4 satInc }
  cpl := b.cpl ++ [{ session := x.session, bytes := cplBytes 0x16 x.tag 3 x.patience x.addr x.size []
                     credit := if x.credit then some (classIx x.cls) else none, refusal := true }] }

/-- A request that has waited beyond its patience is refused (R229). -/
theorem patienceExpired_refuses {s : State} {x : Rec} (hx : s.svc.recs = [x]) (hcls : x.cls ≠ .pw) (hst : x.started = false)
    (hwait : x.patience < x.wait) (hroom : (s.svc.cpl.filter fun o => o.refusal).length < 16) :
    Does .patienceExpired s [.svc] fun t => t.svc = patienceRefused x s.svc := by
  have hone : s.svc.recs.filter (fun r => r.cls != .pw && !r.started && decide (r.patience < r.wait)) = [x] := by
    simp [hx, hcls, hst, hwait]
  have hrefuse : refuseImpatient s x = s.modSvc (patienceRefused x) := by
    unfold refuseImpatient
    rw [refuse_room (by exact hroom)]
    simp only [countSession, State.modSession, State.modSvc, patienceRefused]
  refine does_modSvc (patienceRefused x) (congrArg (done s) ?_)
  rw [hone, List.foldl_cons, List.foldl_nil, hrefuse, afterBridge_empty (by simp [patienceRefused, hx])]

/-! ### The lease -/

/-- The lock released without its holder's asking, before its event: no holder, VLCK_N negated now or at the end of the cycle in
progress, and BROKEN unless the session is being unbound (R234). -/
def lockBroken (k : SessionId) (cause : Nat) (s : State) : State :=
  let busy := s.ven.cycle.isSome
  let t := (s.modSvc fun b => { b with holder := none, leaseNs := 0, unlock := busy }).modVen fun v => { v with vlck := busy && v.vlck }
  if cause = 3 then t else t.modSession k fun x => { x with broken := true }

theorem breakLock_eq {s : State} {k : SessionId} (h : s.svc.holder = some k) (cause : Nat) :
    breakLock s cause = breakRecords k (raise (lockBroken k cause s) 0x0607 [by1 k.val, by1 cause]) := by
  rw [breakLock, h]
  rfl

/-- With no record held none runs under the lock. -/
theorem breakRecords_empty {s : State} (h : s.svc.recs = []) (k : SessionId) : breakRecords k s = s := by
  have hsame : { s.svc with recs := [] } = s.svc := by rw [← h]
  simp only [breakRecords, h, List.map_nil, List.filter_nil, List.foldl_nil, State.modSvc, hsame]

theorem Noted.recs {s t : State} (h : Noted s t) : t.svc.recs = s.svc.recs := by
  rw [h.1]
  rfl

/-- A lease that has run out breaks its holder's lock (R234). -/
theorem leaseExpired_breaks {s : State} {k : SessionId} (hk : s.svc.holder = some k) (hlease : s.svc.leaseNs = 0) (hrecs : s.svc.recs = [])
    (hcycle : s.ven.cycle = none) : Reports .leaseExpired s 0x0607 [by1 k.val, 0] [.svc, .ven] fun t =>
      t.svc.holder = none ∧ t.svc.leaseNs = 0 ∧ t.svc.sessions[k].broken = true ∧ t.ven = { s.ven with vlck := false } := by
  have hn := raise_noted (lockBroken k 0 s) 0x0607 [by1 k.val, 0]
  have hempty : (raise (lockBroken k 0 s) 0x0607 [by1 k.val, 0]).svc.recs = [] := hn.recs.trans hrecs
  have hx : exec .leaseExpired s = done s (raise (lockBroken k 0 s) 0x0607 [by1 k.val, 0]) := by
    refine congrArg (done s) ((if_pos hlease).trans ?_)
    rw [breakLock_eq hk, ← afterBridge_empty hempty]
    exact congrArg afterBridge (breakRecords_empty hempty k)
  refine reports_of hx (fun p hp => ?_) rfl ?_
  · cases p
    case svc | ven => exact absurd (by decide) hp
    all_goals rfl
  · have hsvc : (raise (lockBroken k 0 s) 0x0607 [by1 k.val, 0]).svc = _ := congrArg State.svc hn.1
    simp only [settle_svc, settle_ven, raise_ven, hsvc]
    refine ⟨rfl, rfl, ?_, ?_⟩
    · simp [withEventsOf, lockBroken]
    · simp [lockBroken, hcycle]

/-- Settles O30: each row changes the bridge alone, a lease that ends VLCK_N too; a link lost cuts what has not left. -/
theorem linkPatienceAndLease : Obligations.LinkPatienceAndLease := by
  refine fun s => ⟨fun x hloop h42 hdown hmode => ?_, fun speed => svcLinkChange_slow, fun hup hleft => ?_,
    fun f k hup hf hends hk hout => ?_, fun x hx hcls hst hwait hroom => ?_, fun k => leaseExpired_breaks⟩
  · refine svcLinkChange_up hloop h42 hdown ?_ ?_
    all_goals rcases hmode with ⟨hm, rfl⟩ | ⟨hm, rfl⟩ | ⟨hm, rfl⟩ <;> rw [hm] <;> decide
  · exact svcLinkChange_down hup (cutFrames_left hleft) rfl
  · exact svcLinkChange_down hup (cutFrames_one hf hends hk hout) rfl
  · obtain ⟨t, hx, ht, hkeep⟩ := patienceExpired_refuses hx hcls hst hwait hroom
    refine ⟨t, hx, ⟨?_, ?_, ?_⟩, hkeep⟩
    all_goals rw [ht]
    · simp [patienceRefused, *]
    · simp only [patienceRefused, Fin.getElem_fin, vmod_get]
      exact vmod_same _ 4 _
    · simp [patienceRefused]

end Sys2Proof.Machine
end

section
/-! TX lines (R225, R236). -/

namespace Sys2Proof.Machine

/-! ### What waits upstream -/

/-- The upstream buffers are empty (R224). -/
def NothingUpstream (b : Bridge) : Prop := b.cpl = [] ∧ b.upw = [] ∧ b.sig = [] ∧ b.evt = []

section
variable {s : State} (h : NothingUpstream s.svc)
include h

theorem waitingFor_empty (k : SessionId) : waitingFor s k = [] := by
  obtain ⟨hcpl, hupw, hsig, hevt⟩ := h
  simp only [waitingFor, hcpl, hupw, hsig, hevt, List.filter_nil, List.append_nil]

theorem nextRecords_empty (k : SessionId) : nextRecords s k = [] := by
  rw [nextRecords, waitingFor_empty h]
  rfl

/-- A frame is wanted for a session's news alone then (R236). -/
theorem wantsFrame_empty (k : SessionId) :
    wantsFrame s k = (s.svc.sessions[k].addr.isSome && s.svc.sessions[k].seqKnown && s.svc.sessions[k].news) := by
  simp only [wantsFrame, waitingFor_empty h, List.isEmpty_nil, Bool.not_true, Bool.or_false]

theorem wantsFrame_no_news {k : SessionId} (hk : s.svc.sessions[k].news = false) : wantsFrame s k = false := by
  rw [wantsFrame_empty h, hk, Bool.and_false]
end

/-! ### The round robin -/

/-- With no session that wants a frame none is next. -/
theorem nextSession_none {s : State} (h : ∀ k : SessionId, wantsFrame s k = false) (mask : Nat) : nextSession s mask = none := by
  simp [nextSession, h]

theorem mem_roundRobin (last k : SessionId) : k ∈ (upto 4).map fun i => (Fin.ofNat 4 (last.val + 1 + i) : SessionId) := by
  revert last k
  decide

/-- The only session that wants a frame is next in a line for any session (R236). -/
theorem nextSession_only {s : State} {k : SessionId} (hk : wantsFrame s k = true) (hno : ∀ j : SessionId, j ≠ k → wantsFrame s j = false) :
    nextSession s 0 = some k := by
  obtain ⟨j, hj⟩ : ∃ j, nextSession s 0 = some j := by
    refine Option.isSome_iff_exists.mp (List.find?_isSome.mpr ⟨k, mem_roundRobin s.svc.txLast k, ?_⟩)
    rw [hk]
    rfl
  have hwants : wantsFrame s j = true := by
    have := List.find?_some hj
    simpa using this
  by_cases hjk : j = k
  · rw [hj, hjk]
  · rw [hno j hjk] at hwants
    exact absurd hwants (by decide)

/-! ### One frame -/

/-- The bridge once a session's frame without records is on the wire (R236). -/
def emptyFrameSent (k : SessionId) (bytes : List Byte) (ends : Nat) (b : Bridge) : Bridge := { b with
  txLast := k
  leaving := { session := some k, out := [], ends } :: b.leaving
  sessions := vmod b.sessions k fun x => { x with upSeq := x.upSeq + 1, news := false }
  sent := bytes :: b.sent }

theorem sendFrame_empty {s : State} {k : SessionId} (h : nextRecords s k = []) (ends : Nat) :
    sendFrame s k ends = s.modSvc (emptyFrameSent k (frameBytes s k []) ends) := by
  have hout (l : List OutRec) : takeOut [] l = l := rfl
  simp only [sendFrame, h, hout, List.foldl_nil, List.any_nil, Bool.false_and, Bool.false_eq_true, if_false]
  rfl

/-- A frame without records has the header and the Dovetail header, 30 bytes, and as many of padding (R206, R207). -/
theorem frameBytes_empty {s : State} {k : SessionId} {a : Mac} (ha : s.svc.sessions[k].addr = some a) :
    frameBytes s k [] = be 6 a.toNat ++ be 6 s.store.eui48.toNat ++ be 2 s.svc.etype.toNat ++
      [1, BitVec.ofNat 8 (64 * k.val + s.svc.sessions[k].epoch.toNat), 0, 1] ++ be 2 s.svc.sessions[k].upSeq.toNat ++
      be 2 s.svc.sessions[k].ackSeq.toNat ++ be 4 s.svc.sessions[k].ackMap.toNat ++
      ((List.finRange 4).map fun c : Fin 4 => BitVec.ofNat 8 (s.svc.sessions[k].credits[c] - s.svc.sessions[k].used[c])) ++
      List.replicate 30 0 := by
  have hfour (f : Fin 4 → Byte) : (List.finRange 4).map f = [f 0, f 1, f 2, f 3] := rfl
  simp only [frameBytes, ha, hfour, Nat.mul_comm k.val 64, List.length_append, be_length, List.length_cons, List.length_nil,
    List.map_nil, List.flatten_nil, List.append_nil]
  rfl

/-! ### A line -/

section
variable {l : Line} {room : Nat}

/-- Where no session wants a frame none is sent. -/
theorem sendFrames_none {s : State} (h : ∀ k : SessionId, wantsFrame s k = false) (n at' : Nat) : sendFrames l room n at' s = s := by
  cases n with
  | zero => rfl
  | succ n => rw [sendFrames, nextSession_none h]

/-- The frame of the only session with news is sent where it ends within the line's room, and no other follows (R236). -/
theorem sendFrames_news {s : State} {k : SessionId} (hup : NothingUpstream s.svc) (hl : l.target = 0)
    (hk : wantsFrame s k = true) (hno : ∀ j : SessionId, j ≠ k → s.svc.sessions[j].news = false)
    (hroom : wirePs s.svc.mode.val 30 ≤ room) (n : Nat) : sendFrames l room (n + 1) 0 s =
      s.modSvc (emptyFrameSent k (frameBytes s k []) (leftAt s l (wirePs s.svc.mode.val 30))) := by
  have hnext : nextSession s l.target.toNat = some k := by
    rw [hl]
    exact nextSession_only hk fun j hj => wantsFrame_no_news hup (hno j hj)
  have hquiet (bytes : List Byte) (ends : Nat) (j : SessionId) : wantsFrame (s.modSvc (emptyFrameSent k bytes ends)) j = false := by
    refine wantsFrame_no_news (s := s.modSvc (emptyFrameSent k bytes ends)) hup ?_
    simp only [modSvc_svc, emptyFrameSent]
    by_cases hj : j = k
    · rw [hj, vmod_same]
    · rw [Fin.getElem_fin, vmod_get_other _ _ _ _ (Ne.symm hj)]
      exact hno j hj
  simp only [sendFrames, hnext, nextRecords_empty hup, List.map_nil, List.sum_nil, Nat.add_zero, Nat.zero_add,
    if_neg (Nat.not_lt.mpr hroom)]
  rw [sendFrame_empty (nextRecords_empty hup k), sendFrames_none (hquiet _ _)]

/-- The frames of the TX line before are no longer at stake (R205). -/
def wireFree (b : Bridge) : Bridge := { b with leaving := [] }

/-- With no Delay_Req due a TX line begins with the sessions' frames (R236). -/
theorem transmit_sessions {s : State} {m : Mould} (hdue : s.time.reqDue = false) (hm : s.seq.active = some m) (hup : NothingUpstream s.svc) :
    transmit l s = sendFrames l ((l.duration - svcWindow m.svcMode) * 8000) 4 0 (s.modSvc wireFree) := by
  obtain ⟨hcpl, hupw, hsig, hevt⟩ := hup
  simp only [transmit, hm, modSvc_time, hdue, Bool.false_eq_true, if_false, hcpl, hupw, hsig, hevt, List.append_nil, List.length_nil]
  rfl

end

section
variable {s u : State} {idx : Nat} {l : Line} (hb : LineBegins s u 7 idx 0x30 l)
include hb

/-- A TX line whose frames change the bridge alone. -/
theorem txLine_of {m : Mould} {f : Bridge → Bridge} (hloop : u.test.loopSvc = 0) (hrecs : u.svc.recs = []) (hdue : u.time.reqDue = false)
    (hm : u.seq.active = some m) (hup : NothingUpstream u.svc) (hkeep : (f (wireFree u.svc)).recs = u.svc.recs)
    (hsend : sendFrames l ((l.duration - svcWindow m.svcMode) * 8000) 4 0 ((lineBegun u 7 idx).modSvc wireFree) =
      ((lineBegun u 7 idx).modSvc wireFree).modSvc f) :
    Begins (.txLine idx) s u 7 idx [.svc] fun t => t.svc = f (wireFree u.svc) := by
  have hx : exec (.txLine idx) s = done s (((lineBegun u 7 idx).modSvc wireFree).modSvc f) := by
    refine congrArg (done s) ((startLine_begins hb _).trans ((if_pos hloop).trans ?_))
    rw [transmit_sessions (s := lineBegun u 7 idx) hdue hm hup, hsend]
    exact afterBridge_empty (hkeep.trans hrecs)
  refine begins_of hx rfl (by decide) fun p hp => ?_
  have hsvc : p ≠ .svc := by simpa using hp
  exact Part.untouched_trans (Part.untouched_modSvc _ _ hsvc) (Part.untouched_modSvc _ _ hsvc)

/-- A TX line without a session that has news sends nothing (R236). -/
theorem txLine_quiet {m : Mould} (hloop : u.test.loopSvc = 0) (hrecs : u.svc.recs = []) (hdue : u.time.reqDue = false)
    (hm : u.seq.active = some m) (hup : NothingUpstream u.svc) (hnews : ∀ k : SessionId, u.svc.sessions[k].news = false) :
    Begins (.txLine idx) s u 7 idx [.svc] fun t => t.svc = wireFree u.svc :=
  txLine_of hb (f := id) hloop hrecs hdue hm hup rfl
    (sendFrames_none (s := (lineBegun u 7 idx).modSvc wireFree) (fun k => wantsFrame_no_news hup (hnews k)) _ _)

/-- A TX line for every session sends the frame of the only one with news (R236). -/
theorem txLine_news {m : Mould} {k : SessionId} {a : Mac} (hloop : u.test.loopSvc = 0) (hrecs : u.svc.recs = [])
    (hdue : u.time.reqDue = false) (hm : u.seq.active = some m) (hup : NothingUpstream u.svc) (hl : l.target = 0)
    (ha : u.svc.sessions[k].addr = some a) (hseq : u.svc.sessions[k].seqKnown = true) (hk : u.svc.sessions[k].news = true)
    (hno : ∀ j : SessionId, j ≠ k → u.svc.sessions[j].news = false)
    (hroom : wirePs u.svc.mode.val 30 ≤ (l.duration - svcWindow m.svcMode) * 8000) : Begins (.txLine idx) s u 7 idx [.svc] fun t =>
      t.svc = emptyFrameSent k (frameBytes u k []) (leftAt u l (wirePs u.svc.mode.val 30)) (wireFree u.svc) := by
  have hwants : wantsFrame ((lineBegun u 7 idx).modSvc wireFree) k = true := by
    have : wantsFrame ((lineBegun u 7 idx).modSvc wireFree) k = wantsFrame u k := rfl
    rw [this, wantsFrame_empty hup, ha, hseq, hk]
    rfl
  exact txLine_of hb hloop hrecs hdue hm hup rfl
    (sendFrames_news (s := (lineBegun u 7 idx).modSvc wireFree) hup hl hwants hno hroom 3)
end

/-- The wire time of a frame without records, by the port's mode. -/
theorem wirePs_empty (mode : Fin 4) : wirePs mode.val 30 = 84 * if mode = 2 then 800 else 8000 := by
  revert mode
  decide

/-- Settles O37: with the upstream buffers empty only a session's news make a frame, and no second one follows it. -/
theorem txLinesSendFrames : Obligations.TxLinesSendFrames := by
  intro s u idx l m hb hloop hrecs hdue hm hcpl hupw hsig hevt
  have hup : NothingUpstream u.svc := ⟨hcpl, hupw, hsig, hevt⟩
  refine ⟨txLine_quiet hb hloop hrecs hdue hm hup, fun k a hl ha hseq hk hno hroom => ?_⟩
  have h := txLine_news hb hloop hrecs hdue hm hup hl ha hseq hk hno (by rwa [wirePs_empty])
  rw [frameBytes_empty ha, wirePs_empty] at h
  exact h

end Sys2Proof.Machine
end

section
/-! What stands on the Veneer bus, and the cycles that CYCLE lines start (R228, R239, R242, R243, R246, R247, R263). -/

namespace Sys2Proof.Machine

/-! ### The Veneer outputs -/

/-- A group that is not open-drain drives its high level (R239, R240). -/
theorem groupPin_high {cfg : R40} (h : cfg.extractLsb' 31 5 = 0) {g : Nat} (hg : g < 5) : groupPin cfg g true = .high := by
  have hbit : bit cfg (31 + g) = false := by
    have := congrArg (fun x : BitVec 5 => x.getLsbD g) h
    simpa [bit_eq_getLsbD, hg] using this
  rw [groupPin, if_pos rfl, hbit]
  rfl

theorem venPins_idle {s : State} (hdrives : venDrives s = true) (hcycle : s.ven.cycle = none) (hgrant : s.ven.grant = none)
    (hafter : s.ven.afterGrant = false) (hvrst : s.ven.vrst = false) (hholding : s.ven.holding = false) (hseen : s.ven.seen = 0)
    (hcfg : s.ven.cfg.extractLsb' 31 5 = 0) : venPins s = { pinsReleased with
      vale := .low, vwr := .high, vstb := List.replicate 4 .high, vlck := if s.ven.vlck then .low else .high
      vbgnt := List.replicate 4 .high, vrst := .high, vclk := if fld s.ven.cfg 39 36 = 0 then .low else .running } := by
  have hidle : noCycle s = { bytes := [], ale := false, wrLow := false, strobes := 0 } := by
    rw [noCycle, hseen]
    rfl
  have hvad : vadPins s.ven.cfg [] = List.replicate 32 .released := rfl
  have hlck : groupPin s.ven.cfg 2 (!s.ven.vlck) = if s.ven.vlck then .low else .high := by
    cases s.ven.vlck
    · exact groupPin_high hcfg (by decide)
    · rfl
  have hstb : groupPin s.ven.cfg 1 true = .high := groupPin_high hcfg (by decide)
  have hbgnt : groupPin s.ven.cfg 3 true = .high := groupPin_high hcfg (by decide)
  have hrst : groupPin s.ven.cfg 4 true = .high := groupPin_high hcfg (by decide)
  have hbit (i : Nat) : bit (0 : BitVec 4) i = false := by simp [bit_eq_getLsbD]
  have hale : groupPin s.ven.cfg 1 false = .low := rfl
  simp only [venPins, hdrives, hcycle, hgrant, hafter, hvrst, hholding, hidle, hvad, hlck, hale, hstb, hbgnt, hrst, hbit,
    Option.isSome_none, Option.any_none, Bool.or_self, Bool.false_and, Bool.not_false, Bool.false_eq_true, Bool.true_eq_false, if_false]
  rfl

/-- A write has its data on its lanes from the end of the address phase, until it is answered (R243, R247). -/
theorem onBusNow_write {s : State} {c : Cycle} (hw : c.write = true) (ha : c.answered = none) (hsync : c.cfg[29] = false)
    (hn : fld c.cfg 19 16 + fld c.cfg 15 13 ≤ stepsOf 10 c.began s.now) :
    (onBusNow s c).bytes = c.lanes.zip c.data ∧ (onBusNow s c).wrLow = true := by
  have hbit : bit c.cfg 29 = false := (bit_eq_getElem _ (by decide)).trans hsync
  simp only [onBusNow, hbit, cycleView, ha, hw, Option.map_none, Option.all_none, Bool.and_self, Bool.false_eq_true, if_false, if_true,
    if_neg (Nat.not_lt.mpr hn), and_self]

/-! ### A line with its islands -/

section
variable {s u : State} {idx : Nat} {l : Line} (hb : LineBegins s u 5 idx 0x40 l)
include hb

theorem exec_cycleLine : exec (.cycleLine idx) s = done s (afterBridge (serveCycle idx l (lineBegun u 5 idx))) :=
  congrArg (done s) (startLine_begins hb _)

/-- A CYCLE line that begins has found the VEN island present. -/
theorem cycleLine_present : present u 5 = true := by
  obtain ⟨_, hact, _, _, _, _, hdest, _⟩ := hb
  refine hdest 5 ?_
  simp [destinations, hact]

/-- With no request a CYCLE line changes nothing (R228). -/
theorem cycleLine_empty (h : u.svc.recs = []) : Begins (.cycleLine idx) s u 5 idx [] fun _ => True := by
  have hsame : { u.svc with recs := [] } = u.svc := by rw [← h]
  have hmark (k : SessionId) : markOverflow k (lineBegun u 5 idx) = lineBegun u 5 idx := by
    simp only [markOverflow, State.modSvc, State.modSeq, pushLine, h, List.map_nil, hsame]
  have hchoose (t : Nat) : chooseRec (lineBegun u 5 idx) t = none := by
    simp [chooseRec, nextOf, pushLine, h]
  have hserve : serveCycle idx l (lineBegun u 5 idx) = lineBegun u 5 idx := by
    simp only [serveCycle, hmark, ite_self, hchoose]
  refine begins_empty ((exec_cycleLine hb).trans (congrArg (done s) ?_))
  rw [hserve]
  exact afterBridge_empty h
end

/-! ### The only request is chosen -/

/-- An NP request of a Veneer window that has not started. -/
structure WaitsForBus (r : Rec) : Prop where
  cls : r.cls = .np
  space : spaceOf r.addr < 16
  unstarted : r.started = false

section
variable {s : State} {r : Rec} (hrecs : s.svc.recs = [r]) (hcpl : cplTaken s < 16)
include hrecs hcpl

/-- The only request held may start where a CPL entry is free (R225, R227). -/
theorem canStart_only : canStart s r = true := by
  simp [canStart, orderAllows, before, hrecs, hcpl]

/-- It can start in a CYCLE line where no session holds the lock (R228, R232). -/
theorem ableToStart_only (hr : WaitsForBus r) (hfree : s.svc.holder = none) : ableToStart s r = true := by
  obtain ⟨hcls, hspace, hst⟩ := hr
  simp [ableToStart, wantsLine, needsBus, canStart_only hrecs hcpl, hcls, hspace, hst, hfree]

/-- A line reserved for its session chooses it (R228). -/
theorem chooseRec_only (hr : WaitsForBus r) (hfree : s.svc.holder = none) : chooseRec s r.session.val = some r := by
  have hgo : continues s r = false := by simp [continues, hr.unstarted]
  simp [chooseRec, nextOf, hrecs, hgo, ableToStart_only hrecs hcpl hr hfree]
end

/-- The bridge with one request and no other. -/
def onlyRec (q : Rec) (b : Bridge) : Bridge := { b with recs := [q] }

/-- Requests started apart, the CPL entries taken are those of completions and commands. -/
theorem cplTaken_modSvc {s : State} {r q : Rec} (hrecs : s.svc.recs = [r]) (hr : r.started = false) (hq : q.started = false) :
    cplTaken (s.modSvc (onlyRec q)) = cplTaken s := by
  simp [cplTaken, onlyRec, hrecs, hr, hq]

/-- The only request is put in its own place. -/
theorem putRec_only {s : State} {r : Rec} (hrecs : s.svc.recs = [r]) (q : Rec) :
    putRec s r q = s.modSvc (onlyRec q) := by
  simp [putRec, hrecs, State.modSvc, onlyRec]

/-- A request that a line reserved for its session has found able to start (R228). -/
def overflowed (r : Rec) : Rec := { r with overflow := true }

theorem markOverflow_only {s : State} {r : Rec} (hrecs : s.svc.recs = [r]) (h : ableToStart s r = true) :
    markOverflow r.session s = s.modSvc (onlyRec (overflowed r)) := by
  simp [markOverflow, State.modSvc, onlyRec, overflowed, hrecs, h]

/-- A request that a line reserved for its session has chosen (R228). -/
def chosenFirst (r : Rec) : Rec := { overflowed r with chosen := true, spare := false }

/-- The state in which a line that has chosen the only request wants the bus. -/
def requestChosen (s : State) (idx : Nat) (r : Rec) : State :=
  (s.modSvc (onlyRec (chosenFirst r))).modVen fun v => { v with serving := some (idx, spaceOf r.addr) }

/-- A line reserved for the session of the only request chooses it, and wants the bus (R228, R246). -/
theorem serveCycle_only {s : State} {r : Rec} {idx : Nat} {l : Line} (hrecs : s.svc.recs = [r]) (hr : WaitsForBus r)
    (hl : l.target.toNat = r.session.val) (hfree : s.svc.holder = none) (hcpl : cplTaken s < 16) : serveCycle idx l s =
      wantBus (requestChosen s idx r) 0x40 .cycle := by
  have hk : (Fin.ofNat 4 r.session.val : SessionId) = r.session := Fin.ofNat_val_eq_self _
  have hlt : r.session.val < 4 := r.session.isLt
  have hspare : decide (4 ≤ r.session.val) = false := decide_eq_false (by omega)
  have hmark := markOverflow_only hrecs (ableToStart_only hrecs hcpl hr hfree)
  have hcpl' : cplTaken (s.modSvc (onlyRec (overflowed r))) < 16 := by
    rwa [cplTaken_modSvc (q := overflowed r) hrecs hr.unstarted hr.unstarted]
  have hchoose : chooseRec (s.modSvc (onlyRec (overflowed r))) r.session.val = some (overflowed r) :=
    chooseRec_only (r := overflowed r) rfl hcpl' ⟨hr.cls, hr.space, hr.unstarted⟩ hfree
  have hput : putRec (s.modSvc (onlyRec (overflowed r))) (overflowed r) (chosenFirst r) = s.modSvc (onlyRec (chosenFirst r)) :=
    putRec_only (s := s.modSvc (onlyRec (overflowed r))) rfl (chosenFirst r)
  have hwindow : servedWindow (overflowed r) = spaceOf r.addr := by
    simp [servedWindow, unaddressed, overflowed, hr.cls]
  have hq : { overflowed r with chosen := true, spare := if (overflowed r).started then (overflowed r).spare else false } =
      chosenFirst r := by
    simp [overflowed, chosenFirst, hr.unstarted]
  have hlk : ((overflowed r).cls == .lk && (overflowed r).op == 4) = false := by simp [overflowed, hr.cls]
  simp only [serveCycle, hl, if_pos hlt, hk, hmark, hchoose, hspare, hq, hput, hwindow, hlk, Bool.false_eq_true, if_false]
  rfl

/-! ### The bus is idle -/

/-- A line's start begins at once on an idle bus (R246). -/
theorem wantBus_idle {s : State} (h : busIdle s = true) (action : Nat) (w : VenWait) :
    wantBus s action w = beginWaiting (s.modVen fun v => { v with waiting := some w }) := by
  have hseen : busSeen s = false := by
    simp only [busIdle, Bool.and_eq_true, beq_iff_eq] at h
    obtain ⟨⟨hs, _⟩, _⟩ := h
    rw [busSeen, hs]
    rfl
  rw [wantBus, hseen]
  rfl

/-- The only request, chosen, begins on the idle bus (R246, R257). -/
theorem beginWaiting_chosen {s : State} {r : Rec} (h : busIdle s = true) (hw : s.ven.waiting = some .cycle) (hrecs : s.svc.recs = [r])
    (hc : r.chosen = true) : beginWaiting s = beginRec (s.modVen fun v => { v with afterGrant := false }) r := by
  have hdrive : driveAgain s = s.modVen fun v => { v with afterGrant := false } := if_pos h
  have hidle : busIdle (s.modVen fun v => { v with afterGrant := false }) = true := h
  simp only [beginWaiting, hdrive, hidle, Bool.true_eq_false, if_false, modVen_ven, hw, modVen_svc, hrecs, List.find?_cons, hc]

/-- An NP request whose place stands starts its cycle where the VEN island is present (R44, R245). -/
theorem beginRec_starts {s : State} {r : Rec} (h5 : present s 5 = true) (hrecs : s.svc.recs = [r]) (hcpl : cplTaken s < 16)
    (hr : WaitsForBus r) (hplace : placeCheck s r.session r.addr r.size r.count false = none) : beginRec s r = startCycle s r := by
  have hread : isWrite r = false := by simp [isWrite, hr.cls]
  have hlk : (r.cls == .lk && r.op == 1) = false := by simp [hr.cls]
  simp only [beginRec, h5, hr.unstarted, canStart_only hrecs hcpl, hlk, hread, hplace, Bool.true_eq_false, Bool.false_eq_true, if_false]

/-- The only request, chosen, starts its cycle on the idle bus. -/
theorem wantBus_starts {s : State} {r : Rec} (h : busIdle s = true) (h5 : present s 5 = true) (hrecs : s.svc.recs = [r])
    (hc : r.chosen = true) (hcpl : cplTaken s < 16) (hr : WaitsForBus r)
    (hplace : placeCheck s r.session r.addr r.size r.count false = none) :
    wantBus s 0x40 .cycle = startCycle (s.modVen fun v => { v with waiting := some .cycle, afterGrant := false }) r := by
  rw [wantBus_idle h, beginWaiting_chosen (s := s.modVen fun v => { v with waiting := some .cycle }) h rfl hrecs hc]
  exact beginRec_starts (s := s.modVen fun v => { v with waiting := some .cycle, afterGrant := false }) h5 hrecs hcpl hr hplace

/-- A request that has started is not served without the bus (R220). -/
theorem afterBridge_started {s : State} {r : Rec} (hrecs : s.svc.recs = [r]) (hst : r.started = true) : afterBridge s = s := by
  simp [afterBridge, serveLocals, localServe, hrecs, hst]

/-! ### Its first cycle -/

/-- Address of the one byte that a request begins with, on the bus (R242). -/
def byteAddr (v : Veneer) (w : Fin 16) (r : Rec) : Nat :=
  (baseAddr v.base[w] + (offOf r.addr ^^^ winXor v.win[w])) % 2 ^ 32

/-- The cycle of the first byte of an NP request of size 1 (R243, R247, R249). -/
def byteCycle (s : State) (w : Fin 16) (r : Rec) : Cycle :=
  { session := r.session, window := w, write := false, addr := BitVec.ofNat 32 (byteAddr s.ven w r)
    strobes := BitVec.ofNat 4 (2 ^ (byteAddr s.ven w r % winBytes s.ven.win[w])), bytes := 1, phase := .strobe, ok := true
    lanes := [byteAddr s.ven w r % winBytes s.ven.win[w]], got := [], diffs := (0, 0), lineOver := false, cfg := s.ven.win[w]
    data := [], began := s.now, answered := none }

/-- A request on the bus, under the window in force as its first cycle started (R245). -/
def onBusFrom (v : Veneer) (w : Fin 16) (r : Rec) : Rec :=
  { r with started := true, chosen := false, onBus := true, window := some (v.base[w], v.win[w]) }

theorem startCycle_byte {s : State} {w : Fin 16} {r : Rec} (hrecs : s.svc.recs = [r]) (hcls : r.cls = .np) (hsize : r.size = 1)
    (hdone : r.done = 0) (hwindow : r.window = none) (hw : spaceOf r.addr = w.val) :
    startCycle s r = (s.modSvc (onlyRec (onBusFrom s.ven w r))).modVen fun v => { v with
      waiting := none, cycles := vmod v.cycles w satInc, cycle := some (byteCycle s w r) } := by
  have hix : (Fin.ofNat 16 (spaceOf r.addr) : Fin 16) = w := by rw [hw]; exact Fin.ofNat_val_eq_self _
  have hwidth : min r.size (winBytes s.ven.win[w]) = 1 := by
    rw [hsize, winBytes]
    split_ifs <;> rfl
  have haddrs : byteAddrs s.ven.base[w] s.ven.win[w] (offOf r.addr + r.done) 1 = [byteAddr s.ven w r] := by
    rw [hdone]
    rfl
  have hmin : min (2 ^ 32) (byteAddr s.ven w r) = byteAddr s.ven w r := min_eq_right (Nat.mod_lt _ (by decide)).le
  have hread : isWrite r = false := by simp [isWrite, hcls]
  simp only [startCycle, hix, hwindow, hwidth, haddrs, List.map_cons, List.map_nil, List.foldl_cons, List.foldl_nil, hmin, Nat.zero_or,
    hread, Bool.false_eq_true, if_false]
  rw [putRec_only hrecs]
  rfl

/-- What the Veneer logic holds of the first cycle of a line that serves one request (R228, R246, R263). -/
def servesFirst (s : State) (idx : Nat) (w : Fin 16) (r : Rec) (v : Veneer) : Veneer := { v with
  serving := some (idx, w.val), waiting := none, afterGrant := false, cycles := vmod v.cycles w satInc, cycle := some (byteCycle s w r) }

/-- A line reserved for the session of the only request starts its first cycle on the idle bus. -/
theorem serveCycle_starts {s : State} {r : Rec} {w : Fin 16} {idx : Nat} {l : Line} (hrecs : s.svc.recs = [r]) (hr : WaitsForBus r)
    (hl : l.target.toNat = r.session.val) (hfree : s.svc.holder = none) (hcpl : cplTaken s < 16) (hidle : busIdle s = true)
    (h5 : present s 5 = true) (hplace : placeCheck s r.session r.addr r.size r.count false = none) (hsize : r.size = 1)
    (hdone : r.done = 0) (hwindow : r.window = none) (hw : spaceOf r.addr = w.val) : serveCycle idx l s =
      (s.modSvc (onlyRec (onBusFrom s.ven w (chosenFirst r)))).modVen (servesFirst s idx w r) := by
  have hcpl' : cplTaken (requestChosen s idx r) < 16 := by
    have : cplTaken (requestChosen s idx r) = cplTaken (s.modSvc (onlyRec (chosenFirst r))) := rfl
    rwa [this, cplTaken_modSvc (q := chosenFirst r) hrecs hr.unstarted hr.unstarted]
  rw [serveCycle_only hrecs hr hl hfree hcpl,
    wantBus_starts (s := requestChosen s idx r) (r := chosenFirst r) hidle h5 rfl rfl hcpl' ⟨hr.cls, hr.space, hr.unstarted⟩ hplace]
  refine (startCycle_byte (s := (requestChosen s idx r).modVen _) (r := chosenFirst r) rfl hr.cls hsize hdone hwindow hw).trans ?_
  rw [requestChosen, hw]
  rfl

/-- A CYCLE line reserved for the session of the only request starts its first cycle (R228, R242, R243). -/
theorem cycleLine_starts {s u : State} {idx : Nat} {l : Line} (hb : LineBegins s u 5 idx 0x40 l) {r : Rec} {w : Fin 16}
    (hrecs : u.svc.recs = [r]) (hr : WaitsForBus r) (hl : l.target.toNat = r.session.val) (hfree : u.svc.holder = none)
    (hcpl : cplTaken u < 16) (hidle : busIdle u = true) (hplace : placeCheck u r.session r.addr r.size r.count false = none)
    (hsize : r.size = 1) (hdone : r.done = 0) (hwindow : r.window = none) (hw : spaceOf r.addr = w.val) :
    Begins (.cycleLine idx) s u 5 idx [.ven, .svc] fun t => t.ven = servesFirst u idx w r u.ven ∧
      t.svc = onlyRec (onBusFrom u.ven w (chosenFirst r)) u.svc := by
  have h5 : present u 5 = true := cycleLine_present hb
  have hserve := serveCycle_starts (s := lineBegun u 5 idx) (idx := idx) hrecs hr hl hfree hcpl hidle h5 hplace hsize hdone hwindow hw
  have hx := exec_cycleLine hb
  rw [hserve, afterBridge_started rfl rfl] at hx
  refine begins_of hx ⟨rfl, rfl⟩ (by decide) fun p hp => ?_
  exact Part.untouched_trans (Part.untouched_modSvc _ _ (by rintro rfl; simp at hp)) (Part.untouched_modVen _ _ (by rintro rfl; simp at hp))

/-- Settles O39: what the outputs carry is read off the state, and a line reserved for the session of the only request serves that. -/
theorem cycleLinesStartCycles : Obligations.CycleLinesStartCycles := by
  refine ⟨fun s hs => if_pos hs, fun s => venPins_idle, fun s c hw ha hsync hn v hv => hv ▸ onBusNow_write hw ha hsync hn,
    fun s u idx l hb => ⟨cycleLine_empty hb, ?_⟩⟩
  intro x w a hrecs hcls hsize hst hchosen hdone hwindow hl hw hfree hcpl hidle hplace ha
  have hr : WaitsForBus x := ⟨hcls, by rw [spaceOf, ← hw]; exact w.isLt, hst⟩
  obtain ⟨t, hx, ⟨hven, hsvc⟩, hrest⟩ :=
    cycleLine_starts hb hrecs hr hl hfree hcpl hidle (by rwa [hsize]) hsize hdone hwindow hw.symm
  refine ⟨t, hx, ⟨⟨byteCycle u w x, ?_⟩, ⟨onBusFrom u.ven w (chosenFirst x), ?_⟩, ?_, ?_⟩, hrest⟩
  · subst ha
    rw [hven]
    exact ⟨rfl, rfl, rfl, rfl, Nat.mod_eq_of_lt (Nat.mod_lt _ (by decide)), rfl, rfl, rfl, rfl, rfl, rfl⟩
  · rw [hsvc]
    exact ⟨rfl, rfl, rfl, rfl, rfl⟩
  · rw [hsvc]
    rfl
  · rw [hven]
    rfl

end Sys2Proof.Machine
end

section
/-! Frames received, and the records they carry (R205 to R217, R225). -/

namespace Sys2Proof.Machine

/-! ### Fields in bytes -/

theorem slice_field (p f r : List Byte) : slice (p ++ (f ++ r)) p.length f.length = f := by
  simp [slice]

/-- What a field of some bytes spells. -/
theorem num_field {b p f r : List Byte} {o n : Nat} (hb : b = p ++ (f ++ r)) (ho : p.length = o) (hn : f.length = n) :
    num b o n = ofBe f := by
  subst ho hn
  rw [num, hb, slice_field]

theorem ofBe_cons (b : Byte) (bs : List Byte) : ofBe (b :: bs) = b.toNat * 256 ^ bs.length + ofBe bs := by
  have hfold (l : List Byte) (a : Nat) : l.foldl (fun a b => a * 256 + b.toNat) a = a * 256 ^ l.length + ofBe l := by
    induction l generalizing a with
    | nil => simp [ofBe]
    | cons x t ih =>
      rw [ofBe, List.foldl_cons, List.foldl_cons, ih, ih, List.length_cons]
      ring
  rw [ofBe, List.foldl_cons, hfold]
  simp

/-- Bytes that spell a number, most significant first, spell it (R7). -/
theorem ofBe_be (n v : Nat) : ofBe (be n v) = v % 256 ^ n := by
  induction n with
  | zero => simp [be, ofBe, Nat.mod_one]
  | succ n ih =>
    rw [be, ofBe_cons, ih, be_length, BitVec.toNat_ofNat, pow_succ 256 n, Nat.mod_mul, Nat.add_comm, Nat.mul_comm]

/-- The bytes of a register spell its value. -/
theorem ofBe_toNat {w n : Nat} (x : BitVec w) (h : w = 8 * n) : ofBe (be n x.toNat) = x.toNat := by
  subst h
  rw [ofBe_be, Nat.mod_eq_of_lt]
  have := x.isLt
  rwa [pow_mul] at this

/-! ### Frames that are not taken -/

/-- While the link is down every frame is lost (R205). -/
theorem frameReceived_lost {s : State} (h : s.svc.link = false) (good : Bool) (b : List Byte) :
    Does (.frameReceived good b) s [] fun _ => True :=
  does_nothing (congrArg (done s) (if_neg (by simp [h])))

/-- A bad FCS, or a length that Ethernet does not allow, drops a frame (R205, R208). -/
theorem frameReceived_bad {s : State} (hlink : s.svc.link = true) (h44 : domOn s 44 = true) {good : Bool} {b : List Byte}
    (hbad : good = false ∨ b.length < 60 ∨ 1514 < b.length) :
    Does (.frameReceived good b) s [.svc] fun t => t.svc = { s.svc with dropMac := satInc s.svc.dropMac } :=
  does_modSvc (fun x => { x with dropMac := satInc x.dropMac })
    (congrArg (done s) ((if_pos (by simp [hlink, h44])).trans (if_pos hbad)))

/-! ### A frame's header -/

/-- The 16 bytes of a Dovetail header with one record and flags 0 (R207). -/
def dovetailHead (k : SessionId) (epoch : BitVec 6) (seq : BitVec 16) (more : List Byte) : List Byte :=
  [1, BitVec.ofNat 8 (64 * k.val + epoch.toNat), 1, 0] ++ (be 2 seq.toNat ++ more)

/-- A Dovetail frame from its destination address on (R206, R207). -/
def dovetailBytes (dst src : Mac) (etype : BitVec 16) (h b : List Byte) : List Byte :=
  be 6 dst.toNat ++ (be 6 src.toNat ++ (be 2 etype.toNat ++ (h ++ b)))

section
variable {dst src : Mac} {etype : BitVec 16} {h b : List Byte}

theorem dovetailBytes_dst : num (dovetailBytes dst src etype h b) 0 6 = dst.toNat :=
  (num_field (p := []) (f := be 6 dst.toNat) rfl rfl (be_length _ _)).trans (ofBe_toNat dst rfl)

theorem dovetailBytes_src : num (dovetailBytes dst src etype h b) 6 6 = src.toNat :=
  (num_field (p := be 6 dst.toNat) (f := be 6 src.toNat) rfl (be_length _ _) (be_length _ _)).trans (ofBe_toNat src rfl)

theorem dovetailBytes_type : num (dovetailBytes dst src etype h b) 12 2 = etype.toNat :=
  (num_field (p := be 6 dst.toNat ++ be 6 src.toNat) (f := be 2 etype.toNat) (r := h ++ b) (by simp only [dovetailBytes, List.append_assoc])
    (by simp [be_length]) (be_length _ _)).trans (ofBe_toNat etype rfl)

theorem dovetailBytes_drop : (dovetailBytes dst src etype h b).drop 14 = h ++ b := by
  have : dovetailBytes dst src etype h b = (be 6 dst.toNat ++ be 6 src.toNat ++ be 2 etype.toNat) ++ (h ++ b) := by
    simp only [dovetailBytes, List.append_assoc]
  rw [this]
  exact List.drop_left' (by simp [be_length])
end

section
variable {k : SessionId} {epoch : BitVec 6} {seq : BitVec 16} {more b : List Byte}

theorem dovetailHead_id : num (dovetailHead k epoch seq more ++ b) 1 1 = 64 * k.val + epoch.toNat := by
  have hk := k.isLt
  have he := epoch.isLt
  refine (num_field (p := [1]) (f := [BitVec.ofNat 8 (64 * k.val + epoch.toNat)]) rfl rfl rfl).trans ?_
  simp [ofBe]
  omega

theorem dovetailHead_seq : num (dovetailHead k epoch seq more ++ b) 4 2 = seq.toNat :=
  (num_field (p := [1, BitVec.ofNat 8 (64 * k.val + epoch.toNat), 1, 0]) (f := be 2 seq.toNat) (r := more ++ b)
    (by simp only [dovetailHead, List.append_assoc]) rfl rfl).trans (ofBe_toNat seq rfl)

/-- VERSION 1, one record, flags 0. -/
theorem dovetailHead_fixed : num (dovetailHead k epoch seq more ++ b) 0 1 = 1 ∧ num (dovetailHead k epoch seq more ++ b) 2 1 = 1 ∧
    num (dovetailHead k epoch seq more ++ b) 3 1 = 0 := ⟨rfl, rfl, rfl⟩
end

/-- A frame of the device's EtherType and address passes checks 1 and 2 of Table 9.3. -/
theorem portFrame_dovetail {s : State} {src : Mac} {h b : List Byte} (hetype : etypeOk s.svc.etype.toNat = true)
    (hmin : 46 ≤ (h ++ b).length) (hmax : (h ++ b).length ≤ 1500) :
    portFrame true (dovetailBytes s.store.eui48 src s.svc.etype h b) s = dovetailFrame s src.toNat (h ++ b) := by
  have hlen : (dovetailBytes s.store.eui48 src s.svc.etype h b).length = 14 + (h ++ b).length := by
    simp [dovetailBytes, be_length]
    omega
  have hother (v : Nat) (hv : v ∈ [0x0800, 0x0806, 0x8100, 0x86DD, 0x8808, 0x88F7]) : ¬ s.svc.etype.toNat = v := by
    rintro rfl
    simp [etypeOk, hv] at hetype
  have h1 := hother 0x8100 (by simp)
  have h2 := hother 0x8808 (by simp)
  have h3 := hother 0x88F7 (by simp)
  have h4 := hother 0x0800 (by simp)
  have hptp : (ptpLayer2 s (dovetailBytes s.store.eui48 src s.svc.etype h b) ||
      ptpUdp s (dovetailBytes s.store.eui48 src s.svc.etype h b)) = false := by
    simp [ptpLayer2, ptpUdp, dovetailBytes_type, h3, h4]
  have hgood : ¬ ((true : Bool) = false ∨ (dovetailBytes s.store.eui48 src s.svc.etype h b).length < 60 ∨
      1514 < (dovetailBytes s.store.eui48 src s.svc.etype h b).length) := by
    rintro (h | h)
    · cases h
    · omega
  unfold portFrame
  rw [if_neg hgood]
  simp only [dovetailBytes_type, dovetailBytes_dst, dovetailBytes_src, dovetailBytes_drop, if_neg h1, if_neg h2, hptp, Bool.false_eq_true,
    if_false, ne_eq, not_true_eq_false, or_self]

/-- A frame from the address its session is bound to passes checks 3 and 4. -/
theorem dovetailFrame_bound {s : State} {k : SessionId} {src : Mac} {seq : BitVec 16} {more b : List Byte} (hmore : more.length = 10)
    (hsrc : s.svc.sessions[k].addr = some src) :
    dovetailFrame s src.toNat (dovetailHead k s.svc.sessions[k].epoch seq more ++ b) =
      sessionFrame s k (dovetailHead k s.svc.sessions[k].epoch seq more ++ b) b := by
  obtain ⟨hver, hcount, hflags⟩ := dovetailHead_fixed (k := k) (epoch := s.svc.sessions[k].epoch) (seq := seq) (more := more) (b := b)
  have hlt := s.svc.sessions[k].epoch.isLt
  have hk : (Fin.ofNat 4 ((64 * k.val + s.svc.sessions[k].epoch.toNat) / 64) : SessionId) = k := by
    rw [Nat.mul_add_div (by decide), Nat.div_eq_of_lt hlt]
    exact Fin.ofNat_val_eq_self _
  have hlen : (dovetailHead k s.svc.sessions[k].epoch seq more).length = 16 := by
    simp [dovetailHead, be_length, hmore]
  have hgood : ¬ (num (dovetailHead k s.svc.sessions[k].epoch seq more ++ b) 0 1 ≠ 1 ∨
      num (dovetailHead k s.svc.sessions[k].epoch seq more ++ b) 3 1 % 2 = 1 ∨
      (dovetailHead k s.svc.sessions[k].epoch seq more ++ b).length < 16) := by
    rw [hver, hflags, List.length_append, hlen]
    omega
  unfold dovetailFrame
  simp only [if_neg hgood, dovetailHead_id, hk, hsrc, BitVec.ofNat_toNat, BitVec.setWidth_eq, ne_eq, not_true_eq_false, if_false]
  rw [List.drop_left' hlen]

/-! ### Sessions -/

theorem vmod_vmod {α : Type} {n : Nat} (v : Vector α n) (i : Fin n) (f g : α → α) :
    vmod (vmod v i f) i g = vmod v i fun x => g (f x) := by
  simp [vmod]

theorem modSession_modSession (s : State) (k : SessionId) (f g : Session → Session) :
    (s.modSession k f).modSession k g = s.modSession k fun x => g (f x) :=
  congrArg (fun v => s.modSvc fun b => { b with sessions := v }) (vmod_vmod s.svc.sessions k f g)

theorem session_modSession (s : State) (k : SessionId) (f : Session → Session) :
    (s.modSession k f).svc.sessions[k] = f s.svc.sessions[k] := vmod_same s.svc.sessions k f

theorem session_modSession_other (s : State) {j k : SessionId} (h : j ≠ k) (f : Session → Session) :
    (s.modSession k f).svc.sessions[j] = s.svc.sessions[j] := vmod_get_other s.svc.sessions k j f h.symm

/-- A session with one more in a counter of Table 9.5. -/
def sessionTally (i : Fin 10) (x : Session) : Session := { x with counts := vmod x.counts i satInc }

/-- A session with one more credit of a class taken (R225). -/
def creditTaken (c : Fin 4) (x : Session) : Session := { x with used := vmod x.used c (· + 1), news := true }

/-- The next SEQ is one ahead (R212). -/
theorem judgeSeq_next {x : Session} (h : x.seqKnown = true) : judgeSeq x (x.ackSeq + 1) = .ahead 1 := by
  have hd : (x.ackSeq + 1 - x.ackSeq).toNat = 1 := by
    rw [BitVec.add_comm, BitVec.add_sub_cancel]
    rfl
  simp only [judgeSeq, h, hd]
  rfl

/-- A frame of the session's epoch with the next SEQ and one record passes checks 5 to 8 (R211, R212). -/
theorem sessionFrame_next {s : State} {k : SessionId} {x : Session} {seq : BitVec 16} {more b h : List Byte} (hx : s.svc.sessions[k] = x)
    (hknown : x.known = true) (hseqKnown : x.seqKnown = true) (hseq : seq = x.ackSeq + 1) (hh : h = dovetailHead k x.epoch seq more ++ b) :
    sessionFrame s k h b = records k seq 1 0 b (s.modSession k fun x => sessionTally 0 (takeSeq seq (.ahead 1) x)) := by
  obtain ⟨-, hcount, -⟩ := dovetailHead_fixed (k := k) (epoch := x.epoch) (seq := seq) (more := more) (b := b)
  have hj : judgeSeq x seq = .ahead 1 := hseq ▸ judgeSeq_next hseqKnown
  have hepoch : BitVec.ofNat 6 (64 * k.val + x.epoch.toNat) = x.epoch :=
    BitVec.eq_of_toNat_eq (by have := x.epoch.isLt; simp; omega)
  subst hh
  unfold sessionFrame
  simp only [dovetailHead_id, dovetailHead_seq, hcount, hx, hepoch, BitVec.sub_self, BitVec.ofNat_toNat, BitVec.setWidth_eq, hknown,
    BitVec.toNat_zero, Bool.true_eq_false, if_false, if_true, hj, (by decide : ¬ (True ∧ 32 ≤ 0)), (by decide : ¬ 1 < 1),
    (by decide : ¬ (1 = 0 ∨ 16 < 1))]
  exact congrArg (records k _ 1 0 b) (modSession_modSession s k _ _)

/-! ### NP records -/

/-- An NP record (Table 9.7). -/
def npRecord (size : Nat) (tag : BitVec 16) (pat : Nat) (addr : R40) (n : Nat) : List Byte :=
  [2, BitVec.ofNat 8 size, 0, 16] ++ (be 2 tag.toNat ++ ([BitVec.ofNat 8 pat, 0] ++ (imgBytes addr ++ ([0] ++ be 2 n))))

section
variable {k : SessionId} {size pat n : Nat} {tag : BitVec 16} {addr : R40}

theorem npRecord_length : (npRecord size tag pat addr n).length = 16 := by
  simp [npRecord, imgBytes, be_length]

theorem npRecord_wellFormed (rest : List Byte) : malformed (npRecord size tag pat addr n ++ rest) = false := by
  have hlen : (npRecord size tag pat addr n ++ rest).length = 16 + rest.length := by
    rw [List.length_append, npRecord_length]
  have hn : num (npRecord size tag pat addr n ++ rest) 2 2 = 16 := rfl
  have hr : recordLen (npRecord size tag pat addr n ++ rest) = some 16 := rfl
  simp [malformed, hlen, hn, hr]
  omega

/-- What the bridge reads in an NP record. -/
theorem parseRec_np (hsize : size < 256) (hpat : pat < 256) (hn : n < 65536) :
    let r := parseRec k (npRecord size tag pat addr n)
    r.cls = .np ∧ r.tag = tag ∧ r.patience = pat ∧ r.size = size ∧ r.addr = addr ∧ r.count = n := by
  have htag : num (npRecord size tag pat addr n) 4 2 = tag.toNat :=
    (num_field (p := [2, BitVec.ofNat 8 size, 0, 16]) rfl rfl (be_length _ _)).trans (ofBe_toNat tag rfl)
  have haddr : num (npRecord size tag pat addr n) 8 5 = addr.toNat :=
    (num_field (p := [2, BitVec.ofNat 8 size, 0, 16] ++ be 2 tag.toNat ++ [BitVec.ofNat 8 pat, 0]) (f := imgBytes addr)
      (r := [0] ++ be 2 n) (by simp only [npRecord, List.append_assoc]) rfl (be_length _ _)).trans (ofBe_toNat addr rfl)
  have hcount : num (npRecord size tag pat addr n) 14 2 = n :=
    (num_field (p := [2, BitVec.ofNat 8 size, 0, 16] ++ be 2 tag.toNat ++ [BitVec.ofNat 8 pat, 0] ++ imgBytes addr ++ [0]) (f := be 2 n)
      (r := []) (by simp only [npRecord, List.append_assoc, List.append_nil]) rfl (be_length _ _)).trans
      ((ofBe_be 2 n).trans (Nat.mod_eq_of_lt hn))
  have hbyte {v : Nat} (h : v < 256) : ofBe [BitVec.ofNat 8 v] = v := by
    simp [ofBe, Nat.mod_eq_of_lt h]
  exact ⟨rfl, (congrArg (BitVec.ofNat 16) htag).trans (by simp), hbyte hpat, hbyte hsize,
    (congrArg (BitVec.ofNat 40) haddr).trans (by simp), hcount⟩
end

/-- An NP read of a place that the session may read passes the checks of Table 9.8. -/
theorem checkRecord_np {s : State} {r : Rec} (hcls : r.cls = .np) (hsize : r.size = 1 ∨ r.size = 2 ∨ r.size = 4) (hpos : 0 < r.count)
    (hmax : r.count ≤ 256) (hmod : r.count % r.size = 0) :
    checkRecord s r = placeCheck s r.session r.addr r.size r.count false := by
  have hw : isWrite r = false := by simp [isWrite, hcls]
  have hu : unaddressed r = false := by simp [unaddressed, hcls]
  have h1 : ¬ (r.size ≠ 1 ∧ r.size ≠ 2 ∧ r.size ≠ 4) := by omega
  have h2 : ¬ (256 < r.count ∨ r.count % r.size ≠ 0 ∨ (r.count = 0 ∧ RecClass.np ≠ .pw)) := by omega
  simp only [checkRecord, hw, hu, if_neg h1, if_neg h2, hcls]
  rfl

/-- An NP read that passes its checks is held, with a credit of its class (R217, R225). -/
theorem takeRecord_np {s : State} {k : SessionId} {r : Rec} (hcls : r.cls = .np) (hok : checkRecord s r = none)
    (hcredit : s.svc.sessions[k].used[1] < s.svc.sessions[k].credits[1]) :
    takeRecord s k r = (s.modSession k fun x => creditTaken 1 (sessionTally 2 x)).modSvc fun b =>
      { b with recs := b.recs ++ [{ r with num := b.recNum }], recNum := b.recNum + 1 } := by
  have hav : available s.svc.sessions[k] 1 ≠ 0 := Nat.sub_ne_zero_of_lt hcredit
  have hm := modSession_modSession s k (sessionTally 2) (creditTaken 1)
  unfold takeRecord
  simp only [hok, hcls, classIx, if_neg hav]
  rw [if_neg (by simp), ← hm]
  rfl

/-- A read of a Veneer window waits for a line (R220). -/
theorem afterBridge_waits {s : State} {r : Rec} (hrecs : s.svc.recs = [r]) (hcls : r.cls = .np) (hsp : spaceOf r.addr < 16) :
    afterBridge s = s := by
  simp [afterBridge, serveLocals, localServe, hrecs, hcls, hsp]

/-- The bridge with one request of a session taken (R225). -/
def requestTaken (k : SessionId) (seq : BitVec 16) (r : Rec) (b : Bridge) : Bridge :=
  { b with
    sessions := vmod b.sessions k fun x => creditTaken 1 (sessionTally 2 (sessionTally 0 (takeSeq seq (.ahead 1) x)))
    recs := b.recs ++ [{ r with num := b.recNum }], recNum := b.recNum + 1 }

/-- The bytes of an NP record alone are taken as it (R215, R217). -/
theorem records_np {s : State} {k : SessionId} {seq : BitVec 16} {i size pat n : Nat} {tag : BitVec 16} {addr : R40} (rest : List Byte) :
    records k seq 1 i (npRecord size tag pat addr n ++ rest) s =
      afterBridge (takeRecord s k (parseRec k (npRecord size tag pat addr n))) := by
  have hlen : num (npRecord size tag pat addr n ++ rest) 2 2 = 16 := rfl
  have hclass : num (npRecord size tag pat addr n) 0 1 = 2 := rfl
  rw [records, npRecord_wellFormed, hlen, List.take_left' npRecord_length, oneRecord]
  simp only [hclass, Bool.false_eq_true, if_false, records]

section
variable {s : State} {k : SessionId} {a : Mac} {seq tag : BitVec 16} {more : List Byte} {addr : R40} {size pat n : Nat}

/-- A good frame of a bound session with one NP read of a window: the request is held with its credit. -/
theorem portFrame_npRead (hetype : etypeOk s.svc.etype.toNat = true) (ha : s.svc.sessions[k].addr = some a)
    (hknown : s.svc.sessions[k].known = true) (hseqKnown : s.svc.sessions[k].seqKnown = true) (hseq : seq = s.svc.sessions[k].ackSeq + 1)
    (hmore : more.length = 10) (hsize : size = 1 ∨ size = 2 ∨ size = 4) (hpat : pat < 256) (hpos : 0 < n) (hmax : n ≤ 256)
    (hmod : n % size = 0) (hspace : addr.toNat / 2 ^ 32 < 16) (hplace : placeCheck s k addr size n false = none)
    (hcredit : s.svc.sessions[k].used[1] < s.svc.sessions[k].credits[1]) (hrecs : s.svc.recs = []) :
    portFrame true (dovetailBytes s.store.eui48 a s.svc.etype (dovetailHead k s.svc.sessions[k].epoch seq more)
      (npRecord size tag pat addr n ++ List.replicate 14 0)) s =
      s.modSvc (requestTaken k seq (parseRec k (npRecord size tag pat addr n))) := by
  have hlen : (dovetailHead k s.svc.sessions[k].epoch seq more ++ (npRecord size tag pat addr n ++ List.replicate 14 0)).length = 46 := by
    rw [List.length_append, List.length_append, npRecord_length]
    simp [dovetailHead, be_length, hmore]
  obtain ⟨hcls, -, -, hrsize, hraddr, hrcount⟩ := parseRec_np (k := k) (tag := tag) (addr := addr) (size := size) (by omega) hpat
    (by omega : n < 65536)
  have hlook := session_modSession s k fun x => sessionTally 0 (takeSeq seq (.ahead 1) x)
  have hcheck : checkRecord (s.modSession k fun x => sessionTally 0 (takeSeq seq (.ahead 1) x))
      (parseRec k (npRecord size tag pat addr n)) = none := by
    rw [checkRecord_np hcls (by rwa [hrsize]) (by rwa [hrcount]) (by rwa [hrcount]) (by rwa [hrcount, hrsize]), hraddr, hrsize, hrcount]
    exact hplace
  rw [portFrame_dovetail hetype hlen.ge (hlen.le.trans (by decide)), dovetailFrame_bound hmore ha,
    sessionFrame_next rfl hknown hseqKnown hseq rfl, records_np, takeRecord_np hcls hcheck (by rw [hlook]; exact hcredit),
    modSession_modSession]
  refine afterBridge_waits (r := { parseRec k (npRecord size tag pat addr n) with num := s.svc.recNum }) (congrArg (· ++ _) hrecs) hcls ?_
  rwa [spaceOf, hraddr]

/-- What a request taken changes in the bridge (R212, R225). -/
theorem requestTaken_only (b : Bridge) (r : Rec) :
    ((requestTaken k seq r b).sessions[k].ackSeq = seq ∧ (requestTaken k seq r b).sessions[k].used[1] = b.sessions[k].used[1] + 1 ∧
      (requestTaken k seq r b).sessions[k].news = true) ∧
    { requestTaken k seq r b with recs := b.recs, sessions := b.sessions, recNum := b.recNum } = b ∧
    ∀ j : SessionId, j ≠ k → (requestTaken k seq r b).sessions[j] = b.sessions[j] := by
  refine ⟨?_, rfl, fun j hj => vmod_get_other b.sessions k j _ hj.symm⟩
  have h : (requestTaken k seq r b).sessions[k] = creditTaken 1 (sessionTally 2 (sessionTally 0 (takeSeq seq (.ahead 1) b.sessions[k]))) :=
    vmod_same b.sessions k _
  rw [h]
  exact ⟨rfl, vmod_same b.sessions[k].used 1 _, rfl⟩
end

/-- Settles O27: a frame's bytes are read field by field, and each check of Table 9.3 and Table 9.8 lets the NP read pass. -/
theorem framesAreTaken : Obligations.FramesAreTaken := by
  unfold Obligations.FramesAreTaken
  refine fun s => ⟨fun good b hlink => frameReceived_lost hlink good b, fun good b hlink h44 hbad => frameReceived_bad hlink h44 hbad, ?_⟩
  intro k a seq tag more addr size pat n b hlink h44 hetype ha hknown hseqKnown hseq hmore hsize hpat hpos hmax hmod hspace hplace hcredit
    hrecs hb
  have hbytes : b = dovetailBytes s.store.eui48 a s.svc.etype (dovetailHead k s.svc.sessions[k].epoch seq more)
      (npRecord size tag pat addr n ++ List.replicate 14 0) := by
    simp only [hb, dovetailBytes, dovetailHead, npRecord, List.append_assoc]
  have hx : exec (.frameReceived true b) s = done s (s.modSvc (requestTaken k seq (parseRec k (npRecord size tag pat addr n)))) := by
    refine congrArg (done s) ((if_pos (by simp [hlink, h44])).trans ?_)
    rw [hbytes]
    exact portFrame_npRead hetype ha hknown hseqKnown hseq hmore hsize hpat hpos hmax hmod hspace hplace hcredit hrecs
  obtain ⟨hcls, htag, hrpat, hrsize, hraddr, hrcount⟩ := parseRec_np (k := k) (tag := tag) (addr := addr) (size := size) (by omega) hpat
    (by omega : n < 65536)
  obtain ⟨⟨hack, hused, hnews⟩, hrest, hothers⟩ := requestTaken_only (k := k) (seq := seq) s.svc (parseRec k (npRecord size tag pat addr n))
  obtain ⟨t, ht, hsvc, hkept⟩ := does_modSvc _ hx
  refine ⟨t, ht, ?_, hkept⟩
  simp only [hsvc]
  exact ⟨⟨_, congrArg (· ++ _) hrecs, hcls, rfl, htag, hrpat, hrsize, hraddr, hrcount, rfl, rfl⟩, hack, hused, hnews, hrest, hothers⟩

end Sys2Proof.Machine
end

section
/-! The session and service commands (R205, R210, R370 to R372). -/

namespace Sys2Proof.Machine

/-! ### What such a command leaves -/

/-- A command's work before its reply: parts it does not name stand, and so do the reply's slot, spine time, the device's state and
switches, and all that the conditions of Table 16.2 read but the port's mode. -/
structure CommandWork (changed : List Part) (s x : State) : Prop where
  rest : ∀ q : Part, q ∉ changed → q.untouched s x
  rplHead : x.win.rplHead = s.win.rplHead
  wf : Mem.wf s.mbx.mem = true → Mem.wf x.mbx.mem = true
  spine : x.time.spine = s.time.spine
  source : x.time.cfg = s.time.cfg
  power : { x.pow with resetDue := s.pow.resetDue } = s.pow
  veneer : (x.ven.cfg, x.ven.mst, x.ven.irq) = (s.ven.cfg, s.ven.mst, s.ven.irq)

/-- The bound addresses. -/
def addrs (s : State) (k : SessionId) : Option Mac := s.svc.sessions[k].addr

/-- Such work that binds and unbinds nothing and leaves the port's mode. -/
structure BridgeWork (changed : List Part) (s x : State) : Prop extends CommandWork changed s x where
  addrs : addrs x = addrs s
  mode : x.svc.mode = s.svc.mode

/-- The parts that a lock broken or a session unbound may change. -/
def sessionParts : List Part := [.win, .mbx, .svc, .ven, .store]

/-- The parts that SVC_SET may change before domains follow. -/
def portParts : List Part := [.win, .mbx, .svc, .store, .pow, .time]

section
variable {changed : List Part} {s t u : State}

theorem CommandWork.trans (h : CommandWork changed s t) (k : CommandWork changed t u) : CommandWork changed s u where
  rest q hq := Part.untouched_trans (h.rest q hq) (k.rest q hq)
  rplHead := k.rplHead.trans h.rplHead
  wf hw := k.wf (h.wf hw)
  spine := k.spine.trans h.spine
  source := k.source.trans h.source
  power := (congrArg (fun p : Power => { p with resetDue := s.pow.resetDue }) k.power).trans h.power
  veneer := k.veneer.trans h.veneer

theorem CommandWork.modSvc (hc : .svc ∈ changed) (s : State) (f : Bridge → Bridge) : CommandWork changed s (s.modSvc f) :=
  ⟨fun _ hq => Part.untouched_modSvc s f fun e => hq (e ▸ hc), rfl, id, rfl, rfl, rfl, rfl⟩

theorem BridgeWork.refl (changed : List Part) (s : State) : BridgeWork changed s s :=
  { rest := fun q _ => q.untouched_refl s, rplHead := rfl, wf := id, spine := rfl, source := rfl, power := rfl, veneer := rfl
    addrs := rfl, mode := rfl }

theorem BridgeWork.trans (h : BridgeWork changed s t) (k : BridgeWork changed t u) : BridgeWork changed s u :=
  { h.toCommandWork.trans k.toCommandWork with addrs := k.addrs.trans h.addrs, mode := k.mode.trans h.mode }

theorem BridgeWork.modSvc (hc : .svc ∈ changed) (s : State) (f : Bridge → Bridge) (hf : (f s.svc).sessions = s.svc.sessions)
    (hm : (f s.svc).mode = s.svc.mode) : BridgeWork changed s (s.modSvc f) :=
  { CommandWork.modSvc hc s f with addrs := congrArg (fun (v : Vector Session 4) (k : SessionId) => v[k].addr) hf, mode := hm }

theorem BridgeWork.modSession (hc : .svc ∈ changed) (s : State) (k : SessionId) (f : Session → Session)
    (hf : ∀ x, (f x).addr = x.addr) : BridgeWork changed s (s.modSession k f) := by
  refine { CommandWork.modSvc hc s _ with addrs := funext fun j => ?_, mode := rfl }
  by_cases hj : j = k
  · rw [hj]
    exact (congrArg Session.addr (session_modSession s k f)).trans (hf _)
  · exact congrArg Session.addr (session_modSession_other s hj f)

theorem BridgeWork.modVen (hc : .ven ∈ changed) (s : State) (f : Veneer → Veneer)
    (hf : ((f s.ven).cfg, (f s.ven).mst, (f s.ven).irq) = (s.ven.cfg, s.ven.mst, s.ven.irq)) : BridgeWork changed s (s.modVen f) :=
  { rest := fun _ hq => Part.untouched_modVen s f fun e => hq (e ▸ hc), rplHead := rfl, wf := id, spine := rfl, source := rfl, power := rfl
    veneer := hf, addrs := rfl, mode := rfl }

theorem BridgeWork.modMbx (hc : .mbx ∈ changed) (s : State) (f : Mailbox → Mailbox) (hf : (f s.mbx).mem = s.mbx.mem) :
    BridgeWork changed s (s.modMbx f) :=
  { rest := fun _ hq => Part.untouched_modMbx s f fun e => hq (e ▸ hc), rplHead := rfl, wf := fun h => (congrArg Mem.wf hf).trans h
    spine := rfl, source := rfl, power := rfl, veneer := rfl, addrs := rfl, mode := rfl }

theorem BridgeWork.modWin (hc : .win ∈ changed) (s : State) (f : Window → Window) (hf : (f s.win).rplHead = s.win.rplHead) :
    BridgeWork changed s (s.modWin f) :=
  { rest := fun _ hq => Part.untouched_modWin s f fun e => hq (e ▸ hc), rplHead := hf, wf := id, spine := rfl, source := rfl, power := rfl
    veneer := rfl, addrs := rfl, mode := rfl }

theorem BridgeWork.modTime (hc : .time ∈ changed) (s : State) (f : TimeIsl → TimeIsl) (hspine : (f s.time).spine = s.time.spine)
    (hcfg : (f s.time).cfg = s.time.cfg) : BridgeWork changed s (s.modTime f) :=
  { rest := fun _ hq => Part.untouched_modTime s f fun e => hq (e ▸ hc), rplHead := rfl, wf := id, spine := hspine, source := hcfg
    power := rfl, veneer := rfl, addrs := rfl, mode := rfl }

theorem BridgeWork.modPow (hc : .pow ∈ changed) (s : State) (f : Power → Power)
    (hf : { f s.pow with resetDue := s.pow.resetDue } = s.pow) : BridgeWork changed s (s.modPow f) :=
  { rest := fun _ hq => Part.untouched_modPow s f fun e => hq (e ▸ hc), rplHead := rfl, wf := id, spine := rfl, source := rfl, power := hf
    veneer := rfl, addrs := rfl, mode := rfl }

theorem BridgeWork.noted (hc : [Part.win, .mbx, .svc, .store] ⊆ changed) (h : Noted s t) : BridgeWork changed s t := by
  have hrest {q : Part} := h.untouched (p := q)
  have htime : t.time = s.time := hrest (q := .time) (by decide)
  have hpow : t.pow = s.pow := hrest (q := .pow) (by decide)
  have hven : t.ven = s.ven := hrest (q := .ven) (by decide)
  refine { rest := fun q hq => hrest fun hm => hq (hc hm), rplHead := h.rplHead, wf := h.wf, spine := ?_, source := ?_, power := ?_
           veneer := ?_, addrs := ?_, mode := ?_ }
  · rw [htime]
  · rw [htime]
  · rw [hpow]
  · rw [hven]
  · exact congrArg (fun (v : Vector Session 4) (k : SessionId) => v[k].addr) h.sessions
  · rw [h.1]
    rfl

/-- A chain of such work. -/
theorem BridgeWork.foldl {α : Type} {f : State → α → State} (hf : ∀ s a, BridgeWork changed s (f s a)) (l : List α) (s : State) :
    BridgeWork changed s (l.foldl f s) :=
  foldl_holds (BridgeWork changed s) f l (fun t a h => h.trans (hf t a)) s (BridgeWork.refl changed s)
end

/-! ### The conditions of Table 16.2 -/

/-- Of the conditions of Table 16.2 only those of D42 to D44 read the bridge. -/
theorem domWanted_modSvc (s : State) (f : Bridge → Bridge) {d : Nat} (hd : d ∉ [42, 43, 44]) :
    domWanted (s.modSvc f) d = domWanted s d := by
  unfold domWanted
  dsimp only
  split
  · rfl
  split
  · rfl
  split
  · rfl
  split
  case h_6 | h_7 | h_8 => exact absurd (by decide) hd
  all_goals rfl

section
variable {changed : List Part} {s x : State} (h : CommandWork changed s x)
include h

theorem CommandWork.dev : x.pow.dev = s.pow.dev := (congrArg Power.dev h.power :)

theorem CommandWork.domains : x.pow.domains = s.pow.domains := (congrArg Power.domains h.power :)

theorem CommandWork.absent : x.pow.absent = s.pow.absent := (congrArg Power.absent h.power :)

theorem CommandWork.domOn (d : Nat) : domOn x d = domOn s d := by
  simp only [Machine.domOn, h.domains]

theorem CommandWork.domWanted (hch : changed ⊆ .ven :: portParts) {d : Nat} (hd : x.svc.mode = s.svc.mode ∨ d ∉ [42, 43, 44]) :
    domWanted x d = domWanted s d := by
  have hother (q : Part) (hq : q ∉ Part.ven :: portParts) : q.untouched s x := h.rest q fun hm => hq (hch hm)
  have hpaths : x.paths = s.paths := hother .paths (by decide)
  have hseq : x.seq = s.seq := hother .seq (by decide)
  have hscan : x.scan = s.scan := hother .scan (by decide)
  have htest : x.test = s.test := hother .test (by decide)
  have hsame : SameConditions s (x.modSvc fun b => { b with mode := s.svc.mode }) :=
    { dev := h.dev, active := congrArg Seqr.active hseq, mode := rfl, ven := h.veneer, scan := fun l => by rw [modSvc_scan, hscan]
      loops := congrArg anyLoop htest, sync := congrArg Test.loopSync htest, source := h.source }
  have hx : Machine.domWanted x d = Machine.domWanted (x.modSvc fun b => { b with mode := s.svc.mode }) d := by
    rcases hd with hm | hm
    · rw [← hm]
      rfl
    · exact (domWanted_modSvc x _ hm).symm
  rw [hx]
  exact domWanted_same hsame (fun q => by rw [modSvc_paths, hpaths]) fun q _ => by rw [modSvc_paths, hpaths]

theorem CommandWork.settled (hch : changed ⊆ .ven :: portParts) (hm : x.svc.mode = s.svc.mode) (hs : DomainsSettled s) :
    DomainsSettled x := fun i => by
  rw [h.domWanted hch (Or.inl hm), h.domOn, hs i]
end

/-- Switching the port's domains loses nothing. -/
theorem switchDomain_port (want : Bool) (s : State) {d : Nat} (hd : d ∈ [42, 43, 44]) :
    switchDomain want s d = s.modPow fun p => { p with domains := vmodN p.domains (d - 1) fun _ => want } := by
  have hlost (t : State) : domainLost t d = t := by
    simp only [List.mem_cons, List.not_mem_nil, or_false] at hd
    rcases hd with rfl | rfl | rfl <;> rfl
  rw [switchDomain, hlost]
  exact ite_self _

/-- Where only the port's conditions have changed, D42 to D44 may be switched, which loses nothing. -/
theorem settleDomains_port {s : State} (h : ∀ i : Fin 50, i.val + 1 ∉ [42, 43, 44] → domWanted s (i.val + 1) = domOn s (i.val + 1)) :
    ∃ ds, settleDomains s = s.modPow fun p => { p with domains := ds } := by
  have key : (∃ ds, settleDomains s = s.modPow fun p => { p with domains := ds }) ∧
      ∀ i : Fin 50, i.val + 1 ∉ [42, 43, 44] → domOn (settleDomains s) (i.val + 1) = domOn s (i.val + 1) := by
    refine List.foldlRecOn (motive := fun t => (∃ ds, t = s.modPow fun p => { p with domains := ds }) ∧
      ∀ i : Fin 50, i.val + 1 ∉ [42, 43, 44] → domOn t (i.val + 1) = domOn s (i.val + 1)) _ settleDomain
      ⟨⟨s.pow.domains, rfl⟩, fun _ _ => rfl⟩ ?_
    rintro t ⟨⟨ds, rfl⟩, hon⟩ d hd
    obtain ⟨h1, h50⟩ := mem_domainNumbers hd
    obtain ⟨i, rfl⟩ : ∃ i : Fin 50, d = i.val + 1 := ⟨⟨d - 1, by omega⟩, by simp; omega⟩
    have hwant : domWanted (s.modPow fun p => { p with domains := ds }) (i.val + 1) = domWanted s (i.val + 1) :=
      domWanted_congr rfl rfl rfl rfl rfl rfl rfl rfl _
    by_cases hp : i.val + 1 ∈ [42, 43, 44]
    · rw [settleDomain_eq]
      split
      · exact ⟨⟨ds, rfl⟩, hon⟩
      · refine ⟨?_, fun j hj => ?_⟩
        · rw [switchDomain_port _ _ hp]
          exact ⟨_, rfl⟩
        · rw [domOn_switchDomain _ _ (by omega) (by omega) (by omega), if_neg, hon j hj]
          rintro e
          exact hj (e ▸ hp)
    · rw [settleDomain_of_eq (hwant.trans ((h i hp).trans (hon i hp).symm))]
      exact ⟨⟨ds, rfl⟩, hon⟩
  exact key.1

/-! ### The reply -/

section
variable {changed : List Part} {s x : State} {r : Req} (hr : Ready s r) (h : CommandWork changed (begun s r) x)
include hr h

theorem CommandWork.present (hi : r.issuer ≠ .twoWire) : present x 4 = true := by
  have := begun_present hr hi
  simp only [Machine.present, h.domOn, h.absent] at this ⊢
  exact this

/-- The reply of a command goes where it came from: not to a session that the command unbinds (R210). -/
theorem CommandWork.replied (op : Nat)
    (ha : ∀ k, r.issuer = .session k → (addrs s k).isSome = true → (addrs x k).isSome = true) :
    Replied s (settle s (finish r.issuer (BitVec.ofNat 16 op) r r.tag 0 (okay x))) op r 0 [] := by
  have hhead : x.win.rplHead = s.win.rplHead := h.rplHead.trans (begun_rplHead s r)
  have hspine : x.time.spine = s.time.spine := h.spine.trans (by rw [begun_time])
  have hdev : x.pow.dev = .run := h.dev.trans (by rw [begun_pow, hr.run])
  have hnow : x.now = s.now := by simp only [State.now, hspine]
  have hslot : replySlot x = replySlot s := by rw [replySlot, replySlot, hhead]
  have hrep : Replied x (settle s (finish r.issuer (BitVec.ofNat 16 op) r r.tag 0 (okay x))) op r 0 [] :=
    finish_replied s (h.wf (by rw [begun_mbx, hr.wf])) rfl rfl (Or.inr hdev) (h.present hr) fun _ _ => rfl
  unfold Replied at hrep ⊢
  rw [hnow] at hrep
  cases hi : r.issuer with
  | twoWire => simpa only [hi, hslot, hhead] using hrep
  | session k =>
    simp only [hi] at hrep ⊢
    exact fun hs => hrep (ha k hi hs)

/-- A part that the work leaves, and the reply but as a reply, stands but for the bookkeeping of every command. -/
theorem CommandWork.same {v : State} {q : Part} {op rtag : BitVec 16} {lat : Byte} {rep : Reply} (hq : q.untouched (begun s r) x)
    (hv : q.untouched (writeReply x r.issuer op r.tag rtag lat rep) v) : q.same s (settle s v) := by
  obtain ⟨_, m, _, e, hm⟩ := writeReply_cases x r.issuer (h.present hr) op r.tag rtag lat rep
  by_cases hin : q ∈ [Part.win, .mbx, .svc]
  · obtain ⟨_, _, _, hb, hss⟩ := begun_cases s r
    rw [e] at hv
    simp only [List.mem_cons, List.not_mem_nil, or_false] at hin
    rcases hin with rfl | rfl | rfl
    · have hw : v.win = _ := hv
      have hwin : x.win = (begun s r).win := hq
      simp only [Part.same, settle_win, hw, hwin, hb]
    · have hw : v.mbx = _ := hv
      have hmbx : x.mbx = s.mbx := Eq.trans hq (begun_mbx s r)
      have hslot : replySlot x = replySlot s := by rw [replySlot, replySlot, h.rplHead, begun_rplHead]
      rw [hmbx, hslot] at hm
      refine ⟨?_, fun a ha => ?_⟩
      · rw [settle_mbx, hw, hmbx]
      · rw [settle_mbx, hw]
        exact hm a hr.wf ha
    · have hw : v.svc = _ := hv
      have hsvc : x.svc = (begun s r).svc := hq
      refine ⟨by rw [settle_svc, hw, hsvc, hb], fun k => ?_⟩
      obtain ⟨_, _, hk⟩ := hss k
      simp only [settle_svc, hw, hsvc, hb, Fin.getElem_fin, hk]
  · refine Part.same_settle s (Part.untouched_trans (Part.untouched_begun s r (by simp_all)) (Part.untouched_trans hq ?_)) hin
    exact Part.untouched_trans (Part.untouched_writeReply (h.present hr) _ _ _ _ _ hin) hv

end

/-- What a session command that leaves the port's mode does: its reply, its work in the sessions, and nothing else. -/
theorem sessionCommand {c : Instr} {op : Nat} {r : Req} {s x : State} {f : Req → State → Result} {changed : List Part}
    (hx : exec c s = done s (command op f r s)) (hr : Ready s r) (hf : f r (begun s r) = okay x)
    (h : CommandWork changed (begun s r) x) (hch : changed ⊆ .ven :: portParts) (hmode : x.svc.mode = s.svc.mode) :
    ∃ t, exec c s = .next t ∧ t.svc.sessions = x.svc.sessions ∧ Keeps changed s t ∧
      ((∀ k, r.issuer = .session k → (addrs s k).isSome = true → (addrs x k).isSome = true) → Replied s t op r 0 []) := by
  have hset := h.settled hch (hmode.trans (begun_mode s r).symm) (begun_settled hr)
  have hfin := finish_settled hset r.issuer (h.present hr) (BitVec.ofNat 16 op) r r.tag 0 ⟨0, []⟩
  obtain ⟨_, _, _, e, _⟩ := writeReply_cases x r.issuer (h.present hr) (BitVec.ofNat 16 op) r.tag r.tag 0 ⟨0, []⟩
  refine ⟨_, hx, ?_, fun q hq => ?_, fun ha => ?_⟩
  all_goals rw [command_taken hr, hf]
  · rw [okay, okWith, hfin, settle_svc, e]
  · rw [okay, okWith, hfin]
    exact h.same hr (h.rest q hq) (Part.untouched_refl _ q)
  · exact h.replied hr op ha

/-! ### A session unbound -/

section
variable {changed : List Part}

theorem endRec_work (hc : [Part.win, .mbx, .svc, .store] ⊆ changed) (s : State) (r : Rec) (st disp : Nat) (data : List Byte) :
    BridgeWork changed s (endRec s r st disp data) := by
  have hsvc : .svc ∈ changed := hc (by decide)
  have hdrop : BridgeWork changed s (dropRec s r) := .modSvc hsvc s _ rfl rfl
  have hgive : BridgeWork changed s (if r.credit then giveBack (dropRec s r) r.session 0 else dropRec s r) := by
    split
    · exact hdrop.trans (.modSession hsvc _ _ _ fun _ => rfl)
    · exact hdrop
  unfold endRec
  dsimp only
  split
  · split
    · exact hgive
    · have hcount := BridgeWork.modSession hsvc (if r.credit then giveBack (dropRec s r) r.session 0 else dropRec s r) r.session
        (sessionTally 6) fun _ => rfl
      exact hgive.trans (hcount.trans (.noted hc (raise_noted _ _ _)))
  · split
    · exact hdrop
    · exact hdrop.trans (.modSvc hsvc _ _ rfl rfl)

theorem breakLock_work (hc : sessionParts ⊆ changed) (s : State) (cause : Nat) : BridgeWork changed s (breakLock s cause) := by
  have hev : [Part.win, .mbx, .svc, .store] ⊆ changed := List.Subset.trans (by decide) hc
  have hsvc : .svc ∈ changed := hc (by decide)
  cases hk : s.svc.holder with
  | none =>
    rw [breakLock, hk]
    exact .refl changed s
  | some k =>
    have hlock : BridgeWork changed s (lockBroken k cause s) := by
      have hven (f : Bridge → Bridge) (hf : (f s.svc).sessions = s.svc.sessions) (hm : (f s.svc).mode = s.svc.mode) (vlck : Bool) :
          BridgeWork changed s ((s.modSvc f).modVen fun v => { v with vlck := vlck && v.vlck }) :=
        (BridgeWork.modSvc hsvc s f hf hm).trans (.modVen (hc (by decide)) _ _ rfl)
      unfold lockBroken
      dsimp only
      split
      · exact hven _ rfl rfl _
      · exact (hven _ rfl rfl _).trans (.modSession hsvc _ _ _ fun _ => rfl)
    rw [breakLock_eq hk]
    exact (hlock.trans (.noted hev (raise_noted _ _ _))).trans
      (.trans (.modSvc hsvc _ _ rfl rfl) (.foldl (fun _ _ => endRec_work hev _ _ _ _ _) _ _))

theorem setOwner_work (hc : sessionParts ⊆ changed) (s : State) (owner : BitVec 3) (yielding : Bool) (epoch : BitVec 6) (cause : Nat) :
    BridgeWork changed s (setOwner s owner yielding epoch cause) := by
  have hev : [Part.win, .mbx, .svc, .store] ⊆ changed := List.Subset.trans (by decide) hc
  have hwin : .win ∈ changed := hc (by decide)
  unfold setOwner
  dsimp only
  split
  · exact .modWin hwin s _ rfl
  · refine .trans (t := (s.modWin fun w => { w with owner, yielding, ownEpoch := epoch }).modWin fun w => { w with cOwn := true })
      (.trans (.modWin hwin s _ rfl) (.modWin hwin _ _ rfl)) (.trans ?_ (.noted hev (raise_noted _ _ _)))
    split
    · exact .modMbx (hc (by decide)) _ _ rfl
    · exact .refl changed _

theorem setOwner_sessions (s : State) (owner : BitVec 3) (yielding : Bool) (epoch : BitVec 6) (cause : Nat) :
    (setOwner s owner yielding epoch cause).svc.sessions = s.svc.sessions := by
  unfold setOwner
  dsimp only
  split
  · rfl
  · rw [(raise_noted _ _ _).sessions]
    split <;> rfl

/-- A session as unbinding leaves it (R210, R367). -/
def unboundSession (x : Session) : Session :=
  { x with
    addr := none, known := false, seqKnown := false, epoch := 0, ackSeq := 0, ackMap := 0, upSeq := 0, upwNum := 0
    used := Vector.replicate 4 0, mask := 0, broken := false, news := false }

/-- The bridge without what a session has waiting, so many records (R210). -/
def workDropped (k : SessionId) (n : Nat) (b : Bridge) : Bridge :=
  { b with
    recs := (b.recs.filter fun r => r.session != k || (r.cls == .pw && r.started)).map fun r =>
      if r.session == k then { r with credit := false } else r
    cpl := dropOut k b.cpl, upw := dropOut k b.upw, sig := dropOut k b.sig
    evt := dropOut k b.evt, discarded := satAdd b.discarded n }

/-- A session's work ended as it is unbound: its lock broken, what it has waiting discarded (R210). -/
def sessionEnded (s : State) (k : SessionId) : State :=
  let t := if s.svc.holder = some k then breakLock s 3 else s
  dropCommands (t.modSvc (workDropped k (heldBy t k))) k

/-- Unbinding ends the session's work, clears the session and gives the rings back. -/
theorem unbindSession_eq {s : State} {k : SessionId} (h : (addrs s k).isSome = true) :
    unbindSession s k = if ((sessionEnded s k).modSession k unboundSession).win.owner.toNat = k.val + 1 then
      setOwner ((sessionEnded s k).modSession k unboundSession) 0 true 0 1 else (sessionEnded s k).modSession k unboundSession := by
  refine if_neg ?_
  rw [Option.isNone_iff_eq_none]
  exact Option.isSome_iff_ne_none.mp h

theorem sessionEnded_work (hc : sessionParts ⊆ changed) (s : State) (k : SessionId) : BridgeWork changed s (sessionEnded s k) := by
  have hlock : BridgeWork changed s (if s.svc.holder = some k then breakLock s 3 else s) := by
    split
    · exact breakLock_work hc s 3
    · exact .refl changed s
  have hdrop (t : State) : BridgeWork changed t (dropCommands t k) := .modMbx (hc (by decide)) t _ rfl
  exact hlock.trans ((BridgeWork.modSvc (hc (by decide)) _ (workDropped k _) rfl rfl).trans (hdrop _))

theorem unbindSession_bound (hc : sessionParts ⊆ changed) {s : State} {k : SessionId} (h : (addrs s k).isSome = true) :
    BridgeWork changed ((sessionEnded s k).modSession k unboundSession) (unbindSession s k) ∧
      (unbindSession s k).svc.sessions = ((sessionEnded s k).modSession k unboundSession).svc.sessions := by
  rw [unbindSession_eq h]
  split
  · exact ⟨setOwner_work hc _ _ _ _ _, setOwner_sessions _ _ _ _ _⟩
  · exact ⟨.refl changed _, rfl⟩

theorem unbindSession_unbound {s : State} {k : SessionId} (h : ¬ (addrs s k).isSome = true) : unbindSession s k = s :=
  if_pos (by simpa [addrs] using h)

theorem unbindSession_work (hc : sessionParts ⊆ changed) (s : State) (k : SessionId) :
    CommandWork changed s (unbindSession s k) ∧ (unbindSession s k).svc.mode = s.svc.mode := by
  by_cases h : (addrs s k).isSome = true
  · obtain ⟨hbound, -⟩ := unbindSession_bound hc h
    have hended := sessionEnded_work hc s k
    exact ⟨hended.toCommandWork.trans ((CommandWork.modSvc (hc (by decide)) _ _).trans hbound.toCommandWork), hbound.mode.trans hended.mode⟩
  · rw [unbindSession_unbound h]
    exact ⟨(BridgeWork.refl changed s).toCommandWork, rfl⟩

/-- A bound session unbound has no address, no mask and no credit in use (R210, R367). -/
theorem unbindSession_session {s : State} {k : SessionId} (h : (addrs s k).isSome = true) :
    ∃ x : Session, (unbindSession s k).svc.sessions[k] = unboundSession x := by
  obtain ⟨-, hsess⟩ := unbindSession_bound (changed := sessionParts) (fun _ h => h) h
  exact ⟨(sessionEnded s k).svc.sessions[k], by rw [hsess]; exact session_modSession _ k _⟩

/-- The session unbound has no address, every other keeps its own. -/
theorem unbindSession_addrs (s : State) (k j : SessionId) : addrs (unbindSession s k) j = if j = k then none else addrs s j := by
  by_cases h : (addrs s k).isSome = true
  · obtain ⟨hbound, -⟩ := unbindSession_bound (changed := sessionParts) (fun _ h => h) h
    have hended := sessionEnded_work (changed := sessionParts) (fun _ h => h) s k
    rw [hbound.addrs]
    split
    case isTrue hj =>
      rw [hj]
      exact congrArg Session.addr (session_modSession _ k _)
    case isFalse hj => exact (congrArg Session.addr (session_modSession_other _ hj _)).trans (congrFun hended.addrs j)
  · rw [unbindSession_unbound h]
    split
    case isTrue hj =>
      rw [hj]
      simpa using h
    case isFalse => rfl

/-! ### A session bound -/

theorem bindSession_work (hc : sessionParts ⊆ changed) (s : State) (k : SessionId) (a : Mac) :
    CommandWork changed s (bindSession s k a) ∧ (bindSession s k a).svc.mode = s.svc.mode := by
  obtain ⟨hwork, hmode⟩ := unbindSession_work hc s k
  unfold bindSession
  split
  · exact ⟨(BridgeWork.refl changed s).toCommandWork, rfl⟩
  · exact ⟨hwork.trans (CommandWork.modSvc (hc (by decide)) _ _), hmode⟩

theorem bindSession_addrs (s : State) (k : SessionId) (a : Mac) (j : SessionId) :
    addrs (bindSession s k a) j = if j = k then some a else addrs s j := by
  unfold bindSession
  split
  case isTrue h =>
    split
    case isTrue hj =>
      rw [hj]
      exact h
    case isFalse => rfl
  case isFalse =>
    split
    case isTrue hj =>
      rw [hj]
      exact congrArg Session.addr (session_modSession _ k _)
    case isFalse hj =>
      refine (congrArg Session.addr (session_modSession_other (unbindSession s k) hj _)).trans ?_
      exact (unbindSession_addrs s k j).trans (if_neg hj)
end

/-! ### The session commands -/

theorem sessionArg_of {b : List Byte} {o : Nat} {k : SessionId} (h : num b o 1 = k.val) : sessionArg b o = some k := by
  have hlt : num b o 1 < 4 := by rw [h]; exact k.isLt
  rw [sessionArg, dif_pos hlt]
  exact congrArg some (Fin.ext h)

theorem begun_addrs (s : State) (r : Req) : addrs (begun s r) = addrs s := funext fun k => begun_addr s r k

theorem owned_begun {s : State} {r : Req} (hown : ownsRings s r.issuer = true) (x : Result) : owned r (begun s r) x = x :=
  if_pos (by rw [ownsRings, begun_owner]; exact hown)

section
variable {s : State} {r : Req} (hr : Ready s r) (hown : ownsRings s r.issuer = true) {k : SessionId}

include hr hown in
theorem sessionBind_performs {a : Mac} (hlen : r.len = 7) (hk : num r.payload 0 1 = k.val) (ha : a = BitVec.ofNat 48 (num r.payload 1 6))
    (hzero : a ≠ 0) (hgroup : bit a 40 = false) : Performs (.sessionBind r) 0x0601 r s [] sessionParts fun t =>
      t.svc.sessions[k].addr = some a ∧ ∀ j : SessionId, j ≠ k → t.svc.sessions[j].addr = s.svc.sessions[j].addr := by
  have hf : doSessionBind r (begun s r) = okay (bindSession (begun s r) k a) := by
    rw [← owned_begun hown (okay (bindSession (begun s r) k a))]
    simp only [doSessionBind, hlen, sessionArg_of hk, ← ha, hzero, hgroup, Bool.false_eq_true, or_self, if_false]
    exact if_neg (by decide)
  obtain ⟨hwork, hmode⟩ := bindSession_work (changed := sessionParts) (fun _ h => h) (begun s r) k a
  obtain ⟨t, ht, hsess, hkeeps, hrep⟩ := sessionCommand (c := .sessionBind r) (op := 0x0601) rfl hr hf hwork (by decide)
    (hmode.trans (begun_mode s r))
  have haddr (j : SessionId) : t.svc.sessions[j].addr = if j = k then some a else addrs s j := by
    rw [← begun_addrs s r, ← bindSession_addrs, hsess, addrs]
  refine ⟨t, ht, hrep fun j _ hj => ?_, ⟨(haddr k).trans (if_pos rfl), fun j hj => (haddr j).trans (if_neg hj)⟩, hkeeps⟩
  rw [bindSession_addrs, begun_addrs]
  split
  · rfl
  · exact hj

include hr hown in
theorem sessionUnbind_performs (hlen : r.len = 1) (hk : num r.payload 0 1 = k.val) :
    ∃ t, exec (.sessionUnbind r) s = .next t ∧ t.svc.sessions[k].addr = none ∧
      (∀ j : SessionId, j ≠ k → t.svc.sessions[j].addr = s.svc.sessions[j].addr) ∧
      (s.svc.sessions[k].addr.isSome = true → t.svc.sessions[k].mask = 0 ∧ t.svc.sessions[k].used = Vector.replicate 4 0) ∧
      (r.issuer ≠ .session k → Replied s t 0x0602 r 0 []) ∧ Keeps sessionParts s t := by
  have hf : doSessionUnbind r (begun s r) = okay (unbindSession (begun s r) k) := by
    rw [← owned_begun hown (okay (unbindSession (begun s r) k))]
    simp only [doSessionUnbind, hlen, sessionArg_of hk]
    exact if_neg (by decide)
  obtain ⟨hwork, hmode⟩ := unbindSession_work (changed := sessionParts) (fun _ h => h) (begun s r) k
  obtain ⟨t, ht, hsess, hkeeps, hrep⟩ := sessionCommand (c := .sessionUnbind r) (op := 0x0602) rfl hr hf hwork (by decide)
    (hmode.trans (begun_mode s r))
  have haddr (j : SessionId) : t.svc.sessions[j].addr = if j = k then none else addrs s j := by
    rw [← begun_addrs s r, ← unbindSession_addrs, hsess, addrs]
  refine ⟨t, ht, (haddr k).trans (if_pos rfl), fun j hj => (haddr j).trans (if_neg hj), fun hb => ?_,
    fun hi => hrep fun j hj hs => ?_, hkeeps⟩
  · obtain ⟨x, hx⟩ := unbindSession_session (s := begun s r) (k := k) ((congrArg Option.isSome (begun_addr s r k)).trans hb)
    rw [hsess, hx]
    exact ⟨rfl, rfl⟩
  · have hjk : j ≠ k := fun e => hi (hj.trans (congrArg Issuer.session e))
    rw [unbindSession_addrs, if_neg hjk, begun_addrs]
    exact hs

include hr in
/-- A command that sets fields of one session, its address apart (R371). -/
theorem sessionSet_performs {c : Instr} {op : Nat} {f : Req → State → Result} (g g' : Session → Session)
    (hx : exec c s = done s (command op f r s)) (hf : f r (begun s r) = okay ((begun s r).modSession k g))
    (haddr : ∀ x, (g x).addr = x.addr)
    (hg : ∀ x u n, ({ g { x with used := u, news := n } with used := x.used, news := x.news } : Session) = g' x) :
    Performs c op r s [] [.svc] fun t => ∀ j : SessionId,
      { t.svc.sessions[j] with used := s.svc.sessions[j].used, news := s.svc.sessions[j].news } =
        if j = k then g' s.svc.sessions[j] else s.svc.sessions[j] := by
  have hwork : BridgeWork [.svc] (begun s r) ((begun s r).modSession k g) := .modSession (by decide) _ k g haddr
  obtain ⟨t, ht, hsess, hkeeps, hrep⟩ := sessionCommand hx hr hf hwork.toCommandWork (by decide) (hwork.mode.trans (begun_mode s r))
  refine ⟨t, ht, hrep fun j _ hj => ?_, fun j => ?_, hkeeps⟩
  · rw [hwork.addrs, begun_addrs]
    exact hj
  · obtain ⟨_, _, _, hb, hss⟩ := begun_cases s r
    obtain ⟨u, n, hj⟩ := hss j
    have hbegun : (begun s r).svc.sessions[j] = { s.svc.sessions[j] with used := u, news := n } := by
      rw [hb]
      exact hj
    rw [hsess]
    split
    case isTrue hjk =>
      subst hjk
      rw [session_modSession, hbegun, hg]
    case isFalse hjk => rw [session_modSession_other _ hjk, hbegun]

include hr hown in
theorem sessionCredits_performs {v : Vector Nat 4} (hlen : r.len = 5) (hk : num r.payload 0 1 = k.val)
    (hv : v = Vector.ofFn fun c : Fin 4 => num r.payload (1 + c.val) 1) (hsum : ∀ c : Fin 4, creditSum s k c v[c] ≤ classBuffer c) :
    Performs (.sessionCredits r) 0x0603 r s [] [.svc] fun t => ∀ j : SessionId,
      { t.svc.sessions[j] with used := s.svc.sessions[j].used, news := s.svc.sessions[j].news } =
        if j = k then { s.svc.sessions[j] with credits := v } else s.svc.sessions[j] := by
  have hcredits (j : SessionId) : (begun s r).svc.sessions[j].credits = s.svc.sessions[j].credits := by
    obtain ⟨_, _, _, hb, hss⟩ := begun_cases s r
    obtain ⟨_, _, hj⟩ := hss j
    simp only [Fin.getElem_fin, hb, hj]
  have hfits : ¬ ((List.finRange 4).any fun c => decide (classBuffer c < creditSum (begun s r) k c v[c])) = true := by
    simp only [creditSum, hcredits, List.any_eq_true, decide_eq_true_eq, not_exists, not_and, not_lt]
    exact fun c _ => hsum c
  refine sessionSet_performs hr (fun x => { x with credits := v, news := true }) (fun x => { x with credits := v }) rfl ?_ (fun _ => rfl)
    fun _ _ _ => rfl
  rw [← owned_begun hown (okay _)]
  simp only [doSessionCredits, hlen, sessionArg_of hk, ← hv, if_neg hfits]
  exact if_neg (by decide)

include hr hown in
theorem sessionPolicy_performs (hlen : r.len = 3) (hk : num r.payload 0 1 = k.val) (hmax : num r.payload 1 2 ≠ 0) :
    Performs (.sessionPolicy r) 0x0604 r s [] [.svc] fun t => ∀ j : SessionId,
      { t.svc.sessions[j] with used := s.svc.sessions[j].used, news := s.svc.sessions[j].news } =
        if j = k then { s.svc.sessions[j] with leaseMax := BitVec.ofNat 16 (num r.payload 1 2) } else s.svc.sessions[j] := by
  refine sessionSet_performs hr (fun x => { x with leaseMax := BitVec.ofNat 16 (num r.payload 1 2) })
    (fun x => { x with leaseMax := BitVec.ofNat 16 (num r.payload 1 2) }) rfl ?_ (fun _ => rfl) fun _ _ _ => rfl
  rw [← owned_begun hown (okay _)]
  simp only [doSessionPolicy, hlen, sessionArg_of hk, if_neg hmax]
  exact if_neg (by decide)
end

/-! ### The port's mode -/

theorem unsend_work (s : State) (f : Leaving) : BridgeWork portParts s (unsend s f) := by
  have hsent : BridgeWork portParts s (s.modSvc fun b => { b with sent := b.sent.drop 1 }) := .modSvc (by decide) s _ rfl rfl
  have hcredits (l : List OutRec) (k : SessionId) (t : State) : BridgeWork portParts t
      (l.foldl (fun s o => match o.credit with | some c => takeCredit s k c | none => s) t) := by
    refine .foldl (fun u o => ?_) l t
    cases o.credit with
    | none => exact .refl _ u
    | some c => exact .modSession (by decide) u k _ fun _ => rfl
  cases hf : f.session with
  | none =>
    rw [unsend, hf]
    exact hsent.trans (.modTime (by decide) _ _ rfl rfl)
  | some k =>
    have hback (t : State) : BridgeWork portParts t
        ((t.modSvc (putBack f.out)).modSession k fun x => { x with upSeq := x.upSeq - 1, news := true }) :=
      (BridgeWork.modSvc (by decide) t (putBack f.out) rfl rfl).trans (.modSession (by decide) _ k _ fun _ => rfl)
    rw [unsend, hf]
    dsimp only
    split
    · exact (hsent.trans ((hback _).trans (hcredits _ k _))).trans (.modPow (by decide) _ _ rfl)
    · exact hsent.trans ((hback _).trans (hcredits _ k _))

theorem cutFrames_work (s : State) : BridgeWork portParts s (cutFrames s) :=
  (BridgeWork.foldl unsend_work _ s).trans (.modSvc (by decide) _ _ rfl rfl)

/-- The link taken down cuts frames and is reported (R205). -/
theorem setLink_down (s : State) : setLink s false = s ∨
    setLink s false = raise ((cutFrames s).modSvc fun b => { b with link := false }) 0x060C [by1 (cutFrames s).svc.mode.val, 0] := by
  unfold setLink
  split
  · exact Or.inl rfl
  · exact Or.inr rfl

theorem setLink_down_link (s : State) : (setLink s false).svc.link = false := by
  by_cases h : s.svc.link = false
  · rw [setLink, if_pos h]
    exact h
  · rw [setLink, if_neg h]
    exact (congrArg Bridge.link ((raise_noted _ _ _).part .svc) :)

theorem setLink_down_work (s : State) : BridgeWork portParts s (setLink s false) := by
  rcases setLink_down s with h | h
  · rw [h]
    exact .refl _ s
  · rw [h]
    exact ((cutFrames_work s).trans (.modSvc (by decide) _ _ rfl rfl)).trans (.noted (by decide) (raise_noted _ _ _))

/-- Only a frame that leaves is cut, so only then may a Delay_Req be due again. -/
theorem setLink_down_time {s : State} (h : s.svc.leaving = []) : (setLink s false).time = s.time := by
  rcases setLink_down s with e | e
  · rw [e]
  · rw [e, cutFrames_left (by simp [h])]
    exact (raise_noted _ _ _).untouched (p := .time) (by decide)

/-- The bridge with its mode and EtherType set (R205, R206). -/
def portSet (mode : Fin 4) (etype : Nat) (b : Bridge) : Bridge := { b with mode := mode, etype := BitVec.ofNat 16 etype }

theorem applySvcSet_eq (s : State) (mode : Fin 4) (etype : Nat) :
    applySvcSet s mode etype = (if s.svc.mode = mode then s else setLink s false).modSvc (portSet mode etype) := by
  unfold applySvcSet
  split
  case isTrue h =>
    subst h
    rfl
  case isFalse => rfl

section
variable {s : State} {r : Req} (hr : Ready s r) (hown : ownsRings s r.issuer = true) {mode : Fin 4}

include hr in
theorem svcSet_finish {x : State} (h : CommandWork portParts (begun s r) x) (op : BitVec 16) :
    ∃ ds, finish r.issuer op r r.tag 0 (okay x) =
      (writeReply x r.issuer op r.tag r.tag 0 ⟨0, []⟩).modPow fun p => { p with domains := ds } := by
  obtain ⟨_, _, _, e, _⟩ := writeReply_cases x r.issuer (h.present hr) op r.tag r.tag 0 ⟨0, []⟩
  refine settleDomains_port (s := writeReply x r.issuer op r.tag r.tag 0 ⟨0, []⟩) fun i hi => ?_
  rw [e]
  refine Eq.trans (domWanted_congr (s := x) rfl rfl rfl rfl rfl rfl rfl rfl _) ?_
  rw [h.domWanted (by decide) (Or.inr hi)]
  exact (begun_settled hr i).trans (h.domOn _).symm

include hown in
theorem svcSet_takes (hlen : r.len = 3) (hmode : num r.payload 0 1 = mode.val) (hetype : etypeOk (num r.payload 1 2) = true)
    (hfits : mode = s.svc.mode ∨ ∀ m ∈ bothMoulds s, svcFits m mode.val = true) :
    doSvcSet r (begun s r) = okay (applySvcSet (begun s r) mode (num r.payload 1 2)) := by
  have hlt : num r.payload 0 1 < 4 := hmode ▸ mode.isLt
  have hmoulds : bothMoulds (begun s r) = bothMoulds s := by rw [bothMoulds, bothMoulds, begun_seq]
  have hno : ¬ (mode ≠ (begun s r).svc.mode ∧ ((bothMoulds (begun s r)).any fun m => !svcFits m mode.val) = true) := by
    rw [begun_mode, hmoulds]
    rintro ⟨hne, hany⟩
    obtain ⟨m, hm, hbad⟩ := List.any_eq_true.mp hany
    simp [(hfits.resolve_left hne) m hm] at hbad
  obtain rfl : mode = ⟨num r.payload 0 1, hlt⟩ := Fin.ext hmode.symm
  rw [← owned_begun hown (okay _)]
  unfold doSvcSet
  dsimp only
  rw [if_neg (by simp [hlen, hetype]), dif_pos hlt]
  exact if_neg hno

include hr hown in
theorem svcSet_performs (hlen : r.len = 3) (hmode : num r.payload 0 1 = mode.val) (hetype : etypeOk (num r.payload 1 2) = true)
    (hfits : mode = s.svc.mode ∨ ∀ m ∈ bothMoulds s, svcFits m mode.val = true) :
    Performs (.svcSet r) 0x0606 r s [] portParts fun t =>
      (s.svc.leaving = [] → t.time = s.time) ∧ t.svc.mode = mode ∧ t.svc.etype = BitVec.ofNat 16 (num r.payload 1 2) ∧
        (mode ≠ s.svc.mode → t.svc.link = false) := by
  have hx : doSvcSet r (begun s r) = okay (applySvcSet (begun s r) mode (num r.payload 1 2)) :=
    svcSet_takes hown hlen hmode hetype hfits
  rw [applySvcSet_eq] at hx
  have hwork : BridgeWork portParts (begun s r) (if (begun s r).svc.mode = mode then begun s r else setLink (begun s r) false) := by
    split
    · exact .refl _ _
    · exact setLink_down_work _
  have hset := hwork.toCommandWork.trans (CommandWork.modSvc (by decide) _ (portSet mode (num r.payload 1 2)))
  obtain ⟨ds, hfin⟩ := svcSet_finish hr hset (BitVec.ofNat 16 0x0606)
  obtain ⟨_, _, _, e, _⟩ := writeReply_cases _ r.issuer (hset.present hr) (BitVec.ofNat 16 0x0606) r.tag r.tag 0 ⟨0, []⟩
  refine ⟨_, rfl, ?_, ⟨fun hl => ?_, ?_, ?_, fun hm => ?_⟩, fun q hq => ?_⟩
  all_goals rw [command_taken hr, hx]
  · refine hset.replied hr 0x0606 fun k _ hk => ?_
    have : addrs _ k = addrs s k := (congrFun hwork.addrs k).trans (congrFun (begun_addrs s r) k)
    exact (congrArg Option.isSome this).trans hk
  · have hleaving : (begun s r).svc.leaving = [] := by
      obtain ⟨_, _, _, hb, _⟩ := begun_cases s r
      rw [hb]
      exact hl
    rw [hfin, e]
    refine Eq.trans ?_ (begun_time s r)
    show (if (begun s r).svc.mode = mode then begun s r else setLink (begun s r) false).time = _
    split
    · rfl
    · exact setLink_down_time hleaving
  · rw [hfin, e]
    rfl
  · rw [hfin, e]
    rfl
  · rw [hfin, e, if_neg (by rw [begun_mode]; exact Ne.symm hm)]
    exact setLink_down_link (begun s r)
  · rw [hfin]
    exact hset.same hr (hset.rest q hq) (Part.untouched_modPow _ _ (by rintro rfl; exact hq (by decide)))
end

/-- Settles O17: each command's work leaves the reply's place and, SVC_SET's mode apart, the conditions of Table 16.2. -/
theorem sessionCommandsTakeEffect : Obligations.SessionCommandsTakeEffect := by
  unfold Obligations.SessionCommandsTakeEffect
  intro s r hr hown
  refine ⟨fun k a hlen hk ha hzero hgroup => ?_, fun k hlen hk => ?_, fun k v hlen hk hv hsum => ?_, fun k hlen hk hmax => ?_,
    fun mode hlen hmode hetype hfits => ?_⟩
  · exact sessionBind_performs hr hown hlen hk ha hzero hgroup
  · exact sessionUnbind_performs hr hown hlen hk
  · exact sessionCredits_performs hr hown hlen hk hv hsum
  · exact sessionPolicy_performs hr hown hlen hk hmax
  · exact svcSet_performs hr hown hlen hmode hetype hfits

end Sys2Proof.Machine
end

section
/-! Rows that change the Veneer logic, and the bridge that has nothing to serve without the bus (R220, R246, R257). -/

namespace Sys2Proof.Machine

/-! ### Rows that change the Veneer logic alone -/

section
variable {c : Instr} {s : State} (f : Veneer → Veneer)

theorem does_modVen (hx : exec c s = done s (s.modVen f)) : Does c s [.ven] fun t => t.ven = f s.ven :=
  does_of hx (fun _ hp => Part.untouched_modVen s f (by simpa using hp)) rfl

theorem reports_modVen {code : Nat} {data : List Byte} (hx : exec c s = done s (raise (s.modVen f) code data)) :
    Reports c s code data [.ven] fun t => t.ven = f s.ven :=
  reports_of hx (fun _ hp => Part.untouched_modVen s f (by simpa using hp)) rfl (by rw [settle_ven, raise_ven, modVen_ven])
end

/-! ### Nothing to serve without the bus -/

/-- What decides whether a record is served without a bus cycle (R220). -/
def localView (s : State) : List Rec × Option SessionId × (SessionId → Bool) × Nat :=
  (s.svc.recs, s.svc.holder, fun k => s.svc.sessions[k].broken, cplTaken s)

theorem localServe_isSome {s t : State} (h : localView t = localView s) (r : Rec) :
    (localServe t r).isSome = (localServe s r).isSome := by
  simp only [localView, Prod.mk.injEq] at h
  obtain ⟨hrecs, hholder, hbroken, htaken⟩ := h
  have hcan : canStart t r = canStart s r := by simp only [canStart, orderAllows, before, hrecs, htaken]
  have hmark : t.svc.sessions[r.session].broken = s.svc.sessions[r.session].broken := congrFun hbroken r.session
  unfold localServe
  rw [hcan, hmark, hholder]
  cases r.cls <;> dsimp only <;> split_ifs <;> simp only [Option.isSome_some, Option.isSome_none]

/-- Where nothing could be served, nothing is after a change of what the bridge does not look at. -/
theorem afterBridge_nothing {s t : State} (hs : NothingLocal s) (h : localView t = localView s) : afterBridge t = t := by
  have hrecs : t.svc.recs = s.svc.recs := congrArg Prod.fst h
  have hnone : t.svc.recs.findSome? (localServe t) = none := by
    rw [hrecs, List.findSome?_eq_none_iff]
    intro r hr
    have hsame := localServe_isSome h r
    rw [List.findSome?_eq_none_iff.mp hs r hr] at hsame
    exact Option.isNone_iff_eq_none.mp (Option.isSome_eq_false_iff.mp hsame)
  rw [afterBridge, serveLocals, hnone]

theorem localView_modVen (s : State) (f : Veneer → Veneer) : localView (s.modVen f) = localView s := rfl

/-- Events are nothing that the bridge serves. -/
theorem Noted.localView {s t : State} (h : Noted s t) : Machine.localView t = Machine.localView s := by
  rw [h.1]
  rfl

/-! ### What a VEN line waits for -/

/-- The outputs are lent no longer once the bus is idle (R257). -/
theorem driveAgain_eq (s : State) : driveAgain s = s.modVen fun v => { v with afterGrant := v.afterGrant && !busIdle s } := by
  unfold driveAgain
  split
  · next h => simp [h]
  · next h => simp [h]; rfl

/-- With no line waiting for the bus the outputs are all that follows it (R246). -/
theorem beginWaiting_none {s : State} (h : s.ven.waiting = none) : beginWaiting s = driveAgain s := by
  have hw : (driveAgain s).ven.waiting = none := by rw [driveAgain_eq]; exact h
  unfold beginWaiting
  simp only [hw, ite_self]

end Sys2Proof.Machine
end

section
/-! Answers of targets (R247 to R249, R252, R253). -/

namespace Sys2Proof.Machine

/-! ### The answer -/

/-- The cycle in progress answered: with data where `ok`, else with a fault (R247, R252). -/
def answeredCycle (s : State) (c : Cycle) (ok : Bool) (got : List Byte) (diffs : BitVec 4 × BitVec 4) : Cycle :=
  { c with phase := .release, ok, got, diffs, answered := some s.now }

/-- The Veneer logic with VRDY_N seen at a read's strobe (R247). -/
def readySeen (s : State) (c : Cycle) (data : BitVec 32) (diffs : BitVec 4 × BitVec 4) (v : Veneer) : Veneer :=
  { v with seen := v.seen ||| 0x40, cycle := some (answeredCycle s c true (laneBytes c data.toNat) diffs) }

/-- The Veneer logic with VFLT_N seen at a strobe, counted (R252). -/
def faultSeen (s : State) (c : Cycle) (v : Veneer) : Veneer :=
  { v with
    seen := v.seen ||| 0x80, cycle := some (answeredCycle s c false c.got c.diffs), faults := vmod v.faults c.window satInc }

section
variable {s : State} {c : Cycle} (hcycle : s.ven.cycle = some c) (hphase : c.phase = .strobe) (hloop : s.test.loopVen = 0)
include hcycle hphase hloop

/-- An answer to the strobe, with no loop-back. -/
theorem exec_targetAnswer (rdy flt : Bool) (data : BitVec 32) (ed ld : BitVec 4) :
    exec (.targetAnswer rdy flt false data ed ld) s =
      done s (afterBridge (answerCycle (see (answerBits rdy flt) s) c rdy flt false data (ed, ld))) := by
  refine congrArg (done s) ?_
  simp [hcycle, hphase, hloop]

/-- VRDY_N answers a read with the bytes of its lanes (R247). -/
theorem targetAnswer_ready (hlocal : NothingLocal s) (hread : c.write = false) (data : BitVec 32) (ed ld : BitVec 4) :
    Does (.targetAnswer true false false data ed ld) s [.ven] fun t => t.ven = readySeen s c data (ed, ld) s.ven := by
  have hans : answerCycle (see (answerBits true false) s) c true false false data (ed, ld) = s.modVen (readySeen s c data (ed, ld)) := by
    have hquiet : (see (answerBits true false) s).test.loopVen = 0 := hloop
    unfold answerCycle
    dsimp only
    rw [if_neg (by simp), if_neg (by simp), if_neg (by simp), if_neg (by simp), if_pos hquiet, if_neg (by simp [hread])]
    rfl
  refine does_modVen _ ((exec_targetAnswer hcycle hphase hloop true false data ed ld).trans ?_)
  rw [hans, afterBridge_nothing hlocal (localView_modVen s _)]

/-- VFLT_N answers with a fault, counted and reported (R252). -/
theorem targetAnswer_fault (hlocal : NothingLocal s) (data : BitVec 32) (ed ld : BitVec 4) :
    Reports (.targetAnswer false true false data ed ld) s 0x0702
      ([BitVec.ofNat 8 c.window.val, BitVec.ofNat 8 c.session.val] ++ be 4 c.addr.toNat) [.ven] fun t => t.ven = faultSeen s c s.ven := by
  have hans : answerCycle (see (answerBits false true) s) c false true false data (ed, ld) =
      raise (s.modVen (faultSeen s c)) 0x0702 ([BitVec.ofNat 8 c.window.val, BitVec.ofNat 8 c.session.val] ++ be 4 c.addr.toNat) := by
    unfold answerCycle
    rw [if_neg (by simp), if_neg (by simp), if_neg (by simp), if_pos rfl]
    rfl
  refine reports_modVen _ ((exec_targetAnswer hcycle hphase hloop false true data ed ld).trans ?_)
  rw [hans, afterBridge_nothing hlocal ((raise_noted _ _ _).localView.trans (localView_modVen s _))]
end

/-! ### The request ends with its cycle -/

/-- The bridge as the end of its only request, an NP read, leaves it: a CPL with its bytes, or none where its session has restarted since
(R211, R225). -/
def readEnded (x : Rec) (st : Nat) (b : Bridge) : Bridge :=
  { b with
    recs := []
    cpl := if x.stale then b.cpl else b.cpl ++
      [{ session := x.session, credit := some 1, bytes := cplBytes st x.tag (lineDisp x) x.wait x.addr x.size x.got }] }

/-- An NP request that holds its credit. -/
structure CreditedRead (x : Rec) : Prop where
  cls : x.cls = .np
  credit : x.credit = true

/-- The only request ends as the read it is, also under what it has become on the bus. -/
theorem endOnBus_read {s : State} {y x : Rec} (hrecs : s.svc.recs = [y]) (hnum : y.num = x.num) (hx : CreditedRead x)
    (h4 : present s 4 = true) (st : Nat) : endOnBus s x st = s.modSvc (readEnded x st) := by
  have hdrop : dropRec s x = s.modSvc fun b => { b with recs := [] } := by simp [dropRec, State.modSvc, hrecs, hnum]
  obtain ⟨hcls, hcredit⟩ := hx
  rw [endOnBus, if_pos h4, endRec, hdrop]
  cases hst : x.stale <;> simp [readEnded, State.modSvc, hcls, hcredit, classIx, hst]

/-- A cycle off the bus, VLCK_N of a lock broken meanwhile with it (R234). -/
def venOver (unlock : Bool) (v : Veneer) : Veneer := { v with cycle := none, vlck := v.vlck && !unlock }

/-- The bridge once VLCK_N of a lock broken has been negated (R234). -/
def svcOver (b : Bridge) : Bridge := { b with unlock := false }

theorem cycleOver_eq (s : State) : cycleOver s = (s.modVen (venOver s.svc.unlock)).modSvc svcOver := rfl

/-- A failing cycle of the only request ends it (R220). -/
theorem failCycle_read {s : State} {x : Rec} (hrecs : s.svc.recs = [x]) (hbus : x.onBus = true) (hok : x.broken = false)
    (hx : CreditedRead x) (h4 : present s 4 = true) (st : Nat) :
    failCycle s st = (s.modVen (venOver s.svc.unlock)).modSvc fun b => readEnded x st (svcOver b) := by
  have hrec : onBusRec (cycleOver s) = some x := by
    rw [cycleOver_eq, onBusRec, modSvc_svc, svcOver, modVen_svc, hrecs, List.find?_cons, hbus]
  simp only [failCycle, hrec, hok, Bool.false_eq_true, if_false]
  exact endOnBus_read (s := cycleOver s) hrecs rfl hx h4 st

/-- What a read shows the taps touches their shadows and qualities alone (R200). -/
theorem learnTaps_keeps {β : Type} (g : Veneer → β)
    (hshadow : ∀ v e l r, g { v with early := e, late := l, reads := r } = g v)
    (hqual : ∀ v r b a q, g { v with qReads := r, qValid := b, qAge := a, qWin := q } = g v) (c : Cycle) (v : Veneer) :
    g (learnTaps c v) = g v := by
  have hmoved (v : Veneer) : g (c.lanes.foldl (moveShadows c.window c.diffs) v) = g v :=
    foldl_keeps g _ _ (fun _ _ => hshadow _ _ _ _) v
  have hreport (v : Veneer) : g (reportWindow c.window v) = g v := by
    unfold reportWindow
    dsimp only
    split
    · exact hqual v _ v.qValid v.qAge v.qWin
    · exact hqual v _ _ _ _
  unfold learnTaps
  split
  · rfl
  · rw [hreport, hmoved]

/-- A request with the bytes of the cycle that has ended. -/
def cycleDone (c : Cycle) (x : Rec) : Rec := { x with done := x.done + c.bytes, got := x.got ++ c.got, onBus := false }

/-- The last cycle of a request ends it with OK (R247, R250). -/
theorem completeCycle_last {s : State} {c : Cycle} {x : Rec} (hrec : onBusRec s = some x) (hok : c.ok = true) (hbroken : x.broken = false)
    (hlast : x.count ≤ x.done + c.bytes) (n : Nat) : completeCycle s c n =
      endOnBus (putRec ((cycleOver s).modVen (learnTaps c)) x (cycleDone c x)) (cycleDone c x) 0 := by
  unfold completeCycle
  rw [hrec]
  dsimp only
  rw [if_neg (by simp [hok]), if_neg (by simp [hbroken]), if_pos hlast]
  rfl

/-- The last cycle of the only request, an NP read, ends it with OK. -/
theorem completeCycle_read {s : State} {c : Cycle} {x : Rec} (hrecs : s.svc.recs = [x]) (hbus : x.onBus = true) (hbroken : x.broken = false)
    (hx : CreditedRead x) (h4 : present s 4 = true) (hok : c.ok = true) (hlast : x.count ≤ x.done + c.bytes) (n : Nat) :
    completeCycle s c n = (s.modVen fun v => learnTaps c (venOver s.svc.unlock v)).modSvc fun b =>
      readEnded (cycleDone c x) 0 (svcOver b) := by
  have hrec : onBusRec s = some x := by rw [onBusRec, hrecs, List.find?_cons, hbus]
  rw [completeCycle_last hrec hok hbroken hlast, putRec_only (s := (cycleOver s).modVen (learnTaps c)) hrecs]
  exact endOnBus_read (s := ((cycleOver s).modVen (learnTaps c)).modSvc (onlyRec (cycleDone c x))) rfl rfl ⟨hx.cls, hx.credit⟩ h4 0

/-- After the only request, with no line waiting, the outputs are all that follows (R246, R257). -/
theorem afterCycle {s : State} {f : Veneer → Veneer} {g : Bridge → Bridge} (hrecs : (g s.svc).recs = []) (hw : (f s.ven).waiting = none) :
    beginWaiting (afterBridge ((s.modVen f).modSvc g)) = driveAgain ((s.modVen f).modSvc g) := by
  rw [afterBridge_empty hrecs, beginWaiting_none hw]

/-- A row that takes the only request off the bus changes the Veneer logic and the bridge alone. -/
theorem does_afterCycle {i : Instr} {s : State} (f : Veneer → Veneer) (g : Bridge → Bridge)
    (hx : exec i s = done s (beginWaiting (afterBridge ((s.modVen f).modSvc g)))) (hrecs : (g s.svc).recs = [])
    (hw : (f s.ven).waiting = none) :
    Does i s [.ven, .svc] fun t => (∃ a, t.ven = { f s.ven with afterGrant := a }) ∧ t.svc = g s.svc := by
  rw [afterCycle hrecs hw, driveAgain_eq] at hx
  refine does_of hx (fun p hp => ?_) ⟨⟨_, rfl⟩, rfl⟩
  have hven : p ≠ .ven := by rintro rfl; simp at hp
  have hsvc : p ≠ .svc := by rintro rfl; simp at hp
  exact Part.untouched_trans (Part.untouched_trans (Part.untouched_modVen s _ hven) (Part.untouched_modSvc _ _ hsvc))
    (Part.untouched_modVen _ _ hven)

/-! ### The rows -/

/-- The Veneer logic with VRDY_N and VFLT_N seen high again (R247). -/
def answerReleased (v : Veneer) : Veneer := { v with seen := v.seen &&& 0x1F3F }

/-- The Veneer logic with one more violation of R253. -/
def violated (c : Cycle) (v : Veneer) : Veneer := { v with violations := vmod v.violations c.window satInc }

section
variable {s : State} {c : Cycle} {x : Rec} (hcycle : s.ven.cycle = some c) (hphase : c.phase = .release) (hrecs : s.svc.recs = [x])
  (hbus : x.onBus = true) (hbroken : x.broken = false) (hx : CreditedRead x) (h4 : present s 4 = true) (hw : s.ven.waiting = none)

include hcycle hphase in
theorem exec_targetRelease (n : Nat) :
    exec (.targetRelease n) s = done s (beginWaiting (afterBridge (completeCycle (s.modVen answerReleased) c n))) := by
  refine congrArg (done s) ?_
  simp only [unsee, modVen_ven, hcycle, hphase, beq_self_eq_true, if_true]
  rfl

include hcycle hphase hrecs hbus hbroken hx h4 hw

/-- The last cycle released ends its read with OK (R247, R250). -/
theorem targetRelease_ok (hok : c.ok = true) (hlast : x.count ≤ x.done + c.bytes) (n : Nat) :
    Does (.targetRelease n) s [.ven, .svc] fun t => t.ven.cycle = none ∧ t.ven.seen = s.ven.seen &&& 0x1F3F ∧
      t.svc = readEnded (cycleDone c x) 0 (svcOver s.svc) := by
  have hrow := exec_targetRelease hcycle hphase n
  rw [completeCycle_read (s := s.modVen answerReleased) hrecs hbus hbroken hx h4 hok hlast] at hrow
  have hkeep (v : Veneer) : ((learnTaps c v).cycle, (learnTaps c v).seen, (learnTaps c v).waiting) = (v.cycle, v.seen, v.waiting) :=
    learnTaps_keeps (fun v => (v.cycle, v.seen, v.waiting)) (fun _ _ _ _ => rfl) (fun _ _ _ _ _ => rfl) c v
  simp only [Prod.mk.injEq] at hkeep
  obtain ⟨hfree, hseen, hidle⟩ := hkeep (venOver s.svc.unlock (answerReleased s.ven))
  obtain ⟨t, ht, ⟨⟨a, hven⟩, hsvc⟩, hrest⟩ :=
    does_afterCycle (fun v => learnTaps c (venOver s.svc.unlock (answerReleased v))) _ hrow rfl (hidle.trans hw)
  refine ⟨t, ht, ⟨?_, ?_, hsvc⟩, hrest⟩
  · rw [hven]
    exact hfree
  · rw [hven]
    exact hseen

/-- A cycle with a fault released ends its read with BUS_FAULT (R252). -/
theorem targetRelease_fault (hok : c.ok = false) (n : Nat) :
    Does (.targetRelease n) s [.ven, .svc] fun t => t.ven.cycle = none ∧ t.svc = readEnded x 0x12 (svcOver s.svc) := by
  have hrec : onBusRec (s.modVen answerReleased) = some x := by rw [onBusRec, modVen_svc, hrecs, List.find?_cons, hbus]
  have hfail : completeCycle (s.modVen answerReleased) c n = failCycle (s.modVen answerReleased) 0x12 := by
    simp only [completeCycle, hrec, hok, if_true]
  have hrow := exec_targetRelease hcycle hphase n
  rw [hfail, failCycle_read (s := s.modVen answerReleased) hrecs hbus hbroken hx h4] at hrow
  obtain ⟨t, ht, ⟨⟨a, hven⟩, hsvc⟩, hrest⟩ := does_afterCycle (fun v => venOver s.svc.unlock (answerReleased v)) _ hrow rfl hw
  refine ⟨t, ht, ⟨?_, hsvc⟩, hrest⟩
  rw [hven]
  rfl

/-- An answer that does not end is a violation of case 3, and ends its read (R253). -/
theorem releaseTimeout_violates :
    Reports .releaseTimeout s 0x0703 ([BitVec.ofNat 8 c.window.val, 3] ++ be 4 c.addr.toNat) [.ven, .svc] fun t =>
      t.ven.cycle = none ∧ t.svc.recs = [] ∧ t.ven.violations = vmod s.ven.violations c.window satInc := by
  obtain ⟨u, hu⟩ : ∃ u, u = raise (s.modVen (violated c)) 0x0703 ([BitVec.ofNat 8 c.window.val, 3] ++ be 4 c.addr.toNat) := ⟨_, rfl⟩
  have hn : Noted (s.modVen (violated c)) u := hu ▸ raise_noted _ _ _
  have hven : u.ven = violated c s.ven := hn.untouched (p := .ven) (by decide)
  have hrecs' : u.svc.recs = [x] := (congrArg Prod.fst hn.localView).trans hrecs
  have h4' : present u 4 = true := (present_congr (hn.untouched (p := .pow) (by decide)) 4).trans h4
  have hidle : (venOver u.svc.unlock u.ven).waiting = none := (congrArg Veneer.waiting hven).trans hw
  have hrow : exec .releaseTimeout s = done s (beginWaiting (afterBridge (failCycle u 0x12))) := by
    refine congrArg (done s) ?_
    simp only [hcycle, hphase, beq_self_eq_true, if_true, hu]
    rfl
  rw [failCycle_read hrecs' hbus hbroken hx h4', afterCycle rfl hidle, driveAgain_eq] at hrow
  refine reports_then hrow (u := s.modVen (violated c)) (fun p hp => ?_) rfl (fun p hp => ?_) (by decide) (by decide) ⟨rfl, rfl, ?_⟩
  · exact Part.untouched_modVen s _ (by rintro rfl; simp at hp)
  · have hpven : p ≠ .ven := by rintro rfl; simp at hp
    have hpsvc : p ≠ .svc := by rintro rfl; simp at hp
    rw [← hu]
    exact Part.untouched_trans (Part.untouched_trans (Part.untouched_modVen u _ hpven) (Part.untouched_modSvc _ _ hpsvc))
      (Part.untouched_modVen _ _ hpven)
  · exact congrArg Veneer.violations hven
end

/-- Settles O40: an answer moves the cycle to its release; the release, or its timeout, ends the only request, whose session decides on
the CPL. -/
theorem targetsAnswerCycles : Obligations.TargetsAnswerCycles := by
  intro s c hcycle
  refine ⟨fun data ed ld hphase hloop hlocal => ⟨fun hread => ?_, ?_⟩, ?_⟩
  · exact targetAnswer_ready hcycle hphase hloop hlocal hread data ed ld
  · exact targetAnswer_fault hcycle hphase hloop hlocal data ed ld
  · intro x n hrecs hbus hcls hbroken hcredit hphase hw h4
    have hx : CreditedRead x := ⟨hcls, hcredit⟩
    have hready := targetRelease_ok hcycle hphase hrecs hbus hbroken hx h4 hw
    have hfault := targetRelease_fault hcycle hphase hrecs hbus hbroken hx h4 hw
    refine ⟨fun hstale hend => ?_, fun hstale hok hlast => ?_, fun hstale hok => ?_,
      releaseTimeout_violates hcycle hphase hrecs hbus hbroken hx h4 hw⟩
    · cases hok : c.ok with
      | true =>
        obtain ⟨t, ht, ⟨hfree, -, hsvc⟩, hrest⟩ := hready hok (hend.resolve_left (by simp [hok])) n
        exact ⟨t, ht, ⟨hfree, by rw [hsvc]; rfl, by rw [hsvc]; exact if_pos hstale⟩, hrest⟩
      | false =>
        obtain ⟨t, ht, ⟨hfree, hsvc⟩, hrest⟩ := hfault hok n
        exact ⟨t, ht, ⟨hfree, by rw [hsvc]; rfl, by rw [hsvc]; exact if_pos hstale⟩, hrest⟩
    · obtain ⟨t, ht, ⟨hfree, hseen, hsvc⟩, hrest⟩ := hready hok hlast n
      exact ⟨t, ht, ⟨hfree, hseen, by rw [hsvc]; rfl, by rw [hsvc]; exact if_neg (by simp [cycleDone, hstale])⟩, hrest⟩
    · obtain ⟨t, ht, ⟨hfree, hsvc⟩, hrest⟩ := hfault hok n
      exact ⟨t, ht, ⟨hfree, by rw [hsvc]; rfl, by rw [hsvc]; exact if_neg (by simp [hstale])⟩, hrest⟩

end Sys2Proof.Machine
end

section
/-! Bus masters: answers and activity on the idle bus, grants (R246, R254, R257, R259, R261). -/

namespace Sys2Proof.Machine

/-! ### The idle bus -/

/-- Once the bus is idle a waiting VRST line begins (R246, R261). -/
theorem beginWaiting_reset {s : State} (h : busIdle s = true) (hw : s.ven.waiting = some .reset) :
    beginWaiting s = s.modVen fun v => { v with afterGrant := false, waiting := none, vrst := true } := by
  have hdrive : driveAgain s = s.modVen fun v => { v with afterGrant := false } := if_pos h
  have hidle : busIdle (s.modVen fun v => { v with afterGrant := false }) = true := h
  simp only [beginWaiting, hdrive, hidle, Bool.true_eq_false, if_false, modVen_ven, hw]
  rfl

/-- The Veneer logic with a master granted (R257). -/
def granted (m : Fin 4) (v : Veneer) : Veneer := { v with afterGrant := false, waiting := none, grant := some m, grantLast := m }

/-- On the idle bus a GRANT line grants at once (R246, R257). -/
theorem wantBus_grants {s : State} {mask : BitVec 4} {m : Fin 4} (h : busIdle s = true) (hm : grantable s mask = some m) (action : Nat) :
    wantBus s action (.grant mask) = s.modVen (granted m) := by
  have hdrive : driveAgain (s.modVen fun v => { v with waiting := some (.grant mask) }) =
    s.modVen fun v => { v with waiting := some (.grant mask), afterGrant := false } := if_pos h
  have hidle : busIdle (s.modVen fun v => { v with waiting := some (.grant mask), afterGrant := false }) = true := h
  have hmaster : grantable (s.modVen fun v => { v with waiting := some (.grant mask), afterGrant := false }) mask = some m := hm
  rw [wantBus_idle h]
  simp only [beginWaiting, hdrive, hidle, Bool.true_eq_false, if_false, modVen_ven, hmaster]
  rfl

/-- The Veneer logic with VRDY_N or VFLT_N seen on the idle bus (R254). -/
def answeredIdle (n : Nat) (v : Veneer) : Veneer := { v with seen := v.seen ||| BitVec.ofNat 13 n, idleRdy := satInc v.idleRdy }

/-- The Veneer logic with a master's activity seen without a grant (R259). -/
def activitySeen (signals : BitVec 13) (v : Veneer) : Veneer :=
  { v with noGrant := satInc v.noGrant, seen := signals &&& 0xFF, breq := signals.extractLsb' 9 4 }

/-- The Veneer logic with no signal of the bus seen asserted (R241). -/
def unseen (v : Veneer) : Veneer := { v with seen := 0 }

section
variable {s : State} (hgrant : s.ven.grant = none) (hcycle : s.ven.cycle = none)
include hgrant hcycle

theorem busIdle_unseen : busIdle (s.modVen unseen) = true := by
  simp [busIdle, unseen, hgrant, hcycle]

variable (h45 : domOn s 45 = true)
include h45

/-- VRDY_N or VFLT_N on an idle bus is counted and reported (R254). -/
theorem readyWhileIdle_reports {rdy flt : Bool} (hans : (rdy || flt) = true) (hseen : s.ven.seen &&& 0x3D = 0) :
    Reports (.readyWhileIdle rdy flt) s 0x0704 (be 2 (answerBits rdy flt)) [.ven] fun t =>
      t.ven = answeredIdle (answerBits rdy flt) s.ven := by
  refine reports_modVen _ (congrArg (done s) ?_)
  rw [if_pos (by simpa [hans, h45, hgrant, hcycle] using hseen)]
  rfl

/-- Activity of a master without a grant is counted and reported (R259). -/
theorem activityWithoutGrant_reports {v : BitVec 13} (hv : v &&& 0x3D ≠ 0) (hafter : s.ven.afterGrant = false) :
    Reports (.activityWithoutGrant v) s 0x0712 (be 2 v.toNat) [.ven] fun t => t.ven = activitySeen v s.ven := by
  have hbreq : BitVec.ofNat 4 (v.toNat / 512) = v.extractLsb' 9 4 := by
    refine BitVec.eq_of_toNat_eq ?_
    simp [BitVec.extractLsb'_toNat, Nat.shiftRight_eq_div_pow]
  refine reports_modVen (activitySeen v) (congrArg (done s) ?_)
  rw [if_pos (by simpa [h45, hcycle, hgrant, hafter] using hv), hbreq]
  rfl

variable (hholding : s.ven.holding = false) (hlocal : NothingLocal s)
include hholding

/-- The bus seen idle: what has waited for that begins (R246, R257). -/
theorem exec_veneerBusIdle : exec .veneerBusIdle s = done s (afterBridge (beginWaiting (s.modVen unseen))) := by
  refine congrArg (done s) ?_
  rw [if_pos (by simp [h45, hcycle, hgrant, hholding])]
  rfl

include hlocal

/-- With no line waiting the outputs are driven again (R257). -/
theorem veneerBusIdle_frees (hw : s.ven.waiting = none) :
    Does .veneerBusIdle s [.ven] fun t => t.ven = { unseen s.ven with afterGrant := false } := by
  have hdrive : driveAgain (s.modVen unseen) = (s.modVen unseen).modVen fun v => { v with afterGrant := false } :=
    if_pos (busIdle_unseen hgrant hcycle)
  refine does_modVen (fun v => { unseen v with afterGrant := false }) ((exec_veneerBusIdle hgrant hcycle h45 hholding).trans ?_)
  rw [beginWaiting_none (s := s.modVen unseen) hw, hdrive]
  exact congrArg (done s) (afterBridge_nothing hlocal (localView_modVen (s.modVen unseen) _))

/-- A waiting VRST line asserts VRST_N (R246, R261). -/
theorem veneerBusIdle_resets (hw : s.ven.waiting = some .reset) : Does .veneerBusIdle s [.ven] fun t =>
    t.ven = { unseen s.ven with afterGrant := false, waiting := none, vrst := true } := by
  refine does_modVen (fun v => { unseen v with afterGrant := false, waiting := none, vrst := true })
    ((exec_veneerBusIdle hgrant hcycle h45 hholding).trans ?_)
  rw [beginWaiting_reset (s := s.modVen unseen) (busIdle_unseen hgrant hcycle) hw]
  exact congrArg (done s) (afterBridge_nothing hlocal (localView_modVen (s.modVen unseen) _))
end

/-! ### Grants -/

/-- Time that passes leaves the Veneer logic. -/
theorem elapseTo_ven (n : Nat) (s : State) : (elapseTo n s).ven = s.ven :=
  TimeBlind.elapseTo (g := State.ven)
    ⟨fun _ _ _ => rfl, fun _ => rfl, fun _ _ _ => rfl, fun _ _ _ => rfl, fun _ _ => rfl, fun hn => by rw [hn.1]; rfl⟩
    (fun _ _ => rfl) n s

/-- With one master's request seen no other master is seen to request. -/
theorem bit_onlyRequest (m j : Fin 4) : bit (BitVec.ofNat 4 (2 ^ m.val)) j.val = decide (j = m) := by
  revert m j
  decide

/-- A master of a GRANT line's target (R257). -/
theorem bit_grantMask (b : Byte) (m : Fin 4) : bit (BitVec.ofNat 4 b.toNat) m.val = b.getLsbD m.val := by
  rw [bit_eq_getLsbD, BitVec.getLsbD_ofNat, decide_eq_true m.isLt, Bool.true_and]
  rfl

section
variable {s : State} {m : Fin 4} {mask : BitVec 4} (hreq : s.ven.breq = BitVec.ofNat 4 (2 ^ m.val))
include hreq

/-- The only master that requests is granted where the line names it and it is enabled (R257). -/
theorem grantable_only (hmask : bit mask m.val = true) (hen : mstEn s m.val = true) (hfree : s.svc.holder = none)
    (hloop : s.test.loopVen = 0) : grantable s mask = some m := by
  have hgo : ¬ (s.svc.holder.isSome || s.test.loopVen != 0) = true := by simp [hfree, hloop]
  rw [grantable, if_neg hgo]
  cases hfind : ((upto 4).map fun i => (Fin.ofNat 4 (s.ven.grantLast.val + 1 + i) : Fin 4)).find? fun m =>
      bit mask m.val && mstEn s m.val && bit s.ven.breq m.val with
  | none =>
    have hno := List.find?_eq_none.mp hfind m (mem_roundRobin s.ven.grantLast m)
    rw [hmask, hen, hreq, bit_onlyRequest] at hno
    exact absurd (by simp) hno
  | some j =>
    have hj := List.find?_some hfind
    rw [hreq, bit_onlyRequest, Bool.and_eq_true, decide_eq_true_eq] at hj
    rw [hj.2]

/-- Nothing is granted where the line does not name it, it is not enabled, or a session holds the lock (R232, R257). -/
theorem grantable_none (h : bit mask m.val = false ∨ mstEn s m.val = false ∨ s.svc.holder ≠ none) : grantable s mask = none := by
  unfold grantable
  split
  · rfl
  · next hgo =>
    refine List.find?_eq_none.mpr fun j _ hj => ?_
    rw [hreq, bit_onlyRequest, Bool.and_eq_true, Bool.and_eq_true, decide_eq_true_eq] at hj
    obtain ⟨⟨hmask, hen⟩, rfl⟩ := hj
    simp_all
end

section
variable {s v u : State} {idx : Nat} {l : Line} {requests : BitVec 4} (h45 : domOn s 45 = true)
  (hv : v = { s with ven := { s.ven with breq := requests } }) (hb : LineBegins v u 5 idx 0x41 l)
include hv hb

/-- The requests seen still stand at the line's start tick. -/
theorem grantLine_requests : u.ven.breq = requests := by
  obtain ⟨_, _, _, hu, _⟩ := hb
  rw [hu, elapseTo_ven, hv]

include h45

theorem exec_grantLine : exec (.grantLine idx requests) s = done s
    (if (grantable (lineBegun u 5 idx) (BitVec.ofNat 4 l.target.toNat)).isNone then lineBegun u 5 idx
      else wantBus ((lineBegun u 5 idx).modVen fun v => { v with serving := some (idx, 16) }) 0x41
        (.grant (BitVec.ofNat 4 l.target.toNat))) := by
  refine congrArg (done s) ?_
  rw [if_pos h45]
  subst hv
  exact startLine_begins hb _

/-- The state at the start tick of a GRANT line that has something to start. -/
def grantServed (u : State) (idx : Nat) : State := (lineBegun u 5 idx).modVen fun v => { v with serving := some (idx, 16) }

/-- A GRANT line grants the idle bus to the master that requests it (R257). -/
theorem grantLine_grants {m : Fin 4} (hreq : requests = BitVec.ofNat 4 (2 ^ m.val)) (hmask : l.target.getLsbD m.val = true)
    (hen : mstEn u m.val = true) (hfree : u.svc.holder = none) (hloop : u.test.loopVen = 0) (hidle : busIdle u = true) :
    Begins (.grantLine idx requests) s u 5 idx [.ven] fun t => t.ven = { u.ven with
      grant := some m, grantLast := m, serving := some (idx, 16), waiting := none, afterGrant := false } := by
  have hm : grantable u (BitVec.ofNat 4 l.target.toNat) = some m :=
    grantable_only ((grantLine_requests hv hb).trans hreq) ((bit_grantMask _ m).trans hmask) hen hfree hloop
  have hm' : grantable (lineBegun u 5 idx) (BitVec.ofNat 4 l.target.toNat) = some m := hm
  have hrow := exec_grantLine h45 hv hb
  rw [if_neg (by rw [hm']; simp)] at hrow
  have hwant := wantBus_grants (s := grantServed u idx) hidle hm 0x41
  exact begins_of (hrow.trans (congrArg (done s) hwant)) rfl (by decide) fun p hp =>
    Part.untouched_trans (Part.untouched_modVen _ _ (by rintro rfl; simp at hp)) (Part.untouched_modVen _ _ (by rintro rfl; simp at hp))

/-- A GRANT line whose master cannot be granted is empty (R257). -/
theorem grantLine_empty {m : Fin 4} (hreq : requests = BitVec.ofNat 4 (2 ^ m.val))
    (h : l.target.getLsbD m.val = false ∨ mstEn u m.val = false ∨ u.svc.holder ≠ none) :
    Begins (.grantLine idx requests) s u 5 idx [] fun _ => True := by
  have hnone : grantable (lineBegun u 5 idx) (BitVec.ofNat 4 l.target.toNat) = none :=
    grantable_none (m := m) ((grantLine_requests hv hb).trans hreq) (by rwa [bit_grantMask])
  have hrow := exec_grantLine h45 hv hb
  rw [if_pos (by rw [hnone]; rfl)] at hrow
  exact begins_empty hrow
end

/-- The Veneer logic as VBGNT_N is negated, a master whose VALE is high still seen (R257). -/
def grantOver (requests : BitVec 4) (vale : Bool) (v : Veneer) : Veneer :=
  { v with seen := v.seen ||| (if vale then 1 else 0), breq := requests, grant := none, afterGrant := true }

theorem busIdle_grantOver (s : State) (requests : BitVec 4) (vale : Bool) : busIdle (s.modVen (grantOver requests vale)) = true ↔
    vale = false ∧ s.ven.seen &&& 0xFD = 0 ∧ s.ven.cycle = none := by
  cases vale with
  | false => simp [busIdle, grantOver]
  | true =>
    have hbit : (s.ven.seen ||| 1#13) &&& 0xFD#13 ≠ 0#13 := fun h => by
      have := congrArg (fun x : BitVec 13 => x.getLsbD 0) h
      simp at this
    simp [busIdle, grantOver, hbit]

/-- The end of a grant lets the outputs be driven again where the bus is idle (R257). -/
theorem grantEnd_ends {s : State} {m : Fin 4} (hgrant : s.ven.grant = some m) (hw : s.ven.waiting = none) (requests : BitVec 4)
    (vale : Bool) : Does (.grantEnd ⟨requests, vale⟩) s [.ven] fun t =>
      t.ven = { grantOver requests vale s.ven with afterGrant := !busIdle (s.modVen (grantOver requests vale)) } := by
  have hx : exec (.grantEnd ⟨requests, vale⟩) s = done s (beginWaiting (s.modVen (grantOver requests vale))) := by
    refine congrArg (done s) ?_
    rw [if_pos (by rw [hgrant]; rfl)]
    cases vale with
    | false =>
      have hsame : s.ven.seen ||| 0 = s.ven.seen := BitVec.or_zero
      simp only [State.modVen, grantOver, Bool.false_eq_true, if_false, hsame]
    | true => rfl
  rw [beginWaiting_none (s := s.modVen (grantOver requests vale)) hw, driveAgain_eq] at hx
  exact does_modVen (fun v => { grantOver requests vale v with afterGrant := !busIdle (s.modVen (grantOver requests vale)) }) hx

end Sys2Proof.Machine
end

section
/-! Cycles of the granted master (R221, R258, R263). -/

namespace Sys2Proof.Machine

/-! ### A strobe -/

/-- The Veneer logic with a strobe of lane 0 seen, VALE no longer. -/
def strobeSeen (v : Veneer) : Veneer := { v with seen := v.seen &&& 0x1FFE ||| 4 }

/-- A cycle of VUP_CFG's page is one whose address has it in its upper half (R258). -/
theorem page_eq_iff (addr : BitVec 32) (up : R40) :
    addr.toNat / 65536 = fld up 39 24 ↔ addr.extractLsb' 16 16 = up.extractLsb' 24 16 := by
  have haddr : (addr.extractLsb' 16 16).toNat = addr.toNat / 65536 := by
    rw [BitVec.extractLsb'_toNat, Nat.shiftRight_eq_div_pow]
    exact Nat.mod_eq_of_lt (Nat.div_lt_of_lt_mul addr.isLt)
  rw [← haddr, fld_eq_extract]
  exact BitVec.toNat_inj

/-- The strobe of lane 0 alone names one byte, in every width (R258). -/
theorem strobeGroup_first (s : State) (m : Nat) : strobeGroup 1 (masterBytes s m) = some (0, 1) := by
  have hwidth : decide (0 + 1 ≤ masterBytes s m) = true := by
    rw [masterBytes]
    split_ifs <;> rfl
  rw [strobeGroup, List.find?_cons, hwidth]
  rfl

/-- Where lane 0 of a master's cycle lies in the upstream shadow buffer (R258). -/
def masterOffset (s : State) (m : Nat) (addr : BitVec 32) : Nat :=
  (addr.toNat % 65536 / masterBytes s m * masterBytes s m) ^^^ masterXor s m

theorem masterOffset_lt (s : State) (m : Nat) (addr : BitVec 32) : masterOffset s m addr < 65536 := by
  have hxor : masterXor s m < 2 ^ 16 := by
    rw [masterXor]
    split_ifs <;> decide
  have hword : addr.toNat % 65536 / masterBytes s m * masterBytes s m < 2 ^ 16 :=
    (Nat.div_mul_le_self _ _).trans_lt (Nat.mod_lt _ (by decide))
  exact Nat.xor_lt_two_pow hword hxor

section
variable {s : State} {m : Fin 4} {addr : BitVec 32} (data : BitVec 32)

/-- A master's cycle with the strobe of lane 0 is answered with that strobe seen. -/
theorem exec_oldMasterCycle (hm : servedMaster s.ven = some m) (hfree : s.ven.holding = false) (write : Bool) :
    exec (.oldMasterCycle write addr 1 data) s = done s (answerMaster (s.modVen strobeSeen) m write addr 1 data) := by
  refine congrArg (done s) ?_
  simp only [hm, hfree]
  rfl

/-- The Veneer logic with a read of the upstream shadow buffer answered (R258). -/
def readServed (m : Fin 4) (a : Nat) (v : Veneer) : Veneer :=
  { v with holding := true, driven := [Mem.read v.shadow a], served := vmod v.served m satInc }

/-- The Veneer logic with a write held until its strobes' release (R258). -/
def writeHeld (m : Fin 4) (a : Nat) (data : BitVec 32) (v : Veneer) : Veneer :=
  { v with holding := true, upwDue := some (m, BitVec.ofNat 16 a, [data.extractLsb' 0 8]) }

/-- The Veneer logic with a cycle refused with VFLT_N (R258). -/
def masterRefused (m : Fin 4) (v : Veneer) : Veneer :=
  { v with holding := true, faulting := true, refused := vmod v.refused m satInc }

variable (hup : s.ven.up[23] = true)
include hup

/-- A page that is not VUP_CFG's is refused (R258). -/
theorem answerMaster_otherPage (hpage : addr.extractLsb' 16 16 ≠ s.ven.up.extractLsb' 24 16) (write : Bool) :
    answerMaster s m write addr 1 data = raise (s.modVen (masterRefused m)) 0x0710 ([BitVec.ofNat 8 m.val] ++ be 4 addr.toNat ++ [2]) := by
  have hbit : bit s.ven.up 23 = true := (bit_eq_getElem _ (by decide)).trans hup
  have hother : addr.toNat / 65536 ≠ fld s.ven.up 39 24 := fun h => hpage ((page_eq_iff addr s.ven.up).mp h)
  rw [answerMaster, if_neg (by simp [hbit]), if_pos hother]
  rfl

variable (hpage : addr.extractLsb' 16 16 = s.ven.up.extractLsb' 24 16)
include hpage

theorem answerMaster_read :
    answerMaster s m false addr 1 data = s.modVen (readServed m (masterOffset s m.val addr)) := by
  have hbit : bit s.ven.up 23 = true := (bit_eq_getElem _ (by decide)).trans hup
  have hsame : addr.toNat / 65536 = fld s.ven.up 39 24 := (page_eq_iff addr s.ven.up).mpr hpage
  rw [answerMaster, if_neg (by simp [hbit]), if_neg (by simp [hsame]), strobeGroup_first]
  rfl

theorem answerMaster_write (hroom : upwTaken s < 32) :
    answerMaster s m true addr 1 data = s.modVen (writeHeld m (masterOffset s m.val addr) data) := by
  have hbit : bit s.ven.up 23 = true := (bit_eq_getElem _ (by decide)).trans hup
  have hsame : addr.toNat / 65536 = fld s.ven.up 39 24 := (page_eq_iff addr s.ven.up).mpr hpage
  have hstart : addr.toNat % 65536 / masterBytes s m.val * masterBytes s m.val ^^^ masterXor s m.val ≤ 65536 :=
    (masterOffset_lt s m.val addr).le
  have hbyte : by1 data.toNat = data.extractLsb' 0 8 := BitVec.eq_of_toNat_eq (by simp [by1, BitVec.extractLsb'_toNat])
  rw [answerMaster, if_neg (by simp [hbit]), if_neg (by simp [hsame]), strobeGroup_first]
  simp only [↓reduceIte, Nat.not_le.mpr hroom, zero_add, upto, List.range_one, List.map_cons, List.map_nil, add_zero, List.foldl_cons,
    min_eq_right hstart, List.foldl_nil, BEq.rfl, List.filter_cons_of_pos, List.filter_nil, pow_zero, Nat.div_one, hbyte,
    List.flatten_cons, List.flatten_nil, List.append_nil]
  rfl
end

/-! ### The strobes' release -/

/-- The Veneer logic with the strobes released and the answer with them (R258). -/
def strobesReleased (v : Veneer) : Veneer :=
  { v with seen := v.seen &&& 0x1FC3, holding := false, faulting := false, driven := [], upwDue := none }

/-- The UPW record of a write of one byte (R221). -/
def byteUpw (s : State) (k : SessionId) (m : Fin 4) (off : BitVec 16) (b : Byte) : OutRec :=
  { session := k, credit := none
    bytes := [0x12, 1, 0, 32] ++ be 2 s.svc.sessions[k].upwNum.toNat ++ [BitVec.ofNat 8 m.val, 0] ++
      be 5 (0x3000000000 + off.toNat) ++ [0, 0, 1] ++ stampBytes s.now ++ [0, 0, b, 0, 0, 0] }

/-- A session that has given a UPW record its NUMBER (R221). -/
def numbered (x : Session) : Session := { x with upwNum := x.upwNum + 1 }

/-- A UPW record crosses to a bridge that is present, for a session that is bound (R45, R221, R236). -/
theorem buildUpw_byte {s : State} {k : SessionId} (h4 : present s 4 = true) (hk : s.svc.sessions[k].addr.isSome = true) (m : Fin 4)
    (off : BitVec 16) (b : Byte) : buildUpw s k 1 m.val 0 (0x30 * 2 ^ 32 + off.toNat) s.now [b] =
      (s.modSvc fun x => { x with upw := x.upw ++ [byteUpw s k m off b] }).modSession k numbered := by
  have hbound : ¬ s.svc.sessions[k].addr.isNone = true := by simpa [Option.isSome_iff_ne_none] using hk
  have hbytes : [0x12, by1 1] ++ be 2 (28 + 4 * ceilDiv [b].length 4) ++ be 2 s.svc.sessions[k].upwNum.toNat ++ [by1 m.val, by1 0] ++
      be 5 (0x30 * 2 ^ 32 + off.toNat) ++ [0] ++ be 2 [b].length ++ stampBytes s.now ++ [0, 0] ++ pad4 [b] =
        (byteUpw s k m off b).bytes := by
    simp [byteUpw, be, ceilDiv, pad4, by1]
  rw [buildUpw, if_neg (by simp [h4]), if_neg hbound]
  dsimp only
  rw [hbytes]
  rfl

/-- Until the bus is idle nothing that waits for it begins (R246). -/
theorem beginWaiting_busy {s : State} (h : busIdle s = false) : beginWaiting s = s := by
  have hdrive : driveAgain s = s := if_neg (by simp [h])
  rw [beginWaiting, hdrive]
  exact if_pos h

/-- A UPW record numbered is nothing that the bridge serves. -/
theorem localView_upw (s : State) (k : SessionId) (l : List OutRec) :
    localView ((s.modSvc fun x => { x with upw := x.upw ++ l }).modSession k numbered) = localView s := by
  have hbroken : (fun j : SessionId => ((s.modSvc fun x => { x with upw := x.upw ++ l }).modSession k numbered).svc.sessions[j].broken) =
      fun j : SessionId => s.svc.sessions[j].broken := funext fun j => by
    by_cases hj : j = k
    · subst hj
      rw [session_modSession]
      rfl
    · rw [session_modSession_other _ hj]
      rfl
  rw [localView, hbroken]
  rfl

/-- The Veneer logic with a write of a master delivered (R263). -/
def writeDelivered (m : Fin 4) (v : Veneer) : Veneer := { strobesReleased v with delivered := vmod v.delivered m satInc }

section
variable {s : State} {m : Fin 4} (hholding : s.ven.holding = true) (hgrant : s.ven.grant = some m) (hlocal : NothingLocal s)
include hholding hgrant hlocal

/-- With no write due the strobes' release takes the answer off the bus (R258). -/
theorem strobeRelease_answer (hdue : s.ven.upwDue = none) :
    Does .oldMasterStrobeRelease s [.ven] fun t => t.ven = strobesReleased s.ven := by
  have hx : exec .oldMasterStrobeRelease s = done s (afterBridge (beginWaiting (s.modVen strobesReleased))) := by
    refine congrArg (done s) ?_
    rw [if_neg (by simp [hholding]), hdue]
    rfl
  rw [beginWaiting_busy (by simp [busIdle, strobesReleased, hgrant]), afterBridge_nothing hlocal (localView_modVen s _)] at hx
  exact does_modVen _ hx

/-- A write that is due is built into a record of its session as its strobes are released (R221, R258). -/
theorem strobeRelease_write {off : BitVec 16} {b : Byte} {k : SessionId} (hdue : s.ven.upwDue = some (m, off, [b]))
    (hk : k = masterSession s m.val) (hbound : s.svc.sessions[k].addr.isSome = true) (h4 : present s 4 = true) :
    Does .oldMasterStrobeRelease s [.ven, .svc] fun t => t.ven = writeDelivered m s.ven ∧
      t.svc = { s.svc with
        sessions := vmod s.svc.sessions k numbered, upw := s.svc.upw ++ [byteUpw s k m off b] } := by
  have hx : exec .oldMasterStrobeRelease s = done s (afterBridge (beginWaiting
      (buildUpw (s.modVen (writeDelivered m)) k 1 m.val 0 (0x30 * 2 ^ 32 + off.toNat) s.now [b]))) := by
    refine congrArg (done s) ?_
    rw [if_neg (by simp [hholding]), hdue, hk]
    rfl
  have hbuild : buildUpw (s.modVen (writeDelivered m)) k 1 m.val 0 (0x30 * 2 ^ 32 + off.toNat) s.now [b] =
      ((s.modVen (writeDelivered m)).modSvc fun x => { x with upw := x.upw ++ [byteUpw s k m off b] }).modSession k numbered :=
    buildUpw_byte (s := s.modVen (writeDelivered m)) h4 hbound m off b
  rw [hbuild, beginWaiting_busy (by simp [busIdle, writeDelivered, strobesReleased, hgrant]),
    afterBridge_nothing hlocal ((localView_upw _ _ _).trans (localView_modVen s _))] at hx
  refine does_of hx (fun p hp => ?_) ⟨rfl, rfl⟩
  have hven : p ≠ .ven := by rintro rfl; simp at hp
  have hsvc : p ≠ .svc := by rintro rfl; simp at hp
  exact Part.untouched_trans (Part.untouched_modVen s _ hven)
    (Part.untouched_trans (Part.untouched_modSvc _ _ hsvc) (Part.untouched_modSvc _ _ hsvc))
end

/-- Settles O41: on the idle bus each row is one change of the Veneer logic; a GRANT line finds the one master that requests; a strobe of
lane 0 is one byte of the upstream shadow buffer. -/
theorem busMastersAreServed : Obligations.BusMastersAreServed := by
  refine ⟨⟨fun s h45 hgrant hcycle => ⟨fun rdy flt n hans hseen hn => ?_, fun v hv hafter => ?_,
      fun hholding hlocal => ⟨fun hw => ?_, fun hw => ?_⟩⟩,
    fun s m => ⟨fun v u idx l requests h45 hv hb hreq => ⟨fun hmask hen hfree hloop hidle => ?_, fun hno => ?_⟩,
      fun requests vale hgrant hw => ?_⟩⟩,
    fun s m => ⟨fun addr data a hm hfree hup ha => ⟨fun hpage => ?_, fun hpage hroom => ?_, fun write hpage => ?_⟩,
      fun hholding hgrant hlocal => ⟨fun hdue => ?_, fun off b k hdue hk hbound h4 => ?_⟩⟩⟩
  · obtain rfl : n = answerBits rdy flt := by
      subst hn
      cases rdy <;> cases flt <;> rfl
    exact readyWhileIdle_reports hgrant hcycle h45 hans hseen
  · exact activityWithoutGrant_reports hgrant hcycle h45 hv hafter
  · exact veneerBusIdle_frees hgrant hcycle h45 hholding hlocal hw
  · exact veneerBusIdle_resets hgrant hcycle h45 hholding hlocal hw
  · exact grantLine_grants h45 hv hb hreq hmask hen hfree hloop hidle
  · exact grantLine_empty h45 hv hb hreq hno
  · obtain ⟨t, ht, hven, hrest⟩ := grantEnd_ends hgrant hw requests vale
    refine ⟨t, ht, ⟨?_, ?_⟩, hrest⟩
    · rw [hven]
      rfl
    · rw [hven, ← busIdle_grantOver s requests vale, Bool.not_eq_false']
  · refine does_modVen (fun v => readServed m a (strobeSeen v)) ((exec_oldMasterCycle data hm hfree false).trans (congrArg (done s) ?_))
    rw [ha]
    exact answerMaster_read (s := s.modVen strobeSeen) data hup hpage
  · refine does_modVen (fun v => writeHeld m a data (strobeSeen v)) ((exec_oldMasterCycle data hm hfree true).trans (congrArg (done s) ?_))
    rw [ha]
    exact answerMaster_write (s := s.modVen strobeSeen) data hup hpage hroom
  · refine reports_modVen (fun v => masterRefused m (strobeSeen v)) ((exec_oldMasterCycle data hm hfree write).trans (congrArg (done s) ?_))
    exact answerMaster_otherPage (s := s.modVen strobeSeen) data hup hpage write
  · obtain ⟨t, ht, hven, hrest⟩ := strobeRelease_answer hholding hgrant hlocal hdue
    exact ⟨t, ht, hven.trans (by rw [strobesReleased, ← hdue]), hrest⟩
  · exact strobeRelease_write hholding hgrant hlocal hdue hk hbound h4

end Sys2Proof.Machine
end

section
/-! Domains that follow a change of the Veneer configuration, and what ENABLE becoming 0 ends (R262, R400 to R402). -/

namespace Sys2Proof.Machine

/-! ### Domains that are behind -/

/-- Where no domain but some is behind its condition, what holds at first and is kept by switching those holds once all follow, provided
that no condition changes meanwhile. -/
theorem settleDomains_behind {D : Nat → Prop} {s : State}
    (h : ∀ i : Fin 50, ¬ D (i.val + 1) → domWanted s (i.val + 1) = domOn s (i.val + 1))
    {P : State → Prop} (h0 : P s) (hsame : ∀ t, P t → ∀ d, domWanted t d = domWanted s d)
    (hstep : ∀ t d want, D d → P t → P (switchDomain want t d)) : P (settleDomains s) := by
  have key : P (settleDomains s) ∧ ∀ i : Fin 50, ¬ D (i.val + 1) → domOn (settleDomains s) (i.val + 1) = domOn s (i.val + 1) := by
    refine List.foldlRecOn (motive := fun t => P t ∧ ∀ i : Fin 50, ¬ D (i.val + 1) → domOn t (i.val + 1) = domOn s (i.val + 1)) _
      settleDomain ⟨h0, fun _ _ => rfl⟩ ?_
    rintro t ⟨ht, hon⟩ d hd
    obtain ⟨h1, h50⟩ := mem_domainNumbers hd
    obtain ⟨i, rfl⟩ : ∃ i : Fin 50, d = i.val + 1 := ⟨⟨d - 1, by omega⟩, by simp; omega⟩
    rw [settleDomain_eq]
    split
    case isTrue => exact ⟨ht, hon⟩
    case isFalse hne =>
      have hD : D (i.val + 1) := by
        by_contra hno
        exact hne ((hsame t ht _).trans ((h i hno).trans (hon i hno).symm))
      refine ⟨hstep t _ _ hD ht, fun j hj => ?_⟩
      rw [domOn_switchDomain _ _ (by omega) (by omega) (by omega), if_neg (fun e : i.val + 1 = j.val + 1 => hj (e ▸ hD)), hon j hj]
  exact key.1

/-- The Veneer configuration that domains follow, and VEN_CFG as it waits (R262). -/
def veneerConfig (v : Veneer) : R40 × Option R40 × R40 × R40 := (v.cfg, v.cfgNext, v.mst, v.irq)

/-- Of the conditions of Table 16.2 only those of D45 and D46 read the Veneer logic. -/
theorem domWanted_modVen (s : State) (f : Veneer → Veneer) {d : Nat} (hd : d ∉ [45, 46]) :
    domWanted (s.modVen f) d = domWanted s d := by
  unfold domWanted
  dsimp only
  split
  · rfl
  split
  · rfl
  split
  · rfl
  split
  case h_9 | h_10 => exact absurd (by decide) hd
  all_goals rfl

/-- The Veneer domains switched change the Veneer logic alone, and not its configuration (R402). -/
theorem switchDomain_veneer (want : Bool) (s : State) {d : Nat} (hd : d ∈ [45, 46]) : ∃ ds v,
    switchDomain want s d = { s with pow := { s.pow with domains := ds }, ven := v } ∧ veneerConfig v = veneerConfig s.ven := by
  simp only [List.mem_cons, List.not_mem_nil, or_false] at hd
  cases want
  · rcases hd with rfl | rfl
    · exact ⟨_, _, rfl, rfl⟩
    · exact ⟨_, _, rfl, rfl⟩
  · exact ⟨_, s.ven, rfl, rfl⟩

/-- Where only the Veneer domains are behind, their switching changes the Veneer logic alone, and not its configuration. -/
theorem settleDomains_veneer {s : State} (h : ∀ i : Fin 50, i.val + 1 ∉ [45, 46] → domWanted s (i.val + 1) = domOn s (i.val + 1)) :
    ∃ ds v, settleDomains s = { s with pow := { s.pow with domains := ds }, ven := v } ∧ veneerConfig v = veneerConfig s.ven := by
  refine settleDomains_behind (D := fun d => d ∈ [45, 46])
    (P := fun t => ∃ ds v, t = { s with pow := { s.pow with domains := ds }, ven := v } ∧ veneerConfig v = veneerConfig s.ven) h
    ⟨_, _, rfl, rfl⟩ ?_ ?_
  · rintro _ ⟨ds, v, rfl, hv⟩ d
    simp only [veneerConfig, Prod.mk.injEq] at hv
    obtain ⟨hcfg, -, hmst, hirq⟩ := hv
    have hsame : SameConditions s { s with pow := { s.pow with domains := ds }, ven := v } :=
      ⟨rfl, rfl, rfl, Prod.ext hcfg (Prod.ext hmst hirq), fun _ => rfl, rfl, rfl, rfl⟩
    exact domWanted_same hsame (fun _ => rfl) fun _ _ => rfl
  · rintro _ d want hd ⟨ds, v, rfl, hv⟩
    obtain ⟨ds', v', e, hv'⟩ := switchDomain_veneer want { s with pow := { s.pow with domains := ds }, ven := v } hd
    exact ⟨ds', v', e, hv'.trans hv⟩

/-! ### What ENABLE becoming 0 ends -/

/-- Work in the bridge and the Veneer logic that leaves the Veneer configuration and every scan line. -/
structure VeneerWork (changed : List Part) (s x : State) : Prop extends BridgeWork changed s x where
  config : veneerConfig x.ven = veneerConfig s.ven
  lines : x.scan.lines = s.scan.lines

/-- The parts that such work may change. -/
def veneerParts : List Part := [.ven, .svc, .scan, .win, .mbx, .store, .pow]

theorem BridgeWork.mono {c c' : List Part} {s x : State} (h : BridgeWork c s x) (hc : c ⊆ c') : BridgeWork c' s x :=
  { h with rest := fun q hq => h.rest q fun hm => hq (hc hm) }

theorem VeneerWork.refl (changed : List Part) (s : State) : VeneerWork changed s s :=
  { BridgeWork.refl changed s with config := rfl, lines := rfl }

section
variable {s t u : State}

theorem VeneerWork.trans {changed : List Part} (h : VeneerWork changed s t) (k : VeneerWork changed t u) : VeneerWork changed s u :=
  { h.toBridgeWork.trans k.toBridgeWork with config := k.config.trans h.config, lines := k.lines.trans h.lines }

/-- Work that leaves the Veneer logic and the scan engine. -/
theorem VeneerWork.of_bridge (h : BridgeWork [.win, .mbx, .svc, .store] s t) : VeneerWork veneerParts s t :=
  { h.mono (by decide) with
    config := congrArg veneerConfig (h.rest .ven (by decide) : t.ven = s.ven)
    lines := congrArg Scan.lines (h.rest .scan (by decide) : t.scan = s.scan) }

theorem VeneerWork.modVen (s : State) (f : Veneer → Veneer) (hf : veneerConfig (f s.ven) = veneerConfig s.ven) :
    VeneerWork veneerParts s (s.modVen f) := by
  have hbridge : ((f s.ven).cfg, (f s.ven).mst, (f s.ven).irq) = (s.ven.cfg, s.ven.mst, s.ven.irq) :=
    congrArg (fun c : R40 × Option R40 × R40 × R40 => (c.1, c.2.2.1, c.2.2.2)) hf
  exact { BridgeWork.modVen (by decide) s f hbridge with config := hf, lines := rfl }

theorem VeneerWork.modScan (s : State) (f : Scan → Scan) (hf : (f s.scan).lines = s.scan.lines) :
    VeneerWork veneerParts s (s.modScan f) where
  rest q hq := by
    cases q
    case scan => exact absurd (by decide) hq
    all_goals rfl
  rplHead := rfl
  wf := id
  spine := rfl
  source := rfl
  power := rfl
  veneer := rfl
  addrs := rfl
  mode := rfl
  config := rfl
  lines := hf

/-- A chain of such work. -/
theorem VeneerWork.foldl {α : Type} {f : State → α → State} (hf : ∀ s a, VeneerWork veneerParts s (f s a)) (l : List α) (s : State) :
    VeneerWork veneerParts s (l.foldl f s) :=
  foldl_holds (VeneerWork veneerParts s) f l (fun t a h => h.trans (hf t a)) s (VeneerWork.refl _ s)
end

theorem VeneerWork.endRec (s : State) (r : Rec) (st disp : Nat) (data : List Byte) :
    VeneerWork veneerParts s (endRec s r st disp data) := .of_bridge (endRec_work (by simp) s r st disp data)

theorem VeneerWork.writeEntries (k n : Nat) (bs : List Byte) (s : State) : VeneerWork veneerParts s (writeEntries k n bs s) := by
  induction k generalizing n bs s with
  | zero => exact .refl _ s
  | succ k ih => exact (VeneerWork.modScan s _ rfl).trans (ih _ _ _)

theorem VeneerWork.localWrite (s : State) (a : R40) (bs : List Byte) : VeneerWork veneerParts s (localWrite s a bs) := by
  unfold Machine.localWrite
  split
  · exact .writeEntries _ _ _ s
  · exact .modVen s _ rfl
  · exact .refl _ s

/-- What the bridge serves without a cycle (R220). -/
theorem VeneerWork.localServe {s t : State} {r : Rec} (h : localServe s r = some t) : VeneerWork veneerParts s t := by
  have hmark : VeneerWork veneerParts s (s.modSession r.session fun x => { x with broken := false }) :=
    .of_bridge (.modSession (by decide) s _ _ fun _ => rfl)
  have hlease (n : Nat) : VeneerWork veneerParts s (s.modSvc fun b => { b with leaseNs := n }) :=
    .of_bridge (.modSvc (by decide) s _ rfl rfl)
  unfold Machine.localServe at h
  split at h
  · cases h
  · split at h
    · split at h <;> cases h
      exact (VeneerWork.localWrite s _ _).trans (.endRec _ _ _ _ _)
    · split at h <;> cases h
      exact .endRec s _ _ _ _
    · split_ifs at h <;> cases h
      · exact hmark.trans (.endRec _ _ _ _ _)
      · exact .endRec s _ _ _ _
      · exact (hlease _).trans (.endRec _ _ _ _ _)
      · exact .endRec s _ _ _ _

theorem VeneerWork.afterBridge (s : State) : VeneerWork veneerParts s (afterBridge s) := by
  have hserve (n : Nat) (s : State) : VeneerWork veneerParts s (serveLocals n s) := by
    induction n generalizing s with
    | zero => exact .refl _ s
    | succ n ih =>
      unfold serveLocals
      split
      · next t ht =>
        obtain ⟨r, -, hr⟩ := List.exists_of_findSome?_eq_some ht
        exact (VeneerWork.localServe hr).trans (ih t)
      · exact .refl _ s
  exact hserve _ s

theorem VeneerWork.endDisabled (s : State) (r : Rec) : VeneerWork veneerParts s (endDisabled s r) := by
  unfold Machine.endDisabled
  split <;> exact .endRec s _ _ _ _

theorem VeneerWork.disableVeneer (s : State) : VeneerWork veneerParts s (disableVeneer s) := by
  have hbus (f : Veneer → Veneer) (hf : veneerConfig (f s.ven) = veneerConfig s.ven) :
      VeneerWork veneerParts s ((s.modVen f).modSvc fun b => { b with unlock := false }) :=
    (VeneerWork.modVen s f hf).trans (.of_bridge (.modSvc (by decide) _ _ rfl rfl))
  exact ((hbus _ rfl).trans (.foldl .endDisabled _ _)).trans (.afterBridge _)

theorem enterService_config (v : Veneer) (w : Fin 16) : veneerConfig (enterService v w) = veneerConfig v := rfl

/-- VEN_CFG as it is put in force (R262). -/
def cfgForced (v : R40) (x : Veneer) : Veneer := { x with cfg := v, cfgNext := none }

/-- What follows VEN_CFG put in force leaves it so. -/
theorem applyVenCfg_work (s : State) (v : R40) : VeneerWork veneerParts (s.modVen (cfgForced v)) (applyVenCfg s v) := by
  have hservice (x : Veneer) : veneerConfig ((List.finRange 16).foldl enterService x) = veneerConfig x :=
    foldl_keeps veneerConfig enterService _ enterService_config x
  unfold applyVenCfg
  dsimp only
  split
  · exact .disableVeneer _
  · split
    · exact .modVen _ _ (hservice _)
    · exact .refl _ _

end Sys2Proof.Machine
end

section
/-! The Veneer commands (R244, R245, R262, R374, R375). -/

namespace Sys2Proof.Machine

/-! ### Commands that change the Veneer configuration -/

section
variable {s x : State} {r : Req} {g : Veneer → Veneer} {changed : List Part} (hr : Ready s r)
  (h : VeneerWork changed ((begun s r).modVen g) x)
include hr h

theorem VeneerWork.dev_run : x.pow.dev = .run :=
  h.dev.trans ((congrArg Power.dev (begun_pow s r)).trans hr.run)

theorem VeneerWork.present (hi : r.issuer ≠ .twoWire) : present x 4 = true := by
  have hb : Machine.present ((begun s r).modVen g) 4 = true := begun_present hr hi
  simp only [Machine.present, h.domOn, h.absent] at hb ⊢
  exact hb

/-- Domains other than the Veneer's still follow their conditions as the reply is written (R400). -/
theorem VeneerWork.follows (hch : changed ⊆ veneerParts) (op rtag : BitVec 16) (lat : Byte) (rep : Reply) (i : Fin 50)
    (hi : i.val + 1 ∉ [45, 46]) : domWanted (writeReply x r.issuer op r.tag rtag lat rep) (i.val + 1) =
      domOn (writeReply x r.issuer op r.tag rtag lat rep) (i.val + 1) := by
  have hother (q : Part) (hq : q ∉ veneerParts) : q.untouched ((begun s r).modVen g) x := h.rest q fun hm => hq (hch hm)
  have hpaths : x.paths = ((begun s r).modVen g).paths := hother .paths (by decide)
  have hseq : x.seq = ((begun s r).modVen g).seq := hother .seq (by decide)
  have htest : x.test = ((begun s r).modVen g).test := hother .test (by decide)
  have hsame : SameConditions ((begun s r).modVen g) x :=
    { dev := h.dev, active := congrArg Seqr.active hseq, mode := h.mode, ven := h.veneer, scan := fun l => by rw [h.lines]
      loops := congrArg anyLoop htest, sync := congrArg Test.loopSync htest, source := h.source }
  obtain ⟨_, _, _, e, _⟩ := writeReply_cases x r.issuer (h.present hr) op r.tag rtag lat rep
  calc domWanted (writeReply x r.issuer op r.tag rtag lat rep) (i.val + 1)
      = domWanted x (i.val + 1) := by rw [e]; exact domWanted_congr rfl rfl rfl rfl rfl rfl rfl rfl _
    _ = domWanted ((begun s r).modVen g) (i.val + 1) := domWanted_same hsame (fun q => by rw [hpaths]) fun q _ => by rw [hpaths]
    _ = domWanted (begun s r) (i.val + 1) := domWanted_modVen _ g hi
    _ = domOn x (i.val + 1) := (begun_settled hr i).trans (h.domOn _).symm
    _ = domOn (writeReply x r.issuer op r.tag rtag lat rep) (i.val + 1) := by rw [e]; rfl

/-- A command that sets the Veneer configuration: D45 and D46 may follow, and of the parts that a reply changes its work changes all or
none. -/
theorem VeneerWork.performs {c : Instr} {op : Nat} {f : Req → State → Result} {P : State → Prop}
    (hx : exec c s = done s (command op f r s)) (hf : f r (begun s r) = okay x) (hch : changed ⊆ veneerParts)
    (hown : [Part.ven, .pow] ⊆ changed)
    (hreply : (∀ q ∈ [Part.win, .mbx, .svc], q ∈ changed) ∨ ∀ q ∈ [Part.win, .mbx, .svc], q ∉ changed)
    (hP : ∀ t : State, veneerConfig t.ven = veneerConfig (g s.ven) → P t) : Performs c op r s [] changed P := by
  have hpres := h.present hr
  have hrest (q : Part) (hq : q ∉ changed) : q.untouched (begun s r) x :=
    Part.untouched_trans (Part.untouched_modVen _ g fun e => hq (hown (by simp [e]))) (h.rest q hq)
  obtain ⟨ds, v, hfin, hv⟩ := settleDomains_veneer (h.follows hr hch (BitVec.ofNat 16 op) r.tag 0 ⟨0, []⟩)
  refine ⟨_, hx, ?_, hP _ ?_, fun q hq => ?_⟩
  all_goals rw [command_taken hr, hf]
  · refine finish_replied s (h.wf ?_) (h.rplHead.trans (begun_rplHead s r)) (h.spine.trans ?_) (Or.inr (h.dev_run hr)) hpres
      fun k _ => (congrFun h.addrs k).trans (begun_addr s r k)
    · rw [modVen_mbx, begun_mbx, hr.wf]
    · rw [modVen_time, begun_time]
  · have hven := writeReply_ven x r.issuer hpres (BitVec.ofNat 16 op) r.tag r.tag 0 ⟨0, []⟩
    have hconfig : veneerConfig x.ven = veneerConfig (g s.ven) := by rw [h.config, modVen_ven, begun_ven]
    simp only [okay, okWith, finish, settle_ven, hfin]
    rw [hv, hven, hconfig]
  · have hout : q.untouched (writeReply x r.issuer (BitVec.ofNat 16 op) r.tag r.tag 0 ⟨0, []⟩)
        (finish r.issuer (BitVec.ofNat 16 op) r r.tag 0 (okay x)) := by
      simp only [okay, okWith, finish, hfin]
      cases q
      case ven | pow => exact absurd (hown (by decide)) hq
      all_goals rfl
    by_cases hno : q ∈ [Part.win, .mbx, .svc]
    · rcases hreply with hall | hnone
      · exact absurd (hall q hno) hq
      · exact Part.same_reply hr (fun q' hq' => hrest q' (hnone q' hq')) hpres hno hout
    · refine Part.same_settle s (Part.untouched_trans (Part.untouched_begun s r (by simp_all)) ?_) hno
      exact Part.untouched_trans (hrest q hq) (Part.untouched_trans (Part.untouched_writeReply hpres _ _ _ _ _ hno) hout)
end

/-- A command that sets fields of the Veneer logic, the configuration of masters or interrupt lines among them. -/
theorem performs_veneerConfig {c : Instr} {op : Nat} {r : Req} {s : State} {f : Req → State → Result} {P : State → Prop}
    (g : Veneer → Veneer) (hx : exec c s = done s (command op f r s)) (hr : Ready s r)
    (hf : f r (begun s r) = okay ((begun s r).modVen g)) (hP : ∀ t : State, veneerConfig t.ven = veneerConfig (g s.ven) → P t) :
    Performs c op r s [] [.ven, .pow] P :=
  (VeneerWork.refl [.ven, .pow] ((begun s r).modVen g)).performs hr hx hf (by decide) (by decide) (Or.inr (by decide)) hP

/-! ### Windows put in force -/

/-- A window's values as they are put in force (R245). -/
def winForced (w : Fin 16) (base c : R40) (x : Veneer) : Veneer :=
  let x := if winLog x.win[w] = 0 ∧ winLog c ≠ 0 then enterService x w else x
  { x with base := vmod x.base w fun _ => base, win := vmod x.win w fun _ => c, winNext := x.winNext.filter fun p => p.1 != w }

theorem winForced_bridge (w : Fin 16) (base c : R40) (x : Veneer) :
    ((winForced w base c x).cfg, (winForced w base c x).mst, (winForced w base c x).irq) = (x.cfg, x.mst, x.irq) := by
  unfold winForced
  split <;> rfl

/-- The window takes its values, the others keep theirs. -/
theorem winForced_get (w : Fin 16) (base c : R40) (x : Veneer) (i : Fin 16) :
    (winForced w base c x).base[i] = (if i = w then base else x.base[i]) ∧
      (winForced w base c x).win[i] = if i = w then c else x.win[i] := by
  have hbase : (winForced w base c x).base = vmod x.base w fun _ => base := by unfold winForced; split <;> rfl
  have hwin : (winForced w base c x).win = vmod x.win w fun _ => c := by unfold winForced; split <;> rfl
  rw [hbase, hwin]
  by_cases h : i = w
  · subst h
    exact ⟨(vmod_same _ _ _).trans (if_pos rfl).symm, (vmod_same _ _ _).trans (if_pos rfl).symm⟩
  · rw [if_neg h, if_neg h]
    exact ⟨vmod_get_other _ _ _ _ (Ne.symm h), vmod_get_other _ _ _ _ (Ne.symm h)⟩

/-! ### The commands -/

section
variable {s : State} {r : Req}

/-- VEN_SET with a value that stands takes it, or leaves it waiting for the end of the VEN line in progress (R262). -/
theorem doVenSet_takes {v : R40} (hlen : r.len = 5) (hv : v = pack 40 [(fld (img r.payload 0) 39 7, 7)]) (hok : venCfgOk v = true)
    (hdiv : vclkDiv v = 0 → ∀ w : Fin 16, bit (winNow s w).2 29 = false) (hlock : bit v 7 = false → s.svc.holder = none) :
    doVenSet r (begun s r) = if venLineRuns s then okay ((begun s r).modVen fun x => { x with cfgNext := some v })
      else okay (applyVenCfg (begun s r) v) := by
  have hwin : winNow (begun s r) = winNow s := funext fun w => by simp only [winNow, begun_ven]
  have hholder : (begun s r).svc.holder = s.svc.holder := by
    obtain ⟨_, _, _, hb, _⟩ := begun_cases s r
    rw [hb]
  have hruns : venLineRuns (begun s r) = venLineRuns s := by simp only [venLineRuns, begun_seq]
  have hsync : ¬ (vclkDiv v = 0 ∧ (List.finRange 16).any (fun w => bit (winNow s w).2 29) = true) := by
    rintro ⟨h0, hany⟩
    obtain ⟨w, -, hw⟩ := List.any_eq_true.mp hany
    rw [hdiv h0 w] at hw
    exact Bool.false_ne_true hw
  have hfree : ¬ (bit v 7 = false ∧ s.svc.holder.isSome = true) := fun ⟨h7, hs⟩ => by simp [hlock h7] at hs
  subst hv
  simp only [doVenSet, hwin, hholder, hruns]
  rw [if_neg (by simp [hlen, hok]), if_neg hsync, if_neg hfree]

section
variable {v : R40} (hr : Ready s r) (hlen : r.len = 5) (hv : v = pack 40 [(fld (img r.payload 0) 39 7, 7)]) (hok : venCfgOk v = true)
  (hdiv : vclkDiv v = 0 → ∀ w : Fin 16, bit (winNow s w).2 29 = false) (hlock : bit v 7 = false → s.svc.holder = none)
include hr hlen hv hok hdiv hlock

/-- During a VEN line VEN_CFG waits (R262). -/
theorem venSet_waits (hruns : venLineRuns s = true) :
    Performs (.venSet r) 0x0701 r s [] [.ven] fun t => t.ven = { s.ven with cfgNext := some v } := by
  refine performs_modVen (fun x => { x with cfgNext := some v }) rfl hr ?_ rfl
  rw [doVenSet_takes hlen hv hok hdiv hlock, if_pos hruns]

/-- With no VEN line in progress VEN_CFG takes effect at once (R262). -/
theorem venSet_takes (hruns : venLineRuns s = false) :
    Performs (.venSet r) 0x0701 r s [] veneerParts fun t => t.ven.cfg = v ∧ t.ven.cfgNext = none := by
  have hf : doVenSet r (begun s r) = okay (applyVenCfg (begun s r) v) := by
    rw [doVenSet_takes hlen hv hok hdiv hlock, if_neg (by simp [hruns])]
  refine (applyVenCfg_work (begun s r) v).performs hr rfl hf (by simp) (by decide) (Or.inl (by decide)) fun t ht => ?_
  simp only [veneerConfig, Prod.mk.injEq] at ht
  obtain ⟨hcfg, hnext, -⟩ := ht
  exact ⟨hcfg, hnext⟩
end

section
variable {w : Fin 16} {base c : R40} (hr : Ready s r) (hlen : r.len = 11) (hw : num r.payload 0 1 = w.val)
  (hbase : base = pack 40 [(fld (img r.payload 1) 39 8, 8)]) (hc : c = img r.payload 6)
  (hok : winCfgOk base c (vclkDiv (venCfgNow s)) = true)
include hlen hw hbase hc hok

/-- VWIN_SET with values that stand puts them in force, or leaves them waiting for the end of the line that serves the window (R245). -/
theorem doVwinSet_takes : doVwinSet r (begun s r) =
    if lineServes s w then
      okay ((begun s r).modVen fun x => { x with winNext := (x.winNext.filter fun p => p.1 != w) ++ [(w, base, c)] })
    else okay (applyWin (begun s r) w base c) := by
  have hcfg : venCfgNow (begun s r) = venCfgNow s := by simp only [venCfgNow, begun_ven]
  have hserves : lineServes (begun s r) w = lineServes s w := by simp only [lineServes, begun_ven]
  have hlt : num r.payload 0 1 < 16 := hw ▸ w.isLt
  obtain rfl : w = ⟨num r.payload 0 1, hlt⟩ := Fin.ext hw.symm
  subst hbase hc
  unfold doVwinSet
  dsimp only
  rw [if_neg (by simp [hlen]), dif_pos hlt, hcfg, if_neg (by simp [hok]), hserves]

include hr

/-- A window that the line in progress serves waits (R245). -/
theorem vwinSet_waits (hserves : lineServes s w = true) : Performs (.vwinSet r) 0x0702 r s [] [.ven] fun t =>
    t.ven.base = s.ven.base ∧ t.ven.win = s.ven.win ∧ (w, base, c) ∈ t.ven.winNext := by
  refine (performs_modVen (fun x => { x with winNext := (x.winNext.filter fun p => p.1 != w) ++ [(w, base, c)] }) rfl hr ?_ rfl).mono
    fun t ht => ?_
  · rw [doVwinSet_takes hlen hw hbase hc hok, if_pos hserves]
  · rw [ht]
    exact ⟨rfl, rfl, List.mem_append_right _ (List.mem_singleton_self _)⟩

/-- Any other window takes its values at once (R245). -/
theorem vwinSet_takes (hserves : lineServes s w = false) : Performs (.vwinSet r) 0x0702 r s [] [.ven] fun t =>
    ∀ x : Fin 16, t.ven.base[x] = (if x = w then base else s.ven.base[x]) ∧ t.ven.win[x] = if x = w then c else s.ven.win[x] := by
  refine (performs_modVen (winForced w base c) rfl hr ?_ (winForced_bridge w base c s.ven)).mono fun t ht x => ?_
  · rw [doVwinSet_takes hlen hw hbase hc hok, if_neg (by simp [hserves])]
    rfl
  · rw [ht]
    exact winForced_get w base c s.ven x
end

/-- VMST_SET with maps that stand sets the masters at once (R374). -/
theorem vmstSet_takes (hr : Ready s r) (hlen : r.len = 5)
    (hmap : ∀ m : Fin 4, mapOk (fld (img r.payload 0) (15 + 8 * m.val) (8 + 8 * m.val) / 2 % 4)
      (fld (img r.payload 0) (15 + 8 * m.val) (8 + 8 * m.val) / 8 % 4) = true) :
    Performs (.vmstSet r) 0x0703 r s [] [.ven, .pow] fun t =>
      t.ven.mst = pack 40 ((upto 4).map fun m => (fld (img r.payload 0) (15 + 8 * m) (8 + 8 * m) / 2, 9 + 8 * m)) := by
  have hno : ¬ (r.len.toNat ≠ 5 ∨ (upto 4).any (fun m => !mapOk (fld (img r.payload 0) (15 + 8 * m) (8 + 8 * m) / 2 % 4)
      (fld (img r.payload 0) (15 + 8 * m) (8 + 8 * m) / 8 % 4)) = true) := by
    rintro (h5 | hany)
    · exact h5 (by simp [hlen])
    · obtain ⟨m, hm, hbad⟩ := List.any_eq_true.mp hany
      have hok := hmap ⟨m, List.mem_range.mp hm⟩
      simp [hok] at hbad
  exact performs_veneerConfig
    (fun x => { x with mst := pack 40 ((upto 4).map fun m => (fld (img r.payload 0) (15 + 8 * m) (8 + 8 * m) / 2, 9 + 8 * m)) })
    rfl hr (if_neg hno) fun t ht => congrArg (fun c : R40 × Option R40 × R40 × R40 => c.2.2.1) ht

/-- VIRQ_SET sets the interrupt lines at once (R375). -/
theorem virqSet_takes (hr : Ready s r) (hlen : r.len = 5) : Performs (.virqSet r) 0x0704 r s [] [.ven, .pow] fun t =>
    t.ven.irq = pack 40 [(fld (img r.payload 0) 39 16, 16)] :=
  performs_veneerConfig (fun x => { x with irq := pack 40 [(fld (img r.payload 0) 39 16, 16)] }) rfl hr (if_neg (by simp [hlen]))
    fun t ht => congrArg (fun c : R40 × Option R40 × R40 × R40 => c.2.2.2) ht

theorem vupSet_takes (hr : Ready s r) (hlen : r.len = 5) : Performs (.vupSet r) 0x0705 r s [] [.ven] fun t =>
    t.ven = { s.ven with up := pack 40 [(fld (img r.payload 0) 39 19, 19)] } :=
  performs_modVen (fun x => { x with up := pack 40 [(fld (img r.payload 0) 39 19, 19)] }) rfl hr (if_neg (by simp [hlen])) rfl

theorem shadowWrite_takes (hr : Ready s r) {off n : Nat} (hoff : off = num r.payload 0 2) (hn : n = num r.payload 2 1) (h4 : 4 ≤ n)
    (h52 : n ≤ 52) (hlen : r.len.toNat = 3 + n) (hoff4 : off % 4 = 0) (hn4 : n % 4 = 0) (hend : off + n ≤ 65536) :
    Performs (.shadowWrite r) 0x0707 r s [] [.ven] fun t =>
      t.ven = { s.ven with shadow := Mem.writeAll s.ven.shadow off (slice r.payload 3 n) } := by
  subst hoff hn
  exact performs_modVen (fun v => { v with shadow := Mem.writeAll v.shadow (num r.payload 0 2) (slice r.payload 3 (num r.payload 2 1)) })
    rfl hr (if_neg (by omega)) rfl
end

/-- Settles O18. A setting that waits, a window, VUP_CFG and a shadow write change the Veneer logic alone. VEN_CFG put in force, the
masters and the interrupt lines may switch D45 and D46 as well; that switching leaves the Veneer configuration. -/
theorem veneerSettingsTakeEffect : Obligations.VeneerSettingsTakeEffect := by
  intro s r hr
  exact ⟨fun v hlen hv hok hdiv hlock =>
      ⟨venSet_waits hr hlen hv hok hdiv hlock, venSet_takes hr hlen hv hok hdiv hlock⟩,
    fun w base c hlen hw hbase hc hok => ⟨vwinSet_waits hr hlen hw hbase hc hok, vwinSet_takes hr hlen hw hbase hc hok⟩,
    vmstSet_takes hr, virqSet_takes hr, vupSet_takes hr,
    fun off n hoff hn h4 h52 hlen hoff4 hn4 hend => shadowWrite_takes hr hoff hn h4 h52 hlen hoff4 hn4 hend⟩

end Sys2Proof.Machine
end

section
/-! A tap that waits for a VCAL line, and the shadows that it moves (R185, R200, R202). -/

namespace Sys2Proof.Machine

/-- A VCAL line's action on the state at its start tick. -/
theorem exec_vcalLine {s u : State} {idx : Nat} {l : Line} (hb : LineBegins s u 5 idx 0x42 l) :
    exec (.vcalLine idx) s = done s
      (((List.finRange 16).foldl calWindow (lineBegun u 5 idx)).modVen fun v => { v with reads := Vector.replicate 64 0 }) :=
  congrArg (done s) (startLine_begins hb _)

/-- Window 15 has its taps at 16 and its early shadows 5 taps before them; taps of 0 wait. -/
def tapsWait : State := Tests.rs fun s => { s with
  ven := { s.ven with
    cfg := 0x000A020A80, tap := Vector.replicate 16 0x4104104100, early := Vector.replicate 64 (-5), tapNext := [(15, 0)] } }

set_option maxRecDepth 100000 in
/-- Refutes O42: its clause for a waiting tap leaves the shadows as they were. In `tapsWait` the early shadow stands 5 taps before a tap of
16; no code lies before the tap of 0 that is taken, so that the shadow comes to stand on it (R185: codes 0 to 63). -/
theorem not_interruptsCalibrationAndResetOfTheBus : ¬ Obligations.InterruptsCalibrationAndResetOfTheBus := by
  rintro ⟨-, hlines⟩
  obtain ⟨hvcal, -⟩ := hlines tapsWait (Tests.begin0 tapsWait) 2 (Tests.lineAtIdx 5 2)
  have hb : LineBegins tapsWait (Tests.begin0 tapsWait) 5 2 0x42 (Tests.lineAtIdx 5 2) := Tests.line_begins (by decide)
  obtain ⟨htaken, -⟩ := hvcal hb
  obtain ⟨t, hx, hven, -⟩ := htaken 15 0 (by decide) (by decide)
  have ht := Host.Outcome.next.inj (hx.symm.trans (exec_vcalLine hb))
  have hkept : vget t.ven.early 60 = -5 := by
    rw [hven]
    decide
  have hclamped : vget t.ven.early 60 = 0 := by
    rw [ht, settle_ven]
    decide
  exact absurd (hkept.symm.trans hclamped) (by decide)

end Sys2Proof.Machine
end
